-- ==== Sys2Proof/Word.lean ====
section
/-! DEFINITION. The word of the device and its plainest arithmetic (R2, R5, R9). -/

namespace Sys2Proof

/-- A word is 24 bits (R2). -/
abbrev Word := BitVec 24

/-- A byte; three pack into a word (R5). -/
abbrev Byte := BitVec 8

/-- A local address: a 32-bit word address (R9). -/
abbrev Addr := BitVec 32

/-- A bit field [hi:lo] of a word. -/
structure Fld where
  hi : Nat
  lo : Nat
  deriving DecidableEq, Repr

end Sys2Proof
end

