-- ==== Sys2Proof/Bead.lean ====
section
/-! DEFINITION. The bead as data (R21, R444): four header words, the payload words and the CRC check word. -/

namespace Sys2Proof.Machine

/-- A bead (R21, R444). Its header words are kept whole, so that reserved bits survive. -/
structure Bead where
  h0 : Word
  h1 : Word
  h2 : Word
  h3 : Word
  payload : List Word
  crc : Word
  deriving DecidableEq, Repr

end Sys2Proof.Machine
end

