-- ==== Sys2Proof/Machine/SMap.lean ====
section
/-! DEFINITION. Sparse maps as plain data: a list of key and value pairs with strictly rising keys and no entry
equal to what an unlisted key reads as. Memories (keys are byte positions, R5) and per-instance state use them. -/

namespace Sys2Proof.Machine

/-- A sparse map from Nat keys. -/
abbrev SMap (α : Type) := List (Nat × α)

/-- The value at key `k`; `d` is what an unlisted key reads as. -/
def SMap.get {α : Type} (m : SMap α) (d : α) (k : Nat) : α :=
  match m with
  | [] => d
  | (i, v) :: t => if i = k then v else SMap.get t d k

/-- The map without key `k`. -/
def SMap.del {α : Type} (m : SMap α) (k : Nat) : SMap α :=
  match m with
  | [] => []
  | (i, v) :: t => if i = k then SMap.del t k else (i, v) :: SMap.del t k

/-- The map with an entry placed before the first greater key. -/
def SMap.ins {α : Type} (m : SMap α) (k : Nat) (v : α) : SMap α :=
  match m with
  | [] => [(k, v)]
  | (i, w) :: t => if k < i then (k, v) :: (i, w) :: t else (i, w) :: SMap.ins t k v

/-- Set key `k` to `v`; setting the default `d` removes the entry, so the form stays canonical. -/
def SMap.set {α : Type} [DecidableEq α] (m : SMap α) (d : α) (k : Nat) (v : α) : SMap α :=
  if v = d then SMap.del m k else SMap.ins (SMap.del m k) k v

/-- The canonical form: keys strictly rising above `lo`, no entry equal to `d k`. -/
def SMap.wfFrom {α : Type} [DecidableEq α] (d : Nat → α) (lo : Nat) (m : SMap α) : Bool :=
  match m with
  | [] => true
  | (i, v) :: t => decide (lo ≤ i) && !decide (v = d i) && SMap.wfFrom d (i + 1) t

/-- The canonical form of a whole map. -/
def SMap.wf {α : Type} [DecidableEq α] (d : Nat → α) (m : SMap α) : Bool :=
  SMap.wfFrom d 0 m

/-- Remove every key for which `p` holds. -/
def SMap.drop {α : Type} (m : SMap α) (p : Nat → Bool) : SMap α :=
  m.filter fun e => !p e.1

end Sys2Proof.Machine
end

