-- ==== Sys2Proof/Machine/Device.lean ====
section
/-! DEFINITION. The device's state as plain data, block by block: everything the spec gives the machine but the queue
of waiting commands (which Machine/State.lean adds). The control registers are one map, `Dev.regs`; a structure
here holds what no register holds. -/

namespace Sys2Proof.Machine

/-- Who makes an access: a unit of this device, or a unit of another device (R9, R449). -/
inductive Req where
  | local (u : Nat)
  | remote (dev u : Nat)
  deriving DecidableEq, Repr

/-- State of a power domain (R479). -/
inductive DomSt where
  | off | on | retain
  deriving DecidableEq, Repr

/-- A region of the structure image (R345); `slice` is the rod whose slice holds the record, 15 device-wide (R342). -/
structure Region where
  owner : Nat
  remote : Bool
  rodlvl : Bool
  rd : Bool
  wr : Bool
  tcode : Nat
  base : Nat
  len : Nat
  host : Bool
  rods : Nat
  slice : Nat
  deriving DecidableEq, Repr

/-! ### Reckoning memory -/

/-- Metadata of a physical page (R271) and the positions of its stored bits that differ from the code word. -/
structure PhysPage where
  tcode : Nat
  poison : Bool
  page : Nat
  ver : Nat
  flips : List Nat
  deriving DecidableEq, Repr

/-- A page window (R275): the page it holds, dirty and poison bits, written-word mask, the held VER, and when it was
last used. -/
structure PageWin where
  page : Option Nat
  dirty : Bool
  poison : Bool
  mask : Nat
  ver : Nat
  used : Nat
  deriving DecidableEq, Repr

/-- An access waiting for a bank's decoder (R275). -/
structure MemAccess where
  req : Req
  tag : Nat
  word : Nat
  write : Bool
  data : Word
  lanes : Nat
  deriving DecidableEq, Repr

/-- Reckoning memory: stored pages and their data, windows and their data, waiting accesses, engines in progress. -/
structure RMem where
  phys : SMap PhysPage
  store : List Host.Cell
  wins : SMap PageWin
  winData : List Host.Cell
  winErr : SMap Nat
  clock : Nat
  waiting : SMap (List MemAccess)
  initDone : Bool
  ceLogAt : SMap (Option Nat)
  reenc : Option Nat
  flushBusy : Bool
  scrubHeld : Option Nat
  scrubAt : Nat
  unread : List Nat
  deriving DecidableEq, Repr

/-! ### Queues -/

/-- A class L item (R332): its key, arbiter position, words so far, and whether its last unit has arrived. -/
structure LItem where
  key : Word
  seq : Nat
  words : List Word
  full : Bool
  deriving DecidableEq, Repr

/-- What a queue instance holds beside its registers (R324 to R337): readable words of class S and M, the units packed
in the read-word being filled, how many units and read-words of the current item have come and the units that tell its
length, whether the item is one that can never fit, class L items and the words of the one being read, granules held
by it and by running jobs, the arbiter's next position, DISCARD_TO_END, the read-word lengths of the complete items
not yet read and how far the first is read, and the duplicated pointers. -/
structure Queue where
  words : List Word
  units : List Nat
  cur : Nat
  hdr : List Word
  curWords : Nat
  sink : Bool
  items : List LItem
  rel : List Word
  relGran : Nat
  reserved : List (Nat × Nat)
  arb : Nat
  discard : Bool
  lens : List Nat
  rdIn : Nat
  wp : Nat
  rp : Nat
  wpGray : Nat
  rpGray : Nat
  deriving DecidableEq, Repr

/-! ### Reckoner cores -/

/-- RCK_STAT.STATE without OFF, which the domain shows (R249). -/
inductive CoreSt where
  | stopped | run | wait | retain | halted | fenced
  deriving DecidableEq, Repr

/-- A posted store whose write response has not returned (R230): word address, data and byte lanes. -/
structure PStore where
  addr : Nat
  data : Word
  lanes : Nat
  deriving DecidableEq, Repr

/-- What is left of a vector memory instruction (R223): the elements still to access, the words of one element, the
destination or source register, the pointer update of U = 1, and whether the instruction is short. -/
structure VMem where
  load : Bool
  reg : Nat
  wpe : Nat
  elems : List (Nat × Nat)
  upd : Option (Nat × Addr)
  short : Bool
  deriving DecidableEq, Repr

/-- A CMX instruction as the coprocessor accepts it (R253 to R255). -/
inductive CmxOp where
  | put (m : Nat) (k : Nat) (col half : Bool) (idx : Nat) (a : Nat)
  | get (m : Nat) (k : Nat) (col half : Bool) (idx : Nat) (d : Nat)
  | shape (md rows cols : Nat)
  | alu (fn md ma mb : Nat) (sh : Int) (f : Nat) (ta tb acc : Bool)
  deriving DecidableEq, Repr

/-- An instruction in a CMX's queue: tag, issuing core of the rod, its PC, the operation, the vector data of an executed
CMXPUT, and whether it has been squashed. -/
structure CmxEntry where
  tag : Nat
  core : Nat
  pc : Nat
  op : CmxOp
  data : Option (List Word × Nat)
  squashed : Bool
  deriving DecidableEq, Repr

/-- A matrix coprocessor (R250, R251, R257, R261). `el` holds element (r, c) of m at key 256 m + 16 r + c; `releasing` says that
the lock is free once the begun instruction ends (R260). -/
structure Cmx where
  el : SMap (Word × Word)
  shapes : SMap (Nat × Nat)
  owner : Option Nat
  releasing : Bool
  waiters : List Nat
  q : List CmxEntry
  nextTag : Nat
  fenced : Bool
  deriving DecidableEq, Repr

/-- An instruction decoded ahead of a held one (R236): its words and, for a CMX instruction issued at decode (R261), the operation
with its tag or the rejection found at acceptance (cause and matrix register of R258). -/
structure Ahead where
  w : Word
  e : Word
  cmx : Option (CmxOp × Nat × Option (Nat × Nat))
  deriving DecidableEq, Repr

/-- Why a core does not go on with its next instruction (R228, R230, R233, R242, R257, R261). -/
inductive Hold where
  | loadW (d : Nat) (addr : Nat) (upd : Option (Nat × Addr))
  | loadB (d : Nat) (addr lane : Nat) (sgn : Bool)
  | store (st : PStore) (upd : Option (Nat × Addr))
  | vmem (op : VMem)
  | fence
  | qpop (d q : Nat)
  | qpush (d q : Nat)
  | cmxAcq
  | cmxRel
  | cmxSync
  | cmxSave (p : Nat)
  | cmxRestore (p : Nat)
  | cmxRoom (op : CmxOp)
  | cmxGet (tag : Nat)
  | waitDrain
  | waitMode
  deriving DecidableEq, Repr

/-- A Reckoner's or the Abacist's state (R204, R237, R247). `v` holds word w of v_n at 16 n + w, `a` lane l of a_n at
16 n + l; `csr` holds stored CSR values by number; `len` is the length of the held instruction. -/
structure Core where
  g : SMap Word
  p : SMap Addr
  v : SMap Word
  a : SMap (BitVec 56)
  k : SMap (BitVec 16)
  pc : Nat
  csr : SMap Word
  machine : Bool
  iret : Nat
  st : CoreSt
  hold : Option Hold
  len : Nat
  tgt : Nat
  wantRod : Bool
  stores : List PStore
  ahead : List Ahead
  sterrSeen : Bool
  lmBusy : Bool
  inbox : Nat
  bound : Bool
  role : Bool
  deriving DecidableEq, Repr

/-! ### Launcher and deadline queues -/

/-- A reached launch entry (R74, R76, R77): its launch time, its bead's words, DLREL, whether it is late, and whether it is
injected or only passed. -/
structure LaunchEntry where
  at_ : Nat × Nat
  bead : List Word
  dlrel : Nat
  late : Bool
  inject : Bool
  deriving DecidableEq, Repr

/-- A launch list (R72, R73, R76, R77): where an accepted image placed it, the base of the current cycle and the period
(seconds, nanoseconds), the number of entries, the index and word position of the entry reached next, the entry reached,
and the entries skipped. -/
structure LaunchList where
  placed : Option Nat
  base : Nat × Nat
  period : Nat × Nat
  count : Nat
  idx : Nat
  pos : Nat
  cur : Option LaunchEntry
  skips : List Nat
  deriving DecidableEq, Repr

/-- The launcher (R79, R80): its lists, whether they are held, and the elapsed times at which the last injections began. -/
structure Launcher where
  lists : SMap LaunchList
  held : Bool
  begun : List Nat
  deriving DecidableEq, Repr

/-- A running accelerator job (R85, R86, R187, R553): its deadline queue, key K, arrival B, arbiter position, bead, and
TRB_CFG as its unit took it. -/
structure Job where
  dlq : Nat
  key : Word
  arrived : Word
  seq : Nat
  bead : List Word
  cfg : Word
  deriving DecidableEq, Repr

/-- Deadline queues beside their registers and queue instances: the jobs each accelerator unit runs, and the worst slack of
each queue in the window in progress (R86, R100, R133). -/
structure Jobs where
  running : SMap (List Job)
  worst : SMap (Option Int)
  deriving DecidableEq, Repr

/-! ### Carriers and burst reception -/

/-- A carrier record of the structure image (R348): number, kind, serving rod, lead time in 0.5 ms, antennas, host endpoint,
port bits. -/
structure Carrier where
  num : Nat
  kind : Nat
  rod : Nat
  lead : Nat
  rxa : Nat
  txa : Nat
  hostep : Nat
  ports : Nat
  deriving DecidableEq, Repr

/-- Cell parameters of a carrier (R42): PCI; operation mode of an NB-IoT carrier, 0 standalone, 1 guard-band, 2 in-band same-PCI,
3 in-band different-PCI; raster offset (Hz); frame origin (ns of shared time, R31); timing advance offset (Ts, R33); number
of ports. -/
structure CellParams where
  pci : Nat
  mode : Nat
  raster : Int
  origin : Nat
  advance : Nat
  ports : Nat
  deriving DecidableEq, Repr

/-- A coexistence map (R38): symbols of the host LTE control region, PCI and CRS ports of the host cell, valid subframes. -/
structure Coex where
  ctrl : Nat
  pci : Nat
  crs : Nat
  valid : List Bool
  deriving DecidableEq, Repr

/-- What the host has set for a carrier (R31, R38, R42): the parameters and the coexistence map in force, and those that take over,
each with the shared time (ns) of its radio frame. -/
structure Cell where
  params : Option CellParams
  paramsNext : Option (Nat × CellParams)
  coex : Option Coex
  coexNext : Option (Nat × Coex)
  deriving DecidableEq, Repr

/-- A feature that an item of R42 uses, or a value that R34 or R39 limits: what R35 and R41 exclude; repetitions of NPDSCH or PDSCH, of
NPDCCH or MPDCCH, of NPUSCH or PUSCH, of PUCCH and of a random-access attempt; random-access format and coverage levels;
PUCCH format (1, 2, and 11, 12 for 1a and 2a); HARQ processes; uplink tones and whether at 3.75 kHz; bits per symbol of
a downlink or uplink modulation; antenna ports. -/
inductive Use where
  | tdd | ntn | multicast | nprs | groupWus | pur | multiTb
  | catM2 | wideLte | subPrb | qam64 | srs
  | dlRep (n : Nat) | ctlRep (n : Nat) | ulRep (n : Nat) | pucchRep (n : Nat) | raRep (n : Nat)
  | raFormat (n : Nat) | raLevels (n : Nat) | pucch (n : Nat) | dlHarq (n : Nat) | ulHarq (n : Nat)
  | tones (n : Nat) (narrow : Bool) | dlBits (n : Nat) | ulBits (n : Nat) (count : Nat) | ports (n : Nat)
  deriving DecidableEq, Repr

/-- What a host bead of R42 says, in the layout of the rod program (R42): carrier; kind of item by the code of R37; RNTI; the subframe
concerned, counted from the frame origin; whether the UE is in coverage enhancement mode B; what it uses; cell parameters
or coexistence map with the radio frame, counted from the origin, in which they take effect. -/
structure HostItem where
  carrier : Nat
  item : Nat
  rnti : Nat
  sub : Nat
  modeB : Bool
  uses : List Use
  params : Option CellParams
  coex : Option Coex
  frame : Nat
  deriving DecidableEq, Repr

/-- Where a reception instance stands (R145 to R154): waiting for sync, tracking, waiting for joint contributions, a decode
job out on all copies, on the copies no stronger partner overlaps, on the record, or waiting for partners. -/
inductive InstStage where
  | search | track | joint | all | keep | wait | record
  deriving DecidableEq, Repr

/-- A contributor of a joint reception (R162, R163): device, its instance, and by antenna the noise (dBFS, 0.25 dB) and the symbols
received so far, in order of their index. -/
structure Contrib where
  dev : Nat
  inst : Nat
  ants : SMap (Option (Int × List Word))
  deriving DecidableEq, Repr

/-- The last state of an instance's loops (R147, R155): the end of its last symbol (ns), phase there and its advance
per symbol (10^-12 turn), timing offset (ps). -/
structure Loops where
  at_ : Nat
  phase : Int
  step : Int
  timing : Int
  deriving DecidableEq, Repr

/-- What subtracting a decoded burst takes (R155): its symbol stream's bits, first symbol (ns), reference time of its
phase (ns), centre frequency (10^-6 Hz), gain,
final loops, drift (0.1 Hz/s) and amplitude per antenna (C12 units). -/
structure Rebuild where
  stream : List Nat
  start : Nat
  ref : Nat
  freq : Int
  gain : Int
  loops : Loops
  drift : Int
  amps : List (Int × Int)
  deriving DecidableEq, Repr

/-- A reception instance (R142 to R165): detector and slot, crossing time and preamble end in nanoseconds, frequency in Hz and in
10^-6 Hz, statistic in 2^-100, Ppre and band noise in 0.25 dB, frozen gain, noise floor of each antenna (linear, R122, and
in its band in 0.25 dB), amplitude of each antenna, claim order, sync candidates checked, sync errors, accepted header,
stronger partners (instance, claim order) and how many count, blocks of its record, the last pilots' phase errors in 10^-9
turn, drift, loops, symbols of the data section received (per antenna a C12 value with its phase removed, none where
erased) with the phase and timing at each, erased symbols, symbols shipped, elected anchor and its instance, contributors,
whether an accept is held, the first subtracted or excluding partner. -/
structure Inst where
  det : Nat
  slot : Nat
  cross : Nat
  tau : Nat
  freq : Int
  freqU : Int
  lam : Nat
  ppre : Int
  ninst : Int
  gain : Int
  noise : List Nat
  noiseDb : List Int
  amps : List (Int × Int)
  order : Nat
  stage : InstStage
  cand : Nat
  syncErr : Nat
  header : Option Nat
  strong : List (Nat × Nat)
  counted : Nat
  sic : Option (List Nat)
  pilots : List Nat
  drift : Int
  loops : Loops
  syms : List (List (Option (Int × Int)))
  marks : List (Int × Int)
  erased : Nat
  shipped : Nat
  anchor : Option Nat
  anchorInst : Nat
  contribs : List Contrib
  accept : Bool
  partner : Option Nat
  deriving DecidableEq, Repr

/-- What is kept of every claim for its partners (R153 to R155): first symbol in nanoseconds, end of the closing pilot once
known, outcome once ended, and then what subtracting it takes. -/
structure Claim where
  start : Nat
  stop : Option Nat
  outcome : Option Nat
  rebuild : Option Rebuild
  deriving DecidableEq, Repr

/-- A joint-reception notice (R161, R472). -/
structure JNotice where
  group : Nat
  dev : Nat
  inst : Nat
  time : Nat × Nat
  freq : Int
  snr : Int
  deriving DecidableEq, Repr

/-- An uplink burst that may be acknowledged, or a scheduled acknowledgment (R62 to R67): report sequence number, detector
and slot, launch time in nanoseconds, frequency, CRC-24 of the burst, its REP code, whether this device sends it
unasked, and once scheduled its header and payload bytes. -/
structure Ack where
  rseq : Nat
  det : Nat
  slot : Nat
  launch : Nat
  freq : Int
  crc : Nat
  rep : Nat
  auto : Bool
  burst : Option (Nat × List Nat)
  deriving DecidableEq, Repr

/-- Burst reception (R136 to R166): instances by number, claims made, their history, the symbol time each detector has reached (R144),
report and notice state, acknowledgments; what the host has set for each carrier, and allocations to report in carrier
status beads (carrier, subframe counted from the frame origin, two record words; R37). -/
structure Brx where
  insts : SMap (Option Inst)
  claims : Nat
  hist : SMap (Option Claim)
  reached : SMap Nat
  rseq : Nat
  notices : List JNotice
  acks : List Ack
  cells : SMap Cell
  status : List (Nat × Nat × Nat × Nat)
  deriving DecidableEq, Repr

/-! ### Events -/

/-- An event held in the island's event tail (R543). -/
structure TailEvent where
  code : Nat
  unit : Nat
  time : Nat
  deriving DecidableEq, Repr

/-! ### DMA -/

/-- A write beat that has been issued (R305): its index, the transfer byte it begins with, its first byte position at the
destination and its bytes. -/
structure DmaBeat where
  idx : Nat
  j : Nat
  pos : Nat
  data : List Nat
  deriving DecidableEq, Repr

/-- A request bead to another device that awaits its response (R317): TAG, elapsed time of sending, for a read the first
transfer byte and the number of bytes, for a write its beats. -/
structure DmaBead where
  tag : Nat
  sent : Nat
  rd : Option (Nat × Nat)
  beats : List DmaBeat
  deriving DecidableEq, Repr

/-- What a DMA channel holds beside its registers: the transfer bytes read so far and issued so far, the next beat index,
read beats outstanding (first transfer byte, bytes), bytes that have arrived, write beats outstanding, beads
outstanding, the error with the lowest beat index (index, ERR), how a stopped run ends (5 ERROR, 6 STOPPED), whether
STOP bars a chained load, whether the DONE notice has left, and the beats issued that read the descriptor image. -/
structure DmaCh where
  rj : Nat
  wj : Nat
  bidx : Nat
  reads : List (Nat × Nat)
  got : SMap (Option Nat)
  writes : List DmaBeat
  beads : List DmaBead
  bad : Option (Nat × Nat)
  endAs : Option Nat
  noChain : Bool
  early : Bool
  img : Nat
  deriving DecidableEq, Repr

/-- The DMA engines: their channels (64 e + c), the channel served last in each turn of R321, the number of the next request bead of
each channel, and the requests (64 e + c, number) whose response has not come though nothing waits for it (R317, R320). -/
structure Dma where
  chans : SMap DmaCh
  turns : SMap (Option Nat)
  next : SMap Nat
  dead : List (Nat × Nat)
  deriving DecidableEq, Repr

/-! ### Ethernet bridge -/

/-- An entry of the filtering database (R389): when it was last refreshed, in elapsed time. -/
structure FdbEntry where
  vid : Nat
  mac : Nat
  mask : Nat
  static : Bool
  fresh : Nat
  deriving DecidableEq, Repr

/-- A frame in the buffer (R391): its cells, octets without tag and FCS, VLAN identity, whether it is sent as it stands,
ingress port and timestamp, launch time, the TXFRAME bead to answer, the PTP offset of ONESTEP, and the egress ports
that still hold it. -/
structure BFrame where
  id : Nat
  cells : List Nat
  len : Nat
  vid : Nat
  pcp : Nat
  dei : Nat
  raw : Bool
  ingress : Nat
  its : Nat
  tv : Bool
  lt : Option (Nat × Nat)
  rep : Option Bead
  onestep : Option Nat
  left : List Nat
  deriving DecidableEq, Repr

/-- A MACsec SA (R410, R519): port, transmit or receive channel, AN, cipher, key, SSCI and salt, next or lowest packet
number, whether it is the transmit association in use, whether BRG_MSEC_PN has been raised for it. -/
structure Sa where
  port : Nat
  tx : Bool
  chan : Nat
  an : Nat
  cipher : Nat
  key : Nat
  ssci : Nat
  salt : Nat
  pn : Nat
  used : Bool
  warned : Bool
  deriving DecidableEq, Repr

/-- A frame on the line (R392, R404): its octets, class, the time its first bit after the SFD crosses the reference plane,
TIME_VALID then, whether it is late, the MACsec SA that protects it with its packet number, the elapsed time of its end. -/
structure BTx where
  frame : BFrame
  octets : List Nat
  tc : Nat
  cross : Nat
  tv : Bool
  late : Bool
  sec : Option (Sa × Nat)
  endAt : Nat
  deriving DecidableEq, Repr

/-- A port (R384 to R400): link state, line, deficits and the class in visit, gates in force and the times they opened, the
change time and the length of the list in force, shaper credits in 2^-8 octet and LOVH in force by class, REFILL in
force and the last refill instant, the elapsed time at which the line is free after the inter-packet gap. -/
structure BPort where
  link : Bool
  andone : Bool
  rmode : Nat
  feclock : Bool
  tx : Option BTx
  deficit : SMap Nat
  drr : Option Nat
  gates : Nat
  openAt : SMap Nat
  ct : Option (Nat × Nat)
  opLen : Nat
  credit : SMap Int
  lovh : SMap Nat
  refill : Nat
  refIdx : Nat
  freeAt : Nat
  deriving DecidableEq, Repr

/-- A fronthaul frame handed to the DFE (R111, R417): octets after the EtherType, receive time, TIME_VALID then, source
address, ingress port. -/
structure FhFrame where
  octets : List Nat
  time : Nat
  tv : Bool
  sa : Nat
  port : Nat
  deriving DecidableEq, Repr

/-- The bridge: ports, queues (8 p + t) of frame numbers, frames, database, gathered beads of each endpoint with the elapsed
time of the first, frame sequences, SAs, fronthaul frames for the DFE. -/
structure Bridge where
  ports : SMap BPort
  queues : SMap (List Nat)
  frames : List BFrame
  nextId : Nat
  fdb : List FdbEntry
  gather : SMap (List Bead × Nat)
  txSeq : SMap Nat
  rxSeq : SMap (Option Nat)
  sas : List Sa
  fh : List FhFrame
  deriving DecidableEq, Repr

/-! ### Digital front end -/

/-- A received PRB: its exponent (0 without compression) and 24 mantissas, I and Q of 12 resource elements (R117). -/
structure Prb where
  exp : Nat
  mants : List Int
  deriving DecidableEq, Repr

/-- A section of a U-plane message: udCompHdr as udCompMeth in [7:4] and iqWidth in [3:0], first PRB, 2 where only every other PRB is
carried, PRBs. -/
structure Sect where
  comp : Nat
  prb : Nat
  every : Nat
  prbs : List Prb
  deriving DecidableEq, Repr

/-- The U-plane content of a fronthaul frame as its O-RAN header gives it: eAxC ID; whether message type, direction and payload version
are those the device takes; filter index; frame, subframe and symbol numbers; sections. -/
structure UPlane where
  eaxc : Nat
  ok : Bool
  filter : Nat
  frame : Nat
  sub : Nat
  sym : Nat
  sects : List Sect
  deriving DecidableEq, Repr

/-- What a DFE keeps of the noise floor of a stream (R122): elapsed time of the last instance's end or the stream's start, of the
last qualifying block, the number of the next block, and the estimate in units of 2^-20 of a squared C12 unit. -/
structure NoiseFloor where
  idleFrom : Nat
  lastOk : Nat
  block : Nat
  est : Option Nat
  deriving DecidableEq, Repr

/-- A one-way delay measurement (R115): DFE unit, the request bead, TAG of its TXFRAME, elapsed time of its start, and the peer's
message once it has come (its time and compensation value, the time of its arrival and TIME_VALID then). -/
structure DelayMeas where
  unit : Nat
  bead : Bead
  tag : Nat
  since : Nat
  peer : Option (Nat × Int × Nat × Bool)
  deriving DecidableEq, Repr

/-- The DFE units beside their registers (R105 to R126). Keys of streams are 256 × unit + stream: links up and the time they
went down, the SYSREF count captured first and whether the last edge kept its phase, gains written and not yet in force
with the subframe or block in which they were written, positions filled with zeros while a link gave no samples, ring
positions that an accepted fronthaul message has written and the unfiltered samples of an SBA stream, where the next
section type 3 record goes, transmit segments read (number, whether their tag matched, words; the newest first), the time (ns)
up to which each converter channel has been sent, SEQ_ID of transmit flows, noise floors, delay measurements. -/
structure Dfe where
  jup : SMap Bool
  jdown : SMap Nat
  jsys : SMap (Option (Nat × Bool))
  gain : SMap (Option (Int × Nat))
  zeros : SMap (List (Nat × Nat))
  taken : SMap (List Nat)
  raw : SMap (SMap (Int × Int))
  recAt : SMap Nat
  seg : SMap (List (Nat × Bool × List Word))
  sent : SMap Nat
  txSeq : SMap Nat
  nf : SMap NoiseFloor
  meas : List DelayMeas
  measTag : Nat
  deriving DecidableEq, Repr

/-- One stream's part of what a converter channel sends (R125): segment's start (ns), kind, attenuation, NCO frequency (31.25 Hz) and
phase, samples in C24 units of this segment with those before it. -/
structure TxPart where
  start : Nat
  kind : Nat
  att : Nat
  freq : Int
  phase : Nat
  before : Nat
  vs : List (Int × Int)
  deriving DecidableEq, Repr

/-! ### Serial lanes and the pool fabric -/

/-- A lane (R432 to R437): in electrical idle, adaptation state valid, aligned, retraining, receiver locked, FAILED, deskewed by markers,
global lane number of the last good marker, elapsed time of the loss of alignment, of a signal detected or a relock that has
not yet led to alignment, whether that is a fast exit, commas in a row found where the slot before ended, slots in a row without a
comma or with a code violation, slots in a row of the fast-exit burst, where (UI) the next comma is expected, and the
round count and arrival (UI) of a marker awaited by the fall-back. -/
structure Lane where
  idle : Bool
  adapt : Bool
  aligned : Bool
  train : Bool
  cdr : Bool
  failed : Bool
  mkdsk : Bool
  rlane : Nat
  lostAt : Option Nat
  exitFrom : Option Nat
  fast : Bool
  good : Nat
  bad : Nat
  burst : Nat
  next : Option Nat
  mark : Option (Nat × Nat)
  deriving DecidableEq, Repr

/-- A lane quad (R424, R425, R438, R440): reference present, its frequency (Hz), the lane whose eye point is measured and since
when, a held GO, the end of the last point, the failed lane that the spare replaces and whether the spare has trained. -/
structure Quad where
  refOk : Bool
  fref : Nat
  eye : Option (Nat × Nat)
  eyeHeld : Bool
  eyeEnd : Option Nat
  swap : Option (Nat × Bool)
  deriving DecidableEq, Repr

/-- The lanes (by global lane number), the quads, and the lanes that replaced others. -/
structure Lanes where
  lanes : SMap Lane
  quads : SMap Quad
  subst : SMap Nat
  deriving DecidableEq, Repr

/-- A fabric port (R452 to R457, R471): UP, FAILED, deskewed, waiting for markers, next CSEQ and ACK, unacknowledged cells
(CSEQ, FIRST, words 1 to 83), beads queued, words of a bead in part placed (marked where a header begins), when ACK last
advanced, replays in a row, NAK to send, NAK sent for this gap, last outgoing header, DATA cells since, payload bits of the cells of
the round being put together, rounds sent, kept lane offsets (UI), arrivals of the last commas less those offsets, the
received bead in part (none: resume at FIRST), the serial of the last HELLO, LINKCTL beads (with the shared time of their slot's
comma and TIME_VALID then), a lane index whose replacement is requested, SPACK sent and received, last HELLO and TSYNC sent, TSEQ,
and transmit and receive time of the last TSYNC received, each with TV. -/
structure FPort where
  up : Bool
  failed : Bool
  desk : Bool
  mkWait : Bool
  tx : Nat
  rx : Nat
  unacked : List (Nat × Nat × List Word)
  q : List Bead
  part : List (Word × Bool)
  ackAt : Nat
  runs : Nat
  nak : Bool
  nakDone : Bool
  hdrAt : Nat
  rxData : Nat
  round : List (List Bool)
  rounds : Nat
  offs : List Nat
  seen : List Nat
  stream : Option (List Word)
  peer : Option Nat
  linkIn : List (Bead × Nat × Bool)
  spreq : Option Nat
  spack : Bool
  gotAck : Bool
  helloAt : Nat
  tsyncAt : Nat
  tseq : Nat
  tlast : Option ((Nat × Bool) × (Nat × Bool))
  deriving DecidableEq, Repr

/-- An origin of the link-state database (R459): serial, NV, PIN, DEVNUM, neighbour serials, elapsed time of its last LSA. -/
structure Lsa where
  serial : Nat
  nv : Bool
  pin : Bool
  num : Nat
  nbrs : List Nat
  at' : Nat
  deriving DecidableEq, Repr

/-- The fabric: ports, destinations held (device, end of SETTLE, beads), link-state database, flood records (serial, EPOCH,
FSEQ), flooded beads that arrived (port) and that were accepted, EPOCH once drawn, FSEQ, last LSA and NUMBER sent, the
device's pin, the assignment last flooded. -/
structure Fabric where
  ports : SMap FPort
  held : List (Nat × Nat × List Bead)
  lsdb : List Lsa
  floods : List (Nat × Nat × Nat)
  bcastIn : List (Nat × Bead)
  flooded : List Bead
  epoch : Option Nat
  fseq : Nat
  lsaAt : Nat
  numAt : Nat
  pin : Option Nat
  assigned : List (Nat × Option Nat)
  deriving DecidableEq, Repr

/-! ### Power controller and always-on island -/

/-- One supply set (R490): EN and PG pins, a low rail, the AVSBus read-back near the code, and since when (elapsed time)
it has been good without a break. -/
structure SupSet where
  en : Bool
  pg : Bool
  low : Bool
  avs : Bool
  ready : Bool
  since : Nat
  deriving DecidableEq, Repr

/-- An AVSBus set-point transaction that is not yet acknowledged (R495): its code, the port (false main), whether that
port is the active one, and since when (elapsed time). -/
structure AvsTx where
  code : Nat
  back : Bool
  active : Bool
  since : Nat
  deriving DecidableEq, Repr

/-- Where a wake comes from (R486, R493, R530). -/
inductive WakeFrom where
  | retain | off | brownout | power (cause : Nat)
  deriving DecidableEq, Repr

/-- The stage of a wake (R487): waiting for RESET_N (R530 step 2), for a power-good, settling, the code sent, the
code acknowledged or given up, the reference checked, waiting to retry. -/
inductive WakeStage where
  | hold | pgMain | pgBack | settle | sent | ready | checked | retry
  deriving DecidableEq, Repr

/-- A wake in progress: its origin, stage, the elapsed time t0 of the request, that of the beginning of the stage's wait, and the retries
made. -/
structure Wake where
  source : WakeFrom
  stage : WakeStage
  t0 : Nat
  since : Nat
  tried : Nat
  deriving DecidableEq, Repr

/-- The power controller and the supply logic (R480 to R495): chip mode, mode entry in progress and since when (elapsed
time), groups and their commands, a group command in progress (group, state) and since when, units the image names, units
fenced while away whose D reset is still to come (R551), the elapsed time since which power-up awaits the reference (R530
step 7), held pads, supply sets, AVSBus (the transaction that runs, codes that wait, whether a switch met a step, the last read-back),
wake, and the servo's window. -/
structure Pwr where
  mode : Nat
  entry : Option Nat
  entryAt : Nat
  grpOf : SMap (Option Nat)
  grpCmd : SMap Nat
  grpBusy : Option (Nat × Nat)
  grpAt : Nat
  named : List Nat
  resetAtOn : List Nat
  oscFrom : Option Nat
  held : Bool
  main : SupSet
  back : SupSet
  avs : Option AvsTx
  avsNext : List Nat
  resend : Bool
  readAt : Nat
  wake : Option Wake
  wakeReq : Bool
  resetN : Bool
  retryWait : Nat
  mvMain : Nat
  mvBack : Nat
  winLen : Nat
  winEnd : Nat
  worst : Option Int
  railed : Bool
  deriving DecidableEq, Repr

/-! ### Time base and Tally -/

/-- The time base beside its registers (R367 to R379): reference locked, the held low word of INC, an INC that the next TCLK
edge puts in force, the remaining slew in
units of 2^-40 ns, the armed SETPPS load, the last accepted PPS_IN edge and the start of the miss interval (elapsed
time), whether the miss has been reported, the last second of PPS_OUT and the end of its pulse, the committed compare
targets (seconds, nanoseconds) and which units have skipped since their last notice. -/
structure TimeBase where
  refOk : Bool
  incHeld : Option Word
  incNext : Option (Word × Word)
  rem : Int
  armed : Option Nat
  ppsLast : Option Nat
  ppsFrom : Nat
  ppsMissed : Bool
  ppsoSec : Nat
  ppsoEnd : Nat
  cmp : SMap (Nat × Nat)
  cmpSkip : List Nat
  deriving DecidableEq, Repr

/-- A Tally (R547, R548): armed at the target its registers hold, copying, the target already due when it was armed or
when TIME_VALID set, a target written while copying that arms at completion, the time of the copy, counters whose clear
is deferred. -/
structure Tally where
  armed : Bool
  copying : Bool
  late : Bool
  rearm : Bool
  copyAt : Nat
  deferred : List Nat
  deriving DecidableEq, Repr

/-- The event arbiter beside its registers (R539, R544): the next sequence number, held in the island, the records dropped
since the last EVT_LOST, and whether one of them awaits no further event. -/
structure Arbiter where
  nextSeq : Nat
  lost : Nat
  lostNow : Bool
  deriving DecidableEq, Repr

/-! ### Structure loader -/

/-- What the loader is doing beside STC_STAT.STATE: a FULL load, a SLICE operation, the re-application of a W reset. -/
inductive StcOp where
  | none | full | slice | warm
  deriving DecidableEq, Repr

/-- The structure loader (R352 to R359): its operation, fences that wait for the end of APPLY, the indices of STC_RET in order of
acceptance, the units of each rod's slice and, under 15, those of the device-wide records (R343: cores 0 to 111, CMX 0xDC + r,
queues 0x400 + q, DMA channels 0x1000 + 64 e + c, launch lists 0x2000 + n), the lists stopped by a drain, whether a drain has
been forced, the elapsed time at which it began, the units whose RWL fields are open while the lock holds (R355, R359),
whether a W reset collects responses or re-applies. -/
structure Stc where
  op : StcOp
  fenceWait : List Nat
  order : List Nat
  owned : SMap (List Nat)
  stopped : List Nat
  forced : Bool
  drainAt : Nat
  openUnits : List Nat
  wbusy : Bool
  deriving DecidableEq, Repr

/-! ### Security island -/

/-- A host session (R516, R517): its number, host endpoint, decapsulation key until ACCEPT, the encapsulation key's bytes, the
keys of the two directions once accepted, the last counters accepted and sent. -/
structure Session where
  num : Nat
  host : Nat
  dk : Option (List Nat)
  ek : List Nat
  h2d : List Nat
  d2h : List Nat
  rx : Option Nat
  tx : Nat
  deriving DecidableEq, Repr

/-- A request to the island that waits behind an STC verification (R523). -/
inductive SecReq where
  | exec (kind : Nat) (req : Req)
  | attest (req : Req)
  | fetch (flash : List (Nat × List Nat))
  | sak (req : Req)
  | opened (b : Bead) (buf : Nat)
  | accept (b : Bead) (num slot : Nat) (ct keys sigs : List Nat)
  | close (b : Bead) (num : Nat)
  | bead (b : Bead)
  deriving DecidableEq, Repr

/-- A measured image (R514, R515): its digest D, SVN, ARB, IMAGEID and rod. -/
structure Measure where
  d : List Nat
  svn : Nat
  arb : Nat
  id : Nat
  rod : Nat
  deriving DecidableEq, Repr

/-- The security island (R499 to R525): OTP rows written, rows that read uncorrectable, boot stage, sampled BOOTSEL, the
candidate that gave the running firmware, the index tried next and since when a host or peer image is awaited (elapsed
time), the 1 s wait at the end of the order, start of the boot watchdog, last BOOTREQ, SEC_NONCE, UDS path closed,
verification interrupted by a tamper response, sessions, waiting requests, elapsed times of the last 16 signature failures of commands
and sessions, firmware, structure image and slices measured, CDI_0 to CDI_2. -/
structure Sec where
  otp : SMap (Option Nat)
  bad : List Nat
  stage : Nat
  bootsel : Nat
  cand : Nat
  idx : Nat
  waitFrom : Option Nat
  atEnd : Bool
  wdtFrom : Nat
  reqAt : Nat
  nonce : Nat
  udsClosed : Bool
  aborted : Bool
  sessions : List Session
  waiting : List SecReq
  fails : List Nat
  fw : Option Measure
  img : Option Measure
  slices : List Measure
  cdi : List (List Nat)
  deriving DecidableEq, Repr

/-- Something the device puts on a pin, a bus or a wire, or answers to a requester outside the model. -/
inductive Output where
  | memResp (req : Req) (tag : Nat) (ok : Bool) (data : Word)
  | busError (req : Req) (addr : Nat)
  | avsWrite (back : Bool) (code : Nat)
  | ppsOut (sec : Nat)
  | ackBurst (rseq : Nat) (freq : Int) (burst : List Nat)
  | ackDropped (rseq : Nat) (collide : Bool)
  | frame (port : Nat) (octets : List Nat)
  | convert (link chan from_ until_ : Nat) (parts : List TxPart)
  | slot (lane : Nat) (bits : List Bool)
  | session (host : Nat) (num : Nat) (cause : Nat) (bytes : List Nat)
  deriving DecidableEq, Repr

/-- The device: every piece of state of every block. `time` and `elapsed` count units of 2^-40 ns (R364, R579). `net`
holds the beads sent and not yet delivered, `evq` the events raised and not yet accepted by the arbiter (R539), `out`
what has left the device. `fresh` numbers the free values taken so far; `awdt` is the elapsed time at which the Abacist
watchdog's count began, or what is left of it while the count pauses (R557). -/
structure Dev where
  fresh : Nat
  time : Nat
  elapsed : Nat
  regs : SMap Word
  shadow : SMap Word
  doms : SMap DomSt
  net : List Bead
  evq : List (Nat × Nat)
  tail : List TailEvent
  arb : Arbiter
  evSeen : List (Nat × Nat × Nat)
  out : List Output
  lm : List Host.Cell
  lmErr : SMap Nat
  ab : List Host.Cell
  abErr : SMap Nat
  rm : RMem
  queues : SMap Queue
  cores : SMap Core
  cmx : SMap Cmx
  regions : List Region
  pwr : Pwr
  tim : TimeBase
  tly : Tally
  lnc : Launcher
  jobs : Jobs
  carriers : List Carrier
  brx : Brx
  dma : Dma
  brg : Bridge
  dfe : Dfe
  lan : Lanes
  fab : Fabric
  stc : Stc
  sec : Sec
  awdt : Nat × Option Nat
  deriving DecidableEq, Repr

end Sys2Proof.Machine
end

