-- ==== Sys2Proof/Syntax.lean ====
section
/-! DEFINITION. The commands: one constructor for each row of spec/opcode_table.json. An operand is a register word, a bead, a
number of a unit, or what the physical world gives the event. Times are nanoseconds where nothing else is said. -/

namespace Sys2Proof
open Sys2Proof.Machine

/-- A command: `c` a core (112 the Abacist), `r` a rod or a requester, `w` and `e` the words of an instruction, `w` the word written
to a register. -/
inductive Instr where
  /-- `ALU` (R219). -/
  | alu (c : Fin 113) (w : Word)
  /-- `ALUX` (R219). -/
  | alux (c : Fin 113) (w : Word)
  /-- `ADDI` (R219). -/
  | addi (c : Fin 113) (w : Word)
  /-- `ANDI` (R219). -/
  | andi (c : Fin 113) (w : Word)
  /-- `SHI` (R219). -/
  | shi (c : Fin 113) (w : Word)
  /-- `MOVI` (R219). -/
  | movi (c : Fin 113) (w : Word)
  /-- `LDW` (R228). -/
  | ldw (c : Fin 113) (w : Word)
  /-- `STW` (R230). -/
  | stw (c : Fin 113) (w : Word)
  /-- `PALU` (R219). -/
  | palu (c : Fin 113) (w : Word)
  /-- `PADDI` (R219). -/
  | paddi (c : Fin 113) (w : Word)
  /-- `BR` (R219). -/
  | br (c : Fin 113) (w : Word)
  /-- `J` (R222). -/
  | j (c : Fin 113) (w : Word)
  /-- `JR` (R219). -/
  | jr (c : Fin 113) (w : Word)
  /-- `JALR` (R219). -/
  | jalr (c : Fin 113) (w : Word)
  /-- `CSRR` (R247). -/
  | csrr (c : Fin 113) (w : Word)
  /-- `CSRW` (R247). -/
  | csrw (c : Fin 113) (w : Word)
  /-- `CSRS` (R247). -/
  | csrs (c : Fin 113) (w : Word)
  /-- `CSRC` (R247). -/
  | csrc (c : Fin 113) (w : Word)
  /-- `ECALL` (R240). -/
  | ecall (c : Fin 113) (w : Word)
  /-- `ERET` (R240). -/
  | eret (c : Fin 113) (w : Word)
  /-- `WAITM` (R242). -/
  | waitm (c : Fin 113) (w : Word)
  /-- `FENCE_W` (R230). -/
  | fenceW (c : Fin 113) (w : Word)
  /-- `FENCE_RW` (R230). -/
  | fenceRw (c : Fin 113) (w : Word)
  /-- `FENCE_I` (R230). -/
  | fenceI (c : Fin 113) (w : Word)
  /-- `KOP` (R219). -/
  | kop (c : Fin 113) (w : Word)
  /-- `VADD` (R212). -/
  | vadd (c : Fin 113) (w : Word)
  /-- `VSUB` (R212). -/
  | vsub (c : Fin 113) (w : Word)
  /-- `VMUL` (R212). -/
  | vmul (c : Fin 113) (w : Word)
  /-- `VMULJ` (R212). -/
  | vmulj (c : Fin 113) (w : Word)
  /-- `VMAC` (R213). -/
  | vmac (c : Fin 113) (w : Word)
  /-- `VMACJ` (R213). -/
  | vmacj (c : Fin 113) (w : Word)
  /-- `VPOW` (R212). -/
  | vpow (c : Fin 113) (w : Word)
  /-- `VSEL` (R219). -/
  | vsel (c : Fin 113) (w : Word)
  /-- `VLD` (R223). -/
  | vld (c : Fin 113) (w : Word)
  /-- `VST` (R223). -/
  | vst (c : Fin 113) (w : Word)
  /-- `VSHI` (R219). -/
  | vshi (c : Fin 113) (w : Word)
  /-- `VEXT` (R214). -/
  | vext (c : Fin 113) (w : Word)
  /-- `VCMP` (R219). -/
  | vcmp (c : Fin 113) (w : Word)
  /-- `VBC` (R219). -/
  | vbc (c : Fin 113) (w : Word)
  /-- `LI` (R220). -/
  | li (c : Fin 113) (w : Word) (e : Word)
  /-- `LIP` (R220). -/
  | lip (c : Fin 113) (w : Word) (e : Word)
  /-- `BCC` (R220). -/
  | bcc (c : Fin 113) (w : Word) (e : Word)
  /-- `JMP` (R220). -/
  | jmp (c : Fin 113) (w : Word) (e : Word)
  /-- `LDB` (R220). -/
  | ldb (c : Fin 113) (w : Word) (e : Word)
  /-- `STB` (R220). -/
  | stb (c : Fin 113) (w : Word) (e : Word)
  /-- `VLDS` (R223). -/
  | vlds (c : Fin 113) (w : Word) (e : Word)
  /-- `VSTS` (R223). -/
  | vsts (c : Fin 113) (w : Word) (e : Word)
  /-- `VGATH` (R223). -/
  | vgath (c : Fin 113) (w : Word) (e : Word)
  /-- `VSCAT` (R223). -/
  | vscat (c : Fin 113) (w : Word) (e : Word)
  /-- `VLOG` (R220). -/
  | vlog (c : Fin 113) (w : Word) (e : Word)
  /-- `VARX` (R220). -/
  | varx (c : Fin 113) (w : Word) (e : Word)
  /-- `VCVT` (R221). -/
  | vcvt (c : Fin 113) (w : Word) (e : Word)
  /-- `VEXP` (R215). -/
  | vexp (c : Fin 113) (w : Word) (e : Word)
  /-- `VSHLV` (R220). -/
  | vshlv (c : Fin 113) (w : Word) (e : Word)
  /-- `VSHRV` (R220). -/
  | vshrv (c : Fin 113) (w : Word) (e : Word)
  /-- `VPERM` (R220). -/
  | vperm (c : Fin 113) (w : Word) (e : Word)
  /-- `ACLR` (R220). -/
  | aclr (c : Fin 113) (w : Word) (e : Word)
  /-- `ARED` (R220). -/
  | ared (c : Fin 113) (w : Word) (e : Word)
  /-- `AMOV` (R220). -/
  | amov (c : Fin 113) (w : Word) (e : Word)
  /-- `VGET` (R220). -/
  | vget (c : Fin 113) (w : Word) (e : Word)
  /-- `VPUT` (R209). -/
  | vput (c : Fin 113) (w : Word) (e : Word)
  /-- `BSEND` (R232). -/
  | bsend (c : Fin 113) (w : Word) (e : Word)
  /-- `QPOP` (R233). -/
  | qpop (c : Fin 113) (w : Word) (e : Word)
  /-- `QTRY` (R233). -/
  | qtry (c : Fin 113) (w : Word) (e : Word)
  /-- `QPUSH` (R233). -/
  | qpush (c : Fin 113) (w : Word) (e : Word)
  /-- `CMXACQ` (R257). -/
  | cmxacq (c : Fin 113) (w : Word) (e : Word)
  /-- `CMXACQT` (R257). -/
  | cmxacqt (c : Fin 113) (w : Word) (e : Word)
  /-- `CMXREL` (R257). -/
  | cmxrel (c : Fin 113) (w : Word) (e : Word)
  /-- `CMXSAVE` (R264). -/
  | cmxsave (c : Fin 113) (w : Word) (e : Word)
  /-- `CMXRESTORE` (R264). -/
  | cmxrestore (c : Fin 113) (w : Word) (e : Word)
  /-- `CMXSYNC` (R257). -/
  | cmxsync (c : Fin 113) (w : Word) (e : Word)
  /-- `CMXLERR` (R257). -/
  | cmxlerr (c : Fin 113) (w : Word) (e : Word)
  /-- `CMXPUT` (R254). -/
  | cmxput (c : Fin 113) (w : Word) (e : Word)
  /-- `CMXGET` (R254). -/
  | cmxget (c : Fin 113) (w : Word) (e : Word)
  /-- `CMX_SHAPE` (R255). -/
  | cmxShape (c : Fin 113) (w : Word) (e : Word)
  /-- `CMX_COPY` (R255). -/
  | cmxCopy (c : Fin 113) (w : Word) (e : Word)
  /-- `CMX_ADD` (R255). -/
  | cmxAdd (c : Fin 113) (w : Word) (e : Word)
  /-- `CMX_SUB` (R255). -/
  | cmxSub (c : Fin 113) (w : Word) (e : Word)
  /-- `CMX_MUL` (R255). -/
  | cmxMul (c : Fin 113) (w : Word) (e : Word)
  /-- `CMX_CHOL` (R256). -/
  | cmxChol (c : Fin 113) (w : Word) (e : Word)
  /-- `CMX_TRSL` (R255). -/
  | cmxTrsl (c : Fin 113) (w : Word) (e : Word)
  /-- `CMX_INV` (R255). -/
  | cmxInv (c : Fin 113) (w : Word) (e : Word)
  /-- `CMX_QR` (R255). -/
  | cmxQr (c : Fin 113) (w : Word) (e : Word)
  /-- `INTERRUPT_TAKEN` (R240). -/
  | interruptTaken (c : Fin 113)
  /-- `LOAD_RESPONSE` (R228). -/
  | loadResponse (c : Fin 113)
  /-- `STORE_RESPONSE` (R230): `k` counts the outstanding stores from the oldest. -/
  | storeResponse (c : Fin 113) (k : Fin 16)
  /-- `INBOX_BEAD` (R234). -/
  | inboxBead (b : Bead)
  /-- `WAIT_WAKE` (R243). -/
  | waitWake (c : Fin 113)
  /-- `ROD_RETAIN_ENTRY` (R244). -/
  | rodRetainEntry (r : Fin 14)
  /-- `CMXACQ_GRANT` (R259). -/
  | cmxacqGrant (r : Fin 14)
  /-- `QPOP_RESUME` (R233). -/
  | qpopResume (c : Fin 113)
  /-- `QPUSH_RESUME` (R331). -/
  | qpushResume (c : Fin 113)
  /-- `CMX_COMMIT` (R251). -/
  | cmxCommit (r : Fin 14)
  /-- `RCK_RUN_WRITE` (R249): the word written to RCK_CTL. -/
  | rckRunWrite (c : Fin 113) (w : Word)
  /-- `RCK_RST` (R249): the word written to RCK_CTL. -/
  | rckRst (c : Fin 113) (w : Word)
  /-- `RCK_SOFT_SET` (R239): the word written to RCK_SOFT. -/
  | rckSoftSet (c : Fin 113) (w : Word)
  /-- `CMX_RST` (R250): the word written to CMX_CTL. -/
  | cmxRst (r : Fin 14) (w : Word)
  /-- `CMX_FREL` (R260): the word written to CMX_CTL. -/
  | cmxFrel (r : Fin 14) (w : Word)
  /-- `LOCAL_MEM_INIT_DONE` (R479). -/
  | localMemInitDone (c : Fin 113)
  /-- `LNC_GCTL_EN_WRITE` (R80): the word written to LNC_GCTL. -/
  | lncGctlEnWrite (w : Word)
  /-- `LIST_ENABLE` (R73): the word written to LNC_CTL. -/
  | listEnable (n : Fin 64) (w : Word)
  /-- `LIST_DISABLE` (R73): the word written to LNC_CTL. -/
  | listDisable (n : Fin 64) (w : Word)
  /-- `LAUNCH_INJECT` (R76). -/
  | launchInject
  /-- `FED_ENTRY_ARRIVAL` (R76). -/
  | fedEntryArrival (n : Fin 64)
  /-- `LAUNCH_HOLD_END` (R80). -/
  | launchHoldEnd
  /-- `COUNTER_CLEAR` (R100): the counter by the offset of its low word from 0x3000_0000, and the word written. -/
  | counterClear (o : Nat) (w : Word)
  /-- `JOB_ARRIVAL` (R85). -/
  | jobArrival (b : Bead)
  /-- `JOB_TAKE` (R86). -/
  | jobTake (n : Fin 64)
  /-- `HEAD_DEADLINE_EXPIRE` (R87). -/
  | headDeadlineExpire (n : Fin 64)
  /-- `SLACK_WINDOW_END` (R97). -/
  | slackWindowEnd
  /-- `AVS_STEP_ACK` (R495). -/
  | avsStepAck
  /-- `AVS_STEP_TIMEOUT` (R495). -/
  | avsStepTimeout
  /-- `PWR_SERVO_CTL_WRITE` (R98). -/
  | pwrServoCtlWrite (w : Word)
  /-- `PWR_VSET_WRITE` (R98). -/
  | pwrVsetWrite (w : Word)
  /-- `PWR_SLACK_POST` (R95): the word written to PWR_SLACK_POST. -/
  | pwrSlackPost (w : Word)
  /-- `SPC_JOB_END` (R131): `p` is the place of the job among those the engine runs. -/
  | spcJobEnd (n : Fin 24) (p : Fin 4)
  /-- `RAD_JOB_END` (R170). -/
  | radJobEnd (n : Fin 8)
  /-- `TRB_JOB_END` (R185). -/
  | trbJobEnd (n : Fin 12)
  /-- `TRL_JOB_END` (R196). -/
  | trlJobEnd (n : Fin 16)
  /-- `ENC_JOB_END` (R201). -/
  | encJobEnd (n : Fin 8)
  /-- `JESD_LINK_ERROR` (R110): the link goes down at time `a` (ns), or an extended multiblock released from `a` to before `b` has come: the
  bits and the received CRC-12 of its multiblocks. -/
  | jesdLinkError (k : Fin 4) (mb : Option (List (List Nat × Nat))) (a : Nat) (b : Nat)
  /-- `SUBFRAME_GAIN_STEP` (R120): subframe n begins; `xs` the converter samples that reached the receive chain for the one before,
  the first with index `n0` from the stream's time origin. -/
  | subframeGainStep (u : Fin 8) (t : Fin 256) (n : Nat) (n0 : Nat) (xs : List (Int × Int))
  /-- `TX_SEGMENT_READ` (R124): segment n of transmit stream t. -/
  | txSegmentRead (u : Fin 8) (t : Fin 128) (n : Nat)
  /-- `ECPRI_MESSAGE_RX` (R112). -/
  | ecpriMessageRx (f : FhFrame)
  /-- `FH_ZERO_FILL` (R113): ring positions k to k + n - 1. -/
  | fhZeroFill (u : Fin 8) (t : Fin 256) (k : Nat) (n : Nat)
  /-- `ORAN_UPLANE_RX` (R118): the frame, and whether its headers announce a section extension. -/
  | oranUplaneRx (f : FhFrame) (ext : Bool)
  /-- `ORAN_SECTION3_RX` (R119): the frame, and whether its headers announce a section extension. -/
  | oranSection3Rx (f : FhFrame) (ext : Bool)
  /-- `FH_TX_MESSAGE` (R112): message k of millisecond n. -/
  | fhTxMessage (u : Fin 8) (t : Fin 128) (n : Nat) (k : Nat)
  /-- `ECPRI_DELAY_REQUEST` (R114). -/
  | ecpriDelayRequest (f : FhFrame)
  /-- `DELAY_MEASURE_REQUEST` (R115). -/
  | delayMeasureRequest (b : Bead)
  /-- `DELAY_MEASURE_ANSWER` (R115). -/
  | delayMeasureAnswer (f : FhFrame)
  /-- `DELAY_MEASURE_TIMEOUT` (R115): the measurement by the TAG of its TXFRAME. -/
  | delayMeasureTimeout (tag : Nat)
  /-- `NF_BLOCK_END` (R122): the block is millisecond n of the stream; `xs` the converter samples that reached its receive chain, the first
  with index `n0`. -/
  | nfBlockEnd (u : Fin 8) (t : Fin 256) (n : Nat) (n0 : Nat) (xs : List (Int × Int))
  /-- `NF_STALE_TIMEOUT` (R122). -/
  | nfStaleTimeout (u : Fin 8) (t : Fin 256)
  /-- `CROSSING` (R142): preamble end (ns), number of the frequency hypothesis, and for each antenna the samples of the carrier from ring
  index `k0` of antenna time on (C24 units). -/
  | crossing (det : Fin 16) (slot : Fin 16) (tau : Nat) (fi : Int) (k0 : Nat) (rx : List (List (Int × Int)))
  /-- `SYNC_CHECK` (R145): the samples of each antenna from index `k0` on. -/
  | syncCheck (x : Fin 2048) (k0 : Nat) (rx : List (List (Int × Int)))
  /-- `HEADER_DECODE` (R146). -/
  | headerDecode (x : Fin 2048)
  /-- `PILOT_UPDATE` (R147): the samples of each antenna from index `k0` on. -/
  | pilotUpdate (x : Fin 2048) (k0 : Nat) (rx : List (List (Int × Int)))
  /-- `CLOSING_PILOT` (R150). -/
  | closingPilot (x : Fin 2048)
  /-- `INSTANCE_DECODE_RESULT` (R154): the trellis completion. -/
  | instanceDecodeResult (x : Fin 2048) (b : Bead)
  /-- `PARTNER_ENDED` (R157). -/
  | partnerEnded (x : Fin 2048)
  /-- `SICHOLD_EXPIRE` (R154). -/
  | sicholdExpire (x : Fin 2048)
  /-- `ACK_REQUEST_BEAD` (R65): the host bead and its content: report, sending device, RATE, REP, MORE, bytes. -/
  | ackRequestBead (b : Bead) (rseq : Nat) (dev : Nat) (rate : Nat) (rep : Nat) (more : Nat) (bytes : List Nat)
  /-- `ACK_CUTOFF` (R65). -/
  | ackCutoff (rseq : Nat)
  /-- `ACK_LAUNCH` (R63). -/
  | ackLaunch (rseq : Nat)
  /-- `JNOTICE_RX` (R161). -/
  | jnoticeRx (b : Bead)
  /-- `JOINT_ELECTION` (R161). -/
  | jointElection (x : Fin 2048)
  /-- `JSAMPLE_RX` (R162). -/
  | jsampleRx (b : Bead)
  /-- `JACCEPT_RX` (R162). -/
  | jacceptRx (b : Bead)
  /-- `JOINT_WAIT_EXPIRE` (R163). -/
  | jointWaitExpire (x : Fin 2048)
  /-- `CARRIER_SEARCH_DISABLE` (R159). -/
  | carrierSearchDisable (det : Fin 16) (slot : Fin 16)
  /-- `HOST_ITEM_BEAD` (R43): the bead and what it says. -/
  | hostItemBead (b : Bead) (h : HostItem)
  /-- `CARRIER_STATUS_BEAD` (R37): subframe n of the carrier, counted from its frame origin. -/
  | carrierStatusBead (carrier : Nat) (n : Nat)
  /-- `MEM_REQUEST` (R275). -/
  | memRequest (a : MemAccess)
  /-- `PAGE_DECODE_END` (R274). -/
  | pageDecodeEnd (b : Fin 32)
  /-- `SCRUB_STEP` (R288). -/
  | scrubStep
  /-- `SCRUB_CTL_WRITE` (R287): the word written. -/
  | scrubCtlWrite (w : Word)
  /-- `REENCODE_CMD` (R290): the word written. -/
  | reencodeCmd (w : Word)
  /-- `REENCODE_PAGE` (R290). -/
  | reencodePage
  /-- `REMAP_CMD` (R292): the word written. -/
  | remapCmd (w : Word)
  /-- `FLIP_ARM` (R294): the word written. -/
  | flipArm (w : Word)
  /-- `FLUSH_CMD` (R295): the word written. -/
  | flushCmd (w : Word)
  /-- `FLUSH_DONE` (R295). -/
  | flushDone
  /-- `MEM_INIT_DONE` (R296). -/
  | memInitDone
  /-- `DMA_START` (R308): a write of DMA_CTL by requester r. -/
  | dmaStart (r : Req) (e : Fin 2) (c : Fin 64) (w : Word)
  /-- `DMA_START_LOAD` (R314): a write of DMA_CTL by requester r. -/
  | dmaStartLoad (r : Req) (e : Fin 2) (c : Fin 64) (w : Word)
  /-- `DMA_STOP` (R313): a write of DMA_CTL by requester r. -/
  | dmaStop (r : Req) (e : Fin 2) (c : Fin 64) (w : Word)
  /-- `DMA_DESC_LOADED` (R314). -/
  | dmaDescLoaded (e : Fin 2) (c : Fin 64)
  /-- `DMA_BEAT_ISSUE` (R321). -/
  | dmaBeatIssue (e : Fin 2) (write : Bool)
  /-- `DMA_READ_RESPONSE` (R312): the beat that begins with transfer byte j, or the response of another device. -/
  | dmaReadResponse (e : Fin 2) (c : Fin 64) (j : Nat) (remote : Option Bead)
  /-- `DMA_WRITE_RESPONSE` (R309): beat j, or the response of another device. -/
  | dmaWriteResponse (e : Fin 2) (c : Fin 64) (j : Nat) (remote : Option Bead)
  /-- `DMA_REMOTE_TIMEOUT` (R317). -/
  | dmaRemoteTimeout (e : Fin 2) (c : Fin 64) (tag : Nat)
  /-- `QUEUE_BEAD_RX` (R330). -/
  | queueBeadRx (b : Bead)
  /-- `QUE_RESET` (R336). -/
  | queReset (n : Fin 1024)
  /-- `STC_FULL_LOAD` (R352): the word written to STC_CMD. -/
  | stcFullLoad (w : Word)
  /-- `STC_SLICE_LOAD` (R357): the word written to STC_CMD. -/
  | stcSliceLoad (w : Word)
  /-- `STC_VERIFY_END` (R353). -/
  | stcVerifyEnd
  /-- `STC_APPLY_END` (R352). -/
  | stcApplyEnd
  /-- `STC_DRAINACK` (R357): a write of STC_DRAINACK by requester r. -/
  | stcDrainack (r : Req) (w : Word)
  /-- `STC_DRAIN_TIMEOUT` (R358). -/
  | stcDrainTimeout
  /-- `STC_FENCE` (R551): a write of STC_FENCE by requester r. -/
  | stcFence (r : Req) (w : Word)
  /-- `TIM_CMD_SET` (R371): a write of TIM_CMD by requester r. -/
  | timCmdSet (r : Req)
  /-- `TIM_CMD_SETPPS` (R371): a write of TIM_CMD by requester r. -/
  | timCmdSetpps (r : Req)
  /-- `TIM_CMD_STEP` (R372): a write of TIM_CMD by requester r. -/
  | timCmdStep (r : Req)
  /-- `TIM_CMD_SLEW` (R374): a write of TIM_CMD by requester r. -/
  | timCmdSlew (r : Req)
  /-- `TIM_CMD_CANCEL` (R371): a write of TIM_CMD by requester r. -/
  | timCmdCancel (r : Req)
  /-- `SLEW_END` (R374). -/
  | slewEnd
  /-- `TIM_INC_COMMIT` (R367): a write of TIM_INC_HI by requester r. -/
  | timIncCommit (r : Req) (w : Word)
  /-- `TIM_MULT_CHANGE` (R367): a write of TIM_REFCFG by requester r. -/
  | timMultChange (r : Req) (w : Word)
  /-- `TIM_VALID_WRITE` (R369): a write of TIM_CTL by requester r. -/
  | timValidWrite (r : Req) (w : Word)
  /-- `REF_LOSS` (R368). -/
  | refLoss
  /-- `REF_RELOCK` (R368): the frequency of REFCLK_TIME in Hz. -/
  | refRelock (hz : Nat)
  /-- `PPS_IN_EDGE` (R376): edge, pulse width (ns), capture error. -/
  | ppsInEdge (rising : Bool) (width : Nat) (err : Int)
  /-- `PPS_IN_TIMEOUT` (R376). -/
  | ppsInTimeout
  /-- `PPS_OUT_PULSE` (R377). -/
  | ppsOutPulse
  /-- `COMPARE_DUE` (R379). -/
  | compareDue (k : Fin 16)
  /-- `COMPARE_TARGET_COMMIT` (R379): the word written to TIM_CMP_TNSH. -/
  | compareTargetCommit (k : Fin 16) (w : Word)
  /-- `TLY_ARM` (R547): the word written to TLY_AT_NSH. -/
  | tlyArm (w : Word)
  /-- `TLY_TARGET_DUE` (R547). -/
  | tlyTargetDue
  /-- `TLY_COMPLETE` (R547). -/
  | tlyComplete
  /-- `EVENT_ACCEPT` (R539). -/
  | eventAccept
  /-- `EVT_TAIL_ADVANCE` (R544): the word written to EVT_TAIL. -/
  | evtTailAdvance (w : Word)
  /-- `PORT_LINK_CHANGE` (R387): link, auto-negotiation done, FEC lock, what the partner advertises. -/
  | portLinkChange (p : Fin 16) (up : Bool) (andone : Bool) (feclock : Bool) (peer : Nat)
  /-- `FRAME_RECEIVED` (R389): octets without FCS, FCS right, time since the first bit, timestamp error, MACsec receive
  channel. -/
  | frameReceived (p : Fin 16) (l : List Nat) (fcsOk : Bool) (back : Nat) (err : Int) (sc : Nat)
  /-- `EGRESS_SELECT` (R392). -/
  | egressSelect (p : Fin 16)
  /-- `FRAME_TX_END` (R404). -/
  | frameTxEnd (p : Fin 16) (err : Int)
  /-- `GATE_INTERVAL_END` (R393). -/
  | gateIntervalEnd (p : Fin 16)
  /-- `GCL_SUBMIT` (R394): the word written to BRG_GCLCTL. -/
  | gclSubmit (p : Fin 16) (w : Word)
  /-- `GCL_CHANGE` (R394). -/
  | gclChange (p : Fin 16)
  /-- `SHAPER_REFILL` (R398). -/
  | shaperRefill (p : Fin 16)
  /-- `TXFRAME_BEAD` (R403). -/
  | txframeBead (b : Bead)
  /-- `BEAD_TO_HOST` (R415). -/
  | beadToHost (b : Bead)
  /-- `BEAD_FRAME_HOLD_EXPIRE` (R415). -/
  | beadFrameHoldExpire (h : Fin 16)
  /-- `FDB_READ` (R389): the word written to BRG_FDBCMD. -/
  | fdbRead (w : Word)
  /-- `FDB_WRITE` (R389): the word written to BRG_FDBCMD. -/
  | fdbWrite (w : Word)
  /-- `FDB_DELETE` (R389): the word written to BRG_FDBCMD. -/
  | fdbDelete (w : Word)
  /-- `FDB_FLUSH` (R389): the word written to BRG_FDBCMD. -/
  | fdbFlush (w : Word)
  /-- `FDB_AGE_OUT` (R389). -/
  | fdbAgeOut (vid : Nat) (mac : Nat)
  /-- `LANE_RETRAIN` (R437): the word written to LAN_LCTL. -/
  | laneRetrain (l : Fin 64) (w : Word)
  /-- `LANE_TRAIN_DONE` (R437). -/
  | laneTrainDone (l : Fin 64)
  /-- `LANE_RST` (R441): the word written to LAN_LCTL. -/
  | laneRst (l : Fin 64) (w : Word)
  /-- `LANE_ALIGN` (R432). -/
  | laneAlign (l : Fin 64)
  /-- `LANE_ALIGN_LOSS` (R432). -/
  | laneAlignLoss (l : Fin 64)
  /-- `PORT_DESKEW` (R433): where (UI) the commas of one round arrive, in the order of the lanes' index. -/
  | portDeskew (p : Fin 16) (arrivals : List Nat)
  /-- `LANE_MARKER_RX` (R430): arrival (UI) of the marker comma, and the line bits of the slot. -/
  | laneMarkerRx (l : Fin 64) (ui : Nat) (slot : List Bool)
  /-- `QUAD_REF_LOSS` (R425). -/
  | quadRefLoss (q : Fin 16)
  /-- `QUAD_REF_RETURN` (R425): the reference's frequency (Hz). -/
  | quadRefReturn (q : Fin 16) (hz : Nat)
  /-- `LANE_LOCK_LOSS` (R436). -/
  | laneLockLoss (l : Fin 64)
  /-- `LANE_SIGNAL_DETECT` (R435). -/
  | laneSignalDetect (l : Fin 64)
  /-- `LANE_EXIT_TIMEOUT` (R435). -/
  | laneExitTimeout (l : Fin 64)
  /-- `EYE_GO` (R438): the word written to LAN_EYE. -/
  | eyeGo (q : Fin 16) (w : Word)
  /-- `EYE_POINT_END` (R438): bits compared, mismatches. -/
  | eyePointEnd (q : Fin 16) (n : Nat) (e : Nat)
  /-- `SPARE_GO` (R440): the word written to LAN_SPARE. -/
  | spareGo (q : Fin 16) (w : Word)
  /-- `SPARE_AUTO` (R440). -/
  | spareAuto (l : Fin 64)
  /-- `CELL_RX` (R453): the line bits of the slot received, from its comma to the next, and where (UI) its comma arrived. -/
  | cellRx (l : Fin 64) (slot : List Bool) (ui : Nat)
  /-- `IDLE_CELL_TIMER` (R453). -/
  | idleCellTimer (p : Fin 16)
  /-- `REPLAY_TIMEOUT` (R453). -/
  | replayTimeout (p : Fin 16)
  /-- `PORT_DOWN_TIMEOUT` (R454). -/
  | portDownTimeout (p : Fin 16)
  /-- `HELLO_TIMER` (R455). -/
  | helloTimer (p : Fin 16)
  /-- `HELLO_RX` (R456). -/
  | helloRx (p : Fin 16) (b : Bead)
  /-- `LSA_TIMER` (R459). -/
  | lsaTimer
  /-- `LSA_RX` (R459). -/
  | lsaRx (b : Bead)
  /-- `NUMBER_TIMER` (R461). -/
  | numberTimer
  /-- `NUMBER_RX` (R461). -/
  | numberRx (b : Bead)
  /-- `ROUTE_WRITE` (R465): destination and the word written to FAB_RT. -/
  | routeWrite (t : Fin 1024) (w : Word)
  /-- `ROUTE_SETTLE_END` (R465). -/
  | routeSettleEnd (t : Fin 1024)
  /-- `BEAD_ROUTE` (R463). -/
  | beadRoute (b : Bead)
  /-- `REGRD` (R467). -/
  | regrd (b : Bead)
  /-- `REGWR` (R467). -/
  | regwr (b : Bead)
  /-- `MEMRD` (R468). -/
  | memrd (b : Bead)
  /-- `MEMWR` (R468). -/
  | memwr (b : Bead)
  /-- `BCAST_RX` (R469). -/
  | bcastRx (p : Fin 16) (b : Bead)
  /-- `TSYNC_TIMER` (R470). -/
  | tsyncTimer (p : Fin 16)
  /-- `TSYNC_RX` (R471). -/
  | tsyncRx (p : Fin 16) (b : Bead)
  /-- `POOLCMD_TALLY` (R473). -/
  | poolcmdTally (b : Bead)
  /-- `POOLCMD_COLD_RESET` (R473). -/
  | poolcmdColdReset (b : Bead)
  /-- `MODE_ENTRY` (R484). -/
  | modeEntry
  /-- `MODE_COMMIT` (R484): `grp`: a group command completes, else the mode change. -/
  | modeCommit (grp : Bool)
  /-- `PWR_ENTRY_TIMEOUT` (R484): `grp`: of a group command, else of the mode change. -/
  | pwrEntryTimeout (grp : Bool)
  /-- `PWR_GRPCMD` (R481): the word written. -/
  | pwrGrpcmd (w : Word)
  /-- `PAD_RELEASE` (R485): the word written to PWR_PAD_RELEASE. -/
  | padRelease (w : Word)
  /-- `WAKE_N_REQUEST` (R486). -/
  | wakeNRequest
  /-- `WAKE_RETRY_TIMER` (R488). -/
  | wakeRetryTimer
  /-- `WAKE_PG_RISE` (R487): which set. -/
  | wakePgRise (back : Bool)
  /-- `WAKE_REG_TIMEOUT` (R487). -/
  | wakeRegTimeout
  /-- `WAKE_SETTLE_END` (R487). -/
  | wakeSettleEnd
  /-- `WAKE_OSC_TIMEOUT` (R489). -/
  | wakeOscTimeout
  /-- `WAKE_DOMAINS_UP` (R487): the BOOTSEL pins. -/
  | wakeDomainsUp (bootsel : Fin 4)
  /-- `RAIL_LOW` (R491): which set; whether PG fell, else a rail is low. -/
  | railLow (back : Bool) (pg : Bool)
  /-- `SUP_SWBACK` (R492): the word written to SUP_CTL. -/
  | supSwback (w : Word)
  /-- `SUP_SWTEST` (R492): the word written to SUP_CTL. -/
  | supSwtest (w : Word)
  /-- `SUP_ENABLE_WRITE` (R497): the word written to SUP_CTL. -/
  | supEnableWrite (w : Word)
  /-- `BROWNOUT` (R493). -/
  | brownout
  /-- `AVS_READBACK_TIMER` (R494): the outputs read (mV) and their fault bits. -/
  | avsReadbackTimer (mvMain : Nat) (mvBack : Nat) (faultMain : Bool) (faultBack : Bool)
  /-- `AVS_ALERT` (R494): which port. -/
  | avsAlert (back : Bool)
  /-- `SEC_SELFTEST_END` (R510): the engine that failed, if one did. -/
  | secSelftestEnd (bad : Option Nat)
  /-- `BOOT_IMAGE_FETCHED` (R511): what the flash holds, blocks of bytes with the address of their first. -/
  | bootImageFetched (flash : List (Nat × List Nat))
  /-- `HOSTWAIT_EXPIRE` (R511). -/
  | hostwaitExpire
  /-- `BOOTREQ_TIMER` (R512). -/
  | bootreqTimer
  /-- `BOOTGO` (R512). -/
  | bootgo (b : Bead)
  /-- `SEC_BOOTOK` (R510): a write of SEC_BOOTOK by requester r. -/
  | secBootok (r : Req) (w : Word)
  /-- `BOOT_WDT_EXPIRE` (R510). -/
  | bootWdtExpire
  /-- `CMD_WRITE_SLOT` (R506): a write of SEC_CMD by requester r, with the command in the buffer. -/
  | cmdWriteSlot (r : Req) (w : Word)
  /-- `CMD_REVOKE` (R508): a write of SEC_CMD by requester r, with the command in the buffer. -/
  | cmdRevoke (r : Req) (w : Word)
  /-- `CMD_ADVANCE` (R509): a write of SEC_CMD by requester r, with the command in the buffer. -/
  | cmdAdvance (r : Req) (w : Word)
  /-- `CMD_LIFECYCLE` (R506): a write of SEC_CMD by requester r, with the command in the buffer. -/
  | cmdLifecycle (r : Req) (w : Word)
  /-- `CMD_DEBUG` (R520): a write of SEC_CMD by requester r, with the command in the buffer. -/
  | cmdDebug (r : Req) (w : Word)
  /-- `CMD_POLICY` (R502): a write of SEC_CMD by requester r, with the command in the buffer. -/
  | cmdPolicy (r : Req) (w : Word)
  /-- `CMD_SCRAP` (R506): a write of SEC_CMD by requester r, with the command in the buffer. -/
  | cmdScrap (r : Req) (w : Word)
  /-- `SEC_ATTEST` (R515): a write of SEC_CMD by requester r. -/
  | secAttest (r : Req) (w : Word)
  /-- `SEC_FETCH` (R513): a write of SEC_CMD by requester r; what the flash holds. -/
  | secFetch (r : Req) (w : Word) (flash : List (Nat × List Nat))
  /-- `SAK_INSTALL` (R519): a write of SEC_CMD by requester r. -/
  | sakInstall (r : Req) (w : Word)
  /-- `SESSION_OPEN` (R516): the bead and the buffer it names. -/
  | sessionOpen (b : Bead) (buf : Nat)
  /-- `SESSION_ACCEPT` (R516): session, key slot, ciphertext, keys and signatures of the ACCEPT. -/
  | sessionAccept (b : Bead) (n : Nat) (slot : Nat) (ct : List Nat) (keys : List Nat) (sigs : List Nat)
  /-- `SESSION_CLOSE` (R517). -/
  | sessionClose (b : Bead) (n : Nat)
  /-- `SESSION_BEAD` (R517). -/
  | sessionBead (b : Bead)
  /-- `TAMPER_DETECT` (R522). -/
  | tamperDetect (sensor : Fin 7)
  /-- `VSTBY_RISE` (R530): whether RESET_N is low. -/
  | vstbyRise (low : Bool)
  /-- `RESET_N_LOW` (R529). -/
  | resetNLow
  /-- `RESET_N_RELEASE` (R530). -/
  | resetNRelease
  /-- `RST_CMD_WARM` (R531): a write of RST_CMD by requester r. -/
  | rstCmdWarm (r : Req) (w : Word)
  /-- `RST_CMD_COLD` (R528): a write of RST_CMD by requester r. -/
  | rstCmdCold (r : Req) (w : Word)
  /-- `RST_CMD_UNIT` (R533): a write of RST_CMD by requester r. -/
  | rstCmdUnit (r : Req) (w : Word)
  /-- `WARM_RESPONSES_COLLECTED` (R531). -/
  | warmResponsesCollected
  /-- `AWDT_EXPIRE` (R557). -/
  | awdtExpire
  /-- `AWDT_KICK` (R557): the word written to RST_AWDT. -/
  | awdtKick (w : Word)
  /-- `REG_WRITE` (R13): requester, offset from 0x3000_0000, word and byte lanes. -/
  | regWrite (r : Req) (o : Nat) (w : Word) (lanes : Fin 8)
  /-- `SYSREF_EDGE` (R108): the converter sample at which the edge comes. -/
  | sysrefEdge (k : Fin 4) (n : Nat)
  /-- `JESD_LINK_UP` (R110): antenna time (ns). -/
  | jesdLinkUp (k : Fin 4) (t : Nat)
  /-- `FRAME_LAUNCH_DUE` (R401). -/
  | frameLaunchDue (p : Fin 16)
  /-- `STANDBY_SET_FAIL` (R493). -/
  | standbySetFail
  /-- `STANDBY_SET_GOOD` (R490). -/
  | standbySetGood
  /-- `EYE_GAP_END` (R438). -/
  | eyeGapEnd (q : Fin 16)
  /-- `BOOT_ORDER_RESTART` (R511). -/
  | bootOrderRestart
  deriving DecidableEq, Repr

end Sys2Proof
end

