-- ==== Sys2Proof/Decode.lean ====
section
/-! DEFINITION. Table words. -/

namespace Sys2Proof

/-- The command that a word spells by the bits of spec/opcode_table.json. Every row of the table has an empty list of fields, so
no word spells one. Log 3 (DESIGN CHOICE). -/
def decodeTableWord (_nbits _w : Nat) : Option Instr := none

end Sys2Proof
end

