-- ==== Sys2Proof/Config.lean ====
section
/-! DEFINITION. What the spec leaves open and an implementation fixes. Every constant here is opaque: no proof can see
a value of it, so a claim holds whatever it is. -/

namespace Sys2Proof.Config

/-- The free values a step takes one after another; the argument is the number of values taken before. Log 7 (DESIGN CHOICE). -/
opaque free : Nat → Nat

/-- Whether a word offset of the accelerator buffer range 0x4000_0000 is implemented (R11, R19 give only the size).
Log 11 (DESIGN CHOICE). -/
opaque bufImplemented : Nat → Bool

/-- AES-GCM of MACsec (R410; the cipher is IEEE's): whether the key has 256 bits, key, 12-octet IV, octets authenticated only,
octets enciphered; the answer is the ciphertext and the ICV. Log 130 (PRESUMED). -/
opaque macsecSeal : Bool → Nat → List Nat → List Nat → List Nat → List Nat

/-- The reverse: 256 bits, key, IV, octets authenticated only, ciphertext, ICV; none when the ICV does not match.
Log 130 (PRESUMED). -/
opaque macsecOpen : Bool → Nat → List Nat → List Nat → List Nat → List Nat → Option (List Nat)

/-- The SCI of a port's transmit secure channel, and of receive channel c at 16 × (c + 1) above it (SAKINSTALL, R519, gives none).
Log 130 (PRESUMED). -/
opaque macsecSci : Nat → Nat

/-- The gates of a port that a list without a cycle puts in force (R393 gives none for CYCLE 0). Log 127 (DESIGN CHOICE). -/
opaque gatesNoCycle : Nat → Nat

/-- A reception instance's estimate of its frequency beyond the hypothesis of its crossing (10^-6 Hz), from the number of the first
sample, the preamble end (ns) and each antenna's samples (R145; the method is not stated). Log 186 (DEDUCED). -/
opaque preFreq : Nat → Nat → List (List (Int × Int)) → Int

/-- Its estimate of one antenna's amplitude and phase in C12 units, from the same samples (R145). Log 186 (DEDUCED). -/
opaque preAmp : Nat → Nat → List (Int × Int) → Int × Int

/-- The scale of soft values handed to the trellis decoders, in 2^-60, less one: it is not 0
(R175, R176). Log 186 (DEDUCED). -/
opaque softUnit : Nat

/-- The damping of the phase loop in thousandths (R147 gives its noise bandwidth only). Log 187 (DEDUCED). -/
opaque loopZeta : Nat

/-- The timing loop's error in 10^-6 symbol periods, from the filtered values half a symbol before, at and half a symbol after each
antenna's symbol instant (R147; the detector is not stated). Log 187 (DEDUCED). -/
opaque timingErr : List ((Int × Int) × (Int × Int) × (Int × Int)) → Int

/-- The combining weight of a contributor's antenna from its noise (dBFS, 0.25 dB) and its pilot power (R163).
Log 186 (DEDUCED). -/
opaque contribWeight : Int → Nat → Nat

/-- Where in the accelerator buffers reception instance i hands its soft values to a trellis decoder (R150, R194).
Log 86 (DESIGN CHOICE). -/
opaque instBuf : Nat → Nat

/-- The phase of a stream's NCO at shared time 0, in 2^-24 turn (R120, R125 give its frequency only): 512 × unit + stream, 256 added
for transmit. Log 188 (DESIGN CHOICE). -/
opaque ncoPhase : Nat → Nat

/-- The receive chain's taps in 2^-100, by stream kind, KRATE and time in units in which both the converter and the stream sample
times are whole; and the largest time with a tap (R102, R103 bound them). Log 188 (DESIGN CHOICE). -/
opaque chanTap : Nat → Nat → Int → Int
/-- Log 188 (DESIGN CHOICE). -/
opaque chanSpan : Nat → Nat → Nat

/-- The channel filter of an SBA stream from eCPRI: its taps in 2^-100 and the farthest one (R102). Log 188 (DESIGN CHOICE). -/
opaque sbaTap : Int → Int
/-- Log 188 (DESIGN CHOICE). -/
opaque sbaSpan : Nat

/-- The interpolation of a transmit stream to its converter's rate: taps and span as for the receive chain (R125 does not state it).
Log 188 (DESIGN CHOICE). -/
opaque sendTap : Nat → Nat → Int → Int
/-- Log 188 (DESIGN CHOICE). -/
opaque sendSpan : Nat → Nat → Nat

/-- What a RAD's correlations give (R168; the preambles are those of TS 36.211): for descriptor words and the input words, each
hypothesis with its largest combined energy and the timing offset (Ts) of that energy. Log 93 (PRESUMED). -/
opaque radSearch : List (BitVec 24) → List (BitVec 24) → List (Nat × Int)

/-- The compression of an O-RAN stream (R116, "set per stream in the structure image", which names no field for it): udCompMeth
in [7:4], iqWidth in [3:0], 0 for 16. Log 72 (PRESUMED). -/
opaque udComp : Nat → Nat

/-- SHA3-384 of bytes (FIPS 202). Log 162 (PRESUMED). -/
opaque sha3 : List Nat → List Nat

/-- Whether an Ed25519 signature verifies (RFC 8032): key, message, signature. Log 162 (PRESUMED). -/
opaque edVerify : List Nat → List Nat → List Nat → Bool

/-- Whether an ML-DSA-65 signature verifies with an empty context string (FIPS 204): key, message, signature.
Log 162 (PRESUMED). -/
opaque mlVerify : List Nat → List Nat → List Nat → Bool

/-- The Ed25519 public key of a seed. Log 162 (PRESUMED). -/
opaque edPub : List Nat → List Nat

/-- The Ed25519 signature of a message under a seed. Log 162 (PRESUMED). -/
opaque edSign : List Nat → List Nat → List Nat

/-- The ML-DSA-65 public key of a seed. Log 162 (PRESUMED). -/
opaque mlPub : List Nat → List Nat

/-- The ML-DSA-65 signature of a message under a seed. Log 162 (PRESUMED). -/
opaque mlSign : List Nat → List Nat → List Nat

/-- The ML-KEM-768 encapsulation key of a seed (FIPS 203). Log 162 (PRESUMED). -/
opaque kemPub : List Nat → List Nat

/-- The shared secret that a seed decapsulates from a ciphertext. Log 162 (PRESUMED). -/
opaque kemDecaps : List Nat → List Nat → List Nat

/-- AES-256-GCM: key, IV, ciphertext, tag; none when the tag does not verify. Log 162 (PRESUMED). -/
opaque gcmOpen : List Nat → List Nat → List Nat → List Nat → Option (List Nat)

/-- AES-256-GCM: ciphertext and 16-byte tag of key, IV, plaintext. Log 162 (PRESUMED). -/
opaque gcmSeal : List Nat → List Nat → List Nat → List Nat

/-- A policy field (0 BOOTORD, 1 PINLOCK, 2 BFMAX, 3 BOOTWDT, 4 HOSTWAIT, 5 OWNFW, 6 TAMPFLOOR, 7 PEERQ, 8 HOSTBOOT) in written
policy rows; R502 gives no layout. BOOTORD is two bits per candidate with their number in [10:8]; PEERQ is a mask of quads; of
HOSTBOOT 8 is the quad and 9 the port. The argument is the list of written rows with their values; none where they do not write the
field. Log 163 (DESIGN CHOICE). -/
opaque policy : Nat → List (Nat × Nat) → Option Nat

/-- The register writes, offset and word, by which the island brings up the lanes and ports of a boot candidate, 2 host or 3 peer,
for the written policy rows (R512, which names the ports and not the writes). Log 175 (DESIGN CHOICE). -/
opaque bootRegs : Nat → List (Nat × Nat) → List (Nat × Nat)

/-- The value written into a revocation marker (R501 gives none). Log 163 (DESIGN CHOICE). -/
opaque revoked : Nat

/-- The operation in a session bead's plaintext (R517, R518 give no layout): SEC_CMD OP and buffer address.
Log 163 (DESIGN CHOICE). -/
opaque sessionOp : List Nat → Nat × Nat

/-- The plaintext of the island's answer in a session: cause. Log 163 (DESIGN CHOICE). -/
opaque sessionReply : Nat → List Nat

/-- The SAKINSTALL buffer (R519 gives no layout): its length in words. Log 163 (DESIGN CHOICE). -/
opaque sakLen : Nat

/-- The fields of a SAKINSTALL buffer or session operation, by number: 0 port, 1 transmit, 2 receive channel, 3 AN, 4 cipher, 5 SAK,
6 SSCI, 7 salt, 8 packet number, 9 becomes the transmit association. Log 163 (DESIGN CHOICE). -/
opaque sakField : Nat → List Word → Nat

/-- Whether word `i` of a SAKINSTALL buffer is a key word. Log 163 (DESIGN CHOICE). -/
opaque sakKeyWord : Nat → Bool

/-- What the board's flash holds (R512), where no row gives it: blocks of bytes with the address of their first; the argument is
the number of free values taken before. Log 164 (DESIGN CHOICE). -/
opaque flash : Nat → List (Nat × List Nat)

end Sys2Proof.Config
end

