-- ==== Sys2Proof/Machine/RegMap.lean ====
section
/-! DEFINITION. The control registers' addresses and fields, from the register tables of the spec's chapters
(R12-R14; each chapter's register rule is named at its block). An address is the offset in words from
0x3000_0000: a block's window base of R10 plus the block offset; an instance index multiplies its stride. -/

namespace Sys2Proof.Machine.Reg

/-! Block RCK (R249), window 0x30010000. -/
def RCK_CTL (n : Nat) : Nat := 0x10000 + n * 0x10
def RCK_CTL_RUN_f : Fld := ⟨23, 23⟩
def RCK_CTL_RST_f : Fld := ⟨22, 22⟩
def RCK_CTL_ENTRY_f : Fld := ⟨15, 0⟩
def RCK_STAT (n : Nat) : Nat := 0x10001 + n * 0x10
def RCK_STAT_STATE_f : Fld := ⟨23, 21⟩
def RCK_STAT_PC_f : Fld := ⟨15, 0⟩
def RCK_SOFT (n : Nat) : Nat := 0x10002 + n * 0x10
def RCK_SOFT_SET_f : Fld := ⟨23, 23⟩
def RCK_HALT (n : Nat) : Nat := 0x10003 + n * 0x10
def RCK_HALT_CAUSE_f : Fld := ⟨23, 20⟩
def RCK_HALT_PC_f : Fld := ⟨15, 0⟩
def RCK_LMCE_LO (n : Nat) : Nat := 0x10004 + n * 0x10
def RCK_LMCE_LO_COUNT_f : Fld := ⟨23, 0⟩
def RCK_LMCE_HI (n : Nat) : Nat := 0x10005 + n * 0x10
def RCK_LMCE_HI_COUNT_f : Fld := ⟨23, 0⟩
def RCK_LMUE_LO (n : Nat) : Nat := 0x10006 + n * 0x10
def RCK_LMUE_LO_COUNT_f : Fld := ⟨23, 0⟩
def RCK_LMUE_HI (n : Nat) : Nat := 0x10007 + n * 0x10
def RCK_LMUE_HI_COUNT_f : Fld := ⟨23, 0⟩
def RCK_INDROP_LO (n : Nat) : Nat := 0x10008 + n * 0x10
def RCK_INDROP_LO_COUNT_f : Fld := ⟨23, 0⟩
def RCK_INDROP_HI (n : Nat) : Nat := 0x10009 + n * 0x10
def RCK_INDROP_HI_COUNT_f : Fld := ⟨23, 0⟩

/-! Block ROD (R249), window 0x30020000. -/
def ROD_STAT (n : Nat) : Nat := 0x20000 + n * 0x10
def ROD_STAT_STATE_f : Fld := ⟨23, 22⟩
def ROD_STAT_WAITING_f : Fld := ⟨7, 0⟩

/-! Block CMX (R267), window 0x30030000. -/
def CMX_CTL (n : Nat) : Nat := 0x30000 + n * 0x10
def CMX_CTL_EN_f : Fld := ⟨23, 23⟩
def CMX_CTL_RST_f : Fld := ⟨22, 22⟩
def CMX_CTL_FREL_f : Fld := ⟨21, 21⟩
def CMX_STAT (n : Nat) : Nat := 0x30001 + n * 0x10
def CMX_STAT_STATE_f : Fld := ⟨23, 22⟩
def CMX_STAT_OWNED_f : Fld := ⟨21, 21⟩
def CMX_STAT_OWNER_f : Fld := ⟨20, 18⟩
def CMX_STAT_SAT_f : Fld := ⟨17, 17⟩
def CMX_STAT_QDEPTH_f : Fld := ⟨16, 14⟩
def CMX_STAT_WAITERS_f : Fld := ⟨7, 0⟩
def CMX_LERR (n : Nat) : Nat := 0x30002 + n * 0x10
def CMX_LERR_VALID_f : Fld := ⟨23, 23⟩
def CMX_LERR_MORE_f : Fld := ⟨22, 22⟩
def CMX_LERR_CAUSE_f : Fld := ⟨21, 18⟩
def CMX_LERR_MREG_f : Fld := ⟨17, 15⟩
def CMX_LERR_INDEX_f : Fld := ⟨14, 11⟩
def CMX_LERRPC (n : Nat) : Nat := 0x30003 + n * 0x10
def CMX_LERRPC_CORE_f : Fld := ⟨18, 16⟩
def CMX_LERRPC_PC_f : Fld := ⟨15, 0⟩
def CMX_OPS_LO (n : Nat) : Nat := 0x30004 + n * 0x10
def CMX_OPS_LO_COUNT_f : Fld := ⟨23, 0⟩
def CMX_OPS_HI (n : Nat) : Nat := 0x30005 + n * 0x10
def CMX_OPS_HI_COUNT_f : Fld := ⟨23, 0⟩
def CMX_SQUASH_LO (n : Nat) : Nat := 0x30006 + n * 0x10
def CMX_SQUASH_LO_COUNT_f : Fld := ⟨23, 0⟩
def CMX_SQUASH_HI (n : Nat) : Nat := 0x30007 + n * 0x10
def CMX_SQUASH_HI_COUNT_f : Fld := ⟨23, 0⟩

/-! Block PGC (R299), window 0x30040000. -/
def PGC_SCRUB_CTL : Nat := 0x40000
def PGC_SCRUB_CTL_EN_f : Fld := ⟨23, 23⟩
def PGC_SCRUB_CTL_HOURS_f : Fld := ⟨7, 0⟩
def PGC_SCRUB_STAT : Nat := 0x40001
def PGC_SCRUB_STAT_PASS_f : Fld := ⟨23, 16⟩
def PGC_SCRUB_STAT_CURSOR_f : Fld := ⟨11, 0⟩
def PGC_SCRUB_FIX_LO : Nat := 0x40002
def PGC_SCRUB_FIX_LO_COUNT_f : Fld := ⟨23, 0⟩
def PGC_SCRUB_FIX_HI : Nat := 0x40003
def PGC_SCRUB_FIX_HI_COUNT_f : Fld := ⟨23, 0⟩
def PGC_SCRUB_SKIP_LO : Nat := 0x40004
def PGC_SCRUB_SKIP_LO_COUNT_f : Fld := ⟨23, 0⟩
def PGC_SCRUB_SKIP_HI : Nat := 0x40005
def PGC_SCRUB_SKIP_HI_COUNT_f : Fld := ⟨23, 0⟩
def PGC_RMCFG : Nat := 0x40008
def PGC_RMCFG_AUTO_f : Fld := ⟨23, 23⟩
def PGC_RMCFG_MARGIN_f : Fld := ⟨22, 20⟩
def PGC_RMCFG_LOW_f : Fld := ⟨5, 0⟩
def PGC_REMAP : Nat := 0x40009
def PGC_REMAP_GO_f : Fld := ⟨23, 23⟩
def PGC_REMAP_BUSY_f : Fld := ⟨22, 22⟩
def PGC_REMAP_ERR_f : Fld := ⟨21, 21⟩
def PGC_REMAP_PAGE_f : Fld := ⟨16, 0⟩
def PGC_RECMD : Nat := 0x4000A
def PGC_RECMD_GO_f : Fld := ⟨23, 23⟩
def PGC_RECMD_BUSY_f : Fld := ⟨22, 22⟩
def PGC_RECMD_ERR_f : Fld := ⟨21, 21⟩
def PGC_RECMD_TNEW_f : Fld := ⟨18, 16⟩
def PGC_RECMD_REGION_f : Fld := ⟨8, 0⟩
def PGC_FLIP_MASK : Nat := 0x4000C
def PGC_FLIP_MASK_ARM_f : Fld := ⟨23, 23⟩
def PGC_FLIP_MASK_DONE_f : Fld := ⟨22, 22⟩
def PGC_FLIP_MASK_PAGE_f : Fld := ⟨16, 0⟩
def PGC_FLIP_POS (k : Nat) : Nat := 0x40010 + k
def PGC_FLIP_POS_V_f : Fld := ⟨23, 23⟩
def PGC_FLIP_POS_POS_f : Fld := ⟨13, 0⟩
def PGC_LOGCTL : Nat := 0x40030
def PGC_LOGCTL_OVF_f : Fld := ⟨23, 23⟩
def PGC_LOGCTL_TAIL_f : Fld := ⟨13, 8⟩
def PGC_LOGCTL_HEAD_f : Fld := ⟨5, 0⟩
def PGC_POISON_STAT : Nat := 0x40031
def PGC_POISON_STAT_OVF_f : Fld := ⟨23, 23⟩
def PGC_POISON_STAT_COUNT_f : Fld := ⟨8, 0⟩
def PGC_LOG (e : Nat) (w : Nat) : Nat := 0x40100 + e * 0x4 + w
def PGC_LOG_WORD_f : Fld := ⟨23, 0⟩
def PGC_POISON (k : Nat) : Nat := 0x40200 + k
def PGC_POISON_VALID_f : Fld := ⟨23, 23⟩
def PGC_POISON_PAGE_f : Fld := ⟨16, 0⟩
def PGC_REG (r : Nat) : Nat := 0x40400 + r
def PGC_REG_BUSY_f : Fld := ⟨23, 23⟩
def PGC_REG_PASSFLAG_f : Fld := ⟨22, 22⟩
def PGC_REG_TCUR_f : Fld := ⟨21, 19⟩
def PGC_REG_TNEW_f : Fld := ⟨18, 16⟩
def PGC_REG_CURSOR_f : Fld := ⟨15, 8⟩
def PGC_REG_REVER_f : Fld := ⟨7, 0⟩
def PGC_MAP (b : Nat) (k : Nat) : Nat := 0x41000 + b * 0x40 + k
def PGC_MAP_VALID_f : Fld := ⟨23, 23⟩
def PGC_MAP_BAD_f : Fld := ⟨22, 22⟩
def PGC_MAP_PAGE_f : Fld := ⟨11, 0⟩

/-! Block MEM (R299), window 0x30050000. -/
def MEM_STAT : Nat := 0x50000
def MEM_STAT_INITDONE_f : Fld := ⟨23, 23⟩
def MEM_FLUSH : Nat := 0x50001
def MEM_FLUSH_GO_f : Fld := ⟨23, 23⟩
def MEM_FLUSH_BUSY_f : Fld := ⟨22, 22⟩
def MEM_FLUSH_ALL_f : Fld := ⟨21, 21⟩
def MEM_FLUSH_DROP_f : Fld := ⟨20, 20⟩
def MEM_FLUSH_ERR_f : Fld := ⟨19, 19⟩
def MEM_FLUSH_PAGE_f : Fld := ⟨16, 0⟩
def MEM_BANK (b : Nat) : Nat := 0x50100 + b * 0x10
def MEM_BANK_VALIDW_f : Fld := ⟨23, 16⟩
def MEM_BANK_DIRTYW_f : Fld := ⟨15, 8⟩
def MEM_BANK_SPARES_f : Fld := ⟨6, 0⟩
def MEM_CE_LO (b : Nat) : Nat := 0x50101 + b * 0x10
def MEM_CE_LO_COUNT_f : Fld := ⟨23, 0⟩
def MEM_CE_HI (b : Nat) : Nat := 0x50102 + b * 0x10
def MEM_CE_HI_COUNT_f : Fld := ⟨23, 0⟩
def MEM_CEBIT_LO (b : Nat) : Nat := 0x50103 + b * 0x10
def MEM_CEBIT_LO_COUNT_f : Fld := ⟨23, 0⟩
def MEM_CEBIT_HI (b : Nat) : Nat := 0x50104 + b * 0x10
def MEM_CEBIT_HI_COUNT_f : Fld := ⟨23, 0⟩
def MEM_UE_LO (b : Nat) : Nat := 0x50105 + b * 0x10
def MEM_UE_LO_COUNT_f : Fld := ⟨23, 0⟩
def MEM_UE_HI (b : Nat) : Nat := 0x50106 + b * 0x10
def MEM_UE_HI_COUNT_f : Fld := ⟨23, 0⟩
def MEM_MISS_LO (b : Nat) : Nat := 0x50107 + b * 0x10
def MEM_MISS_LO_COUNT_f : Fld := ⟨23, 0⟩
def MEM_MISS_HI (b : Nat) : Nat := 0x50108 + b * 0x10
def MEM_MISS_HI_COUNT_f : Fld := ⟨23, 0⟩
def MEM_WCE_LO (b : Nat) : Nat := 0x50109 + b * 0x10
def MEM_WCE_LO_COUNT_f : Fld := ⟨23, 0⟩
def MEM_WCE_HI (b : Nat) : Nat := 0x5010A + b * 0x10
def MEM_WCE_HI_COUNT_f : Fld := ⟨23, 0⟩

/-! Block DMA (R323), window 0x30060000. -/
def DMA_ECTL (e : Nat) : Nat := 0x60000 + e * 0x8000
def DMA_ECTL_EN_f : Fld := ⟨23, 23⟩
def DMA_ECTL_ACTIVE_f : Fld := ⟨6, 0⟩
def DMA_ECFG (e : Nat) : Nat := 0x60001 + e * 0x8000
def DMA_ECFG_RTMO_f : Fld := ⟨11, 0⟩
def DMA_BYTES_LO (e : Nat) : Nat := 0x60002 + e * 0x8000
def DMA_BYTES_LO_COUNT_f : Fld := ⟨23, 0⟩
def DMA_BYTES_HI (e : Nat) : Nat := 0x60003 + e * 0x8000
def DMA_BYTES_HI_COUNT_f : Fld := ⟨23, 0⟩
def DMA_CTL (e : Nat) (c : Nat) : Nat := 0x60100 + e * 0x8000 + c * 0x20
def DMA_CTL_START_f : Fld := ⟨23, 23⟩
def DMA_CTL_STOP_f : Fld := ⟨22, 22⟩
def DMA_CTL_LOAD_f : Fld := ⟨21, 21⟩
def DMA_CTL_BARRIER_f : Fld := ⟨15, 15⟩
def DMA_CTL_CHAIN_f : Fld := ⟨14, 14⟩
def DMA_CTL_NOTIFY_f : Fld := ⟨13, 13⟩
def DMA_CTL_ORDER_f : Fld := ⟨12, 11⟩
def DMA_CTL_PRI_f : Fld := ⟨10, 10⟩
def DMA_SEQ (e : Nat) (c : Nat) : Nat := 0x60101 + e * 0x8000 + c * 0x20
def DMA_SEQ_SEQ_f : Fld := ⟨23, 0⟩
def DMA_SRC_LO (e : Nat) (c : Nat) : Nat := 0x60102 + e * 0x8000 + c * 0x20
def DMA_SRC_LO_ADDR_f : Fld := ⟨23, 0⟩
def DMA_SRC_HI (e : Nat) (c : Nat) : Nat := 0x60103 + e * 0x8000 + c * 0x20
def DMA_SRC_HI_DEV_f : Fld := ⟨23, 14⟩
def DMA_SRC_HI_REM_f : Fld := ⟨13, 13⟩
def DMA_SRC_HI_LANE_f : Fld := ⟨9, 8⟩
def DMA_SRC_HI_ADDR_f : Fld := ⟨7, 0⟩
def DMA_SLEN (e : Nat) (c : Nat) : Nat := 0x60104 + e * 0x8000 + c * 0x20
def DMA_SLEN_SLEN_f : Fld := ⟨23, 0⟩
def DMA_SSTRIDE (e : Nat) (c : Nat) : Nat := 0x60105 + e * 0x8000 + c * 0x20
def DMA_SSTRIDE_SSTRIDE_f : Fld := ⟨23, 0⟩
def DMA_SLINES (e : Nat) (c : Nat) : Nat := 0x60106 + e * 0x8000 + c * 0x20
def DMA_SLINES_SLINES_f : Fld := ⟨23, 0⟩
def DMA_DST_LO (e : Nat) (c : Nat) : Nat := 0x60107 + e * 0x8000 + c * 0x20
def DMA_DST_LO_ADDR_f : Fld := ⟨23, 0⟩
def DMA_DST_HI (e : Nat) (c : Nat) : Nat := 0x60108 + e * 0x8000 + c * 0x20
def DMA_DST_HI_DEV_f : Fld := ⟨23, 14⟩
def DMA_DST_HI_REM_f : Fld := ⟨13, 13⟩
def DMA_DST_HI_LANE_f : Fld := ⟨9, 8⟩
def DMA_DST_HI_ADDR_f : Fld := ⟨7, 0⟩
def DMA_DLEN (e : Nat) (c : Nat) : Nat := 0x60109 + e * 0x8000 + c * 0x20
def DMA_DLEN_DLEN_f : Fld := ⟨23, 0⟩
def DMA_DSTRIDE (e : Nat) (c : Nat) : Nat := 0x6010A + e * 0x8000 + c * 0x20
def DMA_DSTRIDE_DSTRIDE_f : Fld := ⟨23, 0⟩
def DMA_DLINES (e : Nat) (c : Nat) : Nat := 0x6010B + e * 0x8000 + c * 0x20
def DMA_DLINES_DLINES_f : Fld := ⟨23, 0⟩
def DMA_LEN (e : Nat) (c : Nat) : Nat := 0x6010C + e * 0x8000 + c * 0x20
def DMA_LEN_LEN_f : Fld := ⟨23, 0⟩
def DMA_NEXT_LO (e : Nat) (c : Nat) : Nat := 0x6010E + e * 0x8000 + c * 0x20
def DMA_NEXT_LO_ADDR_f : Fld := ⟨23, 0⟩
def DMA_NEXT_HI (e : Nat) (c : Nat) : Nat := 0x6010F + e * 0x8000 + c * 0x20
def DMA_NEXT_HI_ADDR_f : Fld := ⟨7, 0⟩
def DMA_STATUS (e : Nat) (c : Nat) : Nat := 0x60110 + e * 0x8000 + c * 0x20
def DMA_STATUS_STATE_f : Fld := ⟨23, 21⟩
def DMA_STATUS_ERR_f : Fld := ⟨20, 17⟩
def DMA_BEAT (e : Nat) (c : Nat) : Nat := 0x60111 + e * 0x8000 + c * 0x20
def DMA_BEAT_BEAT_f : Fld := ⟨23, 0⟩
def DMA_COUNT (e : Nat) (c : Nat) : Nat := 0x60112 + e * 0x8000 + c * 0x20
def DMA_COUNT_COUNT_f : Fld := ⟨23, 0⟩
def DMA_RESIDUAL (e : Nat) (c : Nat) : Nat := 0x60113 + e * 0x8000 + c * 0x20
def DMA_RESIDUAL_RESIDUAL_f : Fld := ⟨23, 0⟩
def DMA_NOTIFY (e : Nat) (c : Nat) : Nat := 0x60114 + e * 0x8000 + c * 0x20
def DMA_NOTIFY_DEVICE_f : Fld := ⟨23, 14⟩
def DMA_NOTIFY_UNIT_f : Fld := ⟨13, 2⟩
def DMA_OWN (e : Nat) (c : Nat) : Nat := 0x60115 + e * 0x8000 + c * 0x20
def DMA_OWN_VALID_f : Fld := ⟨23, 23⟩
def DMA_OWN_REM_f : Fld := ⟨22, 22⟩
def DMA_OWN_DEVICE_f : Fld := ⟨21, 12⟩
def DMA_OWN_UNIT_f : Fld := ⟨11, 0⟩
def DMA_LATE (e : Nat) (c : Nat) : Nat := 0x60116 + e * 0x8000 + c * 0x20
def DMA_LATE_VALID_f : Fld := ⟨23, 23⟩
def DMA_LATE_MORE_f : Fld := ⟨22, 22⟩
def DMA_LATESEQ (e : Nat) (c : Nat) : Nat := 0x60117 + e * 0x8000 + c * 0x20
def DMA_LATESEQ_SEQ_f : Fld := ⟨23, 0⟩
def DMA_LATEBEAT (e : Nat) (c : Nat) : Nat := 0x60118 + e * 0x8000 + c * 0x20
def DMA_LATEBEAT_BEAT_f : Fld := ⟨23, 0⟩
def DMA_LATERES (e : Nat) (c : Nat) : Nat := 0x60119 + e * 0x8000 + c * 0x20
def DMA_LATERES_RES_f : Fld := ⟨23, 0⟩

/-! Block LNC (R100), window 0x30070000. -/
def LNC_GCTL : Nat := 0x70000
def LNC_GCTL_EN_f : Fld := ⟨23, 23⟩
def LNC_GCTL_HELD_f : Fld := ⟨22, 22⟩
def LNC_SLIP_LO : Nat := 0x70002
def LNC_SLIP_LO_COUNT_f : Fld := ⟨23, 0⟩
def LNC_SLIP_HI : Nat := 0x70003
def LNC_SLIP_HI_COUNT_f : Fld := ⟨23, 0⟩
def LNC_CTL (n : Nat) : Nat := 0x70100 + n * 0x10
def LNC_CTL_EN_f : Fld := ⟨23, 23⟩
def LNC_CTL_MODE_f : Fld := ⟨22, 22⟩
def LNC_CTL_FEEDQ_f : Fld := ⟨9, 0⟩
def LNC_STAT (n : Nat) : Nat := 0x70101 + n * 0x10
def LNC_STAT_STATE_f : Fld := ⟨23, 22⟩
def LNC_STAT_NEXT_f : Fld := ⟨11, 0⟩
def LNC_CYCLE (n : Nat) : Nat := 0x70102 + n * 0x10
def LNC_CYCLE_CYCLES_f : Fld := ⟨23, 0⟩
def LNC_LATE_LO (n : Nat) : Nat := 0x70103 + n * 0x10
def LNC_LATE_LO_COUNT_f : Fld := ⟨23, 0⟩
def LNC_LATE_HI (n : Nat) : Nat := 0x70104 + n * 0x10
def LNC_LATE_HI_COUNT_f : Fld := ⟨23, 0⟩
def LNC_BAD_LO (n : Nat) : Nat := 0x70105 + n * 0x10
def LNC_BAD_LO_COUNT_f : Fld := ⟨23, 0⟩
def LNC_BAD_HI (n : Nat) : Nat := 0x70106 + n * 0x10
def LNC_BAD_HI_COUNT_f : Fld := ⟨23, 0⟩

/-! Block DLQ (R100), window 0x30080000. -/
def DLQ_CFG (n : Nat) : Nat := 0x80100 + n * 0x10
def DLQ_CFG_EN_f : Fld := ⟨23, 23⟩
def DLQ_CFG_NOSERVO_f : Fld := ⟨22, 22⟩
def DLQ_CFG_DEFDL_f : Fld := ⟨21, 16⟩
def DLQ_CFG_QUEUE_f : Fld := ⟨9, 0⟩
def DLQ_STAT (n : Nat) : Nat := 0x80101 + n * 0x10
def DLQ_STAT_DEPTH_f : Fld := ⟨23, 12⟩
def DLQ_STAT_WORST_f : Fld := ⟨11, 0⟩
def DLQ_MISS_LO (n : Nat) : Nat := 0x80102 + n * 0x10
def DLQ_MISS_LO_COUNT_f : Fld := ⟨23, 0⟩
def DLQ_MISS_HI (n : Nat) : Nat := 0x80103 + n * 0x10
def DLQ_MISS_HI_COUNT_f : Fld := ⟨23, 0⟩
def DLQ_LATE_LO (n : Nat) : Nat := 0x80104 + n * 0x10
def DLQ_LATE_LO_COUNT_f : Fld := ⟨23, 0⟩
def DLQ_LATE_HI (n : Nat) : Nat := 0x80105 + n * 0x10
def DLQ_LATE_HI_COUNT_f : Fld := ⟨23, 0⟩
def DLQ_MIG_LO (n : Nat) : Nat := 0x80106 + n * 0x10
def DLQ_MIG_LO_COUNT_f : Fld := ⟨23, 0⟩
def DLQ_MIG_HI (n : Nat) : Nat := 0x80107 + n * 0x10
def DLQ_MIG_HI_COUNT_f : Fld := ⟨23, 0⟩
def DLQ_OFF_LO (n : Nat) : Nat := 0x80108 + n * 0x10
def DLQ_OFF_LO_COUNT_f : Fld := ⟨23, 0⟩
def DLQ_OFF_HI (n : Nat) : Nat := 0x80109 + n * 0x10
def DLQ_OFF_HI_COUNT_f : Fld := ⟨23, 0⟩

/-! Block QUE (R339), window 0x30090000. -/
def QUE_GSTAT : Nat := 0x90000
def QUE_GSTAT_LCOUNT_f : Fld := ⟨23, 17⟩
def QUE_GSTAT_ENCOUNT_f : Fld := ⟨10, 0⟩
def QUE_CFG (n : Nat) : Nat := 0x90100 + n * 0x10
def QUE_CFG_EN_f : Fld := ⟨23, 23⟩
def QUE_CFG_CLASS_f : Fld := ⟨22, 21⟩
def QUE_CFG_WW_f : Fld := ⟨20, 19⟩
def QUE_CFG_IMODE_f : Fld := ⟨18, 17⟩
def QUE_CFG_BOFS_f : Fld := ⟨16, 15⟩
def QUE_CFG_KEYMODE_f : Fld := ⟨14, 14⟩
def QUE_CFG_NOTIFY_f : Fld := ⟨13, 13⟩
def QUE_BASE (n : Nat) : Nat := 0x90101 + n * 0x10
def QUE_BASE_BASE_f : Fld := ⟨17, 0⟩
def QUE_CAP (n : Nat) : Nat := 0x90102 + n * 0x10
def QUE_CAP_CAP_f : Fld := ⟨17, 0⟩
def QUE_ITEM (n : Nat) : Nat := 0x90103 + n * 0x10
def QUE_ITEM_LPOS_f : Fld := ⟨23, 19⟩
def QUE_ITEM_LWM1_f : Fld := ⟨18, 15⟩
def QUE_ITEM_LADD_f : Fld := ⟨14, 11⟩
def QUE_ITEM_ILEN_f : Fld := ⟨10, 0⟩
def QUE_PROD (n : Nat) : Nat := 0x90104 + n * 0x10
def QUE_PROD_VALID_f : Fld := ⟨23, 23⟩
def QUE_PROD_UNIT_f : Fld := ⟨11, 0⟩
def QUE_CONS (n : Nat) : Nat := 0x90105 + n * 0x10
def QUE_CONS_VALID_f : Fld := ⟨23, 23⟩
def QUE_CONS_UNIT_f : Fld := ⟨11, 0⟩
def QUE_NOTIFY (n : Nat) : Nat := 0x90106 + n * 0x10
def QUE_NOTIFY_DEVICE_f : Fld := ⟨23, 14⟩
def QUE_NOTIFY_UNIT_f : Fld := ⟨13, 2⟩
def QUE_CTL (n : Nat) : Nat := 0x90107 + n * 0x10
def QUE_CTL_RST_f : Fld := ⟨23, 23⟩
def QUE_STAT (n : Nat) : Nat := 0x90108 + n * 0x10
def QUE_STAT_STATE_f : Fld := ⟨23, 22⟩
def QUE_STAT_PARTIAL_f : Fld := ⟨21, 21⟩
def QUE_STAT_RDCUT_f : Fld := ⟨20, 20⟩
def QUE_STAT_DEPTH_f : Fld := ⟨17, 0⟩
def QUE_ITEMS (n : Nat) : Nat := 0x90109 + n * 0x10
def QUE_ITEMS_ITEMS_f : Fld := ⟨23, 0⟩
def QUE_CUT_LO (n : Nat) : Nat := 0x9010A + n * 0x10
def QUE_CUT_LO_COUNT_f : Fld := ⟨23, 0⟩
def QUE_CUT_HI (n : Nat) : Nat := 0x9010B + n * 0x10
def QUE_CUT_HI_COUNT_f : Fld := ⟨23, 0⟩
def QUE_MISM_LO (n : Nat) : Nat := 0x9010C + n * 0x10
def QUE_MISM_LO_COUNT_f : Fld := ⟨23, 0⟩
def QUE_MISM_HI (n : Nat) : Nat := 0x9010D + n * 0x10
def QUE_MISM_HI_COUNT_f : Fld := ⟨23, 0⟩
def QUE_DROP_LO (n : Nat) : Nat := 0x9010E + n * 0x10
def QUE_DROP_LO_COUNT_f : Fld := ⟨23, 0⟩
def QUE_DROP_HI (n : Nat) : Nat := 0x9010F + n * 0x10
def QUE_DROP_HI_COUNT_f : Fld := ⟨23, 0⟩

/-! Block TIM (R383), window 0x300A0000. -/
def TIM_CTL : Nat := 0xA0000
def TIM_CTL_VALID_f : Fld := ⟨23, 23⟩
def TIM_CTL_REFOK_f : Fld := ⟨22, 22⟩
def TIM_CTL_FREERUN_f : Fld := ⟨21, 21⟩
def TIM_CTL_TSET_f : Fld := ⟨20, 20⟩
def TIM_CTL_SLEWING_f : Fld := ⟨19, 19⟩
def TIM_CTL_ARMED_f : Fld := ⟨18, 18⟩
def TIM_CTL_ERR_f : Fld := ⟨17, 17⟩
def TIM_CTL_STEPGUARD_f : Fld := ⟨7, 0⟩
def TIM_REFCFG : Nat := 0xA0001
def TIM_REFCFG_MULT_f : Fld := ⟨6, 0⟩
def TIM_INC_LO : Nat := 0xA0002
def TIM_INC_LO_FRACL_f : Fld := ⟨23, 0⟩
def TIM_INC_HI : Nat := 0xA0003
def TIM_INC_HI_NS_f : Fld := ⟨23, 16⟩
def TIM_INC_HI_FRACH_f : Fld := ⟨15, 0⟩
def TIM_WRUNIT : Nat := 0xA0004
def TIM_WRUNIT_VALID_f : Fld := ⟨23, 23⟩
def TIM_WRUNIT_UNIT_f : Fld := ⟨11, 0⟩
def TIM_NOW_SL : Nat := 0xA0010
def TIM_NOW_SL_SEC_f : Fld := ⟨23, 0⟩
def TIM_NOW_SH : Nat := 0xA0011
def TIM_NOW_SH_SEC_f : Fld := ⟨23, 0⟩
def TIM_NOW_NSL : Nat := 0xA0012
def TIM_NOW_NSL_NS_f : Fld := ⟨23, 0⟩
def TIM_NOW_NSH : Nat := 0xA0013
def TIM_NOW_NSH_TV_f : Fld := ⟨23, 23⟩
def TIM_NOW_NSH_NS_f : Fld := ⟨5, 0⟩
def TIM_NOW_FR : Nat := 0xA0014
def TIM_NOW_FR_FRAC_f : Fld := ⟨15, 0⟩
def TIM_SET_SL : Nat := 0xA0020
def TIM_SET_SL_SEC_f : Fld := ⟨23, 0⟩
def TIM_SET_SH : Nat := 0xA0021
def TIM_SET_SH_SEC_f : Fld := ⟨23, 0⟩
def TIM_SET_NSL : Nat := 0xA0022
def TIM_SET_NSL_NS_f : Fld := ⟨23, 0⟩
def TIM_SET_NSH : Nat := 0xA0023
def TIM_SET_NSH_NS_f : Fld := ⟨5, 0⟩
def TIM_CMD : Nat := 0xA0024
def TIM_CMD_GO_f : Fld := ⟨23, 23⟩
def TIM_CMD_OP_f : Fld := ⟨22, 20⟩
def TIM_OFS_LO : Nat := 0xA0025
def TIM_OFS_LO_OFSL_f : Fld := ⟨23, 0⟩
def TIM_OFS_HI : Nat := 0xA0026
def TIM_OFS_HI_OFSH_f : Fld := ⟨5, 0⟩
def TIM_SLEW : Nat := 0xA0027
def TIM_SLEW_RATE_f : Fld := ⟨9, 0⟩
def TIM_REM_LO : Nat := 0xA0028
def TIM_REM_LO_REML_f : Fld := ⟨23, 0⟩
def TIM_REM_HI : Nat := 0xA0029
def TIM_REM_HI_REMH_f : Fld := ⟨5, 0⟩
def TIM_PPSI_CFG : Nat := 0xA0030
def TIM_PPSI_CFG_EN_f : Fld := ⟨23, 23⟩
def TIM_PPSI_CFG_EDGE_f : Fld := ⟨22, 22⟩
def TIM_PPSI_CFG_DLY_f : Fld := ⟨15, 0⟩
def TIM_PPSI_SL : Nat := 0xA0031
def TIM_PPSI_SL_SEC_f : Fld := ⟨23, 0⟩
def TIM_PPSI_SH : Nat := 0xA0032
def TIM_PPSI_SH_SEC_f : Fld := ⟨23, 0⟩
def TIM_PPSI_NSL : Nat := 0xA0033
def TIM_PPSI_NSL_NS_f : Fld := ⟨23, 0⟩
def TIM_PPSI_NSH : Nat := 0xA0034
def TIM_PPSI_NSH_TV_f : Fld := ⟨23, 23⟩
def TIM_PPSI_NSH_NS_f : Fld := ⟨5, 0⟩
def TIM_PPSI_FR : Nat := 0xA0035
def TIM_PPSI_FR_FRAC_f : Fld := ⟨15, 0⟩
def TIM_PPSI_CNT : Nat := 0xA0036
def TIM_PPSI_CNT_CNT_f : Fld := ⟨23, 0⟩
def TIM_PPSO_CFG : Nat := 0xA0038
def TIM_PPSO_CFG_EN_f : Fld := ⟨23, 23⟩
def TIM_PPSO_CFG_FREE_f : Fld := ⟨22, 22⟩
def TIM_PPSO_CFG_POL_f : Fld := ⟨21, 21⟩
def TIM_PPSO_CFG_WIDTH_f : Fld := ⟨15, 8⟩
def TIM_PPSO_DLY : Nat := 0xA0039
def TIM_PPSO_DLY_DLY_f : Fld := ⟨15, 0⟩
def TIM_CMP_CTL (k : Nat) : Nat := 0xA0100 + k * 0x8
def TIM_CMP_CTL_EN_f : Fld := ⟨23, 23⟩
def TIM_CMP_CTL_PER_f : Fld := ⟨22, 22⟩
def TIM_CMP_CTL_NOTE_f : Fld := ⟨21, 21⟩
def TIM_CMP_CTL_WAKE_f : Fld := ⟨20, 20⟩
def TIM_CMP_CTL_DUE_f : Fld := ⟨19, 19⟩
def TIM_CMP_CTL_SKIP_f : Fld := ⟨18, 18⟩
def TIM_CMP_TS (k : Nat) : Nat := 0xA0101 + k * 0x8
def TIM_CMP_TS_S_f : Fld := ⟨23, 0⟩
def TIM_CMP_TNSL (k : Nat) : Nat := 0xA0102 + k * 0x8
def TIM_CMP_TNSL_NSL_f : Fld := ⟨23, 0⟩
def TIM_CMP_TNSH (k : Nat) : Nat := 0xA0103 + k * 0x8
def TIM_CMP_TNSH_NSH_f : Fld := ⟨5, 0⟩
def TIM_CMP_PERL (k : Nat) : Nat := 0xA0104 + k * 0x8
def TIM_CMP_PERL_PERL_f : Fld := ⟨23, 0⟩
def TIM_CMP_PERH (k : Nat) : Nat := 0xA0105 + k * 0x8
def TIM_CMP_PERH_PERH_f : Fld := ⟨5, 0⟩
def TIM_CMP_DEST (k : Nat) : Nat := 0xA0106 + k * 0x8
def TIM_CMP_DEST_DEVICE_f : Fld := ⟨23, 14⟩
def TIM_CMP_DEST_UNIT_f : Fld := ⟨13, 2⟩

/-! Block EVT (R560), window 0x300B0000. -/
def EVT_CTL : Nat := 0xB0000
def EVT_CTL_EN_f : Fld := ⟨23, 23⟩
def EVT_CTL_NOTIFY_f : Fld := ⟨22, 22⟩
def EVT_RBASE_LO : Nat := 0xB0001
def EVT_RBASE_LO_BASE_f : Fld := ⟨23, 0⟩
def EVT_RBASE_HI : Nat := 0xB0002
def EVT_RBASE_HI_BASE_f : Fld := ⟨7, 0⟩
def EVT_RLEN : Nat := 0xB0003
def EVT_RLEN_LEN_f : Fld := ⟨15, 0⟩
def EVT_HEAD : Nat := 0xB0004
def EVT_HEAD_HEAD_f : Fld := ⟨15, 0⟩
def EVT_TAIL : Nat := 0xB0005
def EVT_TAIL_TAIL_f : Fld := ⟨15, 0⟩
def EVT_DEST : Nat := 0xB0006
def EVT_DEST_DEVICE_f : Fld := ⟨23, 14⟩
def EVT_DEST_UNIT_f : Fld := ⟨13, 2⟩
def EVT_FWD : Nat := 0xB0007
def EVT_FWD_UNIT_f : Fld := ⟨23, 12⟩
def EVT_FWD_CLASSES_f : Fld := ⟨10, 0⟩
def EVT_STAT : Nat := 0xB0008
def EVT_STAT_OVF_f : Fld := ⟨23, 23⟩
def EVT_STAT_TAILOVF_f : Fld := ⟨22, 22⟩
def EVT_NEXTSEQ : Nat := 0xB0009
def EVT_NEXTSEQ_SEQ_f : Fld := ⟨23, 0⟩
def EVT_DROP_LO : Nat := 0xB0010
def EVT_DROP_LO_COUNT_f : Fld := ⟨23, 0⟩
def EVT_DROP_HI : Nat := 0xB0011
def EVT_DROP_HI_COUNT_f : Fld := ⟨23, 0⟩
def EVT_SUPPR_LO : Nat := 0xB0012
def EVT_SUPPR_LO_COUNT_f : Fld := ⟨23, 0⟩
def EVT_SUPPR_HI : Nat := 0xB0013
def EVT_SUPPR_HI_COUNT_f : Fld := ⟨23, 0⟩

/-! Block DFE (R135), window 0x300C0000. -/
def DFE_CTL (n : Nat) : Nat := 0xC0000 + n * 0x1000
def DFE_CTL_EN_f : Fld := ⟨23, 23⟩
def DFE_CTL_RXCAU_f : Fld := ⟨20, 12⟩
def DFE_CTL_TXCAU_f : Fld := ⟨7, 0⟩
def DFE_IAGC (n : Nat) : Nat := 0xC0001 + n * 0x1000
def DFE_IAGC_TGTI_f : Fld := ⟨5, 0⟩
def DFE_TXUND_LO (n : Nat) : Nat := 0xC0002 + n * 0x1000
def DFE_TXUND_LO_COUNT_f : Fld := ⟨23, 0⟩
def DFE_TXUND_HI (n : Nat) : Nat := 0xC0003 + n * 0x1000
def DFE_TXUND_HI_COUNT_f : Fld := ⟨23, 0⟩
def DFE_RXCFG (n : Nat) (s : Nat) : Nat := 0xC0100 + n * 0x1000 + s * 0x8
def DFE_RXCFG_EN_f : Fld := ⟨23, 23⟩
def DFE_RXCFG_SRC_f : Fld := ⟨22, 20⟩
def DFE_RXCFG_KIND_f : Fld := ⟨19, 17⟩
def DFE_RXCFG_FMT_f : Fld := ⟨16, 16⟩
def DFE_RXCFG_CHAN_f : Fld := ⟨12, 8⟩
def DFE_RXNCO (n : Nat) (s : Nat) : Nat := 0xC0101 + n * 0x1000 + s * 0x8
def DFE_RXNCO_FREQ_f : Fld := ⟨23, 0⟩
def DFE_RXBASE_LO (n : Nat) (s : Nat) : Nat := 0xC0102 + n * 0x1000 + s * 0x8
def DFE_RXBASE_LO_BASE_f : Fld := ⟨23, 0⟩
def DFE_RXBASE_HI (n : Nat) (s : Nat) : Nat := 0xC0103 + n * 0x1000 + s * 0x8
def DFE_RXBASE_HI_BASE_f : Fld := ⟨7, 0⟩
def DFE_RXLEN (n : Nat) (s : Nat) : Nat := 0xC0104 + n * 0x1000 + s * 0x8
def DFE_RXLEN_FLOWID_f : Fld := ⟨23, 8⟩
def DFE_RXLEN_LEN_f : Fld := ⟨4, 0⟩
def DFE_RXAGC (n : Nat) (s : Nat) : Nat := 0xC0105 + n * 0x1000 + s * 0x8
def DFE_RXAGC_FREEZE_f : Fld := ⟨23, 23⟩
def DFE_RXAGC_MODE_f : Fld := ⟨22, 22⟩
def DFE_RXAGC_TGT_f : Fld := ⟨21, 16⟩
def DFE_RXAGC_STEP_f : Fld := ⟨15, 12⟩
def DFE_RXAGC_DEAD_f : Fld := ⟨11, 8⟩
def DFE_RXGAIN (n : Nat) (s : Nat) : Nat := 0xC0106 + n * 0x1000 + s * 0x8
def DFE_RXGAIN_G_f : Fld := ⟨11, 0⟩
def DFE_RXNF (n : Nat) (s : Nat) : Nat := 0xC0107 + n * 0x1000 + s * 0x8
def DFE_RXNF_VALID_f : Fld := ⟨23, 23⟩
def DFE_RXNF_STALE_f : Fld := ⟨22, 22⟩
def DFE_RXNF_LATECNT_f : Fld := ⟨21, 12⟩
def DFE_RXNF_NF_f : Fld := ⟨11, 0⟩
def DFE_TXCFG (n : Nat) (t : Nat) : Nat := 0xC0900 + n * 0x1000 + t * 0x8
def DFE_TXCFG_EN_f : Fld := ⟨23, 23⟩
def DFE_TXCFG_SINK_f : Fld := ⟨22, 20⟩
def DFE_TXCFG_KIND_f : Fld := ⟨19, 17⟩
def DFE_TXCFG_FMT_f : Fld := ⟨16, 16⟩
def DFE_TXCFG_CHAN_f : Fld := ⟨12, 8⟩
def DFE_TXCFG_ATT_f : Fld := ⟨7, 0⟩
def DFE_TXNCO (n : Nat) (t : Nat) : Nat := 0xC0901 + n * 0x1000 + t * 0x8
def DFE_TXNCO_FREQ_f : Fld := ⟨23, 0⟩
def DFE_TXBASE_LO (n : Nat) (t : Nat) : Nat := 0xC0902 + n * 0x1000 + t * 0x8
def DFE_TXBASE_LO_BASE_f : Fld := ⟨23, 0⟩
def DFE_TXBASE_HI (n : Nat) (t : Nat) : Nat := 0xC0903 + n * 0x1000 + t * 0x8
def DFE_TXBASE_HI_BASE_f : Fld := ⟨7, 0⟩
def DFE_TXLEN (n : Nat) (t : Nat) : Nat := 0xC0904 + n * 0x1000 + t * 0x8
def DFE_TXLEN_FLOWID_f : Fld := ⟨23, 8⟩
def DFE_TXLEN_LEN_f : Fld := ⟨4, 0⟩
def DFE_JCFG (k : Nat) : Nat := 0xCF000 + k * 0x10
def DFE_JCFG_EN_f : Fld := ⟨23, 23⟩
def DFE_JCFG_DIR_f : Fld := ⟨22, 22⟩
def DFE_JCFG_LM1_f : Fld := ⟨21, 19⟩
def DFE_JCFG_MM1_f : Fld := ⟨18, 15⟩
def DFE_JCFG_NM1_f : Fld := ⟨14, 11⟩
def DFE_JCFG_SC_f : Fld := ⟨10, 9⟩
def DFE_JCFG_EM1_f : Fld := ⟨8, 4⟩
def DFE_JRATE (k : Nat) : Nat := 0xCF001 + k * 0x10
def DFE_JRATE_KRATE_f : Fld := ⟨6, 0⟩
def DFE_JDLY (k : Nat) : Nat := 0xCF002 + k * 0x10
def DFE_JDLY_DLY_f : Fld := ⟨15, 0⟩
def DFE_JSTAT (k : Nat) : Nat := 0xCF003 + k * 0x10
def DFE_JSTAT_UP_f : Fld := ⟨23, 23⟩
def DFE_JSTAT_SYSOK_f : Fld := ⟨22, 22⟩
def DFE_JSTAT_CRCERR_f : Fld := ⟨21, 21⟩
def DFE_JSTAT_ALIGNERR_f : Fld := ⟨20, 20⟩
def DFE_NFCFG : Nat := 0xCF800
def DFE_NFCFG_IDLE_MIN_f : Fld := ⟨23, 16⟩
def DFE_NFCFG_NFA_f : Fld := ⟨15, 12⟩
def DFE_NFCFG_STALE_f : Fld := ⟨11, 0⟩
def DFE_FHCFG : Nat := 0xCF801
def DFE_FHCFG_FHWIN_f : Fld := ⟨23, 14⟩
def DFE_FHCFG_FHADV_f : Fld := ⟨13, 0⟩

/-! Block SPC (R135), window 0x300D0000. -/
def SPC_CTL (n : Nat) : Nat := 0xD0000 + n * 0x10
def SPC_CTL_EN_f : Fld := ⟨23, 23⟩
def SPC_CTL_DLQ_f : Fld := ⟨5, 0⟩
def SPC_STAT (n : Nat) : Nat := 0xD0001 + n * 0x10
def SPC_STAT_BUSY_f : Fld := ⟨23, 21⟩

/-! Block BDT (R173), window 0x300E0000. -/
def BDT_CTL (n : Nat) : Nat := 0xE0000 + n * 0x100
def BDT_CTL_EN_f : Fld := ⟨23, 23⟩
def BDT_CTL_TRLQ_f : Fld := ⟨22, 17⟩
def BDT_CTL_INUSE_f : Fld := ⟨7, 0⟩
def BDT_CCFG (n : Nat) (c : Nat) : Nat := 0xE0010 + n * 0x100 + c * 0x8
def BDT_CCFG_EN_f : Fld := ⟨23, 23⟩
def BDT_CCFG_RATE_f : Fld := ⟨22, 21⟩
def BDT_CCFG_HR_f : Fld := ⟨20, 19⟩
def BDT_CCFG_TOL_f : Fld := ⟨18, 16⟩
def BDT_CCFG_AUTOACK_f : Fld := ⟨15, 15⟩
def BDT_CCFG_DFE_f : Fld := ⟨14, 12⟩
def BDT_CCFG_STREAM_f : Fld := ⟨11, 4⟩
def BDT_CCFG_AM1_f : Fld := ⟨3, 0⟩
def BDT_CPOOL (n : Nat) (c : Nat) : Nat := 0xE0011 + n * 0x100 + c * 0x8
def BDT_CPOOL_CARRIER_f : Fld := ⟨23, 15⟩
def BDT_CPOOL_IPOOL_f : Fld := ⟨14, 8⟩
def BDT_CPOOL_THR_f : Fld := ⟨7, 0⟩
def BDT_USYNC_LO (n : Nat) (c : Nat) : Nat := 0xE0012 + n * 0x100 + c * 0x8
def BDT_USYNC_LO_SYNC_f : Fld := ⟨23, 0⟩
def BDT_USYNC_HI (n : Nat) (c : Nat) : Nat := 0xE0013 + n * 0x100 + c * 0x8
def BDT_USYNC_HI_SYNC_f : Fld := ⟨7, 0⟩
def BDT_ASYNC_LO (n : Nat) (c : Nat) : Nat := 0xE0014 + n * 0x100 + c * 0x8
def BDT_ASYNC_LO_SYNC_f : Fld := ⟨23, 0⟩
def BDT_ASYNC_HI (n : Nat) (c : Nat) : Nat := 0xE0015 + n * 0x100 + c * 0x8
def BDT_ASYNC_HI_SYNC_f : Fld := ⟨7, 0⟩
def BDT_CJNT (n : Nat) (c : Nat) : Nat := 0xE0016 + n * 0x100 + c * 0x8
def BDT_CJNT_JEN_f : Fld := ⟨23, 23⟩
def BDT_CJNT_RPTALL_f : Fld := ⟨22, 22⟩
def BDT_CJNT_GROUP_f : Fld := ⟨21, 16⟩
def BDT_CSTAT (n : Nat) (c : Nat) : Nat := 0xE0017 + n * 0x100 + c * 0x8
def BDT_CSTAT_INUSE_f : Fld := ⟨23, 16⟩
def BDT_DET_LO (n : Nat) : Nat := 0xE0090 + n * 0x100
def BDT_DET_LO_COUNT_f : Fld := ⟨23, 0⟩
def BDT_DET_HI (n : Nat) : Nat := 0xE0091 + n * 0x100
def BDT_DET_HI_COUNT_f : Fld := ⟨23, 0⟩
def BDT_NOSYNC_LO (n : Nat) : Nat := 0xE0092 + n * 0x100
def BDT_NOSYNC_LO_COUNT_f : Fld := ⟨23, 0⟩
def BDT_NOSYNC_HI (n : Nat) : Nat := 0xE0093 + n * 0x100
def BDT_NOSYNC_HI_COUNT_f : Fld := ⟨23, 0⟩
def BDT_PREEMPT_LO (n : Nat) : Nat := 0xE0094 + n * 0x100
def BDT_PREEMPT_LO_COUNT_f : Fld := ⟨23, 0⟩
def BDT_PREEMPT_HI (n : Nat) : Nat := 0xE0095 + n * 0x100
def BDT_PREEMPT_HI_COUNT_f : Fld := ⟨23, 0⟩
def BDT_DROP_LO (n : Nat) : Nat := 0xE0096 + n * 0x100
def BDT_DROP_LO_COUNT_f : Fld := ⟨23, 0⟩
def BDT_DROP_HI (n : Nat) : Nat := 0xE0097 + n * 0x100
def BDT_DROP_HI_COUNT_f : Fld := ⟨23, 0⟩

/-! Block BRX (R173), window 0x300F0000. -/
def BRX_LOOP : Nat := 0xF0000
def BRX_LOOP_FBW_f : Fld := ⟨23, 22⟩
def BRX_LOOP_TBW_f : Fld := ⟨21, 20⟩
def BRX_LOOP_LOSSN_f : Fld := ⟨19, 12⟩
def BRX_TIMES : Nat := 0xF0001
def BRX_TIMES_DECDL_f : Fld := ⟨23, 16⟩
def BRX_TIMES_SICHOLD_f : Fld := ⟨15, 8⟩
def BRX_SICBASE_LO : Nat := 0xF0002
def BRX_SICBASE_LO_BASE_f : Fld := ⟨23, 0⟩
def BRX_SICBASE_HI : Nat := 0xF0003
def BRX_SICBASE_HI_BASE_f : Fld := ⟨7, 0⟩
def BRX_SICSIZE : Nat := 0xF0004
def BRX_SICSIZE_EN_f : Fld := ⟨23, 23⟩
def BRX_SICSIZE_BLOCKS_f : Fld := ⟨15, 0⟩
def BRX_SICFREE : Nat := 0xF0005
def BRX_SICFREE_FREE_f : Fld := ⟨15, 0⟩
def BRX_JCFG : Nat := 0xF0006
def BRX_JCFG_JNTLAT_f : Fld := ⟨23, 16⟩
def BRX_JCFG_TTOL_f : Fld := ⟨15, 8⟩
def BRX_JCFG_JNTWIN_f : Fld := ⟨7, 0⟩
def BRX_RPT : Nat := 0xF0007
def BRX_RPT_HOSTUNIT_f : Fld := ⟨11, 0⟩
def BRX_SICFAIL_LO : Nat := 0xF0008
def BRX_SICFAIL_LO_COUNT_f : Fld := ⟨23, 0⟩
def BRX_SICFAIL_HI : Nat := 0xF0009
def BRX_SICFAIL_HI_COUNT_f : Fld := ⟨23, 0⟩
def BRX_JGRP (g : Nat) (m : Nat) : Nat := 0xF0100 + g * 0x8 + m
def BRX_JGRP_VALID_f : Fld := ⟨23, 23⟩
def BRX_JGRP_DEVICE_f : Fld := ⟨9, 0⟩

/-! Block RAD (R173), window 0x30100000. -/
def RAD_CTL (n : Nat) : Nat := 0x100000 + n * 0x10
def RAD_CTL_EN_f : Fld := ⟨23, 23⟩
def RAD_CTL_DLQ_f : Fld := ⟨5, 0⟩
def RAD_FACFG : Nat := 0x100100
def RAD_FACFG_OFSMAX_f : Fld := ⟨23, 18⟩
def RAD_FACFG_UP_f : Fld := ⟨17, 12⟩
def RAD_FACFG_DOWN_f : Fld := ⟨11, 6⟩
def RAD_OFS (c : Nat) : Nat := 0x100200 + c
def RAD_OFS_OFS_f : Fld := ⟨5, 0⟩

/-! Block PWR (R497), window 0x30110000. -/
def PWR_MODE : Nat := 0x110000
def PWR_MODE_MODE_f : Fld := ⟨23, 22⟩
def PWR_MODE_CUR_f : Fld := ⟨21, 20⟩
def PWR_MODE_ABORT_f : Fld := ⟨19, 19⟩
def PWR_WAKECFG : Nat := 0x110001
def PWR_WAKECFG_TGT_f : Fld := ⟨23, 23⟩
def PWR_WAKECFG_WAKEN_f : Fld := ⟨22, 22⟩
def PWR_WAKECFG_CMPW_f : Fld := ⟨21, 21⟩
def PWR_WAKE_REG_TMO : Nat := 0x110002
def PWR_WAKE_REG_TMO_TMO_f : Fld := ⟨7, 0⟩
def PWR_WAKE_OSC_TMO : Nat := 0x110003
def PWR_WAKE_OSC_TMO_TMO_f : Fld := ⟨7, 0⟩
def PWR_WAKE_RETRY_MAX : Nat := 0x110004
def PWR_WAKE_RETRY_MAX_MAX_f : Fld := ⟨3, 0⟩
def PWR_SWITCHBACK_HOLD : Nat := 0x110005
def PWR_SWITCHBACK_HOLD_HOLD_f : Fld := ⟨15, 0⟩
def PWR_ENTRY_TMO : Nat := 0x110006
def PWR_ENTRY_TMO_TMO_f : Fld := ⟨15, 0⟩
def PWR_PAD_RELEASE : Nat := 0x110007
def PWR_PAD_RELEASE_GO_f : Fld := ⟨23, 23⟩
def PWR_PAD_RELEASE_HELD_f : Fld := ⟨22, 22⟩
def PWR_GRPCMD : Nat := 0x110008
def PWR_GRPCMD_GO_f : Fld := ⟨23, 23⟩
def PWR_GRPCMD_STATE_f : Fld := ⟨22, 21⟩
def PWR_GRPCMD_BUSY_f : Fld := ⟨20, 20⟩
def PWR_GRPCMD_ERR_f : Fld := ⟨19, 19⟩
def PWR_GRPCMD_GROUP_f : Fld := ⟨5, 0⟩
def PWR_DOMDROP_LO : Nat := 0x11000A
def PWR_DOMDROP_LO_COUNT_f : Fld := ⟨23, 0⟩
def PWR_DOMDROP_HI : Nat := 0x11000B
def PWR_DOMDROP_HI_COUNT_f : Fld := ⟨23, 0⟩
def PWR_SERVO_CTL : Nat := 0x110040
def PWR_SERVO_CTL_EN_f : Fld := ⟨23, 23⟩
def PWR_SERVO_CTL_HOLD_f : Fld := ⟨22, 22⟩
def PWR_SERVO_CTL_ERR_f : Fld := ⟨21, 21⟩
def PWR_SERVO_CTL_VMAX_f : Fld := ⟨15, 8⟩
def PWR_SERVO_CTL_VMIN_f : Fld := ⟨7, 0⟩
def PWR_SLACK_FLOOR : Nat := 0x110041
def PWR_SLACK_FLOOR_FLOOR_f : Fld := ⟨11, 0⟩
def PWR_SLACK_WIN : Nat := 0x110042
def PWR_SLACK_WIN_WIN_f : Fld := ⟨7, 0⟩
def PWR_VSET : Nat := 0x110043
def PWR_VSET_CODE_f : Fld := ⟨7, 0⟩
def PWR_SLACK_WORST : Nat := 0x110044
def PWR_SLACK_WORST_NOSAMP_f : Fld := ⟨23, 23⟩
def PWR_SLACK_WORST_ACTION_f : Fld := ⟨22, 21⟩
def PWR_SLACK_WORST_WORST_f : Fld := ⟨11, 0⟩
def PWR_SLACK_POST : Nat := 0x110045
def PWR_SLACK_POST_SAMPLE_f : Fld := ⟨11, 0⟩
def PWR_DOMSTAT (d : Nat) : Nat := 0x110100 + d
def PWR_DOMSTAT_STATE_f : Fld := ⟨23, 22⟩
def PWR_DOMSTAT_RULE_f : Fld := ⟨21, 20⟩
def PWR_DOMSTAT_GRPV_f : Fld := ⟨6, 6⟩
def PWR_DOMSTAT_GROUP_f : Fld := ⟨5, 0⟩

/-! Block SUP (R497), window 0x30120000. -/
def SUP_STAT : Nat := 0x120000
def SUP_STAT_SEL_f : Fld := ⟨23, 23⟩
def SUP_STAT_MGOOD_f : Fld := ⟨22, 22⟩
def SUP_STAT_BGOOD_f : Fld := ⟨21, 21⟩
def SUP_STAT_ENMAIN_f : Fld := ⟨20, 20⟩
def SUP_STAT_ENBACK_f : Fld := ⟨19, 19⟩
def SUP_STAT_PGMAIN_f : Fld := ⟨18, 18⟩
def SUP_STAT_PGBACK_f : Fld := ⟨17, 17⟩
def SUP_STAT_HOLDOK_f : Fld := ⟨16, 16⟩
def SUP_CTL : Nat := 0x120001
def SUP_CTL_SWBACK_f : Fld := ⟨23, 23⟩
def SUP_CTL_SWTEST_f : Fld := ⟨22, 22⟩
def SUP_CTL_MAINEN_f : Fld := ⟨21, 21⟩
def SUP_CTL_BACKEN_f : Fld := ⟨20, 20⟩
def SUP_FAULT : Nat := 0x120002
def SUP_FAULT_WAKE_FAIL_f : Fld := ⟨23, 23⟩
def SUP_FAULT_SWITCHED_f : Fld := ⟨22, 22⟩
def SUP_FAULT_NOBACKUP_f : Fld := ⟨21, 21⟩
def SUP_FAULT_AVSERR_f : Fld := ⟨20, 20⟩
def SUP_FAULT_BROWNOUT_f : Fld := ⟨19, 19⟩
def SUP_FAULT_ERR_f : Fld := ⟨18, 18⟩
def SUP_RETRY : Nat := 0x120003
def SUP_RETRY_ATTEMPT_f : Fld := ⟨23, 20⟩
def SUP_RETRY_WAIT_f : Fld := ⟨11, 0⟩
def SUP_VRD_MAIN : Nat := 0x120004
def SUP_VRD_MAIN_MV_f : Fld := ⟨15, 0⟩
def SUP_VRD_BACK : Nat := 0x120005
def SUP_VRD_BACK_MV_f : Fld := ⟨15, 0⟩
def SUP_SWCNT_LO : Nat := 0x120006
def SUP_SWCNT_LO_COUNT_f : Fld := ⟨23, 0⟩
def SUP_SWCNT_HI : Nat := 0x120007
def SUP_SWCNT_HI_COUNT_f : Fld := ⟨23, 0⟩

/-! Block TRL (R203), window 0x30130000. -/
def TRL_CTL (n : Nat) : Nat := 0x130000 + n * 0x10
def TRL_CTL_EN_f : Fld := ⟨23, 23⟩
def TRL_CTL_DLQ_f : Fld := ⟨5, 0⟩
def TRL_STAT (n : Nat) : Nat := 0x130001 + n * 0x10
def TRL_STAT_BUSY_f : Fld := ⟨23, 23⟩
def TRL_JOBS_LO (n : Nat) : Nat := 0x130002 + n * 0x10
def TRL_JOBS_LO_COUNT_f : Fld := ⟨23, 0⟩
def TRL_JOBS_HI (n : Nat) : Nat := 0x130003 + n * 0x10
def TRL_JOBS_HI_COUNT_f : Fld := ⟨23, 0⟩

/-! Block TRB (R203), window 0x30140000. -/
def TRB_CTL (n : Nat) : Nat := 0x140000 + n * 0x10
def TRB_CTL_EN_f : Fld := ⟨23, 23⟩
def TRB_CTL_DLQ_f : Fld := ⟨5, 0⟩
def TRB_STAT (n : Nat) : Nat := 0x140001 + n * 0x10
def TRB_STAT_BUSY_f : Fld := ⟨23, 23⟩
def TRB_STAT_ITER_f : Fld := ⟨22, 19⟩
def TRB_JOBS_LO (n : Nat) : Nat := 0x140002 + n * 0x10
def TRB_JOBS_LO_COUNT_f : Fld := ⟨23, 0⟩
def TRB_JOBS_HI (n : Nat) : Nat := 0x140003 + n * 0x10
def TRB_JOBS_HI_COUNT_f : Fld := ⟨23, 0⟩
def TRB_CRCF_LO (n : Nat) : Nat := 0x140004 + n * 0x10
def TRB_CRCF_LO_COUNT_f : Fld := ⟨23, 0⟩
def TRB_CRCF_HI (n : Nat) : Nat := 0x140005 + n * 0x10
def TRB_CRCF_HI_COUNT_f : Fld := ⟨23, 0⟩
def TRB_CFG : Nat := 0x140100
def TRB_CFG_EXTSC_f : Fld := ⟨23, 20⟩
def TRB_CFG_IMAXCAP_f : Fld := ⟨19, 16⟩
def TRB_RSEQ : Nat := 0x140101
def TRB_RSEQ_NEXT_f : Fld := ⟨23, 0⟩

/-! Block ENC (R203), window 0x30150000. -/
def ENC_CTL (n : Nat) : Nat := 0x150000 + n * 0x10
def ENC_CTL_EN_f : Fld := ⟨23, 23⟩
def ENC_CTL_DLQ_f : Fld := ⟨5, 0⟩
def ENC_STAT (n : Nat) : Nat := 0x150001 + n * 0x10
def ENC_STAT_BUSY_f : Fld := ⟨23, 23⟩
def ENC_JOBS_LO (n : Nat) : Nat := 0x150002 + n * 0x10
def ENC_JOBS_LO_COUNT_f : Fld := ⟨23, 0⟩
def ENC_JOBS_HI (n : Nat) : Nat := 0x150003 + n * 0x10
def ENC_JOBS_HI_COUNT_f : Fld := ⟨23, 0⟩

/-! Block STC (R363), window 0x30160000. -/
def STC_CMD : Nat := 0x160000
def STC_CMD_GO_f : Fld := ⟨23, 23⟩
def STC_CMD_OP_f : Fld := ⟨22, 21⟩
def STC_IMG_LO : Nat := 0x160001
def STC_IMG_LO_BASE_f : Fld := ⟨23, 0⟩
def STC_IMG_HI : Nat := 0x160002
def STC_IMG_HI_BASE_f : Fld := ⟨7, 0⟩
def STC_STAT : Nat := 0x160003
def STC_STAT_STATE_f : Fld := ⟨23, 21⟩
def STC_STAT_LOCKED_f : Fld := ⟨20, 20⟩
def STC_STAT_RESULT_f : Fld := ⟨19, 16⟩
def STC_STAT_ERR_f : Fld := ⟨15, 15⟩
def STC_STAT_DRAINREQ_f : Fld := ⟨14, 14⟩
def STC_REJ : Nat := 0x160004
def STC_REJ_RECORD_f : Fld := ⟨23, 12⟩
def STC_REJ_RULE_f : Fld := ⟨11, 0⟩
def STC_REJENT : Nat := 0x160005
def STC_REJENT_OFFSET_f : Fld := ⟨23, 0⟩
def STC_SLICE : Nat := 0x160006
def STC_SLICE_FORCE_f : Fld := ⟨23, 23⟩
def STC_SLICE_OLD_f : Fld := ⟨22, 19⟩
def STC_SLICE_NEW_f : Fld := ⟨18, 15⟩
def STC_SLICE_DRAINTMO_f : Fld := ⟨7, 0⟩
def STC_DRAINACK : Nat := 0x160007
def STC_DRAINACK_ACK_f : Fld := ⟨23, 23⟩
def STC_RODMAP : Nat := 0x160008
def STC_RODMAP_ASSIGNED_f : Fld := ⟨13, 0⟩
def STC_IMGID_LO : Nat := 0x160009
def STC_IMGID_LO_ID_f : Fld := ⟨23, 0⟩
def STC_IMGID_HI : Nat := 0x16000A
def STC_IMGID_HI_ID_f : Fld := ⟨23, 0⟩
def STC_RET (k : Nat) : Nat := 0x160010 + k * 0x4
def STC_RET_VALID_f : Fld := ⟨23, 23⟩
def STC_RET_FULL_f : Fld := ⟨22, 22⟩
def STC_RET_ROD_f : Fld := ⟨21, 18⟩
def STC_RETBASE_LO (k : Nat) : Nat := 0x160011 + k * 0x4
def STC_RETBASE_LO_BASE_f : Fld := ⟨23, 0⟩
def STC_RETBASE_HI (k : Nat) : Nat := 0x160012 + k * 0x4
def STC_RETBASE_HI_BASE_f : Fld := ⟨7, 0⟩
def STC_RETLEN (k : Nat) : Nat := 0x160013 + k * 0x4
def STC_RETLEN_LENGTH_f : Fld := ⟨23, 0⟩
def STC_FENCE : Nat := 0x160080
def STC_FENCE_GO_f : Fld := ⟨23, 23⟩
def STC_FENCE_BUSY_f : Fld := ⟨22, 22⟩
def STC_FENCE_ERR_f : Fld := ⟨21, 21⟩
def STC_FENCE_UNIT_f : Fld := ⟨11, 0⟩
def STC_FENCEMAP (k : Nat) : Nat := 0x160090 + k
def STC_FENCEMAP_MAP_f : Fld := ⟨23, 0⟩

/-! Block TLY (R560), window 0x30170000. -/
def TLY_AT_S : Nat := 0x170000
def TLY_AT_S_S_f : Fld := ⟨23, 0⟩
def TLY_AT_NSL : Nat := 0x170001
def TLY_AT_NSL_NSL_f : Fld := ⟨23, 0⟩
def TLY_AT_NSH : Nat := 0x170002
def TLY_AT_NSH_ARM_f : Fld := ⟨23, 23⟩
def TLY_AT_NSH_NSH_f : Fld := ⟨5, 0⟩
def TLY_STAT : Nat := 0x170003
def TLY_STAT_STATE_f : Fld := ⟨23, 22⟩
def TLY_STAT_LATE_f : Fld := ⟨21, 21⟩
def TLY_SEQ : Nat := 0x170004
def TLY_SEQ_SEQ_f : Fld := ⟨23, 0⟩
def TLY_SNAP_S : Nat := 0x170005
def TLY_SNAP_S_S_f : Fld := ⟨23, 0⟩
def TLY_SNAP_NSL : Nat := 0x170006
def TLY_SNAP_NSL_NSL_f : Fld := ⟨23, 0⟩
def TLY_SNAP_NSH : Nat := 0x170007
def TLY_SNAP_NSH_NSH_f : Fld := ⟨5, 0⟩

/-! Block BRG (R420), window 0x30180000. -/
def BRG_GCTL : Nat := 0x180000
def BRG_GCTL_EN_f : Fld := ⟨23, 23⟩
def BRG_GCTL_RSVMGMT_f : Fld := ⟨22, 22⟩
def BRG_GCTL_AGE_f : Fld := ⟨15, 0⟩
def BRG_BEADMAC_LO : Nat := 0x180001
def BRG_BEADMAC_LO_MAC_f : Fld := ⟨23, 0⟩
def BRG_BEADMAC_HI : Nat := 0x180002
def BRG_BEADMAC_HI_MAC_f : Fld := ⟨23, 0⟩
def BRG_MGMTMAC_LO : Nat := 0x180003
def BRG_MGMTMAC_LO_MAC_f : Fld := ⟨23, 0⟩
def BRG_MGMTMAC_HI : Nat := 0x180004
def BRG_MGMTMAC_HI_MAC_f : Fld := ⟨23, 0⟩
def BRG_BUFBASE_LO : Nat := 0x180005
def BRG_BUFBASE_LO_BASE_f : Fld := ⟨23, 0⟩
def BRG_BUFBASE_HI : Nat := 0x180006
def BRG_BUFBASE_HI_BASE_f : Fld := ⟨7, 0⟩
def BRG_BUFCELLS : Nat := 0x180007
def BRG_BUFCELLS_CELLS_f : Fld := ⟨23, 0⟩
def BRG_BEADCFG : Nat := 0x180008
def BRG_BEADCFG_HOLD_f : Fld := ⟨23, 12⟩
def BRG_BEADCFG_MAXW_f : Fld := ⟨11, 0⟩
def BRG_MGMT_BASE_LO : Nat := 0x180009
def BRG_MGMT_BASE_LO_BASE_f : Fld := ⟨23, 0⟩
def BRG_MGMT_BASE_HI : Nat := 0x18000A
def BRG_MGMT_BASE_HI_BASE_f : Fld := ⟨7, 0⟩
def BRG_MGMT_LEN : Nat := 0x18000B
def BRG_MGMT_LEN_LEN_f : Fld := ⟨23, 0⟩
def BRG_MGMT_HEAD : Nat := 0x18000C
def BRG_MGMT_HEAD_HEAD_f : Fld := ⟨23, 0⟩
def BRG_MGMT_TAIL : Nat := 0x18000D
def BRG_MGMT_TAIL_TAIL_f : Fld := ⟨23, 0⟩
def BRG_MGMT_DEST : Nat := 0x18000E
def BRG_MGMT_DEST_DEVICE_f : Fld := ⟨23, 14⟩
def BRG_MGMT_DEST_UNIT_f : Fld := ⟨13, 2⟩
def BRG_FDBCMD : Nat := 0x180010
def BRG_FDBCMD_GO_f : Fld := ⟨23, 23⟩
def BRG_FDBCMD_OP_f : Fld := ⟨22, 21⟩
def BRG_FDBCMD_BUSY_f : Fld := ⟨20, 20⟩
def BRG_FDBCMD_ERR_f : Fld := ⟨19, 19⟩
def BRG_FDBCMD_STATIC_f : Fld := ⟨18, 18⟩
def BRG_FDBCMD_VID_f : Fld := ⟨11, 0⟩
def BRG_FDBMAC_LO : Nat := 0x180011
def BRG_FDBMAC_LO_MAC_f : Fld := ⟨23, 0⟩
def BRG_FDBMAC_HI : Nat := 0x180012
def BRG_FDBMAC_HI_MAC_f : Fld := ⟨23, 0⟩
def BRG_FDBMASK : Nat := 0x180013
def BRG_FDBMASK_MASK_f : Fld := ⟨17, 0⟩
def BRG_LEARNFAIL_LO : Nat := 0x180018
def BRG_LEARNFAIL_LO_COUNT_f : Fld := ⟨23, 0⟩
def BRG_LEARNFAIL_HI : Nat := 0x180019
def BRG_LEARNFAIL_HI_COUNT_f : Fld := ⟨23, 0⟩
def BRG_HOST_MAC_LO (h : Nat) : Nat := 0x180040 + h * 0x4
def BRG_HOST_MAC_LO_MAC_f : Fld := ⟨23, 0⟩
def BRG_HOST_MAC_HI (h : Nat) : Nat := 0x180041 + h * 0x4
def BRG_HOST_MAC_HI_MAC_f : Fld := ⟨23, 0⟩
def BRG_HOST (h : Nat) : Nat := 0x180042 + h * 0x4
def BRG_HOST_VALID_f : Fld := ⟨23, 23⟩
def BRG_HOST_RXEN_f : Fld := ⟨22, 22⟩
def BRG_HOST_TAG_f : Fld := ⟨21, 21⟩
def BRG_HOST_PCP_f : Fld := ⟨15, 13⟩
def BRG_HOST_VID_f : Fld := ⟨11, 0⟩
def BRG_HOST_RODS (h : Nat) : Nat := 0x180043 + h * 0x4
def BRG_HOST_RODS_RODS_f : Fld := ⟨13, 0⟩
def BRG_PCFG (p : Nat) : Nat := 0x181000 + p * 0x100
def BRG_PCFG_EN_f : Fld := ⟨23, 23⟩
def BRG_PCFG_MODE_f : Fld := ⟨22, 20⟩
def BRG_PCFG_QUAD_f : Fld := ⟨19, 16⟩
def BRG_PCFG_LANE_f : Fld := ⟨15, 14⟩
def BRG_PCFG_TRAIN_f : Fld := ⟨13, 13⟩
def BRG_PCFG_ADV_f : Fld := ⟨12, 8⟩
def BRG_PCFG_PTPM_f : Fld := ⟨7, 7⟩
def BRG_PCFG_LEARN_f : Fld := ⟨6, 6⟩
def BRG_PSTAT (p : Nat) : Nat := 0x181001 + p * 0x100
def BRG_PSTAT_LINK_f : Fld := ⟨23, 23⟩
def BRG_PSTAT_ANDONE_f : Fld := ⟨22, 22⟩
def BRG_PSTAT_RMODE_f : Fld := ⟨21, 19⟩
def BRG_PSTAT_FECLOCK_f : Fld := ⟨18, 18⟩
def BRG_PVID (p : Nat) : Nat := 0x181002 + p * 0x100
def BRG_PVID_PCP_f : Fld := ⟨23, 21⟩
def BRG_PVID_AFT_f : Fld := ⟨20, 19⟩
def BRG_PVID_PVID_f : Fld := ⟨11, 0⟩
def BRG_PCPMAP (p : Nat) : Nat := 0x181003 + p * 0x100
def BRG_PCPMAP_MAP_f : Fld := ⟨23, 0⟩
def BRG_TXDLY (p : Nat) : Nat := 0x181004 + p * 0x100
def BRG_TXDLY_DLY_f : Fld := ⟨15, 0⟩
def BRG_RXDLY (p : Nat) : Nat := 0x181005 + p * 0x100
def BRG_RXDLY_DLY_f : Fld := ⟨15, 0⟩
def BRG_TCCFG (p : Nat) (t : Nat) : Nat := 0x181010 + p * 0x100 + t * 0x4
def BRG_TCCFG_SP_f : Fld := ⟨23, 23⟩
def BRG_TCCFG_TIMED_f : Fld := ⟨22, 22⟩
def BRG_TCCFG_GUARD_f : Fld := ⟨21, 21⟩
def BRG_TCCFG_QUANTUM_f : Fld := ⟨20, 13⟩
def BRG_TCCFG_QLIM_f : Fld := ⟨12, 0⟩
def BRG_SHPRATE (p : Nat) (t : Nat) : Nat := 0x181011 + p * 0x100 + t * 0x4
def BRG_SHPRATE_EN_f : Fld := ⟨23, 23⟩
def BRG_SHPRATE_RATE_f : Fld := ⟨16, 0⟩
def BRG_SHPBURST (p : Nat) (t : Nat) : Nat := 0x181012 + p * 0x100 + t * 0x4
def BRG_SHPBURST_LOVH_f : Fld := ⟨23, 16⟩
def BRG_SHPBURST_BURST_f : Fld := ⟨15, 0⟩
def BRG_GCLCTL (p : Nat) : Nat := 0x181030 + p * 0x100
def BRG_GCLCTL_GEN_f : Fld := ⟨23, 23⟩
def BRG_GCLCTL_PEND_f : Fld := ⟨22, 22⟩
def BRG_GCLCTL_OPER_f : Fld := ⟨21, 21⟩
def BRG_GCLCTL_ERR_f : Fld := ⟨20, 20⟩
def BRG_GCLCTL_LEN_f : Fld := ⟨8, 0⟩
def BRG_GCLBASE_S (p : Nat) : Nat := 0x181031 + p * 0x100
def BRG_GCLBASE_S_V_f : Fld := ⟨23, 0⟩
def BRG_GCLBASE_NSL (p : Nat) : Nat := 0x181032 + p * 0x100
def BRG_GCLBASE_NSL_V_f : Fld := ⟨23, 0⟩
def BRG_GCLBASE_NSH (p : Nat) : Nat := 0x181033 + p * 0x100
def BRG_GCLBASE_NSH_V_f : Fld := ⟨5, 0⟩
def BRG_GCLCYC_LO (p : Nat) : Nat := 0x181034 + p * 0x100
def BRG_GCLCYC_LO_V_f : Fld := ⟨23, 0⟩
def BRG_GCLCYC_HI (p : Nat) : Nat := 0x181035 + p * 0x100
def BRG_GCLCYC_HI_V_f : Fld := ⟨5, 0⟩
def BRG_REFILL (p : Nat) : Nat := 0x181036 + p * 0x100
def BRG_REFILL_REFILL_f : Fld := ⟨7, 0⟩
def BRG_LTCFG (p : Nat) : Nat := 0x181037 + p * 0x100
def BRG_LTCFG_LATEMAX_f : Fld := ⟨11, 0⟩
def BRG_MSEC (p : Nat) : Nat := 0x181038 + p * 0x100
def BRG_MSEC_EN_f : Fld := ⟨23, 23⟩
def BRG_MSEC_CIPHER_f : Fld := ⟨22, 21⟩
def BRG_MSEC_VALIDATE_f : Fld := ⟨20, 19⟩
def BRG_MSEC_PTPBYP_f : Fld := ⟨18, 18⟩
def BRG_MSEC_TXSCI_f : Fld := ⟨17, 17⟩
def BRG_MSEC_CONF_f : Fld := ⟨16, 16⟩
def BRG_MSEC_OFFSET_f : Fld := ⟨15, 14⟩
def BRG_MSEC_TXAN_f : Fld := ⟨13, 12⟩
def BRG_GCLOBASE_S (p : Nat) : Nat := 0x181039 + p * 0x100
def BRG_GCLOBASE_S_V_f : Fld := ⟨23, 0⟩
def BRG_GCLOBASE_NSL (p : Nat) : Nat := 0x18103A + p * 0x100
def BRG_GCLOBASE_NSL_V_f : Fld := ⟨23, 0⟩
def BRG_GCLOBASE_NSH (p : Nat) : Nat := 0x18103B + p * 0x100
def BRG_GCLOBASE_NSH_V_f : Fld := ⟨5, 0⟩
def BRG_GCLOCYC_LO (p : Nat) : Nat := 0x18103C + p * 0x100
def BRG_GCLOCYC_LO_V_f : Fld := ⟨23, 0⟩
def BRG_GCLOCYC_HI (p : Nat) : Nat := 0x18103D + p * 0x100
def BRG_GCLOCYC_HI_V_f : Fld := ⟨5, 0⟩
def BRG_MSEC_RPL (p : Nat) : Nat := 0x18103E + p * 0x100
def BRG_MSEC_RPL_EN_f : Fld := ⟨23, 23⟩
def BRG_MSEC_RPL_WINDOW_f : Fld := ⟨21, 0⟩
def BRG_MSEC_PNTHR (p : Nat) : Nat := 0x18103F + p * 0x100
def BRG_MSEC_PNTHR_THR_f : Fld := ⟨23, 0⟩
def BRG_RXFRM_LO (p : Nat) : Nat := 0x181080 + p * 0x100
def BRG_RXFRM_LO_COUNT_f : Fld := ⟨23, 0⟩
def BRG_RXFRM_HI (p : Nat) : Nat := 0x181081 + p * 0x100
def BRG_RXFRM_HI_COUNT_f : Fld := ⟨23, 0⟩
def BRG_RXERR_LO (p : Nat) : Nat := 0x181082 + p * 0x100
def BRG_RXERR_LO_COUNT_f : Fld := ⟨23, 0⟩
def BRG_RXERR_HI (p : Nat) : Nat := 0x181083 + p * 0x100
def BRG_RXERR_HI_COUNT_f : Fld := ⟨23, 0⟩
def BRG_TXFRM_LO (p : Nat) : Nat := 0x181084 + p * 0x100
def BRG_TXFRM_LO_COUNT_f : Fld := ⟨23, 0⟩
def BRG_TXFRM_HI (p : Nat) : Nat := 0x181085 + p * 0x100
def BRG_TXFRM_HI_COUNT_f : Fld := ⟨23, 0⟩
def BRG_LINKDROP_LO (p : Nat) : Nat := 0x181086 + p * 0x100
def BRG_LINKDROP_LO_COUNT_f : Fld := ⟨23, 0⟩
def BRG_LINKDROP_HI (p : Nat) : Nat := 0x181087 + p * 0x100
def BRG_LINKDROP_HI_COUNT_f : Fld := ⟨23, 0⟩
def BRG_BUFDROP_LO (p : Nat) : Nat := 0x181088 + p * 0x100
def BRG_BUFDROP_LO_COUNT_f : Fld := ⟨23, 0⟩
def BRG_BUFDROP_HI (p : Nat) : Nat := 0x181089 + p * 0x100
def BRG_BUFDROP_HI_COUNT_f : Fld := ⟨23, 0⟩
def BRG_POISONDROP_LO (p : Nat) : Nat := 0x18108A + p * 0x100
def BRG_POISONDROP_LO_COUNT_f : Fld := ⟨23, 0⟩
def BRG_POISONDROP_HI (p : Nat) : Nat := 0x18108B + p * 0x100
def BRG_POISONDROP_HI_COUNT_f : Fld := ⟨23, 0⟩
def BRG_LTLATE_LO (p : Nat) : Nat := 0x18108C + p * 0x100
def BRG_LTLATE_LO_COUNT_f : Fld := ⟨23, 0⟩
def BRG_LTLATE_HI (p : Nat) : Nat := 0x18108D + p * 0x100
def BRG_LTLATE_HI_COUNT_f : Fld := ⟨23, 0⟩
def BRG_LTDROP_LO (p : Nat) : Nat := 0x18108E + p * 0x100
def BRG_LTDROP_LO_COUNT_f : Fld := ⟨23, 0⟩
def BRG_LTDROP_HI (p : Nat) : Nat := 0x18108F + p * 0x100
def BRG_LTDROP_HI_COUNT_f : Fld := ⟨23, 0⟩
def BRG_GUARDDROP_LO (p : Nat) : Nat := 0x181090 + p * 0x100
def BRG_GUARDDROP_LO_COUNT_f : Fld := ⟨23, 0⟩
def BRG_GUARDDROP_HI (p : Nat) : Nat := 0x181091 + p * 0x100
def BRG_GUARDDROP_HI_COUNT_f : Fld := ⟨23, 0⟩
def BRG_OVERRUN_LO (p : Nat) : Nat := 0x181092 + p * 0x100
def BRG_OVERRUN_LO_COUNT_f : Fld := ⟨23, 0⟩
def BRG_OVERRUN_HI (p : Nat) : Nat := 0x181093 + p * 0x100
def BRG_OVERRUN_HI_COUNT_f : Fld := ⟨23, 0⟩
def BRG_MSECDROP_LO (p : Nat) : Nat := 0x181094 + p * 0x100
def BRG_MSECDROP_LO_COUNT_f : Fld := ⟨23, 0⟩
def BRG_MSECDROP_HI (p : Nat) : Nat := 0x181095 + p * 0x100
def BRG_MSECDROP_HI_COUNT_f : Fld := ⟨23, 0⟩
def BRG_TXBAD_LO (p : Nat) : Nat := 0x181096 + p * 0x100
def BRG_TXBAD_LO_COUNT_f : Fld := ⟨23, 0⟩
def BRG_TXBAD_HI (p : Nat) : Nat := 0x181097 + p * 0x100
def BRG_TXBAD_HI_COUNT_f : Fld := ⟨23, 0⟩
def BRG_ECPRIDROP_LO (p : Nat) : Nat := 0x181098 + p * 0x100
def BRG_ECPRIDROP_LO_COUNT_f : Fld := ⟨23, 0⟩
def BRG_ECPRIDROP_HI (p : Nat) : Nat := 0x181099 + p * 0x100
def BRG_ECPRIDROP_HI_COUNT_f : Fld := ⟨23, 0⟩
def BRG_BEADERR_LO (p : Nat) : Nat := 0x18109A + p * 0x100
def BRG_BEADERR_LO_COUNT_f : Fld := ⟨23, 0⟩
def BRG_BEADERR_HI (p : Nat) : Nat := 0x18109B + p * 0x100
def BRG_BEADERR_HI_COUNT_f : Fld := ⟨23, 0⟩
def BRG_FSEQGAP_LO (p : Nat) : Nat := 0x18109C + p * 0x100
def BRG_FSEQGAP_LO_COUNT_f : Fld := ⟨23, 0⟩
def BRG_FSEQGAP_HI (p : Nat) : Nat := 0x18109D + p * 0x100
def BRG_FSEQGAP_HI_COUNT_f : Fld := ⟨23, 0⟩
def BRG_MGMTDROP_LO (p : Nat) : Nat := 0x18109E + p * 0x100
def BRG_MGMTDROP_LO_COUNT_f : Fld := ⟨23, 0⟩
def BRG_MGMTDROP_HI (p : Nat) : Nat := 0x18109F + p * 0x100
def BRG_MGMTDROP_HI_COUNT_f : Fld := ⟨23, 0⟩
def BRG_TXFRMT_LO (p : Nat) (t : Nat) : Nat := 0x1810C0 + p * 0x100 + t * 0x2
def BRG_TXFRMT_LO_COUNT_f : Fld := ⟨23, 0⟩
def BRG_TXFRMT_HI (p : Nat) (t : Nat) : Nat := 0x1810C1 + p * 0x100 + t * 0x2
def BRG_TXFRMT_HI_COUNT_f : Fld := ⟨23, 0⟩
def BRG_FLOW_DA_LO (f : Nat) : Nat := 0x184000 + f * 0x4
def BRG_FLOW_DA_LO_MAC_f : Fld := ⟨23, 0⟩
def BRG_FLOW_DA_HI (f : Nat) : Nat := 0x184001 + f * 0x4
def BRG_FLOW_DA_HI_MAC_f : Fld := ⟨23, 0⟩
def BRG_FLOW (f : Nat) : Nat := 0x184002 + f * 0x4
def BRG_FLOW_VALID_f : Fld := ⟨23, 23⟩
def BRG_FLOW_TAG_f : Fld := ⟨22, 22⟩
def BRG_FLOW_PORT_f : Fld := ⟨19, 16⟩
def BRG_FLOW_PCP_f : Fld := ⟨15, 13⟩
def BRG_FLOW_VID_f : Fld := ⟨11, 0⟩
def BRG_GCLE_GATES (p : Nat) (k : Nat) (e : Nat) : Nat := 0x188000 + p * 0x400 + k * 0x200 + e * 0x2
def BRG_GCLE_GATES_GATES_f : Fld := ⟨7, 0⟩
def BRG_GCLE_INTERVAL (p : Nat) (k : Nat) (e : Nat) : Nat := 0x188001 + p * 0x400 + k * 0x200 + e * 0x2
def BRG_GCLE_INTERVAL_INTERVAL_f : Fld := ⟨23, 0⟩
def BRG_VLAN_MEMBER (v : Nat) : Nat := 0x18C000 + v * 0x2
def BRG_VLAN_MEMBER_MEMBER_f : Fld := ⟨17, 0⟩
def BRG_VLAN_UNTAG (v : Nat) : Nat := 0x18C001 + v * 0x2
def BRG_VLAN_UNTAG_UNTAG_f : Fld := ⟨17, 0⟩

/-! Block LAN (R443), window 0x30190000. -/
def LAN_FCFG : Nat := 0x190000
def LAN_FCFG_EXITTMO_f : Fld := ⟨7, 0⟩
def LAN_QCFG (q : Nat) : Nat := 0x190100 + q * 0x40
def LAN_QCFG_EN_f : Fld := ⟨23, 23⟩
def LAN_QCFG_USE_f : Fld := ⟨22, 21⟩
def LAN_QPLLA (q : Nat) : Nat := 0x190101 + q * 0x40
def LAN_QPLLA_EN_f : Fld := ⟨23, 23⟩
def LAN_QPLLA_NINT_f : Fld := ⟨22, 14⟩
def LAN_QPLLA_FRAC (q : Nat) : Nat := 0x190102 + q * 0x40
def LAN_QPLLA_FRAC_NFRAC_f : Fld := ⟨23, 0⟩
def LAN_QPLLB (q : Nat) : Nat := 0x190103 + q * 0x40
def LAN_QPLLB_EN_f : Fld := ⟨23, 23⟩
def LAN_QPLLB_NINT_f : Fld := ⟨22, 14⟩
def LAN_QPLLB_FRAC (q : Nat) : Nat := 0x190104 + q * 0x40
def LAN_QPLLB_FRAC_NFRAC_f : Fld := ⟨23, 0⟩
def LAN_QSTAT (q : Nat) : Nat := 0x190105 + q * 0x40
def LAN_QSTAT_REFOK_f : Fld := ⟨23, 23⟩
def LAN_QSTAT_LOCKA_f : Fld := ⟨22, 22⟩
def LAN_QSTAT_LOCKB_f : Fld := ⟨21, 21⟩
def LAN_SPARE (q : Nat) : Nat := 0x190106 + q * 0x40
def LAN_SPARE_GO_f : Fld := ⟨23, 23⟩
def LAN_SPARE_VALID_f : Fld := ⟨22, 22⟩
def LAN_SPARE_AUTO_f : Fld := ⟨21, 21⟩
def LAN_SPARE_BUSY_f : Fld := ⟨20, 20⟩
def LAN_SPARE_SLANE_f : Fld := ⟨3, 2⟩
def LAN_SPARE_FAILED_f : Fld := ⟨1, 0⟩
def LAN_LCFG (q : Nat) (l : Nat) : Nat := 0x190110 + q * 0x40 + l * 0x8
def LAN_LCFG_EN_f : Fld := ⟨23, 23⟩
def LAN_LCFG_PLL_f : Fld := ⟨22, 22⟩
def LAN_LCFG_ODIV_f : Fld := ⟨21, 19⟩
def LAN_LCFG_TXPOL_f : Fld := ⟨18, 18⟩
def LAN_LCFG_RXPOL_f : Fld := ⟨17, 17⟩
def LAN_LCFG_CADAPT_f : Fld := ⟨16, 16⟩
def LAN_LCTL (q : Nat) (l : Nat) : Nat := 0x190111 + q * 0x40 + l * 0x8
def LAN_LCTL_RETRAIN_f : Fld := ⟨23, 23⟩
def LAN_LCTL_EIDLE_f : Fld := ⟨22, 22⟩
def LAN_LCTL_RST_f : Fld := ⟨21, 21⟩
def LAN_LSTAT (q : Nat) (l : Nat) : Nat := 0x190112 + q * 0x40 + l * 0x8
def LAN_LSTAT_STATE_f : Fld := ⟨23, 21⟩
def LAN_LSTAT_CDR_f : Fld := ⟨20, 20⟩
def LAN_LSTAT_ALIGNED_f : Fld := ⟨19, 19⟩
def LAN_LSTAT_MKDSK_f : Fld := ⟨18, 18⟩
def LAN_LSTAT_AVALID_f : Fld := ⟨17, 17⟩
def LAN_LSTAT_RLANE_f : Fld := ⟨16, 11⟩
def LAN_LTX (q : Nat) (l : Nat) : Nat := 0x190113 + q * 0x40 + l * 0x8
def LAN_LTX_PRE_f : Fld := ⟨23, 20⟩
def LAN_LTX_MAIN_f : Fld := ⟨19, 14⟩
def LAN_LTX_POST_f : Fld := ⟨13, 9⟩
def LAN_CODEERR_LO (q : Nat) (l : Nat) : Nat := 0x190114 + q * 0x40 + l * 0x8
def LAN_CODEERR_LO_COUNT_f : Fld := ⟨23, 0⟩
def LAN_CODEERR_HI (q : Nat) (l : Nat) : Nat := 0x190115 + q * 0x40 + l * 0x8
def LAN_CODEERR_HI_COUNT_f : Fld := ⟨23, 0⟩
def LAN_RELOCK_LO (q : Nat) (l : Nat) : Nat := 0x190116 + q * 0x40 + l * 0x8
def LAN_RELOCK_LO_COUNT_f : Fld := ⟨23, 0⟩
def LAN_RELOCK_HI (q : Nat) (l : Nat) : Nat := 0x190117 + q * 0x40 + l * 0x8
def LAN_RELOCK_HI_COUNT_f : Fld := ⟨23, 0⟩
def LAN_EYE (q : Nat) : Nat := 0x190130 + q * 0x40
def LAN_EYE_GO_f : Fld := ⟨23, 23⟩
def LAN_EYE_STATE_f : Fld := ⟨22, 20⟩
def LAN_EYE_LANE_f : Fld := ⟨19, 18⟩
def LAN_EYE_PHASE_f : Fld := ⟨13, 8⟩
def LAN_EYE_VOLT_f : Fld := ⟨7, 0⟩
def LAN_EYECFG (q : Nat) : Nat := 0x190131 + q * 0x40
def LAN_EYECFG_DWELL_f : Fld := ⟨20, 16⟩
def LAN_EYECFG_GAP_f : Fld := ⟨15, 0⟩
def LAN_EYEERR (q : Nat) : Nat := 0x190132 + q * 0x40
def LAN_EYEERR_ERR_f : Fld := ⟨23, 0⟩
def LAN_EYEBITS_LO (q : Nat) : Nat := 0x190133 + q * 0x40
def LAN_EYEBITS_LO_BITS_f : Fld := ⟨23, 0⟩
def LAN_EYEBITS_HI (q : Nat) : Nat := 0x190134 + q * 0x40
def LAN_EYEBITS_HI_BITS_f : Fld := ⟨23, 0⟩

/-! Block FAB (R477), window 0x301A0000. -/
def FAB_GCTL : Nat := 0x1A0000
def FAB_GCTL_EN_f : Fld := ⟨23, 23⟩
def FAB_GCTL_DEVVALID_f : Fld := ⟨22, 22⟩
def FAB_GCTL_PINNED_f : Fld := ⟨21, 21⟩
def FAB_GCTL_FOUNDER_f : Fld := ⟨20, 20⟩
def FAB_GCTL_REMREG_f : Fld := ⟨19, 19⟩
def FAB_GCTL_DEVNUM_f : Fld := ⟨9, 0⟩
def FAB_SERIAL0 : Nat := 0x1A0001
def FAB_SERIAL0_SERIAL_f : Fld := ⟨23, 0⟩
def FAB_SERIAL1 : Nat := 0x1A0002
def FAB_SERIAL1_SERIAL_f : Fld := ⟨23, 0⟩
def FAB_SERIAL2 : Nat := 0x1A0003
def FAB_SERIAL2_SERIAL_f : Fld := ⟨15, 0⟩
def FAB_FSER0 : Nat := 0x1A0004
def FAB_FSER0_SERIAL_f : Fld := ⟨23, 0⟩
def FAB_FSER1 : Nat := 0x1A0005
def FAB_FSER1_SERIAL_f : Fld := ⟨23, 0⟩
def FAB_FSER2 : Nat := 0x1A0006
def FAB_FSER2_SERIAL_f : Fld := ⟨15, 0⟩
def FAB_RCFG : Nat := 0x1A0008
def FAB_RCFG_BVMAX_f : Fld := ⟨23, 20⟩
def FAB_RCFG_LVMAX_f : Fld := ⟨19, 16⟩
def FAB_RCFG_SETTLE_f : Fld := ⟨15, 10⟩
def FAB_RCFG_SALT_f : Fld := ⟨9, 0⟩
def FAB_LSUNIT : Nat := 0x1A0009
def FAB_LSUNIT_UNIT_f : Fld := ⟨11, 0⟩
def FAB_LCFG : Nat := 0x1A000A
def FAB_LCFG_REPLAYTMO_f : Fld := ⟨23, 16⟩
def FAB_LCFG_REPLAYMAX_f : Fld := ⟨15, 12⟩
def FAB_LCFG_DOWNTMO_f : Fld := ⟨11, 4⟩
def FAB_TCFG : Nat := 0x1A000B
def FAB_TCFG_PER_f : Fld := ⟨23, 16⟩
def FAB_PCMD : Nat := 0x1A000C
def FAB_PCMD_ANY_f : Fld := ⟨23, 23⟩
def FAB_UNREACH_LO : Nat := 0x1A0010
def FAB_UNREACH_LO_COUNT_f : Fld := ⟨23, 0⟩
def FAB_UNREACH_HI : Nat := 0x1A0011
def FAB_UNREACH_HI_COUNT_f : Fld := ⟨23, 0⟩
def FAB_HOPDROP_LO : Nat := 0x1A0012
def FAB_HOPDROP_LO_COUNT_f : Fld := ⟨23, 0⟩
def FAB_HOPDROP_HI : Nat := 0x1A0013
def FAB_HOPDROP_HI_COUNT_f : Fld := ⟨23, 0⟩
def FAB_BADDST_LO : Nat := 0x1A0014
def FAB_BADDST_LO_COUNT_f : Fld := ⟨23, 0⟩
def FAB_BADDST_HI : Nat := 0x1A0015
def FAB_BADDST_HI_COUNT_f : Fld := ⟨23, 0⟩
def FAB_PCMDDENY_LO : Nat := 0x1A0016
def FAB_PCMDDENY_LO_COUNT_f : Fld := ⟨23, 0⟩
def FAB_PCMDDENY_HI : Nat := 0x1A0017
def FAB_PCMDDENY_HI_COUNT_f : Fld := ⟨23, 0⟩
def FAB_PCFG (p : Nat) : Nat := 0x1A0100 + p * 0x20
def FAB_PCFG_EN_f : Fld := ⟨23, 23⟩
def FAB_PCFG_LANES_f : Fld := ⟨22, 21⟩
def FAB_PCFG_QUAD_f : Fld := ⟨20, 17⟩
def FAB_PCFG_FIRST_f : Fld := ⟨16, 15⟩
def FAB_PCFG_TSEN_f : Fld := ⟨14, 14⟩
def FAB_PCFG_COST_f : Fld := ⟨12, 9⟩
def FAB_PSTAT (p : Nat) : Nat := 0x1A0101 + p * 0x20
def FAB_PSTAT_STATE_f : Fld := ⟨23, 21⟩
def FAB_PSTAT_CAUSE_f : Fld := ⟨20, 18⟩
def FAB_PSTAT_BVER_f : Fld := ⟨17, 16⟩
def FAB_PSTAT_LVER_f : Fld := ⟨15, 14⟩
def FAB_PSTAT_PPORT_f : Fld := ⟨13, 10⟩
def FAB_PSTAT_PDEV_f : Fld := ⟨9, 0⟩
def FAB_PEER0 (p : Nat) : Nat := 0x1A0102 + p * 0x20
def FAB_PEER0_SERIAL_f : Fld := ⟨23, 0⟩
def FAB_PEER1 (p : Nat) : Nat := 0x1A0103 + p * 0x20
def FAB_PEER1_SERIAL_f : Fld := ⟨23, 0⟩
def FAB_PEER2 (p : Nat) : Nat := 0x1A0104 + p * 0x20
def FAB_PEER2_SERIAL_f : Fld := ⟨15, 0⟩
def FAB_TXDLY (p : Nat) : Nat := 0x1A0105 + p * 0x20
def FAB_TXDLY_DLY_f : Fld := ⟨15, 0⟩
def FAB_RXDLY (p : Nat) : Nat := 0x1A0106 + p * 0x20
def FAB_RXDLY_DLY_f : Fld := ⟨15, 0⟩
def FAB_ASYM (p : Nat) : Nat := 0x1A0107 + p * 0x20
def FAB_ASYM_ASYM_f : Fld := ⟨15, 0⟩
def FAB_TDLY (p : Nat) : Nat := 0x1A0108 + p * 0x20
def FAB_TDLY_D_f : Fld := ⟨23, 0⟩
def FAB_TOFS (p : Nat) : Nat := 0x1A0109 + p * 0x20
def FAB_TOFS_O_f : Fld := ⟨23, 0⟩
def FAB_TSTAT (p : Nat) : Nat := 0x1A010A + p * 0x20
def FAB_TSTAT_VALID_f : Fld := ⟨23, 23⟩
def FAB_TSTAT_TV_f : Fld := ⟨22, 22⟩
def FAB_TSTAT_TSEQ_f : Fld := ⟨3, 0⟩
def FAB_CELLTX_LO (p : Nat) : Nat := 0x1A0110 + p * 0x20
def FAB_CELLTX_LO_COUNT_f : Fld := ⟨23, 0⟩
def FAB_CELLTX_HI (p : Nat) : Nat := 0x1A0111 + p * 0x20
def FAB_CELLTX_HI_COUNT_f : Fld := ⟨23, 0⟩
def FAB_CELLRX_LO (p : Nat) : Nat := 0x1A0112 + p * 0x20
def FAB_CELLRX_LO_COUNT_f : Fld := ⟨23, 0⟩
def FAB_CELLRX_HI (p : Nat) : Nat := 0x1A0113 + p * 0x20
def FAB_CELLRX_HI_COUNT_f : Fld := ⟨23, 0⟩
def FAB_REPLAY_LO (p : Nat) : Nat := 0x1A0114 + p * 0x20
def FAB_REPLAY_LO_COUNT_f : Fld := ⟨23, 0⟩
def FAB_REPLAY_HI (p : Nat) : Nat := 0x1A0115 + p * 0x20
def FAB_REPLAY_HI_COUNT_f : Fld := ⟨23, 0⟩
def FAB_BADCELL_LO (p : Nat) : Nat := 0x1A0116 + p * 0x20
def FAB_BADCELL_LO_COUNT_f : Fld := ⟨23, 0⟩
def FAB_BADCELL_HI (p : Nat) : Nat := 0x1A0117 + p * 0x20
def FAB_BADCELL_HI_COUNT_f : Fld := ⟨23, 0⟩
def FAB_LOSTCELL_LO (p : Nat) : Nat := 0x1A0118 + p * 0x20
def FAB_LOSTCELL_LO_COUNT_f : Fld := ⟨23, 0⟩
def FAB_LOSTCELL_HI (p : Nat) : Nat := 0x1A0119 + p * 0x20
def FAB_LOSTCELL_HI_COUNT_f : Fld := ⟨23, 0⟩
def FAB_BEADDROP_LO (p : Nat) : Nat := 0x1A011A + p * 0x20
def FAB_BEADDROP_LO_COUNT_f : Fld := ⟨23, 0⟩
def FAB_BEADDROP_HI (p : Nat) : Nat := 0x1A011B + p * 0x20
def FAB_BEADDROP_HI_COUNT_f : Fld := ⟨23, 0⟩
def FAB_RT (d : Nat) : Nat := 0x1A0400 + d
def FAB_RT_SLOT3_f : Fld := ⟨23, 20⟩
def FAB_RT_SLOT2_f : Fld := ⟨19, 16⟩
def FAB_RT_SLOT1_f : Fld := ⟨15, 12⟩
def FAB_RT_SLOT0_f : Fld := ⟨11, 8⟩
def FAB_RT_ALT_f : Fld := ⟨7, 4⟩
def FAB_RT_V_f : Fld := ⟨3, 0⟩

/-! Block SEC (R525), window 0x301B0000. -/
def SEC_STAT : Nat := 0x1B0000
def SEC_STAT_LC_f : Fld := ⟨23, 21⟩
def SEC_STAT_STAGE_f : Fld := ⟨20, 18⟩
def SEC_STAT_CAND_f : Fld := ⟨17, 16⟩
def SEC_STAT_DEBUG_f : Fld := ⟨15, 13⟩
def SEC_STAT_LCERR_f : Fld := ⟨12, 12⟩
def SEC_STAT_ZERO_f : Fld := ⟨11, 11⟩
def SEC_STAT_BUSY_f : Fld := ⟨10, 10⟩
def SEC_BOOTOK : Nat := 0x1B0001
def SEC_BOOTOK_OK_f : Fld := ⟨23, 23⟩
def SEC_BOOTREC : Nat := 0x1B0002
def SEC_BOOTREC_COUNT_f : Fld := ⟨23, 20⟩
def SEC_BOOTREC_START_f : Fld := ⟨19, 18⟩
def SEC_CMD : Nat := 0x1B0003
def SEC_CMD_GO_f : Fld := ⟨23, 23⟩
def SEC_CMD_OP_f : Fld := ⟨22, 19⟩
def SEC_CMDBUF_LO : Nat := 0x1B0004
def SEC_CMDBUF_LO_BUF_f : Fld := ⟨23, 0⟩
def SEC_CMDBUF_HI : Nat := 0x1B0005
def SEC_CMDBUF_HI_BUF_f : Fld := ⟨7, 0⟩
def SEC_CMDSTAT : Nat := 0x1B0006
def SEC_CMDSTAT_STATE_f : Fld := ⟨23, 22⟩
def SEC_CMDSTAT_CAUSE_f : Fld := ⟨21, 17⟩
def SEC_NONCE_LO : Nat := 0x1B0008
def SEC_NONCE_LO_NONCE_f : Fld := ⟨23, 0⟩
def SEC_NONCE_HI : Nat := 0x1B0009
def SEC_NONCE_HI_NONCE_f : Fld := ⟨23, 0⟩
def SEC_TAMPCFG : Nat := 0x1B000A
def SEC_TAMPCFG_RESP_f : Fld := ⟨13, 0⟩
def SEC_TAMPSTAT : Nat := 0x1B000B
def SEC_TAMPSTAT_HIT_f : Fld := ⟨6, 0⟩
def SEC_SLOT (k : Nat) : Nat := 0x1B0010 + k
def SEC_SLOT_PROG_f : Fld := ⟨23, 23⟩
def SEC_SLOT_REV_f : Fld := ⟨22, 22⟩
def SEC_ARB (k : Nat) : Nat := 0x1B0020 + k
def SEC_ARB_VALUE_f : Fld := ⟨23, 0⟩
def SEC_ARBN (k : Nat) : Nat := 0x1B0040 + k
def SEC_ARBN_N_f : Fld := ⟨2, 0⟩
def SEC_OTPRD (k : Nat) : Nat := 0x1B0080 + k
def SEC_OTPRD_ROW_f : Fld := ⟨23, 0⟩

/-! Block RST (R538), window 0x301C0000. -/
def RST_CMD : Nat := 0x1C0000
def RST_CMD_GO_f : Fld := ⟨23, 23⟩
def RST_CMD_CLASS_f : Fld := ⟨22, 21⟩
def RST_CMD_UNIT_f : Fld := ⟨11, 0⟩
def RST_STAT : Nat := 0x1C0001
def RST_STAT_WBUSY_f : Fld := ⟨23, 23⟩
def RST_STAT_ERR_f : Fld := ⟨22, 22⟩
def RST_CAUSE : Nat := 0x1C0002
def RST_CAUSE_CLASS_f : Fld := ⟨23, 21⟩
def RST_CAUSE_CODE_f : Fld := ⟨20, 16⟩
def RST_CAUSE_SRCDEV_f : Fld := ⟨9, 0⟩
def RST_PREV : Nat := 0x1C0003
def RST_PREV_CLASS_f : Fld := ⟨23, 21⟩
def RST_PREV_CODE_f : Fld := ⟨20, 16⟩
def RST_PREV_SRCDEV_f : Fld := ⟨9, 0⟩
def RST_TIME_S : Nat := 0x1C0004
def RST_TIME_S_S_f : Fld := ⟨23, 0⟩
def RST_TIME_NSL : Nat := 0x1C0005
def RST_TIME_NSL_NSL_f : Fld := ⟨23, 0⟩
def RST_TIME_NSH : Nat := 0x1C0006
def RST_TIME_NSH_NSH_f : Fld := ⟨5, 0⟩
def RST_CCNT_LO : Nat := 0x1C0008
def RST_CCNT_LO_COUNT_f : Fld := ⟨23, 0⟩
def RST_CCNT_HI : Nat := 0x1C0009
def RST_CCNT_HI_COUNT_f : Fld := ⟨23, 0⟩
def RST_WCNT_LO : Nat := 0x1C000A
def RST_WCNT_LO_COUNT_f : Fld := ⟨23, 0⟩
def RST_WCNT_HI : Nat := 0x1C000B
def RST_WCNT_HI_COUNT_f : Fld := ⟨23, 0⟩
def RST_AWDT : Nat := 0x1C0010
def RST_AWDT_EN_f : Fld := ⟨23, 23⟩
def RST_AWDT_KICK_f : Fld := ⟨22, 22⟩
def RST_AWDT_EXP_f : Fld := ⟨21, 21⟩
def RST_AWDT_TMO_f : Fld := ⟨15, 0⟩

end Sys2Proof.Machine.Reg
end

