-- ==== Sys2Proof/Machine/RegCat.lean ====
section
/-! DEFINITION. The register catalog: for every control register its instances, its fields with access type
(R13), reset value and reset classes (R14), one list per block window. Reserved bits are in no field (R6). -/

namespace Sys2Proof.Machine

/-- Access types of R13; `cnt` is the low word of a 48-bit counter (R100), `live` shows hardware state. -/
inductive Acc where | rw | ro | w1c | wo | rwl | cnt
  deriving DecidableEq, Repr

/-- Reset classes of R14. -/
inductive RClass where | P | C | W | D | Q
  deriving DecidableEq, Repr

/-- One field of a register: its bits, access type, reset value, the classes that restore it, and whether it is live. -/
structure FieldSpec where
  bits : Fld
  acc : Acc
  reset : Nat
  classes : List RClass
  live : Bool
  deriving DecidableEq, Repr

/-- One register of the catalog: the address of its first instance, count and stride of each index, its fields. -/
structure RegSpec where
  base : Nat
  dims : List (Nat × Nat)
  fields : List FieldSpec
  deriving DecidableEq, Repr

namespace Cat

def pcw : List RClass := [.P, .C, .W]
def pc : List RClass := [.P, .C]
def pcwd : List RClass := [.P, .C, .W, .D]
def p : List RClass := [.P]
def pcd : List RClass := [.P, .C, .D]
def pcwq : List RClass := [.P, .C, .W, .Q]
/-- A stored field. -/
def st (b : Fld) (a : Acc) (r : Nat) (c : List RClass) : FieldSpec := ⟨b, a, r, c, false⟩
/-- A live field: present hardware state (R14), set by nothing but the hardware. -/
def lv (b : Fld) : FieldSpec := ⟨b, .ro, 0, [], true⟩

def rck0 : List RegSpec := [
  ⟨Reg.RCK_CTL 0, [(113, 0x10)], [st Reg.RCK_CTL_RUN_f .rw 0 pcwd, st Reg.RCK_CTL_RST_f .wo 0 [], st Reg.RCK_CTL_ENTRY_f .rwl 0 pcw]⟩,
  ⟨Reg.RCK_STAT 0, [(113, 0x10)], [lv Reg.RCK_STAT_STATE_f, lv Reg.RCK_STAT_PC_f]⟩,
  ⟨Reg.RCK_SOFT 0, [(113, 0x10)], [st Reg.RCK_SOFT_SET_f .wo 0 []]⟩,
  ⟨Reg.RCK_HALT 0, [(113, 0x10)], [st Reg.RCK_HALT_CAUSE_f .ro 0 pcwd, st Reg.RCK_HALT_PC_f .ro 0 pcwd]⟩,
  ⟨Reg.RCK_LMCE_LO 0, [(113, 0x10)], [st Reg.RCK_LMCE_LO_COUNT_f .cnt 0 pcw]⟩,
  ⟨Reg.RCK_LMCE_HI 0, [(113, 0x10)], [st Reg.RCK_LMCE_HI_COUNT_f .ro 0 pcw]⟩,
  ⟨Reg.RCK_LMUE_LO 0, [(113, 0x10)], [st Reg.RCK_LMUE_LO_COUNT_f .cnt 0 pcw]⟩,
  ⟨Reg.RCK_LMUE_HI 0, [(113, 0x10)], [st Reg.RCK_LMUE_HI_COUNT_f .ro 0 pcw]⟩,
  ⟨Reg.RCK_INDROP_LO 0, [(113, 0x10)], [st Reg.RCK_INDROP_LO_COUNT_f .cnt 0 pcw]⟩,
  ⟨Reg.RCK_INDROP_HI 0, [(113, 0x10)], [st Reg.RCK_INDROP_HI_COUNT_f .ro 0 pcw]⟩]

/-- Block RCK. -/
def rckRegs : List RegSpec := rck0

def rod0 : List RegSpec := [
  ⟨Reg.ROD_STAT 0, [(14, 0x10)], [lv Reg.ROD_STAT_STATE_f, lv Reg.ROD_STAT_WAITING_f]⟩]

/-- Block ROD. -/
def rodRegs : List RegSpec := rod0

def cmx0 : List RegSpec := [
  ⟨Reg.CMX_CTL 0, [(14, 0x10)], [st Reg.CMX_CTL_EN_f .rwl 0 pcw, st Reg.CMX_CTL_RST_f .wo 0 [], st Reg.CMX_CTL_FREL_f .wo 0 []]⟩,
  ⟨Reg.CMX_STAT 0, [(14, 0x10)], [lv Reg.CMX_STAT_STATE_f, lv Reg.CMX_STAT_OWNED_f, lv Reg.CMX_STAT_OWNER_f, st Reg.CMX_STAT_SAT_f .w1c 0 pcwd, lv Reg.CMX_STAT_QDEPTH_f, lv Reg.CMX_STAT_WAITERS_f]⟩,
  ⟨Reg.CMX_LERR 0, [(14, 0x10)], [st Reg.CMX_LERR_VALID_f .w1c 0 pcwd, st Reg.CMX_LERR_MORE_f .w1c 0 pcwd, st Reg.CMX_LERR_CAUSE_f .ro 0 pcwd, st Reg.CMX_LERR_MREG_f .ro 0 pcwd, st Reg.CMX_LERR_INDEX_f .ro 0 pcwd]⟩,
  ⟨Reg.CMX_LERRPC 0, [(14, 0x10)], [st Reg.CMX_LERRPC_CORE_f .ro 0 pcwd, st Reg.CMX_LERRPC_PC_f .ro 0 pcwd]⟩,
  ⟨Reg.CMX_OPS_LO 0, [(14, 0x10)], [st Reg.CMX_OPS_LO_COUNT_f .cnt 0 pcwd]⟩,
  ⟨Reg.CMX_OPS_HI 0, [(14, 0x10)], [st Reg.CMX_OPS_HI_COUNT_f .ro 0 pcwd]⟩,
  ⟨Reg.CMX_SQUASH_LO 0, [(14, 0x10)], [st Reg.CMX_SQUASH_LO_COUNT_f .cnt 0 pcwd]⟩,
  ⟨Reg.CMX_SQUASH_HI 0, [(14, 0x10)], [st Reg.CMX_SQUASH_HI_COUNT_f .ro 0 pcwd]⟩]

/-- Block CMX. -/
def cmxRegs : List RegSpec := cmx0

def pgc0 : List RegSpec := [
  ⟨Reg.PGC_SCRUB_CTL, [], [st Reg.PGC_SCRUB_CTL_EN_f .rw 1 pc, st Reg.PGC_SCRUB_CTL_HOURS_f .rw 24 pc]⟩,
  ⟨Reg.PGC_SCRUB_STAT, [], [st Reg.PGC_SCRUB_STAT_PASS_f .ro 0 pc, st Reg.PGC_SCRUB_STAT_CURSOR_f .ro 0 pc]⟩,
  ⟨Reg.PGC_SCRUB_FIX_LO, [], [st Reg.PGC_SCRUB_FIX_LO_COUNT_f .cnt 0 pc]⟩,
  ⟨Reg.PGC_SCRUB_FIX_HI, [], [st Reg.PGC_SCRUB_FIX_HI_COUNT_f .ro 0 pc]⟩,
  ⟨Reg.PGC_SCRUB_SKIP_LO, [], [st Reg.PGC_SCRUB_SKIP_LO_COUNT_f .cnt 0 pc]⟩,
  ⟨Reg.PGC_SCRUB_SKIP_HI, [], [st Reg.PGC_SCRUB_SKIP_HI_COUNT_f .ro 0 pc]⟩,
  ⟨Reg.PGC_RMCFG, [], [st Reg.PGC_RMCFG_AUTO_f .rw 1 pc, st Reg.PGC_RMCFG_MARGIN_f .rw 2 pc, st Reg.PGC_RMCFG_LOW_f .rw 4 pc]⟩,
  ⟨Reg.PGC_REMAP, [], [st Reg.PGC_REMAP_GO_f .wo 0 [], lv Reg.PGC_REMAP_BUSY_f, st Reg.PGC_REMAP_ERR_f .w1c 0 pc, st Reg.PGC_REMAP_PAGE_f .rw 0 pc]⟩,
  ⟨Reg.PGC_RECMD, [], [st Reg.PGC_RECMD_GO_f .wo 0 [], lv Reg.PGC_RECMD_BUSY_f, st Reg.PGC_RECMD_ERR_f .w1c 0 pc, st Reg.PGC_RECMD_TNEW_f .rw 2 pc, st Reg.PGC_RECMD_REGION_f .rw 0 pc]⟩,
  ⟨Reg.PGC_FLIP_MASK, [], [st Reg.PGC_FLIP_MASK_ARM_f .rw 0 pc, st Reg.PGC_FLIP_MASK_DONE_f .w1c 0 pc, st Reg.PGC_FLIP_MASK_PAGE_f .rw 0 pc]⟩,
  ⟨Reg.PGC_FLIP_POS 0, [(32, 0x1)], [st Reg.PGC_FLIP_POS_V_f .rw 0 pc, st Reg.PGC_FLIP_POS_POS_f .rw 0 pc]⟩,
  ⟨Reg.PGC_LOGCTL, [], [st Reg.PGC_LOGCTL_OVF_f .w1c 0 pc, st Reg.PGC_LOGCTL_TAIL_f .rw 0 pc, st Reg.PGC_LOGCTL_HEAD_f .ro 0 pc]⟩,
  ⟨Reg.PGC_POISON_STAT, [], [st Reg.PGC_POISON_STAT_OVF_f .w1c 0 pc, st Reg.PGC_POISON_STAT_COUNT_f .ro 0 pc]⟩,
  ⟨Reg.PGC_LOG 0 0, [(64, 0x4), (4, 0x1)], [st Reg.PGC_LOG_WORD_f .ro 0 pc]⟩,
  ⟨Reg.PGC_POISON 0, [(256, 0x1)], [st Reg.PGC_POISON_VALID_f .ro 0 pc, st Reg.PGC_POISON_PAGE_f .ro 0 pc]⟩,
  ⟨Reg.PGC_REG 0, [(384, 0x1)], [st Reg.PGC_REG_BUSY_f .ro 0 pc, st Reg.PGC_REG_PASSFLAG_f .ro 0 pc, st Reg.PGC_REG_TCUR_f .ro 2 pc, st Reg.PGC_REG_TNEW_f .ro 2 pc, st Reg.PGC_REG_CURSOR_f .ro 0 pc, st Reg.PGC_REG_REVER_f .ro 0 pc]⟩]

def pgc1 : List RegSpec := [
  ⟨Reg.PGC_MAP 0 0, [(32, 0x40), (64, 0x1)], [st Reg.PGC_MAP_VALID_f .ro 0 pc, st Reg.PGC_MAP_BAD_f .ro 0 pc, st Reg.PGC_MAP_PAGE_f .ro 0 pc]⟩]

/-- Block PGC. -/
def pgcRegs : List RegSpec := pgc0 ++ pgc1

def mem0 : List RegSpec := [
  ⟨Reg.MEM_STAT, [], [lv Reg.MEM_STAT_INITDONE_f]⟩,
  ⟨Reg.MEM_FLUSH, [], [st Reg.MEM_FLUSH_GO_f .wo 0 [], lv Reg.MEM_FLUSH_BUSY_f, st Reg.MEM_FLUSH_ALL_f .rw 0 pc, st Reg.MEM_FLUSH_DROP_f .rw 0 pc, st Reg.MEM_FLUSH_ERR_f .w1c 0 pc, st Reg.MEM_FLUSH_PAGE_f .rw 0 pc]⟩,
  ⟨Reg.MEM_BANK 0, [(32, 0x10)], [lv Reg.MEM_BANK_VALIDW_f, lv Reg.MEM_BANK_DIRTYW_f, lv Reg.MEM_BANK_SPARES_f]⟩,
  ⟨Reg.MEM_CE_LO 0, [(32, 0x10)], [st Reg.MEM_CE_LO_COUNT_f .cnt 0 pc]⟩,
  ⟨Reg.MEM_CE_HI 0, [(32, 0x10)], [st Reg.MEM_CE_HI_COUNT_f .ro 0 pc]⟩,
  ⟨Reg.MEM_CEBIT_LO 0, [(32, 0x10)], [st Reg.MEM_CEBIT_LO_COUNT_f .cnt 0 pc]⟩,
  ⟨Reg.MEM_CEBIT_HI 0, [(32, 0x10)], [st Reg.MEM_CEBIT_HI_COUNT_f .ro 0 pc]⟩,
  ⟨Reg.MEM_UE_LO 0, [(32, 0x10)], [st Reg.MEM_UE_LO_COUNT_f .cnt 0 pc]⟩,
  ⟨Reg.MEM_UE_HI 0, [(32, 0x10)], [st Reg.MEM_UE_HI_COUNT_f .ro 0 pc]⟩,
  ⟨Reg.MEM_MISS_LO 0, [(32, 0x10)], [st Reg.MEM_MISS_LO_COUNT_f .cnt 0 pc]⟩,
  ⟨Reg.MEM_MISS_HI 0, [(32, 0x10)], [st Reg.MEM_MISS_HI_COUNT_f .ro 0 pc]⟩,
  ⟨Reg.MEM_WCE_LO 0, [(32, 0x10)], [st Reg.MEM_WCE_LO_COUNT_f .cnt 0 pc]⟩,
  ⟨Reg.MEM_WCE_HI 0, [(32, 0x10)], [st Reg.MEM_WCE_HI_COUNT_f .ro 0 pc]⟩]

/-- Block MEM. -/
def memRegs : List RegSpec := mem0

def dma0 : List RegSpec := [
  ⟨Reg.DMA_ECTL 0, [(2, 0x8000)], [st Reg.DMA_ECTL_EN_f .rwl 0 pcw, lv Reg.DMA_ECTL_ACTIVE_f]⟩,
  ⟨Reg.DMA_ECFG 0, [(2, 0x8000)], [st Reg.DMA_ECFG_RTMO_f .rw 100 pcw]⟩,
  ⟨Reg.DMA_BYTES_LO 0, [(2, 0x8000)], [st Reg.DMA_BYTES_LO_COUNT_f .cnt 0 pcw]⟩,
  ⟨Reg.DMA_BYTES_HI 0, [(2, 0x8000)], [st Reg.DMA_BYTES_HI_COUNT_f .ro 0 pcw]⟩,
  ⟨Reg.DMA_CTL 0 0, [(2, 0x8000), (64, 0x20)], [st Reg.DMA_CTL_START_f .wo 0 [], st Reg.DMA_CTL_STOP_f .wo 0 [], st Reg.DMA_CTL_LOAD_f .wo 0 [], st Reg.DMA_CTL_BARRIER_f .rw 0 pcwd, st Reg.DMA_CTL_CHAIN_f .rw 0 pcwd, st Reg.DMA_CTL_NOTIFY_f .rw 0 pcwd, st Reg.DMA_CTL_ORDER_f .rw 0 pcwd, st Reg.DMA_CTL_PRI_f .rw 0 pcwd]⟩,
  ⟨Reg.DMA_SEQ 0 0, [(2, 0x8000), (64, 0x20)], [st Reg.DMA_SEQ_SEQ_f .rw 0 pcwd]⟩,
  ⟨Reg.DMA_SRC_LO 0 0, [(2, 0x8000), (64, 0x20)], [st Reg.DMA_SRC_LO_ADDR_f .rw 0 pcwd]⟩,
  ⟨Reg.DMA_SRC_HI 0 0, [(2, 0x8000), (64, 0x20)], [st Reg.DMA_SRC_HI_DEV_f .rw 0 pcwd, st Reg.DMA_SRC_HI_REM_f .rw 0 pcwd, st Reg.DMA_SRC_HI_LANE_f .rw 0 pcwd, st Reg.DMA_SRC_HI_ADDR_f .rw 0 pcwd]⟩,
  ⟨Reg.DMA_SLEN 0 0, [(2, 0x8000), (64, 0x20)], [st Reg.DMA_SLEN_SLEN_f .rw 0 pcwd]⟩,
  ⟨Reg.DMA_SSTRIDE 0 0, [(2, 0x8000), (64, 0x20)], [st Reg.DMA_SSTRIDE_SSTRIDE_f .rw 0 pcwd]⟩,
  ⟨Reg.DMA_SLINES 0 0, [(2, 0x8000), (64, 0x20)], [st Reg.DMA_SLINES_SLINES_f .rw 0 pcwd]⟩,
  ⟨Reg.DMA_DST_LO 0 0, [(2, 0x8000), (64, 0x20)], [st Reg.DMA_DST_LO_ADDR_f .rw 0 pcwd]⟩,
  ⟨Reg.DMA_DST_HI 0 0, [(2, 0x8000), (64, 0x20)], [st Reg.DMA_DST_HI_DEV_f .rw 0 pcwd, st Reg.DMA_DST_HI_REM_f .rw 0 pcwd, st Reg.DMA_DST_HI_LANE_f .rw 0 pcwd, st Reg.DMA_DST_HI_ADDR_f .rw 0 pcwd]⟩,
  ⟨Reg.DMA_DLEN 0 0, [(2, 0x8000), (64, 0x20)], [st Reg.DMA_DLEN_DLEN_f .rw 0 pcwd]⟩,
  ⟨Reg.DMA_DSTRIDE 0 0, [(2, 0x8000), (64, 0x20)], [st Reg.DMA_DSTRIDE_DSTRIDE_f .rw 0 pcwd]⟩,
  ⟨Reg.DMA_DLINES 0 0, [(2, 0x8000), (64, 0x20)], [st Reg.DMA_DLINES_DLINES_f .rw 0 pcwd]⟩]

def dma1 : List RegSpec := [
  ⟨Reg.DMA_LEN 0 0, [(2, 0x8000), (64, 0x20)], [st Reg.DMA_LEN_LEN_f .rw 0 pcwd]⟩,
  ⟨Reg.DMA_NEXT_LO 0 0, [(2, 0x8000), (64, 0x20)], [st Reg.DMA_NEXT_LO_ADDR_f .rw 0 pcwd]⟩,
  ⟨Reg.DMA_NEXT_HI 0 0, [(2, 0x8000), (64, 0x20)], [st Reg.DMA_NEXT_HI_ADDR_f .rw 0 pcwd]⟩,
  ⟨Reg.DMA_STATUS 0 0, [(2, 0x8000), (64, 0x20)], [st Reg.DMA_STATUS_STATE_f .ro 0 pcwd, st Reg.DMA_STATUS_ERR_f .ro 0 pcwd]⟩,
  ⟨Reg.DMA_BEAT 0 0, [(2, 0x8000), (64, 0x20)], [st Reg.DMA_BEAT_BEAT_f .ro 0 pcwd]⟩,
  ⟨Reg.DMA_COUNT 0 0, [(2, 0x8000), (64, 0x20)], [st Reg.DMA_COUNT_COUNT_f .ro 0 pcwd]⟩,
  ⟨Reg.DMA_RESIDUAL 0 0, [(2, 0x8000), (64, 0x20)], [st Reg.DMA_RESIDUAL_RESIDUAL_f .ro 0 pcwd]⟩,
  ⟨Reg.DMA_NOTIFY 0 0, [(2, 0x8000), (64, 0x20)], [st Reg.DMA_NOTIFY_DEVICE_f .rw 0 pcwd, st Reg.DMA_NOTIFY_UNIT_f .rw 0 pcwd]⟩,
  ⟨Reg.DMA_OWN 0 0, [(2, 0x8000), (64, 0x20)], [st Reg.DMA_OWN_VALID_f .rwl 0 pcw, st Reg.DMA_OWN_REM_f .rwl 0 pcw, st Reg.DMA_OWN_DEVICE_f .rwl 0 pcw, st Reg.DMA_OWN_UNIT_f .rwl 0 pcw]⟩,
  ⟨Reg.DMA_LATE 0 0, [(2, 0x8000), (64, 0x20)], [st Reg.DMA_LATE_VALID_f .w1c 0 pcwd, st Reg.DMA_LATE_MORE_f .w1c 0 pcwd]⟩,
  ⟨Reg.DMA_LATESEQ 0 0, [(2, 0x8000), (64, 0x20)], [st Reg.DMA_LATESEQ_SEQ_f .ro 0 pcwd]⟩,
  ⟨Reg.DMA_LATEBEAT 0 0, [(2, 0x8000), (64, 0x20)], [st Reg.DMA_LATEBEAT_BEAT_f .ro 0 pcwd]⟩,
  ⟨Reg.DMA_LATERES 0 0, [(2, 0x8000), (64, 0x20)], [st Reg.DMA_LATERES_RES_f .ro 0 pcwd]⟩]

/-- Block DMA. -/
def dmaRegs : List RegSpec := dma0 ++ dma1

def lnc0 : List RegSpec := [
  ⟨Reg.LNC_GCTL, [], [st Reg.LNC_GCTL_EN_f .rw 0 pcw, lv Reg.LNC_GCTL_HELD_f]⟩,
  ⟨Reg.LNC_SLIP_LO, [], [st Reg.LNC_SLIP_LO_COUNT_f .cnt 0 pcw]⟩,
  ⟨Reg.LNC_SLIP_HI, [], [st Reg.LNC_SLIP_HI_COUNT_f .ro 0 pcw]⟩,
  ⟨Reg.LNC_CTL 0, [(64, 0x10)], [st Reg.LNC_CTL_EN_f .rw 0 pcw, st Reg.LNC_CTL_MODE_f .rwl 0 pcw, st Reg.LNC_CTL_FEEDQ_f .rwl 0 pcw]⟩,
  ⟨Reg.LNC_STAT 0, [(64, 0x10)], [lv Reg.LNC_STAT_STATE_f, lv Reg.LNC_STAT_NEXT_f]⟩,
  ⟨Reg.LNC_CYCLE 0, [(64, 0x10)], [st Reg.LNC_CYCLE_CYCLES_f .ro 0 pcw]⟩,
  ⟨Reg.LNC_LATE_LO 0, [(64, 0x10)], [st Reg.LNC_LATE_LO_COUNT_f .cnt 0 pcw]⟩,
  ⟨Reg.LNC_LATE_HI 0, [(64, 0x10)], [st Reg.LNC_LATE_HI_COUNT_f .ro 0 pcw]⟩,
  ⟨Reg.LNC_BAD_LO 0, [(64, 0x10)], [st Reg.LNC_BAD_LO_COUNT_f .cnt 0 pcw]⟩,
  ⟨Reg.LNC_BAD_HI 0, [(64, 0x10)], [st Reg.LNC_BAD_HI_COUNT_f .ro 0 pcw]⟩]

/-- Block LNC. -/
def lncRegs : List RegSpec := lnc0

def dlq0 : List RegSpec := [
  ⟨Reg.DLQ_CFG 0, [(64, 0x10)], [st Reg.DLQ_CFG_EN_f .rwl 0 pcw, st Reg.DLQ_CFG_NOSERVO_f .rw 0 pcw, st Reg.DLQ_CFG_DEFDL_f .rw 16 pcw, st Reg.DLQ_CFG_QUEUE_f .rwl 0 pcw]⟩,
  ⟨Reg.DLQ_STAT 0, [(64, 0x10)], [lv Reg.DLQ_STAT_DEPTH_f, st Reg.DLQ_STAT_WORST_f .ro 0 pcw]⟩,
  ⟨Reg.DLQ_MISS_LO 0, [(64, 0x10)], [st Reg.DLQ_MISS_LO_COUNT_f .cnt 0 pcw]⟩,
  ⟨Reg.DLQ_MISS_HI 0, [(64, 0x10)], [st Reg.DLQ_MISS_HI_COUNT_f .ro 0 pcw]⟩,
  ⟨Reg.DLQ_LATE_LO 0, [(64, 0x10)], [st Reg.DLQ_LATE_LO_COUNT_f .cnt 0 pcw]⟩,
  ⟨Reg.DLQ_LATE_HI 0, [(64, 0x10)], [st Reg.DLQ_LATE_HI_COUNT_f .ro 0 pcw]⟩,
  ⟨Reg.DLQ_MIG_LO 0, [(64, 0x10)], [st Reg.DLQ_MIG_LO_COUNT_f .cnt 0 pc]⟩,
  ⟨Reg.DLQ_MIG_HI 0, [(64, 0x10)], [st Reg.DLQ_MIG_HI_COUNT_f .ro 0 pc]⟩,
  ⟨Reg.DLQ_OFF_LO 0, [(64, 0x10)], [st Reg.DLQ_OFF_LO_COUNT_f .cnt 0 pcw]⟩,
  ⟨Reg.DLQ_OFF_HI 0, [(64, 0x10)], [st Reg.DLQ_OFF_HI_COUNT_f .ro 0 pcw]⟩]

/-- Block DLQ. -/
def dlqRegs : List RegSpec := dlq0

def que0 : List RegSpec := [
  ⟨Reg.QUE_GSTAT, [], [lv Reg.QUE_GSTAT_LCOUNT_f, lv Reg.QUE_GSTAT_ENCOUNT_f]⟩,
  ⟨Reg.QUE_CFG 0, [(1024, 0x10)], [st Reg.QUE_CFG_EN_f .rwl 0 pcw, st Reg.QUE_CFG_CLASS_f .rwl 0 pcw, st Reg.QUE_CFG_WW_f .rwl 0 pcw, st Reg.QUE_CFG_IMODE_f .rwl 0 pcw, st Reg.QUE_CFG_BOFS_f .rwl 0 pcw, st Reg.QUE_CFG_KEYMODE_f .rwl 0 pcw, st Reg.QUE_CFG_NOTIFY_f .rw 0 pcw]⟩,
  ⟨Reg.QUE_BASE 0, [(1024, 0x10)], [st Reg.QUE_BASE_BASE_f .rwl 0 pcw]⟩,
  ⟨Reg.QUE_CAP 0, [(1024, 0x10)], [st Reg.QUE_CAP_CAP_f .rwl 0 pcw]⟩,
  ⟨Reg.QUE_ITEM 0, [(1024, 0x10)], [st Reg.QUE_ITEM_LPOS_f .rwl 0 pcw, st Reg.QUE_ITEM_LWM1_f .rwl 0 pcw, st Reg.QUE_ITEM_LADD_f .rwl 0 pcw, st Reg.QUE_ITEM_ILEN_f .rwl 1 pcw]⟩,
  ⟨Reg.QUE_PROD 0, [(1024, 0x10)], [st Reg.QUE_PROD_VALID_f .rwl 0 pcw, st Reg.QUE_PROD_UNIT_f .rwl 0 pcw]⟩,
  ⟨Reg.QUE_CONS 0, [(1024, 0x10)], [st Reg.QUE_CONS_VALID_f .rwl 0 pcw, st Reg.QUE_CONS_UNIT_f .rwl 0 pcw]⟩,
  ⟨Reg.QUE_NOTIFY 0, [(1024, 0x10)], [st Reg.QUE_NOTIFY_DEVICE_f .rw 0 pcw, st Reg.QUE_NOTIFY_UNIT_f .rw 0 pcw]⟩,
  ⟨Reg.QUE_CTL 0, [(1024, 0x10)], [st Reg.QUE_CTL_RST_f .wo 0 []]⟩,
  ⟨Reg.QUE_STAT 0, [(1024, 0x10)], [lv Reg.QUE_STAT_STATE_f, lv Reg.QUE_STAT_PARTIAL_f, st Reg.QUE_STAT_RDCUT_f .w1c 0 pcwq, lv Reg.QUE_STAT_DEPTH_f]⟩,
  ⟨Reg.QUE_ITEMS 0, [(1024, 0x10)], [st Reg.QUE_ITEMS_ITEMS_f .ro 0 pcw]⟩,
  ⟨Reg.QUE_CUT_LO 0, [(1024, 0x10)], [st Reg.QUE_CUT_LO_COUNT_f .cnt 0 pcw]⟩,
  ⟨Reg.QUE_CUT_HI 0, [(1024, 0x10)], [st Reg.QUE_CUT_HI_COUNT_f .ro 0 pcw]⟩,
  ⟨Reg.QUE_MISM_LO 0, [(1024, 0x10)], [st Reg.QUE_MISM_LO_COUNT_f .cnt 0 pcw]⟩,
  ⟨Reg.QUE_MISM_HI 0, [(1024, 0x10)], [st Reg.QUE_MISM_HI_COUNT_f .ro 0 pcw]⟩,
  ⟨Reg.QUE_DROP_LO 0, [(1024, 0x10)], [st Reg.QUE_DROP_LO_COUNT_f .cnt 0 pcw]⟩]

def que1 : List RegSpec := [
  ⟨Reg.QUE_DROP_HI 0, [(1024, 0x10)], [st Reg.QUE_DROP_HI_COUNT_f .ro 0 pcw]⟩]

/-- Block QUE. -/
def queRegs : List RegSpec := que0 ++ que1

def tim0 : List RegSpec := [
  ⟨Reg.TIM_CTL, [], [st Reg.TIM_CTL_VALID_f .rw 0 pc, lv Reg.TIM_CTL_REFOK_f, lv Reg.TIM_CTL_FREERUN_f, st Reg.TIM_CTL_TSET_f .ro 0 pc, lv Reg.TIM_CTL_SLEWING_f, lv Reg.TIM_CTL_ARMED_f, st Reg.TIM_CTL_ERR_f .w1c 0 pc, st Reg.TIM_CTL_STEPGUARD_f .rw 10 pc]⟩,
  ⟨Reg.TIM_REFCFG, [], [st Reg.TIM_REFCFG_MULT_f .rw 40 pc]⟩,
  ⟨Reg.TIM_INC_LO, [], [st Reg.TIM_INC_LO_FRACL_f .rw 0 pc]⟩,
  ⟨Reg.TIM_INC_HI, [], [st Reg.TIM_INC_HI_NS_f .rw 1 pc, st Reg.TIM_INC_HI_FRACH_f .rw 0 pc]⟩,
  ⟨Reg.TIM_WRUNIT, [], [st Reg.TIM_WRUNIT_VALID_f .rwl 0 pc, st Reg.TIM_WRUNIT_UNIT_f .rwl 0 pc]⟩,
  ⟨Reg.TIM_NOW_SL, [], [lv Reg.TIM_NOW_SL_SEC_f]⟩,
  ⟨Reg.TIM_NOW_SH, [], [lv Reg.TIM_NOW_SH_SEC_f]⟩,
  ⟨Reg.TIM_NOW_NSL, [], [lv Reg.TIM_NOW_NSL_NS_f]⟩,
  ⟨Reg.TIM_NOW_NSH, [], [lv Reg.TIM_NOW_NSH_TV_f, lv Reg.TIM_NOW_NSH_NS_f]⟩,
  ⟨Reg.TIM_NOW_FR, [], [lv Reg.TIM_NOW_FR_FRAC_f]⟩,
  ⟨Reg.TIM_SET_SL, [], [st Reg.TIM_SET_SL_SEC_f .rw 0 pc]⟩,
  ⟨Reg.TIM_SET_SH, [], [st Reg.TIM_SET_SH_SEC_f .rw 0 pc]⟩,
  ⟨Reg.TIM_SET_NSL, [], [st Reg.TIM_SET_NSL_NS_f .rw 0 pc]⟩,
  ⟨Reg.TIM_SET_NSH, [], [st Reg.TIM_SET_NSH_NS_f .rw 0 pc]⟩,
  ⟨Reg.TIM_CMD, [], [st Reg.TIM_CMD_GO_f .wo 0 [], st Reg.TIM_CMD_OP_f .wo 0 []]⟩,
  ⟨Reg.TIM_OFS_LO, [], [st Reg.TIM_OFS_LO_OFSL_f .rw 0 pc]⟩]

def tim1 : List RegSpec := [
  ⟨Reg.TIM_OFS_HI, [], [st Reg.TIM_OFS_HI_OFSH_f .rw 0 pc]⟩,
  ⟨Reg.TIM_SLEW, [], [st Reg.TIM_SLEW_RATE_f .rw 100 pc]⟩,
  ⟨Reg.TIM_REM_LO, [], [lv Reg.TIM_REM_LO_REML_f]⟩,
  ⟨Reg.TIM_REM_HI, [], [lv Reg.TIM_REM_HI_REMH_f]⟩,
  ⟨Reg.TIM_PPSI_CFG, [], [st Reg.TIM_PPSI_CFG_EN_f .rw 0 pc, st Reg.TIM_PPSI_CFG_EDGE_f .rw 0 pc, st Reg.TIM_PPSI_CFG_DLY_f .rw 0 pc]⟩,
  ⟨Reg.TIM_PPSI_SL, [], [st Reg.TIM_PPSI_SL_SEC_f .ro 0 pc]⟩,
  ⟨Reg.TIM_PPSI_SH, [], [st Reg.TIM_PPSI_SH_SEC_f .ro 0 pc]⟩,
  ⟨Reg.TIM_PPSI_NSL, [], [st Reg.TIM_PPSI_NSL_NS_f .ro 0 pc]⟩,
  ⟨Reg.TIM_PPSI_NSH, [], [st Reg.TIM_PPSI_NSH_TV_f .ro 0 pc, st Reg.TIM_PPSI_NSH_NS_f .ro 0 pc]⟩,
  ⟨Reg.TIM_PPSI_FR, [], [st Reg.TIM_PPSI_FR_FRAC_f .ro 0 pc]⟩,
  ⟨Reg.TIM_PPSI_CNT, [], [st Reg.TIM_PPSI_CNT_CNT_f .ro 0 pc]⟩,
  ⟨Reg.TIM_PPSO_CFG, [], [st Reg.TIM_PPSO_CFG_EN_f .rw 0 pc, st Reg.TIM_PPSO_CFG_FREE_f .rw 0 pc, st Reg.TIM_PPSO_CFG_POL_f .rw 0 pc, st Reg.TIM_PPSO_CFG_WIDTH_f .rw 100 pc]⟩,
  ⟨Reg.TIM_PPSO_DLY, [], [st Reg.TIM_PPSO_DLY_DLY_f .rw 0 pc]⟩,
  ⟨Reg.TIM_CMP_CTL 0, [(16, 0x8)], [st Reg.TIM_CMP_CTL_EN_f .rw 0 pc, st Reg.TIM_CMP_CTL_PER_f .rw 0 pc, st Reg.TIM_CMP_CTL_NOTE_f .rw 0 pc, st Reg.TIM_CMP_CTL_WAKE_f .rw 0 pc, st Reg.TIM_CMP_CTL_DUE_f .w1c 0 pc, st Reg.TIM_CMP_CTL_SKIP_f .w1c 0 pc]⟩,
  ⟨Reg.TIM_CMP_TS 0, [(16, 0x8)], [st Reg.TIM_CMP_TS_S_f .rw 0 pc]⟩,
  ⟨Reg.TIM_CMP_TNSL 0, [(16, 0x8)], [st Reg.TIM_CMP_TNSL_NSL_f .rw 0 pc]⟩]

def tim2 : List RegSpec := [
  ⟨Reg.TIM_CMP_TNSH 0, [(16, 0x8)], [st Reg.TIM_CMP_TNSH_NSH_f .rw 0 pc]⟩,
  ⟨Reg.TIM_CMP_PERL 0, [(16, 0x8)], [st Reg.TIM_CMP_PERL_PERL_f .rw 0 pc]⟩,
  ⟨Reg.TIM_CMP_PERH 0, [(16, 0x8)], [st Reg.TIM_CMP_PERH_PERH_f .rw 0 pc]⟩,
  ⟨Reg.TIM_CMP_DEST 0, [(16, 0x8)], [st Reg.TIM_CMP_DEST_DEVICE_f .rw 0 pc, st Reg.TIM_CMP_DEST_UNIT_f .rw 0 pc]⟩]

/-- Block TIM. -/
def timRegs : List RegSpec := tim0 ++ tim1 ++ tim2

def evt0 : List RegSpec := [
  ⟨Reg.EVT_CTL, [], [st Reg.EVT_CTL_EN_f .rwl 0 pc, st Reg.EVT_CTL_NOTIFY_f .rw 0 pc]⟩,
  ⟨Reg.EVT_RBASE_LO, [], [st Reg.EVT_RBASE_LO_BASE_f .rwl 0 pc]⟩,
  ⟨Reg.EVT_RBASE_HI, [], [st Reg.EVT_RBASE_HI_BASE_f .rwl 0 pc]⟩,
  ⟨Reg.EVT_RLEN, [], [st Reg.EVT_RLEN_LEN_f .rwl 0 pc]⟩,
  ⟨Reg.EVT_HEAD, [], [st Reg.EVT_HEAD_HEAD_f .ro 0 pc]⟩,
  ⟨Reg.EVT_TAIL, [], [st Reg.EVT_TAIL_TAIL_f .rw 0 pc]⟩,
  ⟨Reg.EVT_DEST, [], [st Reg.EVT_DEST_DEVICE_f .rw 0 pc, st Reg.EVT_DEST_UNIT_f .rw 0 pc]⟩,
  ⟨Reg.EVT_FWD, [], [st Reg.EVT_FWD_UNIT_f .rw 2112 pc, st Reg.EVT_FWD_CLASSES_f .rw 0 pc]⟩,
  ⟨Reg.EVT_STAT, [], [st Reg.EVT_STAT_OVF_f .w1c 0 pc, st Reg.EVT_STAT_TAILOVF_f .w1c 0 p]⟩,
  ⟨Reg.EVT_NEXTSEQ, [], [lv Reg.EVT_NEXTSEQ_SEQ_f]⟩,
  ⟨Reg.EVT_DROP_LO, [], [st Reg.EVT_DROP_LO_COUNT_f .cnt 0 pc]⟩,
  ⟨Reg.EVT_DROP_HI, [], [st Reg.EVT_DROP_HI_COUNT_f .ro 0 pc]⟩,
  ⟨Reg.EVT_SUPPR_LO, [], [st Reg.EVT_SUPPR_LO_COUNT_f .cnt 0 pc]⟩,
  ⟨Reg.EVT_SUPPR_HI, [], [st Reg.EVT_SUPPR_HI_COUNT_f .ro 0 pc]⟩]

/-- Block EVT. -/
def evtRegs : List RegSpec := evt0

def dfe0 : List RegSpec := [
  ⟨Reg.DFE_CTL 0, [(8, 0x1000)], [st Reg.DFE_CTL_EN_f .rwl 0 pcw, lv Reg.DFE_CTL_RXCAU_f, lv Reg.DFE_CTL_TXCAU_f]⟩,
  ⟨Reg.DFE_IAGC 0, [(8, 0x1000)], [st Reg.DFE_IAGC_TGTI_f .rw 12 pcw]⟩,
  ⟨Reg.DFE_TXUND_LO 0, [(8, 0x1000)], [st Reg.DFE_TXUND_LO_COUNT_f .cnt 0 pcw]⟩,
  ⟨Reg.DFE_TXUND_HI 0, [(8, 0x1000)], [st Reg.DFE_TXUND_HI_COUNT_f .ro 0 pcw]⟩,
  ⟨Reg.DFE_RXCFG 0 0, [(8, 0x1000), (256, 0x8)], [st Reg.DFE_RXCFG_EN_f .rwl 0 pcw, st Reg.DFE_RXCFG_SRC_f .rwl 0 pcw, st Reg.DFE_RXCFG_KIND_f .rwl 0 pcw, st Reg.DFE_RXCFG_FMT_f .rwl 0 pcw, st Reg.DFE_RXCFG_CHAN_f .rwl 0 pcw]⟩,
  ⟨Reg.DFE_RXNCO 0 0, [(8, 0x1000), (256, 0x8)], [st Reg.DFE_RXNCO_FREQ_f .rwl 0 pcw]⟩,
  ⟨Reg.DFE_RXBASE_LO 0 0, [(8, 0x1000), (256, 0x8)], [st Reg.DFE_RXBASE_LO_BASE_f .rwl 0 pcw]⟩,
  ⟨Reg.DFE_RXBASE_HI 0 0, [(8, 0x1000), (256, 0x8)], [st Reg.DFE_RXBASE_HI_BASE_f .rwl 0 pcw]⟩,
  ⟨Reg.DFE_RXLEN 0 0, [(8, 0x1000), (256, 0x8)], [st Reg.DFE_RXLEN_FLOWID_f .rwl 0 pcw, st Reg.DFE_RXLEN_LEN_f .rwl 1 pcw]⟩,
  ⟨Reg.DFE_RXAGC 0 0, [(8, 0x1000), (256, 0x8)], [st Reg.DFE_RXAGC_FREEZE_f .rw 0 pcw, st Reg.DFE_RXAGC_MODE_f .rw 0 pcw, st Reg.DFE_RXAGC_TGT_f .rw 15 pcw, st Reg.DFE_RXAGC_STEP_f .rw 12 pcw, st Reg.DFE_RXAGC_DEAD_f .rw 4 pcw]⟩,
  ⟨Reg.DFE_RXGAIN 0 0, [(8, 0x1000), (256, 0x8)], [st Reg.DFE_RXGAIN_G_f .rw 0 pcw]⟩,
  ⟨Reg.DFE_RXNF 0 0, [(8, 0x1000), (256, 0x8)], [st Reg.DFE_RXNF_VALID_f .ro 0 pcw, st Reg.DFE_RXNF_STALE_f .ro 0 pcw, st Reg.DFE_RXNF_LATECNT_f .ro 0 pcw, st Reg.DFE_RXNF_NF_f .ro 0 pcw]⟩,
  ⟨Reg.DFE_TXCFG 0 0, [(8, 0x1000), (128, 0x8)], [st Reg.DFE_TXCFG_EN_f .rwl 0 pcw, st Reg.DFE_TXCFG_SINK_f .rwl 0 pcw, st Reg.DFE_TXCFG_KIND_f .rwl 0 pcw, st Reg.DFE_TXCFG_FMT_f .rwl 0 pcw, st Reg.DFE_TXCFG_CHAN_f .rwl 0 pcw, st Reg.DFE_TXCFG_ATT_f .rw 0 pcw]⟩,
  ⟨Reg.DFE_TXNCO 0 0, [(8, 0x1000), (128, 0x8)], [st Reg.DFE_TXNCO_FREQ_f .rwl 0 pcw]⟩,
  ⟨Reg.DFE_TXBASE_LO 0 0, [(8, 0x1000), (128, 0x8)], [st Reg.DFE_TXBASE_LO_BASE_f .rwl 0 pcw]⟩,
  ⟨Reg.DFE_TXBASE_HI 0 0, [(8, 0x1000), (128, 0x8)], [st Reg.DFE_TXBASE_HI_BASE_f .rwl 0 pcw]⟩]

def dfe1 : List RegSpec := [
  ⟨Reg.DFE_TXLEN 0 0, [(8, 0x1000), (128, 0x8)], [st Reg.DFE_TXLEN_FLOWID_f .rwl 0 pcw, st Reg.DFE_TXLEN_LEN_f .rwl 1 pcw]⟩,
  ⟨Reg.DFE_JCFG 0, [(4, 0x10)], [st Reg.DFE_JCFG_EN_f .rwl 0 pcw, st Reg.DFE_JCFG_DIR_f .rwl 0 pcw, st Reg.DFE_JCFG_LM1_f .rwl 0 pcw, st Reg.DFE_JCFG_MM1_f .rwl 1 pcw, st Reg.DFE_JCFG_NM1_f .rwl 15 pcw, st Reg.DFE_JCFG_SC_f .rwl 0 pcw, st Reg.DFE_JCFG_EM1_f .rwl 0 pcw]⟩,
  ⟨Reg.DFE_JRATE 0, [(4, 0x10)], [st Reg.DFE_JRATE_KRATE_f .rwl 64 pcw]⟩,
  ⟨Reg.DFE_JDLY 0, [(4, 0x10)], [st Reg.DFE_JDLY_DLY_f .rw 0 pc]⟩,
  ⟨Reg.DFE_JSTAT 0, [(4, 0x10)], [lv Reg.DFE_JSTAT_UP_f, lv Reg.DFE_JSTAT_SYSOK_f, st Reg.DFE_JSTAT_CRCERR_f .w1c 0 pcw, st Reg.DFE_JSTAT_ALIGNERR_f .w1c 0 pcw]⟩,
  ⟨Reg.DFE_NFCFG, [], [st Reg.DFE_NFCFG_IDLE_MIN_f .rw 2 pcw, st Reg.DFE_NFCFG_NFA_f .rw 4 pcw, st Reg.DFE_NFCFG_STALE_f .rw 100 pcw]⟩,
  ⟨Reg.DFE_FHCFG, [], [st Reg.DFE_FHCFG_FHWIN_f .rw 50 pcw, st Reg.DFE_FHCFG_FHADV_f .rw 250 pcw]⟩]

/-- Block DFE. -/
def dfeRegs : List RegSpec := dfe0 ++ dfe1

def spc0 : List RegSpec := [
  ⟨Reg.SPC_CTL 0, [(24, 0x10)], [st Reg.SPC_CTL_EN_f .rwl 0 pcw, st Reg.SPC_CTL_DLQ_f .rwl 0 pcw]⟩,
  ⟨Reg.SPC_STAT 0, [(24, 0x10)], [lv Reg.SPC_STAT_BUSY_f]⟩]

/-- Block SPC. -/
def spcRegs : List RegSpec := spc0

def bdt0 : List RegSpec := [
  ⟨Reg.BDT_CTL 0, [(16, 0x100)], [st Reg.BDT_CTL_EN_f .rwl 0 pcw, st Reg.BDT_CTL_TRLQ_f .rwl 0 pcw, lv Reg.BDT_CTL_INUSE_f]⟩,
  ⟨Reg.BDT_CCFG 0 0, [(16, 0x100), (16, 0x8)], [st Reg.BDT_CCFG_EN_f .rwl 0 pcw, st Reg.BDT_CCFG_RATE_f .rwl 1 pcw, st Reg.BDT_CCFG_HR_f .rwl 1 pcw, st Reg.BDT_CCFG_TOL_f .rw 3 pcw, st Reg.BDT_CCFG_AUTOACK_f .rw 0 pcw, st Reg.BDT_CCFG_DFE_f .rwl 0 pcw, st Reg.BDT_CCFG_STREAM_f .rwl 0 pcw, st Reg.BDT_CCFG_AM1_f .rwl 0 pcw]⟩,
  ⟨Reg.BDT_CPOOL 0 0, [(16, 0x100), (16, 0x8)], [st Reg.BDT_CPOOL_CARRIER_f .rwl 0 pcw, st Reg.BDT_CPOOL_IPOOL_f .rwl 8 pcw, st Reg.BDT_CPOOL_THR_f .rw 76 pcw]⟩,
  ⟨Reg.BDT_USYNC_LO 0 0, [(16, 0x100), (16, 0x8)], [st Reg.BDT_USYNC_LO_SYNC_f .rwl 3838407 pcw]⟩,
  ⟨Reg.BDT_USYNC_HI 0 0, [(16, 0x100), (16, 0x8)], [st Reg.BDT_USYNC_HI_SYNC_f .rwl 94 pcw]⟩,
  ⟨Reg.BDT_ASYNC_LO 0 0, [(16, 0x100), (16, 0x8)], [st Reg.BDT_ASYNC_LO_SYNC_f .rwl 12938808 pcw]⟩,
  ⟨Reg.BDT_ASYNC_HI 0 0, [(16, 0x100), (16, 0x8)], [st Reg.BDT_ASYNC_HI_SYNC_f .rwl 161 pcw]⟩,
  ⟨Reg.BDT_CJNT 0 0, [(16, 0x100), (16, 0x8)], [st Reg.BDT_CJNT_JEN_f .rwl 0 pcw, st Reg.BDT_CJNT_RPTALL_f .rw 0 pcw, st Reg.BDT_CJNT_GROUP_f .rwl 0 pcw]⟩,
  ⟨Reg.BDT_CSTAT 0 0, [(16, 0x100), (16, 0x8)], [lv Reg.BDT_CSTAT_INUSE_f]⟩,
  ⟨Reg.BDT_DET_LO 0, [(16, 0x100)], [st Reg.BDT_DET_LO_COUNT_f .cnt 0 pcw]⟩,
  ⟨Reg.BDT_DET_HI 0, [(16, 0x100)], [st Reg.BDT_DET_HI_COUNT_f .ro 0 pcw]⟩,
  ⟨Reg.BDT_NOSYNC_LO 0, [(16, 0x100)], [st Reg.BDT_NOSYNC_LO_COUNT_f .cnt 0 pcw]⟩,
  ⟨Reg.BDT_NOSYNC_HI 0, [(16, 0x100)], [st Reg.BDT_NOSYNC_HI_COUNT_f .ro 0 pcw]⟩,
  ⟨Reg.BDT_PREEMPT_LO 0, [(16, 0x100)], [st Reg.BDT_PREEMPT_LO_COUNT_f .cnt 0 pcw]⟩,
  ⟨Reg.BDT_PREEMPT_HI 0, [(16, 0x100)], [st Reg.BDT_PREEMPT_HI_COUNT_f .ro 0 pcw]⟩,
  ⟨Reg.BDT_DROP_LO 0, [(16, 0x100)], [st Reg.BDT_DROP_LO_COUNT_f .cnt 0 pcw]⟩]

def bdt1 : List RegSpec := [
  ⟨Reg.BDT_DROP_HI 0, [(16, 0x100)], [st Reg.BDT_DROP_HI_COUNT_f .ro 0 pcw]⟩]

/-- Block BDT. -/
def bdtRegs : List RegSpec := bdt0 ++ bdt1

def brx0 : List RegSpec := [
  ⟨Reg.BRX_LOOP, [], [st Reg.BRX_LOOP_FBW_f .rw 1 pcw, st Reg.BRX_LOOP_TBW_f .rw 1 pcw, st Reg.BRX_LOOP_LOSSN_f .rw 32 pcw]⟩,
  ⟨Reg.BRX_TIMES, [], [st Reg.BRX_TIMES_DECDL_f .rw 8 pcw, st Reg.BRX_TIMES_SICHOLD_f .rw 50 pcw]⟩,
  ⟨Reg.BRX_SICBASE_LO, [], [st Reg.BRX_SICBASE_LO_BASE_f .rwl 0 pcw]⟩,
  ⟨Reg.BRX_SICBASE_HI, [], [st Reg.BRX_SICBASE_HI_BASE_f .rwl 0 pcw]⟩,
  ⟨Reg.BRX_SICSIZE, [], [st Reg.BRX_SICSIZE_EN_f .rwl 0 pcw, st Reg.BRX_SICSIZE_BLOCKS_f .rwl 4096 pcw]⟩,
  ⟨Reg.BRX_SICFREE, [], [lv Reg.BRX_SICFREE_FREE_f]⟩,
  ⟨Reg.BRX_JCFG, [], [st Reg.BRX_JCFG_JNTLAT_f .rw 4 pcw, st Reg.BRX_JCFG_TTOL_f .rw 50 pcw, st Reg.BRX_JCFG_JNTWIN_f .rw 4 pcw]⟩,
  ⟨Reg.BRX_RPT, [], [st Reg.BRX_RPT_HOSTUNIT_f .rwl 0 pcw]⟩,
  ⟨Reg.BRX_SICFAIL_LO, [], [st Reg.BRX_SICFAIL_LO_COUNT_f .cnt 0 pcw]⟩,
  ⟨Reg.BRX_SICFAIL_HI, [], [st Reg.BRX_SICFAIL_HI_COUNT_f .ro 0 pcw]⟩,
  ⟨Reg.BRX_JGRP 0 0, [(64, 0x8), (8, 0x1)], [st Reg.BRX_JGRP_VALID_f .rwl 0 pcw, st Reg.BRX_JGRP_DEVICE_f .rwl 0 pcw]⟩]

/-- Block BRX. -/
def brxRegs : List RegSpec := brx0

def rad0 : List RegSpec := [
  ⟨Reg.RAD_CTL 0, [(8, 0x10)], [st Reg.RAD_CTL_EN_f .rwl 0 pcw, st Reg.RAD_CTL_DLQ_f .rwl 0 pcw]⟩,
  ⟨Reg.RAD_FACFG, [], [st Reg.RAD_FACFG_OFSMAX_f .rw 48 pcw, st Reg.RAD_FACFG_UP_f .rw 4 pcw, st Reg.RAD_FACFG_DOWN_f .rw 1 pcw]⟩,
  ⟨Reg.RAD_OFS 0, [(512, 0x1)], [st Reg.RAD_OFS_OFS_f .rw 0 pcw]⟩]

/-- Block RAD. -/
def radRegs : List RegSpec := rad0

def pwr0 : List RegSpec := [
  ⟨Reg.PWR_MODE, [], [st Reg.PWR_MODE_MODE_f .rw 0 pc, lv Reg.PWR_MODE_CUR_f, st Reg.PWR_MODE_ABORT_f .w1c 0 pc]⟩,
  ⟨Reg.PWR_WAKECFG, [], [st Reg.PWR_WAKECFG_TGT_f .rw 0 pc, st Reg.PWR_WAKECFG_WAKEN_f .rw 1 pc, st Reg.PWR_WAKECFG_CMPW_f .rw 1 pc]⟩,
  ⟨Reg.PWR_WAKE_REG_TMO, [], [st Reg.PWR_WAKE_REG_TMO_TMO_f .rw 20 pc]⟩,
  ⟨Reg.PWR_WAKE_OSC_TMO, [], [st Reg.PWR_WAKE_OSC_TMO_TMO_f .rw 20 pc]⟩,
  ⟨Reg.PWR_WAKE_RETRY_MAX, [], [st Reg.PWR_WAKE_RETRY_MAX_MAX_f .rw 8 pc]⟩,
  ⟨Reg.PWR_SWITCHBACK_HOLD, [], [st Reg.PWR_SWITCHBACK_HOLD_HOLD_f .rw 100 pc]⟩,
  ⟨Reg.PWR_ENTRY_TMO, [], [st Reg.PWR_ENTRY_TMO_TMO_f .rw 1000 pc]⟩,
  ⟨Reg.PWR_PAD_RELEASE, [], [st Reg.PWR_PAD_RELEASE_GO_f .wo 0 [], lv Reg.PWR_PAD_RELEASE_HELD_f]⟩,
  ⟨Reg.PWR_GRPCMD, [], [st Reg.PWR_GRPCMD_GO_f .wo 0 [], st Reg.PWR_GRPCMD_STATE_f .rw 1 pc, lv Reg.PWR_GRPCMD_BUSY_f, st Reg.PWR_GRPCMD_ERR_f .w1c 0 pc, st Reg.PWR_GRPCMD_GROUP_f .rw 0 pc]⟩,
  ⟨Reg.PWR_DOMDROP_LO, [], [st Reg.PWR_DOMDROP_LO_COUNT_f .cnt 0 pc]⟩,
  ⟨Reg.PWR_DOMDROP_HI, [], [st Reg.PWR_DOMDROP_HI_COUNT_f .ro 0 pc]⟩,
  ⟨Reg.PWR_SERVO_CTL, [], [st Reg.PWR_SERVO_CTL_EN_f .rw 1 pc, st Reg.PWR_SERVO_CTL_HOLD_f .rw 0 pc, st Reg.PWR_SERVO_CTL_ERR_f .w1c 0 pc, st Reg.PWR_SERVO_CTL_VMAX_f .rw 170 pc, st Reg.PWR_SERVO_CTL_VMIN_f .rw 110 pc]⟩,
  ⟨Reg.PWR_SLACK_FLOOR, [], [st Reg.PWR_SLACK_FLOOR_FLOOR_f .rw 120 pc]⟩,
  ⟨Reg.PWR_SLACK_WIN, [], [st Reg.PWR_SLACK_WIN_WIN_f .rw 10 pc]⟩,
  ⟨Reg.PWR_VSET, [], [st Reg.PWR_VSET_CODE_f .rw 160 pc]⟩,
  ⟨Reg.PWR_SLACK_WORST, [], [st Reg.PWR_SLACK_WORST_NOSAMP_f .ro 1 pc, st Reg.PWR_SLACK_WORST_ACTION_f .ro 0 pc, st Reg.PWR_SLACK_WORST_WORST_f .ro 0 pc]⟩]

def pwr1 : List RegSpec := [
  ⟨Reg.PWR_SLACK_POST, [], [st Reg.PWR_SLACK_POST_SAMPLE_f .wo 0 []]⟩,
  ⟨Reg.PWR_DOMSTAT 0, [(212, 0x1)], [lv Reg.PWR_DOMSTAT_STATE_f, lv Reg.PWR_DOMSTAT_RULE_f, lv Reg.PWR_DOMSTAT_GRPV_f, lv Reg.PWR_DOMSTAT_GROUP_f]⟩]

/-- Block PWR. -/
def pwrRegs : List RegSpec := pwr0 ++ pwr1

def sup0 : List RegSpec := [
  ⟨Reg.SUP_STAT, [], [st Reg.SUP_STAT_SEL_f .ro 0 pc, lv Reg.SUP_STAT_MGOOD_f, lv Reg.SUP_STAT_BGOOD_f, lv Reg.SUP_STAT_ENMAIN_f, lv Reg.SUP_STAT_ENBACK_f, lv Reg.SUP_STAT_PGMAIN_f, lv Reg.SUP_STAT_PGBACK_f, lv Reg.SUP_STAT_HOLDOK_f]⟩,
  ⟨Reg.SUP_CTL, [], [st Reg.SUP_CTL_SWBACK_f .wo 0 [], st Reg.SUP_CTL_SWTEST_f .wo 0 [], st Reg.SUP_CTL_MAINEN_f .rw 1 pc, st Reg.SUP_CTL_BACKEN_f .rw 1 pc]⟩,
  ⟨Reg.SUP_FAULT, [], [st Reg.SUP_FAULT_WAKE_FAIL_f .w1c 0 pc, st Reg.SUP_FAULT_SWITCHED_f .w1c 0 pc, st Reg.SUP_FAULT_NOBACKUP_f .w1c 0 pc, st Reg.SUP_FAULT_AVSERR_f .w1c 0 pc, st Reg.SUP_FAULT_BROWNOUT_f .w1c 0 p, st Reg.SUP_FAULT_ERR_f .w1c 0 pc]⟩,
  ⟨Reg.SUP_RETRY, [], [st Reg.SUP_RETRY_ATTEMPT_f .ro 0 pc, lv Reg.SUP_RETRY_WAIT_f]⟩,
  ⟨Reg.SUP_VRD_MAIN, [], [lv Reg.SUP_VRD_MAIN_MV_f]⟩,
  ⟨Reg.SUP_VRD_BACK, [], [lv Reg.SUP_VRD_BACK_MV_f]⟩,
  ⟨Reg.SUP_SWCNT_LO, [], [st Reg.SUP_SWCNT_LO_COUNT_f .cnt 0 pc]⟩,
  ⟨Reg.SUP_SWCNT_HI, [], [st Reg.SUP_SWCNT_HI_COUNT_f .ro 0 pc]⟩]

/-- Block SUP. -/
def supRegs : List RegSpec := sup0

def trl0 : List RegSpec := [
  ⟨Reg.TRL_CTL 0, [(16, 0x10)], [st Reg.TRL_CTL_EN_f .rwl 0 pcw, st Reg.TRL_CTL_DLQ_f .rwl 0 pcw]⟩,
  ⟨Reg.TRL_STAT 0, [(16, 0x10)], [lv Reg.TRL_STAT_BUSY_f]⟩,
  ⟨Reg.TRL_JOBS_LO 0, [(16, 0x10)], [st Reg.TRL_JOBS_LO_COUNT_f .cnt 0 pcw]⟩,
  ⟨Reg.TRL_JOBS_HI 0, [(16, 0x10)], [st Reg.TRL_JOBS_HI_COUNT_f .ro 0 pcw]⟩]

/-- Block TRL. -/
def trlRegs : List RegSpec := trl0

def trb0 : List RegSpec := [
  ⟨Reg.TRB_CTL 0, [(12, 0x10)], [st Reg.TRB_CTL_EN_f .rwl 0 pcw, st Reg.TRB_CTL_DLQ_f .rwl 0 pcw]⟩,
  ⟨Reg.TRB_STAT 0, [(12, 0x10)], [lv Reg.TRB_STAT_BUSY_f, lv Reg.TRB_STAT_ITER_f]⟩,
  ⟨Reg.TRB_JOBS_LO 0, [(12, 0x10)], [st Reg.TRB_JOBS_LO_COUNT_f .cnt 0 pcw]⟩,
  ⟨Reg.TRB_JOBS_HI 0, [(12, 0x10)], [st Reg.TRB_JOBS_HI_COUNT_f .ro 0 pcw]⟩,
  ⟨Reg.TRB_CRCF_LO 0, [(12, 0x10)], [st Reg.TRB_CRCF_LO_COUNT_f .cnt 0 pcw]⟩,
  ⟨Reg.TRB_CRCF_HI 0, [(12, 0x10)], [st Reg.TRB_CRCF_HI_COUNT_f .ro 0 pcw]⟩,
  ⟨Reg.TRB_CFG, [], [st Reg.TRB_CFG_EXTSC_f .rw 6 pcw, st Reg.TRB_CFG_IMAXCAP_f .rw 8 pcw]⟩,
  ⟨Reg.TRB_RSEQ, [], [st Reg.TRB_RSEQ_NEXT_f .ro 0 pcw]⟩]

/-- Block TRB. -/
def trbRegs : List RegSpec := trb0

def enc0 : List RegSpec := [
  ⟨Reg.ENC_CTL 0, [(8, 0x10)], [st Reg.ENC_CTL_EN_f .rwl 0 pcw, st Reg.ENC_CTL_DLQ_f .rwl 0 pcw]⟩,
  ⟨Reg.ENC_STAT 0, [(8, 0x10)], [lv Reg.ENC_STAT_BUSY_f]⟩,
  ⟨Reg.ENC_JOBS_LO 0, [(8, 0x10)], [st Reg.ENC_JOBS_LO_COUNT_f .cnt 0 pcw]⟩,
  ⟨Reg.ENC_JOBS_HI 0, [(8, 0x10)], [st Reg.ENC_JOBS_HI_COUNT_f .ro 0 pcw]⟩]

/-- Block ENC. -/
def encRegs : List RegSpec := enc0

def stc0 : List RegSpec := [
  ⟨Reg.STC_CMD, [], [st Reg.STC_CMD_GO_f .wo 0 [], st Reg.STC_CMD_OP_f .wo 0 []]⟩,
  ⟨Reg.STC_IMG_LO, [], [st Reg.STC_IMG_LO_BASE_f .rw 0 pc]⟩,
  ⟨Reg.STC_IMG_HI, [], [st Reg.STC_IMG_HI_BASE_f .rw 0 pc]⟩,
  ⟨Reg.STC_STAT, [], [st Reg.STC_STAT_STATE_f .ro 0 pc, st Reg.STC_STAT_LOCKED_f .ro 0 pc, st Reg.STC_STAT_RESULT_f .ro 0 pc, st Reg.STC_STAT_ERR_f .w1c 0 pc, st Reg.STC_STAT_DRAINREQ_f .ro 0 pcw]⟩,
  ⟨Reg.STC_REJ, [], [st Reg.STC_REJ_RECORD_f .ro 0 pc, st Reg.STC_REJ_RULE_f .ro 0 pc]⟩,
  ⟨Reg.STC_REJENT, [], [st Reg.STC_REJENT_OFFSET_f .ro 0 pc]⟩,
  ⟨Reg.STC_SLICE, [], [st Reg.STC_SLICE_FORCE_f .rw 0 pc, st Reg.STC_SLICE_OLD_f .ro 0 pc, st Reg.STC_SLICE_NEW_f .ro 0 pc, st Reg.STC_SLICE_DRAINTMO_f .rw 10 pc]⟩,
  ⟨Reg.STC_DRAINACK, [], [st Reg.STC_DRAINACK_ACK_f .wo 0 []]⟩,
  ⟨Reg.STC_RODMAP, [], [st Reg.STC_RODMAP_ASSIGNED_f .ro 0 pc]⟩,
  ⟨Reg.STC_IMGID_LO, [], [st Reg.STC_IMGID_LO_ID_f .ro 0 pc]⟩,
  ⟨Reg.STC_IMGID_HI, [], [st Reg.STC_IMGID_HI_ID_f .ro 0 pc]⟩,
  ⟨Reg.STC_RET 0, [(15, 0x4)], [st Reg.STC_RET_VALID_f .ro 0 pc, st Reg.STC_RET_FULL_f .ro 0 pc, st Reg.STC_RET_ROD_f .ro 0 pc]⟩,
  ⟨Reg.STC_RETBASE_LO 0, [(15, 0x4)], [st Reg.STC_RETBASE_LO_BASE_f .ro 0 pc]⟩,
  ⟨Reg.STC_RETBASE_HI 0, [(15, 0x4)], [st Reg.STC_RETBASE_HI_BASE_f .ro 0 pc]⟩,
  ⟨Reg.STC_RETLEN 0, [(15, 0x4)], [st Reg.STC_RETLEN_LENGTH_f .ro 0 pc]⟩,
  ⟨Reg.STC_FENCE, [], [st Reg.STC_FENCE_GO_f .wo 0 [], lv Reg.STC_FENCE_BUSY_f, st Reg.STC_FENCE_ERR_f .w1c 0 pc, st Reg.STC_FENCE_UNIT_f .rw 0 pc]⟩]

def stc1 : List RegSpec := [
  ⟨Reg.STC_FENCEMAP 0, [(12, 0x1)], [st Reg.STC_FENCEMAP_MAP_f .ro 0 pc]⟩]

/-- Block STC. -/
def stcRegs : List RegSpec := stc0 ++ stc1

def tly0 : List RegSpec := [
  ⟨Reg.TLY_AT_S, [], [st Reg.TLY_AT_S_S_f .rw 0 pc]⟩,
  ⟨Reg.TLY_AT_NSL, [], [st Reg.TLY_AT_NSL_NSL_f .rw 0 pc]⟩,
  ⟨Reg.TLY_AT_NSH, [], [st Reg.TLY_AT_NSH_ARM_f .rw 0 pc, st Reg.TLY_AT_NSH_NSH_f .rw 0 pc]⟩,
  ⟨Reg.TLY_STAT, [], [lv Reg.TLY_STAT_STATE_f, st Reg.TLY_STAT_LATE_f .ro 0 pc]⟩,
  ⟨Reg.TLY_SEQ, [], [st Reg.TLY_SEQ_SEQ_f .ro 0 pc]⟩,
  ⟨Reg.TLY_SNAP_S, [], [st Reg.TLY_SNAP_S_S_f .ro 0 pc]⟩,
  ⟨Reg.TLY_SNAP_NSL, [], [st Reg.TLY_SNAP_NSL_NSL_f .ro 0 pc]⟩,
  ⟨Reg.TLY_SNAP_NSH, [], [st Reg.TLY_SNAP_NSH_NSH_f .ro 0 pc]⟩]

/-- Block TLY. -/
def tlyRegs : List RegSpec := tly0

def brg0 : List RegSpec := [
  ⟨Reg.BRG_GCTL, [], [st Reg.BRG_GCTL_EN_f .rwl 0 pcw, st Reg.BRG_GCTL_RSVMGMT_f .rw 1 pcw, st Reg.BRG_GCTL_AGE_f .rw 300 pcw]⟩,
  ⟨Reg.BRG_BEADMAC_LO, [], [st Reg.BRG_BEADMAC_LO_MAC_f .rwl 0 pcw]⟩,
  ⟨Reg.BRG_BEADMAC_HI, [], [st Reg.BRG_BEADMAC_HI_MAC_f .rwl 0 pcw]⟩,
  ⟨Reg.BRG_MGMTMAC_LO, [], [st Reg.BRG_MGMTMAC_LO_MAC_f .rwl 0 pcw]⟩,
  ⟨Reg.BRG_MGMTMAC_HI, [], [st Reg.BRG_MGMTMAC_HI_MAC_f .rwl 0 pcw]⟩,
  ⟨Reg.BRG_BUFBASE_LO, [], [st Reg.BRG_BUFBASE_LO_BASE_f .rwl 0 pcw]⟩,
  ⟨Reg.BRG_BUFBASE_HI, [], [st Reg.BRG_BUFBASE_HI_BASE_f .rwl 0 pcw]⟩,
  ⟨Reg.BRG_BUFCELLS, [], [st Reg.BRG_BUFCELLS_CELLS_f .rwl 0 pcw]⟩,
  ⟨Reg.BRG_BEADCFG, [], [st Reg.BRG_BEADCFG_HOLD_f .rw 20 pcw, st Reg.BRG_BEADCFG_MAXW_f .rw 496 pcw]⟩,
  ⟨Reg.BRG_MGMT_BASE_LO, [], [st Reg.BRG_MGMT_BASE_LO_BASE_f .rwl 0 pcw]⟩,
  ⟨Reg.BRG_MGMT_BASE_HI, [], [st Reg.BRG_MGMT_BASE_HI_BASE_f .rwl 0 pcw]⟩,
  ⟨Reg.BRG_MGMT_LEN, [], [st Reg.BRG_MGMT_LEN_LEN_f .rwl 0 pcw]⟩,
  ⟨Reg.BRG_MGMT_HEAD, [], [st Reg.BRG_MGMT_HEAD_HEAD_f .ro 0 pcw]⟩,
  ⟨Reg.BRG_MGMT_TAIL, [], [st Reg.BRG_MGMT_TAIL_TAIL_f .rw 0 pcw]⟩,
  ⟨Reg.BRG_MGMT_DEST, [], [st Reg.BRG_MGMT_DEST_DEVICE_f .rw 0 pcw, st Reg.BRG_MGMT_DEST_UNIT_f .rw 0 pcw]⟩,
  ⟨Reg.BRG_FDBCMD, [], [st Reg.BRG_FDBCMD_GO_f .wo 0 [], st Reg.BRG_FDBCMD_OP_f .rw 0 pcw, lv Reg.BRG_FDBCMD_BUSY_f, st Reg.BRG_FDBCMD_ERR_f .w1c 0 pcw, st Reg.BRG_FDBCMD_STATIC_f .rw 0 pcw, st Reg.BRG_FDBCMD_VID_f .rw 0 pcw]⟩]

def brg1 : List RegSpec := [
  ⟨Reg.BRG_FDBMAC_LO, [], [st Reg.BRG_FDBMAC_LO_MAC_f .rw 0 pcw]⟩,
  ⟨Reg.BRG_FDBMAC_HI, [], [st Reg.BRG_FDBMAC_HI_MAC_f .rw 0 pcw]⟩,
  ⟨Reg.BRG_FDBMASK, [], [st Reg.BRG_FDBMASK_MASK_f .rw 0 pcw]⟩,
  ⟨Reg.BRG_LEARNFAIL_LO, [], [st Reg.BRG_LEARNFAIL_LO_COUNT_f .cnt 0 pcw]⟩,
  ⟨Reg.BRG_LEARNFAIL_HI, [], [st Reg.BRG_LEARNFAIL_HI_COUNT_f .ro 0 pcw]⟩,
  ⟨Reg.BRG_HOST_MAC_LO 0, [(16, 0x4)], [st Reg.BRG_HOST_MAC_LO_MAC_f .rwl 0 pcw]⟩,
  ⟨Reg.BRG_HOST_MAC_HI 0, [(16, 0x4)], [st Reg.BRG_HOST_MAC_HI_MAC_f .rwl 0 pcw]⟩,
  ⟨Reg.BRG_HOST 0, [(16, 0x4)], [st Reg.BRG_HOST_VALID_f .rwl 0 pcw, st Reg.BRG_HOST_RXEN_f .rwl 0 pcw, st Reg.BRG_HOST_TAG_f .rwl 0 pcw, st Reg.BRG_HOST_PCP_f .rwl 0 pcw, st Reg.BRG_HOST_VID_f .rwl 0 pcw]⟩,
  ⟨Reg.BRG_HOST_RODS 0, [(16, 0x4)], [st Reg.BRG_HOST_RODS_RODS_f .rwl 0 pcw]⟩,
  ⟨Reg.BRG_PCFG 0, [(18, 0x100)], [st Reg.BRG_PCFG_EN_f .rwl 0 pcw, st Reg.BRG_PCFG_MODE_f .rwl 0 pcw, st Reg.BRG_PCFG_QUAD_f .rwl 0 pcw, st Reg.BRG_PCFG_LANE_f .rwl 0 pcw, st Reg.BRG_PCFG_TRAIN_f .rwl 0 pcw, st Reg.BRG_PCFG_ADV_f .rwl 0 pcw, st Reg.BRG_PCFG_PTPM_f .rw 0 pcw, st Reg.BRG_PCFG_LEARN_f .rw 1 pcw]⟩,
  ⟨Reg.BRG_PSTAT 0, [(18, 0x100)], [lv Reg.BRG_PSTAT_LINK_f, lv Reg.BRG_PSTAT_ANDONE_f, lv Reg.BRG_PSTAT_RMODE_f, lv Reg.BRG_PSTAT_FECLOCK_f]⟩,
  ⟨Reg.BRG_PVID 0, [(18, 0x100)], [st Reg.BRG_PVID_PCP_f .rw 0 pcw, st Reg.BRG_PVID_AFT_f .rw 0 pcw, st Reg.BRG_PVID_PVID_f .rw 1 pcw]⟩,
  ⟨Reg.BRG_PCPMAP 0, [(18, 0x100)], [st Reg.BRG_PCPMAP_MAP_f .rw 16434824 pcw]⟩,
  ⟨Reg.BRG_TXDLY 0, [(18, 0x100)], [st Reg.BRG_TXDLY_DLY_f .rw 0 pc]⟩,
  ⟨Reg.BRG_RXDLY 0, [(18, 0x100)], [st Reg.BRG_RXDLY_DLY_f .rw 0 pc]⟩,
  ⟨Reg.BRG_TCCFG 0 0, [(18, 0x100), (8, 0x4)], [st Reg.BRG_TCCFG_SP_f .rw 0 pcw, st Reg.BRG_TCCFG_TIMED_f .rw 0 pcw, st Reg.BRG_TCCFG_GUARD_f .rw 0 pcw, st Reg.BRG_TCCFG_QUANTUM_f .rw 24 pcw, st Reg.BRG_TCCFG_QLIM_f .rw 0 pcw]⟩]

def brg2 : List RegSpec := [
  ⟨Reg.BRG_SHPRATE 0 0, [(18, 0x100), (8, 0x4)], [st Reg.BRG_SHPRATE_EN_f .rw 0 pcw, st Reg.BRG_SHPRATE_RATE_f .rw 1000 pcw]⟩,
  ⟨Reg.BRG_SHPBURST 0 0, [(18, 0x100), (8, 0x4)], [st Reg.BRG_SHPBURST_LOVH_f .rw 20 pcw, st Reg.BRG_SHPBURST_BURST_f .rw 32 pcw]⟩,
  ⟨Reg.BRG_GCLCTL 0, [(18, 0x100)], [st Reg.BRG_GCLCTL_GEN_f .rw 0 pcw, st Reg.BRG_GCLCTL_PEND_f .rw 0 pcw, st Reg.BRG_GCLCTL_OPER_f .ro 0 pcw, st Reg.BRG_GCLCTL_ERR_f .w1c 0 pcw, st Reg.BRG_GCLCTL_LEN_f .rw 1 pcw]⟩,
  ⟨Reg.BRG_GCLBASE_S 0, [(18, 0x100)], [st Reg.BRG_GCLBASE_S_V_f .rw 0 pcw]⟩,
  ⟨Reg.BRG_GCLBASE_NSL 0, [(18, 0x100)], [st Reg.BRG_GCLBASE_NSL_V_f .rw 0 pcw]⟩,
  ⟨Reg.BRG_GCLBASE_NSH 0, [(18, 0x100)], [st Reg.BRG_GCLBASE_NSH_V_f .rw 0 pcw]⟩,
  ⟨Reg.BRG_GCLCYC_LO 0, [(18, 0x100)], [st Reg.BRG_GCLCYC_LO_V_f .rw 0 pcw]⟩,
  ⟨Reg.BRG_GCLCYC_HI 0, [(18, 0x100)], [st Reg.BRG_GCLCYC_HI_V_f .rw 0 pcw]⟩,
  ⟨Reg.BRG_REFILL 0, [(18, 0x100)], [st Reg.BRG_REFILL_REFILL_f .rw 10 pcw]⟩,
  ⟨Reg.BRG_LTCFG 0, [(18, 0x100)], [st Reg.BRG_LTCFG_LATEMAX_f .rw 100 pcw]⟩,
  ⟨Reg.BRG_MSEC 0, [(18, 0x100)], [st Reg.BRG_MSEC_EN_f .rw 0 pcw, st Reg.BRG_MSEC_CIPHER_f .rw 0 pcw, st Reg.BRG_MSEC_VALIDATE_f .rw 2 pcw, st Reg.BRG_MSEC_PTPBYP_f .rw 1 pcw, st Reg.BRG_MSEC_TXSCI_f .rw 1 pcw, st Reg.BRG_MSEC_CONF_f .rw 1 pcw, st Reg.BRG_MSEC_OFFSET_f .rw 0 pcw, lv Reg.BRG_MSEC_TXAN_f]⟩,
  ⟨Reg.BRG_GCLOBASE_S 0, [(18, 0x100)], [st Reg.BRG_GCLOBASE_S_V_f .ro 0 pcw]⟩,
  ⟨Reg.BRG_GCLOBASE_NSL 0, [(18, 0x100)], [st Reg.BRG_GCLOBASE_NSL_V_f .ro 0 pcw]⟩,
  ⟨Reg.BRG_GCLOBASE_NSH 0, [(18, 0x100)], [st Reg.BRG_GCLOBASE_NSH_V_f .ro 0 pcw]⟩,
  ⟨Reg.BRG_GCLOCYC_LO 0, [(18, 0x100)], [st Reg.BRG_GCLOCYC_LO_V_f .ro 0 pcw]⟩,
  ⟨Reg.BRG_GCLOCYC_HI 0, [(18, 0x100)], [st Reg.BRG_GCLOCYC_HI_V_f .ro 0 pcw]⟩]

def brg3 : List RegSpec := [
  ⟨Reg.BRG_MSEC_RPL 0, [(18, 0x100)], [st Reg.BRG_MSEC_RPL_EN_f .rw 0 pcw, st Reg.BRG_MSEC_RPL_WINDOW_f .rw 0 pcw]⟩,
  ⟨Reg.BRG_MSEC_PNTHR 0, [(18, 0x100)], [st Reg.BRG_MSEC_PNTHR_THR_f .rw 1024 pcw]⟩,
  ⟨Reg.BRG_RXFRM_LO 0, [(18, 0x100)], [st Reg.BRG_RXFRM_LO_COUNT_f .cnt 0 pcw]⟩,
  ⟨Reg.BRG_RXFRM_HI 0, [(18, 0x100)], [st Reg.BRG_RXFRM_HI_COUNT_f .ro 0 pcw]⟩,
  ⟨Reg.BRG_RXERR_LO 0, [(18, 0x100)], [st Reg.BRG_RXERR_LO_COUNT_f .cnt 0 pcw]⟩,
  ⟨Reg.BRG_RXERR_HI 0, [(18, 0x100)], [st Reg.BRG_RXERR_HI_COUNT_f .ro 0 pcw]⟩,
  ⟨Reg.BRG_TXFRM_LO 0, [(18, 0x100)], [st Reg.BRG_TXFRM_LO_COUNT_f .cnt 0 pcw]⟩,
  ⟨Reg.BRG_TXFRM_HI 0, [(18, 0x100)], [st Reg.BRG_TXFRM_HI_COUNT_f .ro 0 pcw]⟩,
  ⟨Reg.BRG_LINKDROP_LO 0, [(18, 0x100)], [st Reg.BRG_LINKDROP_LO_COUNT_f .cnt 0 pcw]⟩,
  ⟨Reg.BRG_LINKDROP_HI 0, [(18, 0x100)], [st Reg.BRG_LINKDROP_HI_COUNT_f .ro 0 pcw]⟩,
  ⟨Reg.BRG_BUFDROP_LO 0, [(18, 0x100)], [st Reg.BRG_BUFDROP_LO_COUNT_f .cnt 0 pcw]⟩,
  ⟨Reg.BRG_BUFDROP_HI 0, [(18, 0x100)], [st Reg.BRG_BUFDROP_HI_COUNT_f .ro 0 pcw]⟩,
  ⟨Reg.BRG_POISONDROP_LO 0, [(18, 0x100)], [st Reg.BRG_POISONDROP_LO_COUNT_f .cnt 0 pcw]⟩,
  ⟨Reg.BRG_POISONDROP_HI 0, [(18, 0x100)], [st Reg.BRG_POISONDROP_HI_COUNT_f .ro 0 pcw]⟩,
  ⟨Reg.BRG_LTLATE_LO 0, [(18, 0x100)], [st Reg.BRG_LTLATE_LO_COUNT_f .cnt 0 pcw]⟩,
  ⟨Reg.BRG_LTLATE_HI 0, [(18, 0x100)], [st Reg.BRG_LTLATE_HI_COUNT_f .ro 0 pcw]⟩]

def brg4 : List RegSpec := [
  ⟨Reg.BRG_LTDROP_LO 0, [(18, 0x100)], [st Reg.BRG_LTDROP_LO_COUNT_f .cnt 0 pcw]⟩,
  ⟨Reg.BRG_LTDROP_HI 0, [(18, 0x100)], [st Reg.BRG_LTDROP_HI_COUNT_f .ro 0 pcw]⟩,
  ⟨Reg.BRG_GUARDDROP_LO 0, [(18, 0x100)], [st Reg.BRG_GUARDDROP_LO_COUNT_f .cnt 0 pcw]⟩,
  ⟨Reg.BRG_GUARDDROP_HI 0, [(18, 0x100)], [st Reg.BRG_GUARDDROP_HI_COUNT_f .ro 0 pcw]⟩,
  ⟨Reg.BRG_OVERRUN_LO 0, [(18, 0x100)], [st Reg.BRG_OVERRUN_LO_COUNT_f .cnt 0 pcw]⟩,
  ⟨Reg.BRG_OVERRUN_HI 0, [(18, 0x100)], [st Reg.BRG_OVERRUN_HI_COUNT_f .ro 0 pcw]⟩,
  ⟨Reg.BRG_MSECDROP_LO 0, [(18, 0x100)], [st Reg.BRG_MSECDROP_LO_COUNT_f .cnt 0 pcw]⟩,
  ⟨Reg.BRG_MSECDROP_HI 0, [(18, 0x100)], [st Reg.BRG_MSECDROP_HI_COUNT_f .ro 0 pcw]⟩,
  ⟨Reg.BRG_TXBAD_LO 0, [(18, 0x100)], [st Reg.BRG_TXBAD_LO_COUNT_f .cnt 0 pcw]⟩,
  ⟨Reg.BRG_TXBAD_HI 0, [(18, 0x100)], [st Reg.BRG_TXBAD_HI_COUNT_f .ro 0 pcw]⟩,
  ⟨Reg.BRG_ECPRIDROP_LO 0, [(18, 0x100)], [st Reg.BRG_ECPRIDROP_LO_COUNT_f .cnt 0 pcw]⟩,
  ⟨Reg.BRG_ECPRIDROP_HI 0, [(18, 0x100)], [st Reg.BRG_ECPRIDROP_HI_COUNT_f .ro 0 pcw]⟩,
  ⟨Reg.BRG_BEADERR_LO 0, [(18, 0x100)], [st Reg.BRG_BEADERR_LO_COUNT_f .cnt 0 pcw]⟩,
  ⟨Reg.BRG_BEADERR_HI 0, [(18, 0x100)], [st Reg.BRG_BEADERR_HI_COUNT_f .ro 0 pcw]⟩,
  ⟨Reg.BRG_FSEQGAP_LO 0, [(18, 0x100)], [st Reg.BRG_FSEQGAP_LO_COUNT_f .cnt 0 pcw]⟩,
  ⟨Reg.BRG_FSEQGAP_HI 0, [(18, 0x100)], [st Reg.BRG_FSEQGAP_HI_COUNT_f .ro 0 pcw]⟩]

def brg5 : List RegSpec := [
  ⟨Reg.BRG_MGMTDROP_LO 0, [(18, 0x100)], [st Reg.BRG_MGMTDROP_LO_COUNT_f .cnt 0 pcw]⟩,
  ⟨Reg.BRG_MGMTDROP_HI 0, [(18, 0x100)], [st Reg.BRG_MGMTDROP_HI_COUNT_f .ro 0 pcw]⟩,
  ⟨Reg.BRG_TXFRMT_LO 0 0, [(18, 0x100), (8, 0x2)], [st Reg.BRG_TXFRMT_LO_COUNT_f .cnt 0 pcw]⟩,
  ⟨Reg.BRG_TXFRMT_HI 0 0, [(18, 0x100), (8, 0x2)], [st Reg.BRG_TXFRMT_HI_COUNT_f .ro 0 pcw]⟩,
  ⟨Reg.BRG_FLOW_DA_LO 0, [(1024, 0x4)], [st Reg.BRG_FLOW_DA_LO_MAC_f .rwl 0 pcw]⟩,
  ⟨Reg.BRG_FLOW_DA_HI 0, [(1024, 0x4)], [st Reg.BRG_FLOW_DA_HI_MAC_f .rwl 0 pcw]⟩,
  ⟨Reg.BRG_FLOW 0, [(1024, 0x4)], [st Reg.BRG_FLOW_VALID_f .rwl 0 pcw, st Reg.BRG_FLOW_TAG_f .rwl 0 pcw, st Reg.BRG_FLOW_PORT_f .rwl 0 pcw, st Reg.BRG_FLOW_PCP_f .rwl 0 pcw, st Reg.BRG_FLOW_VID_f .rwl 0 pcw]⟩,
  ⟨Reg.BRG_GCLE_GATES 0 0 0, [(16, 0x400), (2, 0x200), (256, 0x2)], [st Reg.BRG_GCLE_GATES_GATES_f .rwl 0 pcw]⟩,
  ⟨Reg.BRG_GCLE_INTERVAL 0 0 0, [(16, 0x400), (2, 0x200), (256, 0x2)], [st Reg.BRG_GCLE_INTERVAL_INTERVAL_f .rwl 0 pcw]⟩,
  ⟨Reg.BRG_VLAN_MEMBER 0, [(4096, 0x2)], [st Reg.BRG_VLAN_MEMBER_MEMBER_f .rwl 0 pcw]⟩,
  ⟨Reg.BRG_VLAN_UNTAG 0, [(4096, 0x2)], [st Reg.BRG_VLAN_UNTAG_UNTAG_f .rwl 0 pcw]⟩]

/-- Block BRG. -/
def brgRegs : List RegSpec := brg0 ++ brg1 ++ brg2 ++ brg3 ++ brg4 ++ brg5

def lan0 : List RegSpec := [
  ⟨Reg.LAN_FCFG, [], [st Reg.LAN_FCFG_EXITTMO_f .rw 10 pc]⟩,
  ⟨Reg.LAN_QCFG 0, [(16, 0x40)], [st Reg.LAN_QCFG_EN_f .rwl 0 pc, st Reg.LAN_QCFG_USE_f .rwl 0 pc]⟩,
  ⟨Reg.LAN_QPLLA 0, [(16, 0x40)], [st Reg.LAN_QPLLA_EN_f .rwl 0 pc, st Reg.LAN_QPLLA_NINT_f .rwl 256 pc]⟩,
  ⟨Reg.LAN_QPLLA_FRAC 0, [(16, 0x40)], [st Reg.LAN_QPLLA_FRAC_NFRAC_f .rwl 0 pc]⟩,
  ⟨Reg.LAN_QPLLB 0, [(16, 0x40)], [st Reg.LAN_QPLLB_EN_f .rwl 0 pc, st Reg.LAN_QPLLB_NINT_f .rwl 256 pc]⟩,
  ⟨Reg.LAN_QPLLB_FRAC 0, [(16, 0x40)], [st Reg.LAN_QPLLB_FRAC_NFRAC_f .rwl 0 pc]⟩,
  ⟨Reg.LAN_QSTAT 0, [(16, 0x40)], [lv Reg.LAN_QSTAT_REFOK_f, lv Reg.LAN_QSTAT_LOCKA_f, lv Reg.LAN_QSTAT_LOCKB_f]⟩,
  ⟨Reg.LAN_SPARE 0, [(16, 0x40)], [st Reg.LAN_SPARE_GO_f .wo 0 [], st Reg.LAN_SPARE_VALID_f .rwl 0 pc, st Reg.LAN_SPARE_AUTO_f .rw 0 pc, lv Reg.LAN_SPARE_BUSY_f, st Reg.LAN_SPARE_SLANE_f .rwl 0 pc, st Reg.LAN_SPARE_FAILED_f .rw 0 pc]⟩,
  ⟨Reg.LAN_LCFG 0 0, [(16, 0x40), (4, 0x8)], [st Reg.LAN_LCFG_EN_f .rwl 0 pc, st Reg.LAN_LCFG_PLL_f .rwl 0 pc, st Reg.LAN_LCFG_ODIV_f .rwl 0 pc, st Reg.LAN_LCFG_TXPOL_f .rwl 0 pc, st Reg.LAN_LCFG_RXPOL_f .rwl 0 pc, st Reg.LAN_LCFG_CADAPT_f .rw 1 pc]⟩,
  ⟨Reg.LAN_LCTL 0 0, [(16, 0x40), (4, 0x8)], [st Reg.LAN_LCTL_RETRAIN_f .wo 0 [], st Reg.LAN_LCTL_EIDLE_f .rw 0 pcd, st Reg.LAN_LCTL_RST_f .wo 0 []]⟩,
  ⟨Reg.LAN_LSTAT 0 0, [(16, 0x40), (4, 0x8)], [lv Reg.LAN_LSTAT_STATE_f, lv Reg.LAN_LSTAT_CDR_f, lv Reg.LAN_LSTAT_ALIGNED_f, lv Reg.LAN_LSTAT_MKDSK_f, lv Reg.LAN_LSTAT_AVALID_f, lv Reg.LAN_LSTAT_RLANE_f]⟩,
  ⟨Reg.LAN_LTX 0 0, [(16, 0x40), (4, 0x8)], [st Reg.LAN_LTX_PRE_f .rwl 0 pc, st Reg.LAN_LTX_MAIN_f .rwl 48 pc, st Reg.LAN_LTX_POST_f .rwl 8 pc]⟩,
  ⟨Reg.LAN_CODEERR_LO 0 0, [(16, 0x40), (4, 0x8)], [st Reg.LAN_CODEERR_LO_COUNT_f .cnt 0 pcd]⟩,
  ⟨Reg.LAN_CODEERR_HI 0 0, [(16, 0x40), (4, 0x8)], [st Reg.LAN_CODEERR_HI_COUNT_f .ro 0 pcd]⟩,
  ⟨Reg.LAN_RELOCK_LO 0 0, [(16, 0x40), (4, 0x8)], [st Reg.LAN_RELOCK_LO_COUNT_f .cnt 0 pcd]⟩,
  ⟨Reg.LAN_RELOCK_HI 0 0, [(16, 0x40), (4, 0x8)], [st Reg.LAN_RELOCK_HI_COUNT_f .ro 0 pcd]⟩]

def lan1 : List RegSpec := [
  ⟨Reg.LAN_EYE 0, [(16, 0x40)], [st Reg.LAN_EYE_GO_f .wo 0 [], st Reg.LAN_EYE_STATE_f .ro 0 pc, st Reg.LAN_EYE_LANE_f .rw 0 pc, st Reg.LAN_EYE_PHASE_f .rw 0 pc, st Reg.LAN_EYE_VOLT_f .rw 0 pc]⟩,
  ⟨Reg.LAN_EYECFG 0, [(16, 0x40)], [st Reg.LAN_EYECFG_DWELL_f .rw 20 pc, st Reg.LAN_EYECFG_GAP_f .rw 10 pc]⟩,
  ⟨Reg.LAN_EYEERR 0, [(16, 0x40)], [st Reg.LAN_EYEERR_ERR_f .ro 0 pc]⟩,
  ⟨Reg.LAN_EYEBITS_LO 0, [(16, 0x40)], [st Reg.LAN_EYEBITS_LO_BITS_f .ro 0 pc]⟩,
  ⟨Reg.LAN_EYEBITS_HI 0, [(16, 0x40)], [st Reg.LAN_EYEBITS_HI_BITS_f .ro 0 pc]⟩]

/-- Block LAN. -/
def lanRegs : List RegSpec := lan0 ++ lan1

def fab0 : List RegSpec := [
  ⟨Reg.FAB_GCTL, [], [st Reg.FAB_GCTL_EN_f .rwl 0 pc, lv Reg.FAB_GCTL_DEVVALID_f, lv Reg.FAB_GCTL_PINNED_f, lv Reg.FAB_GCTL_FOUNDER_f, st Reg.FAB_GCTL_REMREG_f .rwl 0 pc, lv Reg.FAB_GCTL_DEVNUM_f]⟩,
  ⟨Reg.FAB_SERIAL0, [], [lv Reg.FAB_SERIAL0_SERIAL_f]⟩,
  ⟨Reg.FAB_SERIAL1, [], [lv Reg.FAB_SERIAL1_SERIAL_f]⟩,
  ⟨Reg.FAB_SERIAL2, [], [lv Reg.FAB_SERIAL2_SERIAL_f]⟩,
  ⟨Reg.FAB_FSER0, [], [lv Reg.FAB_FSER0_SERIAL_f]⟩,
  ⟨Reg.FAB_FSER1, [], [lv Reg.FAB_FSER1_SERIAL_f]⟩,
  ⟨Reg.FAB_FSER2, [], [lv Reg.FAB_FSER2_SERIAL_f]⟩,
  ⟨Reg.FAB_RCFG, [], [st Reg.FAB_RCFG_BVMAX_f .rwl 2 pc, st Reg.FAB_RCFG_LVMAX_f .rwl 2 pc, st Reg.FAB_RCFG_SETTLE_f .rw 2 pc, st Reg.FAB_RCFG_SALT_f .rw 0 pc]⟩,
  ⟨Reg.FAB_LSUNIT, [], [st Reg.FAB_LSUNIT_UNIT_f .rwl 127 pc]⟩,
  ⟨Reg.FAB_LCFG, [], [st Reg.FAB_LCFG_REPLAYTMO_f .rw 20 pc, st Reg.FAB_LCFG_REPLAYMAX_f .rw 4 pc, st Reg.FAB_LCFG_DOWNTMO_f .rw 50 pc]⟩,
  ⟨Reg.FAB_TCFG, [], [st Reg.FAB_TCFG_PER_f .rw 125 pc]⟩,
  ⟨Reg.FAB_PCMD, [], [st Reg.FAB_PCMD_ANY_f .rw 0 pc]⟩,
  ⟨Reg.FAB_UNREACH_LO, [], [st Reg.FAB_UNREACH_LO_COUNT_f .cnt 0 pc]⟩,
  ⟨Reg.FAB_UNREACH_HI, [], [st Reg.FAB_UNREACH_HI_COUNT_f .ro 0 pc]⟩,
  ⟨Reg.FAB_HOPDROP_LO, [], [st Reg.FAB_HOPDROP_LO_COUNT_f .cnt 0 pc]⟩,
  ⟨Reg.FAB_HOPDROP_HI, [], [st Reg.FAB_HOPDROP_HI_COUNT_f .ro 0 pc]⟩]

def fab1 : List RegSpec := [
  ⟨Reg.FAB_BADDST_LO, [], [st Reg.FAB_BADDST_LO_COUNT_f .cnt 0 pc]⟩,
  ⟨Reg.FAB_BADDST_HI, [], [st Reg.FAB_BADDST_HI_COUNT_f .ro 0 pc]⟩,
  ⟨Reg.FAB_PCMDDENY_LO, [], [st Reg.FAB_PCMDDENY_LO_COUNT_f .cnt 0 pc]⟩,
  ⟨Reg.FAB_PCMDDENY_HI, [], [st Reg.FAB_PCMDDENY_HI_COUNT_f .ro 0 pc]⟩,
  ⟨Reg.FAB_PCFG 0, [(16, 0x20)], [st Reg.FAB_PCFG_EN_f .rwl 0 pc, st Reg.FAB_PCFG_LANES_f .rwl 0 pc, st Reg.FAB_PCFG_QUAD_f .rwl 0 pc, st Reg.FAB_PCFG_FIRST_f .rwl 0 pc, st Reg.FAB_PCFG_TSEN_f .rw 0 pc, st Reg.FAB_PCFG_COST_f .rw 1 pc]⟩,
  ⟨Reg.FAB_PSTAT 0, [(16, 0x20)], [lv Reg.FAB_PSTAT_STATE_f, st Reg.FAB_PSTAT_CAUSE_f .ro 0 pc, lv Reg.FAB_PSTAT_BVER_f, lv Reg.FAB_PSTAT_LVER_f, lv Reg.FAB_PSTAT_PPORT_f, lv Reg.FAB_PSTAT_PDEV_f]⟩,
  ⟨Reg.FAB_PEER0 0, [(16, 0x20)], [lv Reg.FAB_PEER0_SERIAL_f]⟩,
  ⟨Reg.FAB_PEER1 0, [(16, 0x20)], [lv Reg.FAB_PEER1_SERIAL_f]⟩,
  ⟨Reg.FAB_PEER2 0, [(16, 0x20)], [lv Reg.FAB_PEER2_SERIAL_f]⟩,
  ⟨Reg.FAB_TXDLY 0, [(16, 0x20)], [st Reg.FAB_TXDLY_DLY_f .rw 0 pc]⟩,
  ⟨Reg.FAB_RXDLY 0, [(16, 0x20)], [st Reg.FAB_RXDLY_DLY_f .rw 0 pc]⟩,
  ⟨Reg.FAB_ASYM 0, [(16, 0x20)], [st Reg.FAB_ASYM_ASYM_f .rw 0 pc]⟩,
  ⟨Reg.FAB_TDLY 0, [(16, 0x20)], [st Reg.FAB_TDLY_D_f .ro 0 pc]⟩,
  ⟨Reg.FAB_TOFS 0, [(16, 0x20)], [st Reg.FAB_TOFS_O_f .ro 0 pc]⟩,
  ⟨Reg.FAB_TSTAT 0, [(16, 0x20)], [st Reg.FAB_TSTAT_VALID_f .ro 0 pc, st Reg.FAB_TSTAT_TV_f .ro 0 pc, st Reg.FAB_TSTAT_TSEQ_f .ro 0 pc]⟩,
  ⟨Reg.FAB_CELLTX_LO 0, [(16, 0x20)], [st Reg.FAB_CELLTX_LO_COUNT_f .cnt 0 pc]⟩]

def fab2 : List RegSpec := [
  ⟨Reg.FAB_CELLTX_HI 0, [(16, 0x20)], [st Reg.FAB_CELLTX_HI_COUNT_f .ro 0 pc]⟩,
  ⟨Reg.FAB_CELLRX_LO 0, [(16, 0x20)], [st Reg.FAB_CELLRX_LO_COUNT_f .cnt 0 pc]⟩,
  ⟨Reg.FAB_CELLRX_HI 0, [(16, 0x20)], [st Reg.FAB_CELLRX_HI_COUNT_f .ro 0 pc]⟩,
  ⟨Reg.FAB_REPLAY_LO 0, [(16, 0x20)], [st Reg.FAB_REPLAY_LO_COUNT_f .cnt 0 pc]⟩,
  ⟨Reg.FAB_REPLAY_HI 0, [(16, 0x20)], [st Reg.FAB_REPLAY_HI_COUNT_f .ro 0 pc]⟩,
  ⟨Reg.FAB_BADCELL_LO 0, [(16, 0x20)], [st Reg.FAB_BADCELL_LO_COUNT_f .cnt 0 pc]⟩,
  ⟨Reg.FAB_BADCELL_HI 0, [(16, 0x20)], [st Reg.FAB_BADCELL_HI_COUNT_f .ro 0 pc]⟩,
  ⟨Reg.FAB_LOSTCELL_LO 0, [(16, 0x20)], [st Reg.FAB_LOSTCELL_LO_COUNT_f .cnt 0 pc]⟩,
  ⟨Reg.FAB_LOSTCELL_HI 0, [(16, 0x20)], [st Reg.FAB_LOSTCELL_HI_COUNT_f .ro 0 pc]⟩,
  ⟨Reg.FAB_BEADDROP_LO 0, [(16, 0x20)], [st Reg.FAB_BEADDROP_LO_COUNT_f .cnt 0 pc]⟩,
  ⟨Reg.FAB_BEADDROP_HI 0, [(16, 0x20)], [st Reg.FAB_BEADDROP_HI_COUNT_f .ro 0 pc]⟩,
  ⟨Reg.FAB_RT 0, [(1024, 0x1)], [st Reg.FAB_RT_SLOT3_f .rw 0 pc, st Reg.FAB_RT_SLOT2_f .rw 0 pc, st Reg.FAB_RT_SLOT1_f .rw 0 pc, st Reg.FAB_RT_SLOT0_f .rw 0 pc, st Reg.FAB_RT_ALT_f .rw 0 pc, st Reg.FAB_RT_V_f .rw 0 pc]⟩]

/-- Block FAB. -/
def fabRegs : List RegSpec := fab0 ++ fab1 ++ fab2

def sec0 : List RegSpec := [
  ⟨Reg.SEC_STAT, [], [lv Reg.SEC_STAT_LC_f, lv Reg.SEC_STAT_STAGE_f, lv Reg.SEC_STAT_CAND_f, st Reg.SEC_STAT_DEBUG_f .ro 0 pc, lv Reg.SEC_STAT_LCERR_f, st Reg.SEC_STAT_ZERO_f .ro 0 pc, lv Reg.SEC_STAT_BUSY_f]⟩,
  ⟨Reg.SEC_BOOTOK, [], [st Reg.SEC_BOOTOK_OK_f .wo 0 []]⟩,
  ⟨Reg.SEC_BOOTREC, [], [st Reg.SEC_BOOTREC_COUNT_f .ro 0 p, st Reg.SEC_BOOTREC_START_f .ro 0 p]⟩,
  ⟨Reg.SEC_CMD, [], [st Reg.SEC_CMD_GO_f .wo 0 [], st Reg.SEC_CMD_OP_f .rw 0 pc]⟩,
  ⟨Reg.SEC_CMDBUF_LO, [], [st Reg.SEC_CMDBUF_LO_BUF_f .rw 0 pc]⟩,
  ⟨Reg.SEC_CMDBUF_HI, [], [st Reg.SEC_CMDBUF_HI_BUF_f .rw 0 pc]⟩,
  ⟨Reg.SEC_CMDSTAT, [], [st Reg.SEC_CMDSTAT_STATE_f .ro 0 pc, st Reg.SEC_CMDSTAT_CAUSE_f .ro 0 pc]⟩,
  ⟨Reg.SEC_NONCE_LO, [], [lv Reg.SEC_NONCE_LO_NONCE_f]⟩,
  ⟨Reg.SEC_NONCE_HI, [], [lv Reg.SEC_NONCE_HI_NONCE_f]⟩,
  ⟨Reg.SEC_TAMPCFG, [], [st Reg.SEC_TAMPCFG_RESP_f .rw 1429 pc]⟩,
  ⟨Reg.SEC_TAMPSTAT, [], [st Reg.SEC_TAMPSTAT_HIT_f .w1c 0 pc]⟩,
  ⟨Reg.SEC_SLOT 0, [(8, 0x1)], [lv Reg.SEC_SLOT_PROG_f, lv Reg.SEC_SLOT_REV_f]⟩,
  ⟨Reg.SEC_ARB 0, [(32, 0x1)], [lv Reg.SEC_ARB_VALUE_f]⟩,
  ⟨Reg.SEC_ARBN 0, [(32, 0x1)], [lv Reg.SEC_ARBN_N_f]⟩,
  ⟨Reg.SEC_OTPRD 0, [(9, 0x1)], [lv Reg.SEC_OTPRD_ROW_f]⟩]

/-- Block SEC. -/
def secRegs : List RegSpec := sec0

def rst0 : List RegSpec := [
  ⟨Reg.RST_CMD, [], [st Reg.RST_CMD_GO_f .wo 0 [], st Reg.RST_CMD_CLASS_f .wo 0 [], st Reg.RST_CMD_UNIT_f .wo 0 []]⟩,
  ⟨Reg.RST_STAT, [], [lv Reg.RST_STAT_WBUSY_f, st Reg.RST_STAT_ERR_f .w1c 0 pc]⟩,
  ⟨Reg.RST_CAUSE, [], [st Reg.RST_CAUSE_CLASS_f .ro 0 p, st Reg.RST_CAUSE_CODE_f .ro 0 p, st Reg.RST_CAUSE_SRCDEV_f .ro 0 p]⟩,
  ⟨Reg.RST_PREV, [], [st Reg.RST_PREV_CLASS_f .ro 0 p, st Reg.RST_PREV_CODE_f .ro 0 p, st Reg.RST_PREV_SRCDEV_f .ro 0 p]⟩,
  ⟨Reg.RST_TIME_S, [], [st Reg.RST_TIME_S_S_f .ro 0 p]⟩,
  ⟨Reg.RST_TIME_NSL, [], [st Reg.RST_TIME_NSL_NSL_f .ro 0 p]⟩,
  ⟨Reg.RST_TIME_NSH, [], [st Reg.RST_TIME_NSH_NSH_f .ro 0 p]⟩,
  ⟨Reg.RST_CCNT_LO, [], [st Reg.RST_CCNT_LO_COUNT_f .cnt 0 p]⟩,
  ⟨Reg.RST_CCNT_HI, [], [st Reg.RST_CCNT_HI_COUNT_f .ro 0 p]⟩,
  ⟨Reg.RST_WCNT_LO, [], [st Reg.RST_WCNT_LO_COUNT_f .cnt 0 p]⟩,
  ⟨Reg.RST_WCNT_HI, [], [st Reg.RST_WCNT_HI_COUNT_f .ro 0 p]⟩,
  ⟨Reg.RST_AWDT, [], [st Reg.RST_AWDT_EN_f .rw 0 pc, st Reg.RST_AWDT_KICK_f .wo 0 [], st Reg.RST_AWDT_EXP_f .w1c 0 pc, st Reg.RST_AWDT_TMO_f .rw 1000 pc]⟩]

/-- Block RST. -/
def rstRegs : List RegSpec := rst0

end Cat

/-- The catalog by window number (address bits [23:16] of the offset from 0x3000_0000). -/
def catalog (w : Nat) : List RegSpec :=
  match w with
  | 1 => Cat.rckRegs
  | 2 => Cat.rodRegs
  | 3 => Cat.cmxRegs
  | 4 => Cat.pgcRegs
  | 5 => Cat.memRegs
  | 6 => Cat.dmaRegs
  | 7 => Cat.lncRegs
  | 8 => Cat.dlqRegs
  | 9 => Cat.queRegs
  | 10 => Cat.timRegs
  | 11 => Cat.evtRegs
  | 12 => Cat.dfeRegs
  | 13 => Cat.spcRegs
  | 14 => Cat.bdtRegs
  | 15 => Cat.brxRegs
  | 16 => Cat.radRegs
  | 17 => Cat.pwrRegs
  | 18 => Cat.supRegs
  | 19 => Cat.trlRegs
  | 20 => Cat.trbRegs
  | 21 => Cat.encRegs
  | 22 => Cat.stcRegs
  | 23 => Cat.tlyRegs
  | 24 => Cat.brgRegs
  | 25 => Cat.lanRegs
  | 26 => Cat.fabRegs
  | 27 => Cat.secRegs
  | 28 => Cat.rstRegs
  | _ => []

/-- The window numbers of R10 and R11 that some block implements. -/
def windows : List Nat := [1, 2, 3, 4, 5, 6, 7, 8, 9, 10, 11, 12, 13, 14, 15, 16, 17, 18, 19, 20, 21, 22, 23, 24, 25, 26, 27, 28]

end Sys2Proof.Machine
end

