-- ==== Sys2Proof/Machine/Ops.lean ====
section
/-! DEFINITION. The named operations every block shares: bit fields, control registers with their reset words, access
types and counters, shared time, beads and their CRC, events, power domains, free values. -/

namespace Sys2Proof.Machine

/-! ### Bit fields -/

/-- Bits [hi:lo] of a number. -/
def bits (n hi lo : Nat) : Nat := n / 2 ^ lo % 2 ^ (hi + 1 - lo)

/-- The number with bits [hi:lo] replaced by `v`. -/
def putBits (n hi lo v : Nat) : Nat := n - bits n hi lo * 2 ^ lo + v % 2 ^ (hi + 1 - lo) * 2 ^ lo

/-- A field of a word. -/
def getF (w : Word) (f : Fld) : Nat := bits w.toNat f.hi f.lo

/-- A word with one field replaced. -/
def putF (w : Word) (f : Fld) (v : Nat) : Word := BitVec.ofNat 24 (putBits w.toNat f.hi f.lo v)

/-- A word of a number, modulo 2^24. -/
def word (n : Nat) : Word := BitVec.ofNat 24 n

/-- A word of an integer, modulo 2^24. -/
def wordI (i : Int) : Word := BitVec.ofInt 24 i

/-- One bit as a number. -/
def bit (b : Bool) : Nat := if b then 1 else 0

/-! ### Control registers -/

/-- The offset of `a` from a register's base, reduced by each index's stride; `some 0` when `a` is an instance. -/
def dimsHit (off : Nat) (dims : List (Nat × Nat)) : Bool :=
  match dims with
  | [] => off == 0
  | (c, st) :: t => dimsHit (off - Nat.min (off / st) (c - 1) * st) t

/-- Whether an address is an instance of a register. -/
def RegSpec.hits (r : RegSpec) (a : Nat) : Bool := decide (r.base ≤ a) && dimsHit (a - r.base) r.dims

/-- The register at an offset from 0x3000_0000. -/
def regSpec (a : Nat) : Option RegSpec := (catalog (a / 0x10000)).find? fun r => r.hits a

/-- The value of the fields `fs` after a P reset (R14). Log 9 (DESIGN CHOICE). -/
def resetOf (fs : List FieldSpec) : Nat := fs.foldl (fun n f => putBits n f.bits.hi f.bits.lo f.reset) 0

/-- The word a register holds after a P reset; 0 where no register lies (R11). Log 9 (DESIGN CHOICE). -/
def resetWord (a : Nat) : Word :=
  match regSpec a with
  | some r => word (resetOf r.fields)
  | none => 0

/-- The stored word of a register. -/
def Dev.rget (s : Dev) (a : Nat) : Word := SMap.get s.regs (resetWord a) a

/-- Store a register's word. -/
def Dev.rset (s : Dev) (a : Nat) (w : Word) : Dev := { s with regs := SMap.set s.regs (resetWord a) a w }

/-- A field of a register. -/
def Dev.fget (s : Dev) (a : Nat) (f : Fld) : Nat := getF (s.rget a) f

/-- Whether a field of a register is not 0. -/
def Dev.fbit (s : Dev) (a : Nat) (f : Fld) : Bool := s.fget a f != 0

/-- Store a field of a register. -/
def Dev.fput (s : Dev) (a : Nat) (f : Fld) (v : Nat) : Dev := s.rset a (putF (s.rget a) f v)

/-- Set or clear a one-bit field. -/
def Dev.fset (s : Dev) (a : Nat) (f : Fld) (b : Bool) : Dev := s.fput a f (bit b)

/-- A two-word quantity, low word first (R2). -/
def Dev.get48 (s : Dev) (lo : Nat) : Nat := (s.rget lo).toNat + (s.rget (lo + 1)).toNat * 2 ^ 24

/-- Store a two-word quantity. -/
def Dev.put48 (s : Dev) (lo n : Nat) : Dev := (s.rset lo (word n)).rset (lo + 1) (word (n / 2 ^ 24))

/-- A 32-bit address held in two registers, bits [31:24] in [7:0] of the second. -/
def Dev.getAddr (s : Dev) (lo : Nat) : Nat := (s.rget lo).toNat + bits (s.rget (lo + 1)).toNat 7 0 * 2 ^ 24

/-- Add `n` to the 48-bit counter whose low word is at `lo`, saturating at 2^48 - 1 (R100). -/
def Dev.count (s : Dev) (lo n : Nat) : Dev := s.put48 lo (Nat.min (s.get48 lo + n) (2 ^ 48 - 1))

/-- The word of a register after a reset of class `c` (R14): fields that list the class return to their reset value. -/
def classWord (r : RegSpec) (c : RClass) (w : Word) : Word :=
  r.fields.foldl (fun w f => if f.classes.contains c then putF w f.bits f.reset else w) w

/-- Whether the structure image has locked the RWL fields (R13, R355). -/
def Dev.locked (s : Dev) : Bool := s.fbit Reg.STC_STAT Reg.STC_STAT_LOCKED_f

/-- Whether a register belongs to a unit of a slice (the keys of `Stc.owned`). -/
def inSliceUnit (a k : Nat) : Bool :=
  let (b, n) :=
    if k < 112 then (Reg.RCK_CTL k, 0x10)
    else if k < 0x400 then (Reg.CMX_CTL (k - 0xDC), 0x10)
    else if k < 0x800 then (Reg.QUE_CFG (k - 0x400), 0x10)
    else if k < 0x2000 then (Reg.DMA_CTL ((k - 0x1000) / 64) ((k - 0x1000) % 64), 0x20)
    else (Reg.LNC_CTL (k - 0x2000), 0x10)
  decide (b ≤ a) && decide (a < b + n)

/-- Whether the RWL fields of a register are locked: the lock holds and no slice operation has them open (R355). -/
def Dev.lockedAt (s : Dev) (a : Nat) : Bool := s.locked && !(s.stc.openUnits.any fun k => inSliceUnit a k)

/-- Store the RW fields that `w` gives a register, and its RWL fields unless they are locked (R13). -/
def Dev.storeRw (s : Dev) (a : Nat) (w : Word) : Dev :=
  match regSpec a with
  | some r => s.rset a (r.fields.foldl (fun v f =>
      if f.acc == .rw || (f.acc == .rwl && !(s.lockedAt a)) then putF v f.bits (getF w f.bits) else v) (s.rget a))
  | none => s

/-- Apply a reset class to every register for which `p` holds. -/
def Dev.resetRegs (s : Dev) (c : RClass) (p : Nat → Bool) : Dev :=
  s.regs.foldl (fun s e =>
    if p e.1 then (match regSpec e.1 with
      | some r => s.rset e.1 (classWord r c (s.rget e.1))
      | none => s)
    else s) s

/-- Return every register for which `p` holds to its P value, as a unit reset does where its chapter lists no D (R533)
and as OFF does (R479). Log 176 (DEDUCED). -/
def Dev.clearRegs (s : Dev) (p : Nat → Bool) : Dev := { s with regs := SMap.drop s.regs p }

/-! ### Shared time (R364, R69, R71, R579); `Dev.time` counts units of 2^-40 ns -/

/-- Units of 2^-40 ns in one nanosecond. -/
def nsUnit : Nat := 2 ^ 40

/-- Units in one second. -/
def secUnit : Nat := 1000000000 * nsUnit

/-- The counter's modulus: seconds wrap modulo 2^48 (R364). -/
def timeMod : Nat := 2 ^ 48 * secUnit

/-- Seconds of a time. -/
def secOf (t : Nat) : Nat := t / secUnit

/-- Nanoseconds of a time, 0 to 999,999,999. -/
def nsOf (t : Nat) : Nat := t % secUnit / nsUnit

/-- The 16-bit fraction of a time in units of 2^-16 ns. -/
def fracOf (t : Nat) : Nat := t % nsUnit / 2 ^ 24

/-- A time of seconds and nanoseconds. -/
def timeOf (sec ns : Nat) : Nat := (sec * secUnit + ns * nsUnit) % timeMod

/-- The microsecond count U (R71). -/
def usOf (t : Nat) : Nat := (secOf t * 1000000 + nsOf t / 1000) % 2 ^ 24

/-- A difference modulo 2^n read as a signed number. -/
def sdiff (n a b : Nat) : Int :=
  let d := (a + 2 ^ n - b % 2 ^ n) % 2 ^ n
  if d ≥ 2 ^ (n - 1) then (d : Int) - 2 ^ n else d

/-- The signed difference in nanoseconds of a target (low 24 bits of seconds, nanoseconds) from a time (R69). -/
def diff69 (ts tns now : Nat) : Int := sdiff 24 ts (secOf now) * 1000000000 + ((tns : Int) - nsOf now)

/-- Whether a target is due (R69). -/
def due69 (ts tns now : Nat) : Bool := decide (diff69 ts tns now ≤ 0)

/-- TIME_VALID (R369). -/
def Dev.timeValid (s : Dev) : Bool := s.fbit Reg.TIM_CTL Reg.TIM_CTL_VALID_f

/-- Whether a target is due at the present time; never while TIME_VALID is clear. -/
def Dev.due (s : Dev) (ts tns : Nat) : Bool := s.timeValid && due69 ts tns s.time

/-- The microsecond count now. -/
def Dev.us (s : Dev) : Nat := usOf s.time

/-- The expiry of a timer measured in elapsed time carries elapsed and shared time to its end, if they have not reached
it. Log 5 (DESIGN CHOICE), 96 (DESIGN CHOICE). -/
def Dev.pass (s : Dev) (e : Nat) : Dev :=
  if s.elapsed < e then { s with time := (s.time + (e - s.elapsed)) % timeMod, elapsed := e } else s

/-- A sum of two times of seconds (modulo 2^24) and nanoseconds, with the carry of R364. -/
def addTime (a b : Nat × Nat) : Nat × Nat :=
  ((a.1 + b.1 + (a.2 + b.2) / 1000000000) % 2 ^ 24, (a.2 + b.2) % 1000000000)

/-- A duration of seconds and nanoseconds in nanoseconds. -/
def nsOfPair (a : Nat × Nat) : Nat := a.1 * 1000000000 + a.2

/-- A duration of nanoseconds as seconds and nanoseconds. -/
def pairOfNs (n : Nat) : Nat × Nat := (n / 1000000000, n % 1000000000)

/-- A time in the three words of R74: low 24 bits of seconds, nanoseconds [23:0], nanoseconds [29:24]. -/
def time3 (a b c : Word) : Nat × Nat := (a.toNat, b.toNat + bits c.toNat 5 0 * 2 ^ 24)

/-! ### Free values -/

/-- Take a free value. Log 7 (DESIGN CHOICE). -/
def Dev.free (s : Dev) : Nat × Dev := (Config.free s.fresh, { s with fresh := s.fresh + 1 })

/-- Take `n` free values. Log 7 (DESIGN CHOICE). -/
def Dev.freeN (s : Dev) (n : Nat) : List Nat × Dev :=
  ((List.range n).map fun i => Config.free (s.fresh + i), { s with fresh := s.fresh + n })

/-! ### OTP (R501) -/

/-- An OTP row; an unwritten row reads 0. -/
def Dev.otpRow (s : Dev) (r : Nat) : Nat := ((SMap.get s.sec.otp none r).getD 0) % 2 ^ 24

/-- The device's serial, OTP rows 4 to 6 in the layout of HELLO words 0 to 2 (R455, R501). -/
def Dev.serial (s : Dev) : Nat := s.otpRow 4 + s.otpRow 5 * 2 ^ 24 + s.otpRow 6 % 2 ^ 16 * 2 ^ 48

/-! ### Power domains (R478) -/

/-- The domain of a unit number of R449; none for units of the always-on island and for host endpoints. -/
def unitDomain (u : Nat) : Option Nat :=
  if u < 0x70 then some u
  else if u == 0x7E then some 211
  else if u == 0x7F then some 210
  else if 0x80 ≤ u ∧ u ≤ 0x97 then some (174 + (u - 0x80) / 4)
  else if 0x98 ≤ u ∧ u ≤ 0xA7 then some (180 + (u - 0x98) / 4)
  else if 0xA8 ≤ u ∧ u ≤ 0xB3 then some (184 + (u - 0xA8) / 4)
  else if 0xB4 ≤ u ∧ u ≤ 0xBB then some (187 + (u - 0xB4) / 4)
  else if 0xBC ≤ u ∧ u ≤ 0xCB then some (189 + (u - 0xBC) / 4)
  else if 0xCC ≤ u ∧ u ≤ 0xD3 then some (193 + (u - 0xCC) / 4)
  else if 0xD4 ≤ u ∧ u ≤ 0xDB then some (195 + (u - 0xD4))
  else if 0xDC ≤ u ∧ u ≤ 0xE9 then some (112 + (u - 0xDC))
  else if 0x100 ≤ u ∧ u ≤ 0x13F then some 207
  else if u == 0x200 then some 205
  else if u == 0x201 then some 206
  else if u == 0x210 then some 207
  else if u == 0x221 then some 207
  else if u == 0x222 then some 207
  else if u == 0x223 then some 208
  else if 0x300 ≤ u ∧ u ≤ 0x310 then some 208
  else if 0x400 ≤ u ∧ u < 0x800 then some 204
  else if u == 0x820 then some 203
  else if u == 0x821 then some 203
  else none

/-- Whether a unit number is one that R449 lists. -/
def unitListed (u : Nat) : Bool :=
  (unitDomain u).isSome || u == 0x220 || u == 0x224 || u == 0x230 || u == 0x231 ||
    (decide (0x840 ≤ u) && decide (u ≤ 0x84F))

/-- The state a domain has at core reset release (R530 step 4): 126 to 157, 204 and 207 to 211 ON, every other OFF. -/
def domReset (d : Nat) : DomSt :=
  if (126 ≤ d ∧ d ≤ 157) ∨ d = 204 ∨ (207 ≤ d ∧ d ≤ 211) then .on else .off

/-- A domain's state. -/
def Dev.dom (s : Dev) (d : Nat) : DomSt := SMap.get s.doms (domReset d) d

/-- Record a domain's state. -/
def Dev.setDom (s : Dev) (d : Nat) (x : DomSt) : Dev := { s with doms := SMap.set s.doms (domReset d) d x }

/-- Whether the unit's domain is ON; units of the island always are. -/
def Dev.unitOn (s : Dev) (u : Nat) : Bool :=
  match unitDomain u with
  | some d => s.dom d == .on
  | none => true

/-! ### Fenced units (R554) -/

/-- The fence-map register and bit of a unit: STC_FENCEMAP_k bit b is unit 24 k + b, STC_FENCEMAP_11 the DMA engines. -/
def fenceSlot (u : Nat) : Nat × Nat := if u ≥ 0x200 then (11, u - 0x200) else (u / 24, u % 24)

/-- Whether a unit is fenced. -/
def Dev.fenced (s : Dev) (u : Nat) : Bool :=
  if u < 0x100 ∨ u = 0x200 ∨ u = 0x201 then
    bits (s.rget (Reg.STC_FENCEMAP (fenceSlot u).1)).toNat (fenceSlot u).2 (fenceSlot u).2 == 1
  else false

/-! ### Beads (R444 to R447) -/

/-- One step of the CRC-24 with generator 0x86_4CFB. -/
def crcBit (c : Nat) (b : Nat) : Nat :=
  let c2 := c * 2 % 2 ^ 24
  if (c / 2 ^ 23 + b) % 2 = 1 then c2 ^^^ 0x864CFB else c2

/-- The CRC-24 over one word, from bit 23 to bit 0. -/
def crcWord (c : Nat) (w : Word) : Nat :=
  (List.range 24).foldl (fun c i => crcBit c (bits w.toNat (23 - i) (23 - i))) c

/-- The CRC-24 over words, start value 0xFF_FFFF (R446). -/
def crc24 (ws : List Word) : Word := word (ws.foldl crcWord 0xFFFFFF)

/-- The check word of a bead: header and payload with HOPS taken as 0 (R446). Log 179 (DESIGN CHOICE). -/
def beadCrc (b : Bead) : Word :=
  crc24 (word (b.h0.toNat / 16 * 16) :: b.h1 :: b.h2 :: b.h3 :: b.payload)

def Bead.ver (b : Bead) : Nat := bits b.h0.toNat 23 20
def Bead.op (b : Bead) : Nat := bits b.h0.toNat 19 12
def Bead.dlv (b : Bead) : Bool := bits b.h0.toNat 11 11 == 1
def Bead.rsp (b : Bead) : Bool := bits b.h0.toNat 10 10 == 1
def Bead.err (b : Bead) : Bool := bits b.h0.toNat 9 9 == 1
def Bead.bcast (b : Bead) : Bool := bits b.h0.toNat 8 8 == 1
def Bead.wack (b : Bead) : Bool := bits b.h0.toNat 7 7 == 1
def Bead.hops (b : Bead) : Nat := bits b.h0.toNat 3 0
def Bead.ddev (b : Bead) : Nat := bits b.h1.toNat 23 14
def Bead.dunit (b : Bead) : Nat := bits b.h1.toNat 13 2
def Bead.order (b : Bead) : Nat := bits b.h1.toNat 1 0
def Bead.sdev (b : Bead) : Nat := bits b.h2.toNat 23 14
def Bead.sunit (b : Bead) : Nat := bits b.h2.toNat 13 2
def Bead.len (b : Bead) : Nat := bits b.h2.toNat 1 0 * 32 + bits b.h3.toNat 23 19
def Bead.seq (b : Bead) : Nat := bits b.h3.toNat 18 15
def Bead.tag (b : Bead) : Nat := bits b.h3.toNat 14 0

/-- Header word `i` of a payload, 0 beyond its end. -/
def Bead.pay (b : Bead) (i : Nat) : Nat := (b.payload.getD i 0).toNat

/-- Whether a bead's version, length and check word are right (R445, R446). Log 179 (DESIGN CHOICE). -/
def Bead.ok (b : Bead) : Bool :=
  (b.ver == 1 || b.ver == 2) && decide (b.len ≤ 64) && b.payload.length == b.len && b.crc == beadCrc b

/-- Set the check word. Log 179 (DESIGN CHOICE). -/
def Bead.seal (b : Bead) : Bead := { b with crc := beadCrc b }

/-- Header word 0 of a bead. -/
def head0 (ver op : Nat) (dlv rsp err : Bool) : Word :=
  word (ver * 2 ^ 20 + op * 2 ^ 12 + bit dlv * 2 ^ 11 + bit rsp * 2 ^ 10 + bit err * 2 ^ 9)

/-- A bead with every field given (R444). -/
def mkBead (h0 : Word) (ddev dunit order sdev sunit seq tag : Nat) (payload : List Word) : Bead :=
  Bead.seal {
    h0 := h0
    h1 := word (ddev % 1024 * 2 ^ 14 + dunit % 4096 * 4 + order % 4)
    h2 := word (sdev % 1024 * 2 ^ 14 + sunit % 4096 * 4 + payload.length / 32 % 4)
    h3 := word (payload.length % 32 * 2 ^ 19 + seq % 16 * 2 ^ 15 + tag % 2 ^ 15)
    payload := payload
    crc := 0 }

/-- The device's own number (R458), held in FAB_GCTL. -/
def Dev.devnum (s : Dev) : Nat := s.fget Reg.FAB_GCTL Reg.FAB_GCTL_DEVNUM_f

/-- Put a bead on the bead network. Log 151 (DESIGN CHOICE). -/
def Dev.send (s : Dev) (b : Bead) : Dev := { s with net := s.net ++ [b] }

/-- Send a version 2 bead without deadline from a unit of this device. -/
def Dev.sendTo (s : Dev) (sunit op ddev dunit order : Nat) (payload : List Word) : Dev :=
  s.send (mkBead (head0 2 op false false false) ddev dunit order s.devnum sunit 0 0 payload)

/-- Answer a bead: the source becomes the destination; VER, OP, SEQ, TAG and DLV are copied (R447). -/
def Dev.answer (s : Dev) (b : Bead) (err : Bool) (payload : List Word) : Dev :=
  s.send (mkBead (head0 b.ver b.op b.dlv true err) b.sdev b.sunit b.order s.devnum b.dunit b.seq b.tag payload)

/-- The bead has left the network: it has reached a unit. Log 151 (DESIGN CHOICE). -/
def Dev.take (s : Dev) (b : Bead) : Dev := { s with net := s.net.erase b }

/-- A 1-word error response with a CAUSE (R451). -/
def Dev.answerErr (s : Dev) (b : Bead) (cause : Nat) : Dev := s.answer b true [word (cause * 2 ^ 16)]

/-! ### Events (R539 to R544) -/

/-- An event that arrives at the island's tail (R543). -/
def tailPush (t : List TailEvent) (e : TailEvent) : List TailEvent × Bool :=
  if t.length < 32 then (t ++ [e], false)
  else
    match t.getLast? with
    | some l =>
      if l.code = 0x002 then (t.dropLast ++ [{ l with unit := Nat.min (l.unit + 1) 4095 }], true)
      else (t.dropLast ++ [{ code := 0x002, unit := 2, time := l.time }], true)
    | none => (t, false)

/-- Hold an event in the island's tail. Log 171 (DEDUCED). -/
def Dev.tailEvent (s : Dev) (code unit : Nat) : Dev :=
  let (t, lost) := tailPush s.tail { code := code, unit := unit, time := s.time }
  let s := { s with tail := t }
  if lost then s.fset Reg.EVT_STAT Reg.EVT_STAT_TAILOVF_f true else s

/-- Raise an event: to the arbiter while domain 207 is ON, else into the island's tail (R539, R543). Log 99 (DESIGN CHOICE). -/
def Dev.raise (s : Dev) (code unit : Nat) : Dev :=
  if s.dom 207 == .on then { s with evq := s.evq ++ [(code, unit)] } else s.tailEvent code unit

/-- Something leaves the device. -/
def Dev.emit (s : Dev) (o : Output) : Dev := { s with out := s.out ++ [o] }

end Sys2Proof.Machine
end

