-- ==== Sys2Proof/Machine/Flash.lean ====
section
/-! DEFINITION. What the xSPI controller reads from flash (R512): the directory and the images it names. Flash is given as blocks of bytes
with the address of their first; a byte in none of them is erased and reads 0xFF. -/

namespace Sys2Proof.Machine

/-- A byte of flash. -/
def flashByte (fl : List (Nat × List Nat)) (a : Nat) : Nat :=
  match fl.find? fun b => decide (b.1 ≤ a) && decide (a < b.1 + b.2.length) with
  | some b => b.2.getD (a - b.1) 0 % 256
  | none => 0xFF

/-- A word of flash: its lanes 0, 1 and 2 in that order (R340). -/
def flashWord (fl : List (Nat × List Nat)) (a : Nat) : Nat :=
  flashByte fl a + flashByte fl (a + 1) * 2 ^ 8 + flashByte fl (a + 2) * 2 ^ 16

/-- Where the directory lies: at byte 0, or where its word 0 is wrong there, its copy at byte 0x0001_0000. -/
def flashDir (fl : List (Nat × List Nat)) : Option Nat :=
  if flashWord fl 0 = 0x464C44 then some 0 else if flashWord fl 0x10000 = 0x464C44 then some 0x10000 else none

/-- Where an image lies: 0 firmware A, 1 firmware B, 2 structure image A, 3 structure image B; none without a directory, or where its
entry is erased. Log 164 (DESIGN CHOICE). -/
def flashOffset (fl : List (Nat × List Nat)) (k : Nat) : Option Nat :=
  match flashDir fl with
  | none => none
  | some d =>
    let lo := flashWord fl (d + 3 * (2 + 2 * k))
    let hi := flashWord fl (d + 3 * (3 + 2 * k))
    if lo = 2 ^ 24 - 1 ∧ hi = 2 ^ 24 - 1 then none else some (lo + hi % 2 ^ 8 * 2 ^ 24)

/-- The words of an image: as many as word 3 of its header, LEN, says, and at least the header. Log 164 (DESIGN CHOICE). -/
def flashImage (fl : List (Nat × List Nat)) (k : Nat) : Option (List Word) :=
  (flashOffset fl k).map fun a =>
    (List.range (Nat.max 16 (flashWord fl (a + 9)))).map fun i => word (flashWord fl (a + 3 * i))

end Sys2Proof.Machine
end

