-- ==== Sys2Proof/Machine/Frame.lean ====
section
/-! DEFINITION. Ethernet frames as octets: fields, tags, PTP messages, checksums, the database's CRC-32 (R388, R389, R406,
R408). -/

namespace Sys2Proof.Machine

/-- A number of octets, most significant first. -/
def be (l : List Nat) : Nat := l.foldl (fun n o => n * 256 + o % 256) 0

/-- The `n` octets of a number, most significant first. -/
def octets (n v : Nat) : List Nat := (List.range n).map fun i => v / 256 ^ (n - 1 - i) % 256

/-- `n` octets at offset `o`. -/
def slice (l : List Nat) (o n : Nat) : List Nat := (l.drop o).take n

/-- Replace octets at offset `o`. -/
def patch (l : List Nat) (o : Nat) (v : List Nat) : List Nat :=
  if o + v.length ≤ l.length then l.take o ++ v ++ l.drop (o + v.length) else l

/-- Destination address of a frame. -/
def frameDa (l : List Nat) : Nat := be (slice l 0 6)

/-- Source address of a frame. -/
def frameSa (l : List Nat) : Nat := be (slice l 6 6)

/-- EtherType of a frame without tag. -/
def frameType (l : List Nat) : Nat := be (slice l 12 2)

/-- The 0x8100 tag of a frame: PCP, DEI, VID (R388). -/
def frameTag (l : List Nat) : Option (Nat × Nat × Nat) :=
  if frameType l = 0x8100 then
    let v := be (slice l 14 2)
    some (v / 8192, v / 4096 % 2, v % 4096)
  else none

/-- A frame without its tag. -/
def untag (l : List Nat) : List Nat := if frameType l = 0x8100 then l.take 12 ++ l.drop 16 else l

/-- A frame with a tag. -/
def addTag (l : List Nat) (pcp dei vid : Nat) : List Nat :=
  l.take 12 ++ [0x81, 0x00] ++ octets 2 (pcp * 8192 + dei * 4096 + vid) ++ l.drop 12

/-- Exactly `n` octets. -/
def fitOctets (n : Nat) (l : List Nat) : List Nat := (List.range n).map fun i => l.getD i 0 % 256

/-- A frame padded to 60 octets by the MAC (R403). -/
def pad60 (l : List Nat) : List Nat := l ++ List.replicate (60 - l.length) 0

/-- One step of the reflected IEEE 802.3 CRC-32. -/
def crc32Bit (c : Nat) : Nat := if c % 2 = 1 then (c / 2) ^^^ 0xEDB88320 else c / 2

/-- The IEEE 802.3 CRC-32 of octets. Log 131 (PRESUMED). -/
def crc32 (l : List Nat) : Nat :=
  (l.foldl (fun c o => (List.range 8).foldl (fun c _ => crc32Bit c) (c ^^^ o)) 0xFFFFFFFF) ^^^ 0xFFFFFFFF

/-- The database bucket of an address in a VID (R389). -/
def fdbBucket (vid mac : Nat) : Nat := crc32 (octets 2 vid ++ octets 6 mac) % 1024

/-! ### PTP (R406, R408) -/

/-- Where the PTP message of a frame without tag begins, with the carrier: 0 EtherType, 4 IPv4, 6 IPv6; and the UDP
destination port, 319 for the EtherType. Log 131 (PRESUMED). -/
def ptpAt (l : List Nat) : Option (Nat × Nat × Nat) :=
  match frameType l with
  | 0x88F7 => some (14, 0, 319)
  | 0x0800 =>
    let ihl := l.getD 14 0 % 16 * 4
    if l.getD 23 0 = 17 ∧ 20 ≤ ihl then some (14 + ihl + 8, 4, be (slice l (14 + ihl + 2) 2)) else none
  | 0x86DD => if l.getD 20 0 = 17 then some (62, 6, be (slice l 56 2)) else none
  | _ => none

/-- The offset of the PTP event message of a frame (R406). -/
def ptpEvent (l : List Nat) : Option (Nat × Nat) :=
  match ptpAt l with
  | some (o, c, port) =>
    if port = 319 ∧ l.getD o 0 % 16 ≤ 3 ∧ l.getD (o + 1) 0 % 16 = 2 ∧ o + 34 ≤ l.length then some (o, c) else none
  | none => none

/-- Whether a frame is a PTP message, event or general (R406). Log 131 (PRESUMED). -/
def isPtp (l : List Nat) : Bool :=
  (ptpEvent l).isSome ||
  match ptpAt l with
  | some (o, c, port) =>
    (port == 320 || c == 0) && decide (8 ≤ l.getD o 0 % 16) && decide (l.getD o 0 % 16 ≤ 13) && l.getD (o + 1) 0 % 16 == 2
  | none => false

/-- One's complement sum of 16-bit values. -/
def ones16 (vs : List Nat) : Nat :=
  let fold (n : Nat) : Nat := n / 65536 + n % 65536
  fold (fold (vs.foldl (· + ·) 0))

/-- The 16-bit values of octets. -/
def halves (l : List Nat) : List Nat := (List.range (l.length / 2)).map fun i => be (slice l (2 * i) 2)

/-- The frame with octets at `o` replaced, and the UDP checksum of a message inside IPv4 set to 0, inside IPv6 updated (R408).
Log 131 (PRESUMED). -/
def patchPtp (l : List Nat) (carrier msg o : Nat) (v : List Nat) : List Nat :=
  let l1 := patch l o v
  match carrier with
  | 4 => patch l1 (msg - 2) [0, 0]
  | 6 =>
    let old := be (slice l (msg - 2) 2)
    let diff := (halves (slice l o v.length)).map fun h => 65535 - h
    let c := 65535 - ones16 ([65535 - old] ++ diff ++ halves v)
    patch l1 (msg - 2) (octets 2 (if c = 0 then 65535 else c))
  | _ => l1

/-- Add a duration in 2^-16 ns to the correctionField of a PTP message at `o`. -/
def addCorrection (l : List Nat) (carrier o : Nat) (d : Int) : List Nat :=
  let c := be (slice l (o + 8) 8)
  patchPtp l carrier o (o + 8) (octets 8 (((c : Int) + d) % 2 ^ 64).toNat)

/-- Octets packed three to a word, octet 0 in lane 0. -/
def octWords (l : List Nat) : List Word :=
  (List.range ((l.length + 2) / 3)).map fun i =>
    word (l.getD (3 * i) 0 + l.getD (3 * i + 1) 0 * 256 + l.getD (3 * i + 2) 0 * 65536)

/-- The first `n` octets of words, lane 0 first. -/
def wordOcts (ws : List Word) (n : Nat) : List Nat :=
  (ws.flatMap fun w => (List.range 3).map fun l => bits w.toNat (8 * l + 7) (8 * l)).take n

/-- A word as three octets, bits [23:16] first (R414). -/
def wordBe (w : Word) : List Nat := octets 3 w.toNat

/-- The words of octets, three to a word, bits [23:16] first. -/
def beWords (l : List Nat) : List Word :=
  (List.range (l.length / 3)).map fun i => word (be (slice l (3 * i) 3))

end Sys2Proof.Machine
end

