-- ==== Sys2Proof/Machine/PageCode.lean ====
section
/-! DEFINITION. The page code (R271 to R274): the field GF(2^14), the generator and the parity of the BCH code, the CRC-16 of CHECK,
and the error pattern that a bounded-distance decoder finds. -/

namespace Sys2Proof.Machine

/-! ### The field and the code (R272) -/

/-- Double a field element: the field polynomial is x^14 + x^10 + x^6 + x + 1 (R272). -/
def gfDouble (a : Nat) : Nat := if 2 * a < 2 ^ 14 then 2 * a else (2 * a) ^^^ 0x4443

/-- Product of a and the low `n` bits of b. -/
def gfMulBits : Nat → Nat → Nat → Nat
  | 0, _, _ => 0
  | n + 1, a, b => (if b % 2 = 1 then a else 0) ^^^ gfMulBits n (gfDouble a) (b / 2)

/-- Product of two field elements. -/
def gfMul (a b : Nat) : Nat := gfMulBits 14 a b

/-- a to the power k, for k below 2^n. -/
def gfPowBits : Nat → Nat → Nat → Nat
  | 0, _, _ => 1
  | n + 1, a, k => gfMul (if k % 2 = 1 then a else 1) (gfPowBits n (gfMul a a) (k / 2))

/-- Power of α, the root x of the field polynomial, whose order is 2^14 - 1. -/
def gfAlpha (k : Nat) : Nat := gfPowBits 14 2 (k % 16383)

/-- The inverse of a field element that is not 0. -/
def gfInv (a : Nat) : Nat := gfPowBits 14 a 16382

/-- Product of two polynomials over the field, lowest coefficient first. -/
def gfPolyMul (p q : List Nat) : List Nat :=
  (List.range (p.length + q.length - 1)).map fun i =>
    (List.range (i + 1)).foldl (fun t j => t ^^^ gfMul (p.getD j 0) (q.getD (i - j) 0)) 0

/-- Value of a polynomial over the field. -/
def gfEval (p : List Nat) (x : Nat) : Nat := p.foldr (fun c t => c ^^^ gfMul t x) 0

/-- Exponents of the conjugates of α^i. -/
def conjugates (i : Nat) : List Nat := ((List.range 14).map fun k => i * 2 ^ k % 16383).eraseDups

/-- The minimal polynomial of α^i, lowest coefficient first. -/
def minPoly (i : Nat) : List Nat := (conjugates i).foldl (fun p k => gfPolyMul p [gfAlpha k, 1]) [1]

/-- The generator of strength t: the product of the minimal polynomials of α, α^3, …, α^(2t-1), lowest coefficient first (R272). -/
def bchGen (t : Nat) : List Nat := (List.range t).foldl (fun p i => gfPolyMul p (minPoly (2 * i + 1))) [1]

/-! ### Words of a physical page (R271) -/

/-- The message bits: words 0 to 513, each from bit 23 to bit 0. -/
def msgBits (ws : List Word) : List Bool := ws.flatMap fun w => (List.range 24).map fun i => w.toNat.testBit (23 - i)

/-- One step of the division of a message by the generator: `r` is the remainder, highest coefficient first. -/
def parityStep (g : List Nat) (r : List Bool) (b : Bool) : List Bool :=
  let top := Bool.xor b (r.headD false)
  (r.tail ++ [false]).zipIdx.map fun (x, i) => Bool.xor x (top && g.getD (r.length - 1 - i) 0 == 1)

/-- The 14 t parity bits of words 0 to 513: m(x) x^(14t) mod g(x), highest coefficient first (R272). -/
def pageParity (t : Nat) (ws : List Word) : List Bool :=
  let g := bchGen t
  (msgBits ws).foldl (parityStep g) (List.replicate (14 * t) false)

/-- The CRC-16 of CHECK: generator 0x1021, start value 0xFFFF, over words from bit 23 to bit 0 (R271). -/
def pageCrc (ws : List Word) : Nat :=
  (msgBits ws).foldl (fun r b =>
    let top := Bool.xor b (r / 2 ^ 15 == 1)
    (2 * r % 2 ^ 16) ^^^ (if top then 0x1021 else 0)) 0xFFFF

/-- A word with the bits at the positions that fall into word `i` inverted (R271: POS = word × 24 + bit). -/
def flipWord (ps : List Nat) (i : Nat) (w : Word) : Word :=
  ps.foldl (fun w p => if p / 24 = i then w ^^^ word (2 ^ (p % 24)) else w) w

/-! ### Decoding (R272, R274) -/

/-- Whether a bit position lies in the code word of strength t: words 0 to 513, then 14 t parity bits from word 514
bit 23 downward (R271, R272). -/
def inCode (t pos : Nat) : Bool :=
  decide (pos < 12336) || decide ((pos / 24 - 514) * 24 + (23 - pos % 24) < 14 * t)

/-- The power of x whose coefficient a position of the code word of strength t holds, and the position of a power (R272). -/
def codePower (t pos : Nat) : Nat := 12336 + 14 * t - 1 - (pos / 24 * 24 + (23 - pos % 24))
def codePos (t pow : Nat) : Nat :=
  let i := 12336 + 14 * t - 1 - pow
  i / 24 * 24 + (23 - i % 24)

/-- Syndrome j of an error pattern: its value at α^j. -/
def syndrome (t : Nat) (e : List Nat) (j : Nat) : Nat := e.foldl (fun s p => s ^^^ gfAlpha (j * codePower t p)) 0

/-- The state of the Berlekamp–Massey recurrence: present and earlier locator, its length, the earlier discrepancy, the gap. -/
structure BmState where
  c : List Nat
  b : List Nat
  l : Nat
  db : Nat
  m : Nat

/-- Locator c minus k x^m b. -/
def bmSub (c b : List Nat) (k m : Nat) : List Nat :=
  (List.range (Nat.max c.length (b.length + m))).map fun i =>
    c.getD i 0 ^^^ (if i < m then 0 else gfMul k (b.getD (i - m) 0))

/-- The error locator of syndromes S_1, S_2, …, and its length. -/
def errorLocator (syn : List Nat) : List Nat × Nat :=
  let r := syn.zipIdx.foldl (fun (x : BmState) (_, n) =>
    let d := (List.range (x.l + 1)).foldl (fun t i => t ^^^ gfMul (x.c.getD i 0) (if i ≤ n then syn.getD (n - i) 0 else 0)) 0
    if d = 0 then { x with m := x.m + 1 }
    else
      let c := bmSub x.c x.b (gfMul d (gfInv x.db)) x.m
      if 2 * x.l ≤ n then { c := c, b := x.c, l := n + 1 - x.l, db := d, m := 1 }
      else { x with c := c, m := x.m + 1 }) { c := [1], b := [1], l := 0, db := 1, m := 1 }
  (r.c, r.l)

/-- The error positions that a decoder of strength t finds in a stored word that differs from a code word at the positions `e` of the
code word: those of the code word within t bits, where there is one; else it fails (R272, R274). Log 44 (DEDUCED). -/
def bchErrors (t : Nat) (e : List Nat) : Option (List Nat) :=
  if e.length ≤ t then some e
  else
    let (c, l) := errorLocator ((List.range (2 * t)).map fun j => syndrome t e (j + 1))
    let ps := ((List.range (12336 + 14 * t)).filter fun k => gfEval c (gfAlpha (16383 - k)) == 0).map (codePos t)
    if l ≤ t ∧ ps.length = l then some ps else none

end Sys2Proof.Machine
end

