-- ==== Sys2Proof/Machine/Mem.lean ====
section
/-! DEFINITION. Memories: byte cells and words (R5), Reckoner local memory with SECDED (R206), reckoning memory with its
page code, windows, poison, log, remap (R268 to R295), accelerator buffers (R10, R11). -/

namespace Sys2Proof.Machine

/-! ### Words in byte cells -/

/-- The byte at a byte position; an unlisted byte reads 0. Log 10 (DESIGN CHOICE). -/
def cellGet (m : List Host.Cell) (pos : Nat) : Byte := SMap.get m (0#8) pos

/-- Write one byte; writing 0 removes the entry. -/
def cellSet (m : List Host.Cell) (pos : Nat) (b : Byte) : List Host.Cell := SMap.set m (0#8) pos b

/-- The canonical form of a byte memory. -/
def Memory.wf (m : List Host.Cell) : Bool := SMap.wf (fun _ => (0#8)) m

/-- The word at a word address: byte lanes 0, 1, 2 at positions 3 a, 3 a + 1, 3 a + 2 (R5). Log 10 (DESIGN CHOICE). -/
def wordGet (m : List Host.Cell) (a : Nat) : Word :=
  word ((cellGet m (3 * a)).toNat + (cellGet m (3 * a + 1)).toNat * 256 + (cellGet m (3 * a + 2)).toNat * 65536)

/-- One byte lane of a word. -/
def lane (w : Word) (i : Nat) : Byte := BitVec.ofNat 8 (w.toNat / 256 ^ i)

/-- Write the byte lanes of a word that `lanes` enables. -/
def wordSet (m : List Host.Cell) (a : Nat) (w : Word) (lanes : Nat) : List Host.Cell :=
  let m := if bits lanes 0 0 == 1 then cellSet m (3 * a) (lane w 0) else m
  let m := if bits lanes 1 1 == 1 then cellSet m (3 * a + 1) (lane w 1) else m
  if bits lanes 2 2 == 1 then cellSet m (3 * a + 2) (lane w 2) else m

/-- Every lane. -/
def allLanes : Nat := 7

/-- The cells of `n` words from word address `a`, with keys counted from the first byte. -/
def cellsOut (m : List Host.Cell) (a n : Nat) : List Host.Cell :=
  (m.filter fun e => decide (3 * a ≤ e.1) && decide (e.1 < 3 * (a + n))).map fun e => (e.1 - 3 * a, e.2)

/-- The memory without the cells of `n` words from word address `a`. -/
def cellsDrop (m : List Host.Cell) (a n : Nat) : List Host.Cell :=
  SMap.drop m fun k => decide (3 * a ≤ k) && decide (k < 3 * (a + n))

/-- The memory with `n` words from word address `a` replaced by cells counted from the first byte. -/
def cellsIn (m : List Host.Cell) (a n : Nat) (c : List Host.Cell) : List Host.Cell :=
  c.foldl (fun m e => cellSet m (3 * a + e.1) e.2) (cellsDrop m a n)

/-! ### Cores: the state after a reset, and access -/

/-- A core after a reset (R237, R247): every register 0, machine level, stopped. Log 9 (DESIGN CHOICE). -/
def coreDef : Core :=
  { g := [], p := [], v := [], a := [], k := [], pc := 0, csr := [], machine := true, iret := 0, st := .stopped,
    hold := none, len := 1, tgt := 0, wantRod := false, stores := [], ahead := [], sterrSeen := false, lmBusy := false,
    inbox := 0, bound := false, role := false }

/-- A core's state; 0 to 111 the Reckoners, 112 the Abacist. -/
def Dev.core (s : Dev) (n : Nat) : Core := SMap.get s.cores coreDef n

/-- Store a core's state. -/
def Dev.setCore (s : Dev) (n : Nat) (c : Core) : Dev := { s with cores := SMap.set s.cores coreDef n c }

/-! ### Reckoner local memory (R206); core 112 is the Abacist -/

/-- The word address, in the global view of R10, of a word of a core's local memory. -/
def lmAddr (core w : Nat) : Nat := 0x20000000 + core * 0x10000 + w % 0x10000

/-- The number by which events name a core: the global core number, 127 for the Abacist (R248). Log 24 (DESIGN CHOICE). -/
def coreEvt (core : Nat) : Nat := if core = 112 then 127 else core

/-- Read a word of local memory: a single-bit error is corrected and counted, a double-bit error ends the access. -/
def Dev.lmRead (s : Dev) (core w : Nat) : Option Word × Dev :=
  let a := lmAddr core w
  let s1 := match SMap.get s.lmErr 0 a with
    | 0 => s
    | 1 => ({ s with lmErr := SMap.del s.lmErr a }).count (Reg.RCK_LMCE_LO core) 1
    | _ => (s.count (Reg.RCK_LMUE_LO core) 1).raise 0x303 (coreEvt core)
  (if SMap.get s.lmErr 0 a ≥ 2 then none else some (wordGet s.lm a), s1)

/-- Write lanes of a word of local memory; a written word is good again. -/
def Dev.lmWrite (s : Dev) (core w : Nat) (d : Word) (lanes : Nat) : Dev :=
  let a := lmAddr core w
  { s with lm := wordSet s.lm a d lanes, lmErr := SMap.del s.lmErr a }

/-- A write to local memory (R206, R306): a part of a word with a double-bit error cannot merge, so the write ends in an
error that is counted; a single-bit error is corrected, and counted when the write merges. Log 50 (DESIGN CHOICE). -/
def Dev.lmStore (s : Dev) (core w : Nat) (d : Word) (lanes : Nat) : Bool × Dev :=
  match SMap.get s.lmErr 0 (lmAddr core w) with
  | 0 => (true, s.lmWrite core w d lanes)
  | e + 1 =>
    if lanes = allLanes then (true, s.lmWrite core w d lanes)
    else if e = 0 then (true, (s.count (Reg.RCK_LMCE_LO core) 1).lmWrite core w d lanes)
    else (false, (s.count (Reg.RCK_LMUE_LO core) 1).raise 0x303 (coreEvt core))

/-- Local memory written as 0 with valid SECDED (R479). Log 10 (DESIGN CHOICE). -/
def Dev.lmZero (s : Dev) (core : Nat) : Dev :=
  let a := lmAddr core 0
  { s with lm := cellsDrop s.lm a 0x10000
           lmErr := SMap.drop s.lmErr fun k => decide (a ≤ k) && decide (k < a + 0x10000) }

/-! ### Accelerator buffers (R10, R19) -/

/-- Read a word of the accelerator buffers under their SECDED (R19): a single-bit error is corrected, a double-bit error
ends the access. -/
def Dev.abRead (s : Dev) (o : Nat) : Option Word × Dev :=
  match SMap.get s.abErr 0 o with
  | 0 => (some (wordGet s.ab o), s)
  | 1 => (some (wordGet s.ab o), { s with abErr := SMap.del s.abErr o })
  | _ => (none, s)

/-- Write lanes of a word of the accelerator buffers; a part of a word with a double-bit error cannot merge. -/
def Dev.abWrite (s : Dev) (o : Nat) (d : Word) (lanes : Nat) : Bool × Dev :=
  if lanes ≠ allLanes ∧ SMap.get s.abErr 0 o ≥ 2 then (false, s)
  else (true, { s with ab := wordSet s.ab o d lanes, abErr := SMap.del s.abErr o })

/-! ### Pages and strengths (R268 to R274) -/

/-- Pages of reckoning memory. -/
def pages : Nat := 98304

/-- A physical page after initialisation (R296): pages hold their own number, spares 0. -/
def physReset (pp : Nat) : PhysPage :=
  { tcode := 2, poison := false, page := if pp < pages then pp else 0, ver := 0, flips := [] }

/-- Metadata of a physical page. -/
def Dev.phys (s : Dev) (pp : Nat) : PhysPage := SMap.get s.rm.phys (physReset pp) pp

/-- A window that holds nothing. -/
def winFree : PageWin := { page := none, dirty := false, poison := false, mask := 0, ver := 0, used := 0 }

/-- Window `w` of bank `b`. -/
def Dev.win (s : Dev) (b w : Nat) : PageWin := SMap.get s.rm.wins winFree (b * 8 + w)

/-- Store a window. -/
def Dev.setWin (s : Dev) (b w : Nat) (x : PageWin) : Dev :=
  { s with rm := { s.rm with wins := SMap.set s.rm.wins winFree (b * 8 + w) x } }

/-- The number of correctable errors of a TCODE (R273). -/
def tOf (tcode : Nat) : Nat :=
  match tcode with
  | 0 => 2 | 1 => 4 | 2 => 8 | 3 => 12 | 4 => 16 | _ => 0

/-- The strength a page decodes and encodes with (R289). -/
def Dev.strength (s : Dev) (P : Nat) : Nat :=
  let r := Reg.PGC_REG (P / 256)
  if s.fbit r Reg.PGC_REG_BUSY_f && decide (P % 256 < s.fget r Reg.PGC_REG_CURSOR_f) then s.fget r Reg.PGC_REG_TNEW_f
  else s.fget r Reg.PGC_REG_TCUR_f

/-- The spare of bank `b` that maps a page-in-bank (R292). -/
def Dev.spareOf (s : Dev) (b pib : Nat) : Option Nat :=
  (List.range 64).find? fun k =>
    s.fbit (Reg.PGC_MAP b k) Reg.PGC_MAP_VALID_f && s.fget (Reg.PGC_MAP b k) Reg.PGC_MAP_PAGE_f == pib

/-- The physical page that stores page P: its own, or its spare. -/
def Dev.place (s : Dev) (P : Nat) : Nat :=
  match s.spareOf (P % 32) (P / 32) with
  | some k => pages + P % 32 * 64 + k
  | none => P

/-- Free spares of a bank. Log 52 (DEDUCED). -/
def Dev.freeSpares (s : Dev) (b : Nat) : List Nat :=
  (List.range 64).filter fun k =>
    !(s.fbit (Reg.PGC_MAP b k) Reg.PGC_MAP_VALID_f) && !(s.fbit (Reg.PGC_MAP b k) Reg.PGC_MAP_BAD_f)

/-- How a decode ends (R274): clean, or n bits corrected; `res` holds the positions at which the decoded words differ from what was
encoded, none unless the decoder took another code word. -/
inductive Decode where
  | clean (res : List Nat)
  | corrected (n : Nat) (res : List Nat)
  | uncorrectable
  deriving DecidableEq, Repr

/-- The stored data of a physical page as encoded, keys counted from its first byte. -/
def Dev.storedData (s : Dev) (pp : Nat) : List Host.Cell := cellsOut s.rm.store (pp * 512) 512

/-- Word 512 of a physical page as encoded: TCODE, POISON, PAGE (R271). -/
def PhysPage.word512 (m : PhysPage) : Word := word (m.tcode * 2 ^ 21 + bit m.poison * 2 ^ 20 + m.page)

/-- Words 0 to 512 of a physical page as encoded. -/
def Dev.pageBody (s : Dev) (pp : Nat) : List Word :=
  ((List.range 512).map fun i => wordGet s.rm.store (pp * 512 + i)) ++ [(s.phys pp).word512]

/-- Words 0 to 513 of a physical page as encoded: VER and CHECK stand in word 513 (R271). -/
def Dev.pageMsg (s : Dev) (pp : Nat) : List Word :=
  s.pageBody pp ++ [word ((s.phys pp).ver * 2 ^ 16 + pageCrc (s.pageBody pp))]

/-- The 524 words that a physical page stores: the message, the parity of its strength, zeros, with its inverted bits (R271, R272). -/
def Dev.physWords (s : Dev) (pp : Nat) : List Word :=
  let m := s.phys pp
  let msg := s.pageMsg pp
  let par := pageParity (tOf m.tcode) msg
  let tail := (List.range 10).map fun i => word ((List.range 24).foldl (fun n k => 2 * n + bit (par.getD (24 * i + k) false)) 0)
  (msg ++ tail).zipIdx.map fun (w, i) => flipWord m.flips i w

/-- The metadata that a decode reads with the positions `res` inverted. -/
def PhysPage.after (m : PhysPage) (res : List Nat) : PhysPage :=
  let a := (flipWord res 512 m.word512).toNat
  let b := (flipWord res 513 (word (m.ver * 2 ^ 16))).toNat
  { m with tcode := bits a 23 21, poison := bits a 20 20 == 1, page := bits a 16 0, ver := bits b 23 16 }

/-- Whether CHECK fits the decoded words when the positions `res` are inverted (R274). -/
def Dev.checkFits (s : Dev) (pp : Nat) (res : List Nat) : Bool :=
  let ws := (s.pageMsg pp).zipIdx.map fun (w, i) => flipWord res i w
  pageCrc (ws.take 513) == bits (ws.getD 513 0).toNat 15 0

/-- Decode the stored copy of page P (R274): the decoder fails, or CHECK, PAGE or TCODE does not match, or the page is CLEAN or
CORRECTED. The stored words differ from the words encoded at `flips`, so that the decoder sees those bits as errors; with no
difference left, CHECK matches as it was computed. Log 44 (DEDUCED), 45 (DEDUCED). -/
def Dev.decode (s : Dev) (P : Nat) : Decode :=
  let pp := s.place P
  let m := s.phys pp
  let t := tOf (s.strength P)
  let e := m.flips.filter (inCode t)
  if m.tcode ≠ s.strength P then .uncorrectable
  else match bchErrors t e with
    | none => .uncorrectable
    | some fix =>
      let res := (e.filter fun p => !(fix.contains p)) ++ fix.filter fun p => !(e.contains p)
      let m' := m.after res
      if res ≠ [] ∧ ¬ (s.checkFits pp res ∧ m'.tcode = m.tcode) then .uncorrectable
      else if (if res = [] then m.page else m'.page) ≠ P then .uncorrectable
      else if fix = [] then .clean res else .corrected fix.length res

/-- Data with the data bits at the given positions inverted; bit POS is bit POS mod 24 of word POS div 24 (R271). -/
def flipData (c : List Host.Cell) (ps : List Nat) : List Host.Cell :=
  ps.foldl (fun c p =>
    if p < 12288 then
      let k := p / 24 * 3 + p % 24 / 8
      cellSet c k (cellGet c k ^^^ BitVec.ofNat 8 (2 ^ (p % 8)))
    else c) c

/-! ### Log, counts, poison list (R284, R285) -/

/-- Write a record of the correctable-error log. Log 49 (DEDUCED). -/
def Dev.memLog (s : Dev) (kind P n spare : Nat) : Dev :=
  let h := s.fget Reg.PGC_LOGCTL Reg.PGC_LOGCTL_HEAD_f
  let s := s.rset (Reg.PGC_LOG h 0) (word (kind * 2 ^ 20 + P))
  let s := s.rset (Reg.PGC_LOG h 1) (word (n * 2 ^ 16 + spare))
  let s := s.rset (Reg.PGC_LOG h 2) (word (secOf s.time))
  let s := s.rset (Reg.PGC_LOG h 3) (word (nsOf s.time / 1000))
  let s := if s.rm.unread.contains h then s.fset Reg.PGC_LOGCTL Reg.PGC_LOGCTL_OVF_f true else s
  let s := s.fput Reg.PGC_LOGCTL Reg.PGC_LOGCTL_HEAD_f ((h + 1) % 64)
  { s with rm := { s.rm with unread := s.rm.unread.filter (· ≠ h) ++ [h] } }

/-- A record of KIND 0, at most one per bank per 1 ms. Log 48 (DESIGN CHOICE). -/
def Dev.memLogCe (s : Dev) (P n : Nat) : Dev :=
  let b := P % 32
  let recent := match SMap.get s.rm.ceLogAt none b with
    | some t => decide (s.elapsed < t + 1000000 * nsUnit)
    | none => false
  if recent then s
  else
    let s := s.memLog 0 P n 0
    { s with rm := { s.rm with ceLogAt := SMap.set s.rm.ceLogAt none b (some s.elapsed) } }

/-- Enter a page in the poison list (R285). -/
def Dev.poisonEnter (s : Dev) (P : Nat) : Dev :=
  let slot (k : Nat) := s.rget (Reg.PGC_POISON k)
  if (List.range 256).any fun k => slot k == word (2 ^ 23 + P) then s
  else match (List.range 256).find? fun k => getF (slot k) Reg.PGC_POISON_VALID_f == 0 with
    | some k =>
      let s := s.rset (Reg.PGC_POISON k) (word (2 ^ 23 + P))
      s.fput Reg.PGC_POISON_STAT Reg.PGC_POISON_STAT_COUNT_f (s.fget Reg.PGC_POISON_STAT Reg.PGC_POISON_STAT_COUNT_f + 1)
    | none => (s.fset Reg.PGC_POISON_STAT Reg.PGC_POISON_STAT_OVF_f true).raise 0x206 0

/-- A page leaves the poison list. -/
def Dev.poisonLeave (s : Dev) (P : Nat) : Dev :=
  match (List.range 256).find? fun k => s.rget (Reg.PGC_POISON k) == word (2 ^ 23 + P) with
  | some k =>
    let s := s.rset (Reg.PGC_POISON k) 0
    s.fput Reg.PGC_POISON_STAT Reg.PGC_POISON_STAT_COUNT_f (s.fget Reg.PGC_POISON_STAT Reg.PGC_POISON_STAT_COUNT_f - 1)
  | none => s

/-! ### Writing stored copies (R278, R282, R294) -/

/-- The positions PGC_FLIP_POS names (R294). Log 45 (DEDUCED). -/
def Dev.flipPositions (s : Dev) : List Nat :=
  ((List.range 32).filterMap fun k =>
    let w := s.rget (Reg.PGC_FLIP_POS k)
    if getF w Reg.PGC_FLIP_POS_V_f == 1 && decide (getF w Reg.PGC_FLIP_POS_POS_f ≤ 12575) then
      some (getF w Reg.PGC_FLIP_POS_POS_f) else none).eraseDups

/-- Encode a page at its present strength and write all 524 words of physical page `pp`; an armed flip test inverts its
bits in this write (R278, R294). Log 45 (DEDUCED). -/
def Dev.writePage (s : Dev) (P pp tcode ver : Nat) (poison : Bool) (data : List Host.Cell) : Dev :=
  let armed := s.fbit Reg.PGC_FLIP_MASK Reg.PGC_FLIP_MASK_ARM_f && s.fget Reg.PGC_FLIP_MASK Reg.PGC_FLIP_MASK_PAGE_f == P
  let m : PhysPage := { tcode := tcode, poison := poison, page := P, ver := ver
                        flips := if armed then s.flipPositions else [] }
  let s := { s with rm := { s.rm with
    phys := SMap.set s.rm.phys (physReset pp) pp m
    store := cellsIn s.rm.store (pp * 512) 512 data } }
  if armed then
    (s.fset Reg.PGC_FLIP_MASK Reg.PGC_FLIP_MASK_ARM_f false).fset Reg.PGC_FLIP_MASK Reg.PGC_FLIP_MASK_DONE_f true
  else s

/-- The window of P's bank that holds page P. -/
def Dev.winOf (s : Dev) (P : Nat) : Option Nat :=
  (List.range 8).find? fun w => (s.win (P % 32) w).page == some P

/-- Drop a window: it holds no page any more. -/
def Dev.winDrop (s : Dev) (b w : Nat) : Dev :=
  match (s.win b w).page with
  | none => s
  | some P =>
    let s := s.setWin b w winFree
    { s with rm := { s.rm with
        winData := cellsDrop s.rm.winData (P * 512) 512
        winErr := SMap.drop s.rm.winErr fun k => k / 512 == P } }

/-- The page is poisoned (R282 steps 2 to 4, without counts and log): the stored copy becomes a valid poisoned page at
strength `tcode`, a window that holds the page holds it poisoned with an empty mask, the page enters the list.
Log 51 (DESIGN CHOICE). -/
def Dev.poisonPage (s : Dev) (P pp tcode ver : Nat) : Dev :=
  let s := s.writePage P pp tcode ver true []
  let s := match s.winOf P with
    | some w =>
      let s := s.setWin (P % 32) w { s.win (P % 32) w with dirty := false, poison := true, mask := 0 }
      { s with rm := { s.rm with
          winData := cellsDrop s.rm.winData (P * 512) 512
          winErr := SMap.drop s.rm.winErr fun k => k / 512 == P } }
    | none => s
  (s.poisonEnter P).raise 0x202 (P % 32)

/-- Count, log and report a decode made for an access (0), scrub (1), re-encode (2) or remap (3) (R284, R298). -/
def Dev.noteDecode (s : Dev) (P cause : Nat) (d : Decode) : Dev :=
  let b := P % 32
  match d with
  | .clean _ => s
  | .corrected n _ =>
    let s := (s.count (Reg.MEM_CE_LO b) 1).count (Reg.MEM_CEBIT_LO b) n
    let s := if cause = 0 then s.memLogCe P n else s.memLog cause P n 0
    s.raise 0x201 b
  | .uncorrectable =>
    let s := s.count (Reg.MEM_UE_LO b) 1
    s.memLog (match cause with | 0 => 4 | 1 => 5 | _ => 6) P 0 0

/-- Window words with a SECDED error: correct the single-bit ones; report whether a double-bit one exists (R280). -/
def Dev.winCheck (s : Dev) (P : Nat) : Bool × Dev :=
  let errs := s.rm.winErr.filter fun e => e.1 / 512 == P
  let singles := errs.filter fun e => e.2 == 1
  let s := if singles.length = 0 then s else
    ({ s with rm := { s.rm with winErr := s.rm.winErr.filter fun e => !(e.1 / 512 == P && e.2 == 1) } }).count
      (Reg.MEM_WCE_LO (P % 32)) singles.length
  (errs.any fun e => e.2 ≥ 2, s)

/-- A window double-bit error poisons the window's page (R280). -/
def Dev.winDouble (s : Dev) (P : Nat) : Dev :=
  (s.poisonPage P (s.place P) (s.strength P) (s.phys (s.place P)).ver).memLog 8 P 0 0

/-- The data a write-back stores: of a poisoned page only the words whose mask bit is set (R283). -/
def Dev.winStoreData (s : Dev) (P : Nat) (x : PageWin) : List Host.Cell :=
  let c := cellsOut s.rm.winData (P * 512) 512
  if x.poison then c.filter fun e => bits x.mask (e.1 / 3) (e.1 / 3) == 1 else c

/-- Write back window `w` of bank `b` if it is dirty (R278); it is then clean and its written-word mask is lost (R283). -/
def Dev.writeBack (s : Dev) (b w : Nat) : Dev :=
  let x := s.win b w
  match x.page with
  | none => s
  | some P =>
    if x.dirty then
      let (dbl, s) := s.winCheck P
      if dbl then s.winDouble P
      else
        let s := s.writePage P (s.place P) (s.strength P) x.ver x.poison (s.winStoreData P x)
        s.setWin b w { x with dirty := false, mask := 0 }
    else s

/-! ### Remap (R292, R293) -/

/-- Remap page P to the lowest free spare of its bank. `command` says whether PGC_REMAP asked for it.
Log 47 (DESIGN CHOICE), 52 (DEDUCED). -/
def Dev.remap (s : Dev) (P : Nat) (command : Bool) : Dev :=
  let b := P % 32
  match (s.freeSpares b).head? with
  | none =>
    let s := s.fset Reg.PGC_REMAP Reg.PGC_REMAP_ERR_f true
    if command then s.raise 0x204 b else s
  | some k =>
    let old := s.spareOf b (P / 32)
    let pp := pages + b * 64 + k
    let tc := s.strength P
    let m := s.phys (s.place P)
    let dirtyWin := (s.winOf P).filter fun w => (s.win b w).dirty
    let s := match dirtyWin with
      | some w =>
        let x := s.win b w
        let (dbl, s) := s.winCheck P
        if dbl then (s.poisonPage P pp tc x.ver).memLog 8 P 0 0
        else (s.writePage P pp tc x.ver x.poison (s.winStoreData P x)).setWin b w { x with dirty := false, mask := 0 }
      | none =>
        let d := s.decode P
        let data := s.storedData (s.place P)
        let s := s.noteDecode P 3 d
        match d with
        | .clean res => s.writePage P pp tc (m.after res).ver (m.after res).poison (flipData data res)
        | .corrected _ res => s.writePage P pp tc (m.after res).ver (m.after res).poison (flipData data res)
        | .uncorrectable => s.poisonPage P pp tc m.ver
    let s := s.rset (Reg.PGC_MAP b k) (word (2 ^ 23 + P / 32))
    let s := match old with
      | some j => s.rset (Reg.PGC_MAP b j) (word (2 ^ 22 + P / 32))
      | none => s
    let s := (s.memLog 7 P 0 k).raise 0x203 b
    if (s.freeSpares b).length ≤ s.fget Reg.PGC_RMCFG Reg.PGC_RMCFG_LOW_f then s.raise 0x204 b else s

/-- Whether a decode made at strength `tc` calls for an automatic remap (R293). -/
def Dev.wantsRemap (s : Dev) (P tc : Nat) (d : Decode) : Bool :=
  let t := tOf tc
  let limit := Nat.max (t - s.fget Reg.PGC_RMCFG Reg.PGC_RMCFG_MARGIN_f) ((t + 1) / 2)
  s.fbit Reg.PGC_RMCFG Reg.PGC_RMCFG_AUTO_f &&
  !(s.fbit Reg.PGC_FLIP_MASK Reg.PGC_FLIP_MASK_DONE_f && s.fget Reg.PGC_FLIP_MASK Reg.PGC_FLIP_MASK_PAGE_f == P) &&
  match d with
  | .uncorrectable => true
  | .corrected n _ => decide (limit ≤ n)
  | .clean _ => false

/-! ### Misses and accesses (R275 to R283) -/

/-- Mark a window as used now. -/
def Dev.touch (s : Dev) (b w : Nat) : Dev :=
  let s := s.setWin b w { s.win b w with used := s.rm.clock + 1 }
  { s with rm := { s.rm with clock := s.rm.clock + 1 } }

/-- The least recently used of some windows. Log 46 (DESIGN CHOICE). -/
def Dev.lru (s : Dev) (b : Nat) (ws : List Nat) : Option Nat :=
  ws.foldl (fun o w => match o with
    | none => some w
    | some v => if (s.win b w).used < (s.win b v).used then some w else some v) none

/-- Whether a window is pinned: it holds a poisoned page with a bit set in its written-word mask (R279). -/
def PageWin.pinned (x : PageWin) : Bool := x.poison && x.mask != 0

/-- The window a miss takes: a free one, else the least recently used that is not pinned, else the least recently
used (R279). Log 46 (DESIGN CHOICE). -/
def Dev.victim (s : Dev) (b : Nat) : Nat :=
  match (List.range 8).find? fun w => (s.win b w).page == none with
  | some w => w
  | none =>
    match s.lru b ((List.range 8).filter fun w => !(s.win b w).pinned) with
    | some w => w
    | none => (s.lru b (List.range 8)).getD 0

/-- Decode page P into a window of its bank, evicting a victim (R275, R278, R281, R282). The answer says whether the
decode was UNCORRECTABLE. -/
def Dev.fill (s : Dev) (P : Nat) : Bool × Dev :=
  let b := P % 32
  let w := s.victim b
  let s := (s.writeBack b w).winDrop b w
  let s := s.count (Reg.MEM_MISS_LO b) 1
  let pp := s.place P
  let m := s.phys pp
  let d := s.decode P
  let data := s.storedData pp
  let s := s.noteDecode P 0 d
  let load (res : List Nat) (s : Dev) : Dev :=
    let m := m.after res
    let s := s.setWin b w { page := some P, dirty := false, poison := m.poison, mask := 0, ver := m.ver, used := 0 }
    { s with rm := { s.rm with winData := cellsIn s.rm.winData (P * 512) 512 (flipData data res) } }
  let s1 := match d with
    | .clean res => load res s
    | .corrected _ res => load res s
    | .uncorrectable =>
      (s.setWin b w { page := some P, dirty := false, poison := true, mask := 0, ver := m.ver, used := 0 }).poisonPage
        P pp (s.strength P) m.ver
  let s2 := if s1.wantsRemap P (s.strength P) d then s1.remap P false else s1
  (d == .uncorrectable, s2.touch b w)

/-- Bring page P into a window: a hit touches it, a miss fills one. Log 46 (DESIGN CHOICE). -/
def Dev.ensure (s : Dev) (P : Nat) : Bool × Dev :=
  match s.winOf P with
  | some w => (false, s.touch (P % 32) w)
  | none => s.fill P

/-- Whether a word of reckoning memory lies in a retained image range, which is read-only (R356). -/
def Dev.retained (s : Dev) (a : Nat) : Bool :=
  (List.range 15).any fun k =>
    let base := s.getAddr (Reg.STC_RETBASE_LO k)
    s.fbit (Reg.STC_RET k) Reg.STC_RET_VALID_f && decide (base ≤ a) &&
      decide (a < base + (s.rget (Reg.STC_RETLEN k)).toNat)

/-- The initialisation engine ends (R296): every page and spare is a clean code word of zeros, every entry of the region table
stands at TCODE 2 without a re-encode, remap entries and poison slots are clear, INITDONE is set. -/
def Dev.memInit (s : Dev) : Dev :=
  if s.rm.initDone then s
  else
    let s := (List.range 384).foldl (fun s r =>
      ((s.fput (Reg.PGC_REG r) Reg.PGC_REG_TCUR_f 2).fput (Reg.PGC_REG r) Reg.PGC_REG_TNEW_f 2).fset (Reg.PGC_REG r)
        Reg.PGC_REG_BUSY_f false) s
    let s := s.clearRegs fun a => decide (Reg.PGC_MAP 0 0 ≤ a ∧ a < Reg.PGC_MAP 0 0 + 0x800) ||
      decide (Reg.PGC_POISON 0 ≤ a ∧ a < Reg.PGC_POISON 0 + 256)
    let s := s.fput Reg.PGC_POISON_STAT Reg.PGC_POISON_STAT_COUNT_f 0
    { s with rm := { s.rm with phys := [], store := [], wins := [], winData := [], winErr := [], reenc := none, initDone := true } }

/-- Read a word of reckoning memory; none is a bus error (R282, R283, R280). `o` is the offset from 0x1000_0000. An access before
INITDONE waits for it (R296). Log 196 (DEDUCED). -/
def Dev.rmRead (s : Dev) (o : Nat) : Option Word × Dev :=
  let s := s.memInit
  let P := o / 512
  let (ue, s) := s.ensure P
  match s.winOf P with
  | none => (none, s)
  | some w =>
    if ue || (s.win (P % 32) w).poison then (none, s)
    else match SMap.get s.rm.winErr 0 o with
      | 0 => (some (wordGet s.rm.winData o), s)
      | 1 =>
        (some (wordGet s.rm.winData o),
          ({ s with rm := { s.rm with winErr := SMap.del s.rm.winErr o } }).count (Reg.MEM_WCE_LO (P % 32)) 1)
      | _ => (none, s.winDouble P)

/-- Write lanes of a word of reckoning memory (R277, R283); the answer is false for a bus error (R356).
Log 47 (DESIGN CHOICE), 50 (DESIGN CHOICE). -/
def Dev.rmWrite (s : Dev) (o : Nat) (d : Word) (lanes : Nat) : Bool × Dev :=
  if s.retained (0x10000000 + o) then (false, s)
  else
    let s := s.memInit
    let P := o / 512
    let b := P % 32
    let (_, s) := s.ensure P
    match s.winOf P with
    | none => (false, s)
    | some w =>
      let x := s.win b w
      let mask := if x.poison && lanes == allLanes then x.mask ||| 2 ^ (o % 512) else x.mask
      let whole := x.poison && mask == 2 ^ 512 - 1
      let s := s.setWin b w { x with dirty := true, poison := x.poison && !whole, mask := if whole then 0 else mask }
      let s := { s with rm := { s.rm with
        winData := wordSet s.rm.winData o d lanes
        winErr := if lanes == allLanes then SMap.del s.rm.winErr o else s.rm.winErr } }
      (true, if whole then s.poisonLeave P else s)

/-! ### The local address map (R10, R11), without the control registers -/

/-- What a local address names. -/
inductive Place where
  | own (w : Nat)
  | recMem (o : Nat)
  | lmem (core w : Nat)
  | creg (o : Nat)
  | abuf (o : Nat)
  | nowhere
  deriving DecidableEq, Repr

/-- The local address map of R10. -/
def placeOf (a : Nat) : Place :=
  if a < 0x10000 then .own a
  else if 0x10000000 ≤ a ∧ a < 0x13000000 then .recMem (a - 0x10000000)
  else if 0x20000000 ≤ a ∧ a < 0x20700000 then .lmem ((a - 0x20000000) / 0x10000) ((a - 0x20000000) % 0x10000)
  else if 0x30000000 ≤ a ∧ a < 0x40000000 then .creg (a - 0x30000000)
  else if 0x40000000 ≤ a ∧ a < 0x41000000 then .abuf (a - 0x40000000)
  else .nowhere

/-- Whether an access to the address can be served now: reckoning memory is initialised (R296) and the local memory's
zeroing has ended (R479). Log 31 (DESIGN CHOICE), 196 (DEDUCED). -/
def Dev.memReady (s : Dev) (a : Nat) : Bool :=
  match placeOf a with
  | .recMem _ => s.rm.initDone
  | .lmem c _ => !(s.core c).lmBusy
  | _ => true

/-- Whether a chip mode or a group command decides the state of a core's domain (R480 rules 1 and 2). -/
def Dev.coreHeld (s : Dev) (c : Nat) : Bool :=
  let g := SMap.get s.pwr.grpOf none c
  decide (s.pwr.mode ≥ 2) || (s.pwr.mode == 1 && c != 112 && g != some 0) ||
    (match g with | some g => SMap.get s.pwr.grpCmd 1 g != 1 | none => false)

/-- Whether rod `r` is retained by the WAITM of its core 0 (R244, R480 rule 3). -/
def Dev.rodHeld (s : Dev) (r : Nat) : Bool := (s.core (r * 8)).st == .retain && (s.core (r * 8)).wantRod

/-- Whether a core's local memory is there: its domain is not OFF, and not held in RETAIN by a chip mode or group (R482);
a core retained by its own WAITM or by its rod's serves accesses (R244, R245). -/
def Dev.lmServed (s : Dev) (c : Nat) : Bool :=
  match s.dom (if c = 112 then 210 else c) with
  | .on => true
  | .off => false
  | .retain => !s.coreHeld c && ((s.core c).st == .retain || (decide (c < 112) && s.rodHeld (c / 8)))

/-- Words of the buffer in which a reception instance hands soft values to a trellis decoder, and where the decoded bits go in it
(R150, R194). Log 86 (DESIGN CHOICE). -/
def instBufLen : Nat := 3300
/-- Where the buffer of instance i lies in the accelerator buffers. Log 86 (DESIGN CHOICE). -/
def instBuf (i : Nat) : Nat := Config.instBuf i % (0x1000000 - instBufLen)

/-- Whether a word of the accelerator buffer range is there. Log 11 (DESIGN CHOICE), 86 (DESIGN CHOICE). -/
def bufThere (o : Nat) : Bool :=
  Config.bufImplemented o || (List.range 2048).any fun i => decide (instBuf i ≤ o) && decide (o < instBuf i + instBufLen)

/-- Read a word that is no control register. Log 11 (DESIGN CHOICE). -/
def Dev.memRead (s : Dev) (a : Nat) : Option Word × Dev :=
  match placeOf a with
  | .recMem o => s.rmRead o
  | .lmem c w => if s.lmServed c then s.lmRead c w else (none, s)
  | .abuf o => if bufThere o then s.abRead o else (none, s)
  | _ => (none, s)

/-- Write lanes of a word that is no control register; false is a bus error. Log 11 (DESIGN CHOICE). -/
def Dev.memWrite (s : Dev) (a : Nat) (d : Word) (lanes : Nat) : Bool × Dev :=
  match placeOf a with
  | .recMem o => s.rmWrite o d lanes
  | .lmem c w => if s.lmServed c then s.lmStore c w d lanes else (false, s)
  | .abuf o => if bufThere o then s.abWrite o d lanes else (false, s)
  | _ => (false, s)

/-- The paths by which a reader and writer reaches local addresses. -/
structure Port where
  rd : Dev → Nat → Option Word × Dev
  wr : Dev → Nat → Word → Nat → Bool × Dev

/-- The path to memories and buffers alone. -/
def memPort : Port := { rd := Dev.memRead, wr := Dev.memWrite }

/-- Read `n` consecutive words; the first bus error ends it with the words read so far. -/
def Dev.memReadN (s : Dev) (a n : Nat) (io : Port := memPort) : List Word × Bool × Dev :=
  match n with
  | 0 => ([], true, s)
  | n + 1 =>
    match io.rd s a with
    | (none, s) => ([], false, s)
    | (some w, s) =>
      let (ws, ok, s) := s.memReadN (a + 1) n io
      (w :: ws, ok, s)

/-- Write consecutive words; the answer says whether every write succeeded. -/
def Dev.memWriteN (s : Dev) (a : Nat) (ws : List Word) (io : Port := memPort) : Bool × Dev :=
  match ws with
  | [] => (true, s)
  | w :: t =>
    let (ok, s) := io.wr s a w allLanes
    let (ok2, s) := s.memWriteN (a + 1) t io
    (ok && ok2, s)

end Sys2Proof.Machine
end

