-- ==== Sys2Proof/Machine/Tally.lean ====
section
/-! DEFINITION. Counters, their clear and their shadows: Tally (R100, R546 to R548). -/

namespace Sys2Proof.Machine

/-- Whether a register is the low word of a 48-bit counter. -/
def isCntLow (a : Nat) : Bool :=
  match regSpec a with
  | some r => r.fields.any fun f => f.acc == .cnt
  | none => false

/-- Whether a register is counted by Tally: both words of every 48-bit counter, LNC_CYCLE_n, QUE_ITEMS_n, TIM_PPSI_CNT
(R546). -/
def isCounter (a : Nat) : Bool :=
  isCntLow a || (decide (a > 0) && isCntLow (a - 1)) ||
    (List.range 64).any (fun n => a == Reg.LNC_CYCLE n) ||
    (decide (Reg.QUE_ITEMS 0 ≤ a) && (match regSpec a with | some r => r.base == Reg.QUE_ITEMS 0 | none => false)) ||
    a == Reg.TIM_PPSI_CNT

/-- Update the Tally. -/
def Dev.onTly (s : Dev) (f : Tally → Tally) : Dev := { s with tly := f s.tly }

/-- A write to a counter's low word with bit 0 set clears the counter; while a snapshot is in progress the clear is deferred
(R100, R548). -/
def Dev.cntClear (s : Dev) (lo : Nat) : Dev :=
  if s.tly.copying then s.onTly fun t => { t with deferred := t.deferred ++ [lo] } else s.put48 lo 0

/-- The target that TLY_AT holds: low 24 bits of seconds, nanoseconds. Log 101 (DESIGN CHOICE). -/
def Dev.tlyTarget (s : Dev) : Nat × Nat :=
  ((s.rget Reg.TLY_AT_S).toNat,
   (s.rget Reg.TLY_AT_NSL).toNat + s.fget Reg.TLY_AT_NSH Reg.TLY_AT_NSH_NSH_f * 2 ^ 24)

/-- Whether the armed target is due (R69, R548). Log 101 (DESIGN CHOICE). -/
def Dev.tlyDue (s : Dev) : Bool := s.tly.armed && !s.tly.copying && s.due s.tlyTarget.1 s.tlyTarget.2

/-- Every counter bank copies its counters into their shadows. Counters of an OFF domain hold 0 (R548). -/
def Dev.tlyCopy (s : Dev) (late : Bool) : Dev :=
  let s := { s with shadow := s.regs.filter fun e => isCounter e.1 && e.2 != 0 }
  (s.onTly fun t => { t with copying := true, late := false, copyAt := s.time }).fset Reg.TLY_STAT Reg.TLY_STAT_LATE_f late

/-- TLY_TARGET_DUE: the target has become due. -/
def Dev.tlyTake (s : Dev) : Dev := if s.tlyDue then s.tlyCopy s.tly.late else s

/-- Arm at the target held in TLY_AT; a target already due is taken at once, late (R548). Log 101 (DESIGN CHOICE). -/
def Dev.tlyArm (s : Dev) : Dev :=
  let s := s.onTly fun t => { t with armed := true, rearm := false, late := false }
  if s.tlyDue then s.tlyCopy true else s

/-- TLY_ARM: a write of TLY_AT_NSH. ARM = 1 arms the target; while a snapshot is in progress the target is held until
completion (R547, R548). Log 101 (DESIGN CHOICE). -/
def Dev.tlyArmWrite (s : Dev) (w : Word) : Dev :=
  let s := s.rset Reg.TLY_AT_NSH (w &&& word 0x80003F)
  let arm := getF w Reg.TLY_AT_NSH_ARM_f == 1
  if s.tly.copying then
    (s.onTly fun t => { t with rearm := arm }).fset Reg.TLY_AT_NSH Reg.TLY_AT_NSH_ARM_f true
  else if arm then s.tlyArm
  else s.onTly fun t => { t with armed := false, late := false }

/-- When TIME_VALID sets, a passed target is taken at once with LATE set (R548). -/
def Dev.tlyValid (s : Dev) : Dev := if s.tlyDue then s.tlyCopy true else s

/-- TLY_COMPLETE: every bank has copied (R547, R548). -/
def Dev.tlyComplete (s : Dev) : Dev :=
  if s.tly.copying then
    let seq := ((s.rget Reg.TLY_SEQ).toNat + 1) % 2 ^ 24
    let t := s.tly.copyAt
    let lows := s.tly.deferred
    let again := s.tly.rearm
    let s := s.rset Reg.TLY_SEQ (word seq)
    let s := ((s.rset Reg.TLY_SNAP_S (word (secOf t))).rset Reg.TLY_SNAP_NSL (word (nsOf t))).rset Reg.TLY_SNAP_NSH
      (word (nsOf t / 2 ^ 24))
    let s := (s.fset Reg.TLY_AT_NSH Reg.TLY_AT_NSH_ARM_f again).raise 0x001 (seq % 4096)
    let s := s.onTly fun t => { t with armed := false, copying := false, rearm := false, deferred := [] }
    let s := lows.foldl (fun s lo => s.put48 lo 0) s
    if again then s.tlyArm else s
  else s

/-- TLY_STAT.STATE. -/
def Dev.tlyState (s : Dev) : Nat := if s.tly.copying then 2 else if s.tly.armed then 1 else 0

end Sys2Proof.Machine
end

