-- ==== Sys2Proof/Machine/Events.lean ====
section
/-! DEFINITION. The event arbiter: numbers, times, records, rate limit, the ring, EVT_LOST, forwarding (R539 to R545). -/

namespace Sys2Proof.Machine

/-- Update the arbiter. Log 99 (DESIGN CHOICE). -/
def Dev.onArb (s : Dev) (f : Arbiter → Arbiter) : Dev := { s with arb := f s.arb }

/-- Whether a chapter limits the event to once per unit field per 10 ms (R77, R91, R134, R172, R248, R298, R322, R338, R419,
R442, R476, R496, R524). Log 98 (DEDUCED). -/
def rateLimited (code : Nat) : Bool :=
  [0x10A, 0x10B, 0x201, 0x202, 0x301, 0x303, 0x304, 0x305, 0x410, 0x411, 0x412, 0x421, 0x501, 0x502, 0x503, 0x504, 0x505,
   0x510, 0x511, 0x512, 0x513, 0x601, 0x602, 0x603, 0x604, 0x605, 0x611, 0x612, 0x613, 0x614, 0x615, 0x707, 0x708, 0x805,
   0x808, 0x906].contains code

/-- The four words of an event record (R541). -/
def recordWords (seq code unit t : Nat) : List Word :=
  [word seq, word (code * 4096 + unit % 4096), word (secOf t), word (nsOf t / 64)]

/-- The ring's length in records; 0 and 1 act as 2. -/
def Dev.ringLen (s : Dev) : Nat := Nat.max 2 (s.fget Reg.EVT_RLEN Reg.EVT_RLEN_LEN_f)

/-- Where the arbiter writes the next record. -/
def Dev.ringAt (s : Dev) : Nat := s.getAddr Reg.EVT_RBASE_LO + 4 * s.fget Reg.EVT_HEAD Reg.EVT_HEAD_HEAD_f

/-- HEAD after one more record. -/
def Dev.ringNext (s : Dev) : Nat := (s.fget Reg.EVT_HEAD Reg.EVT_HEAD_HEAD_f + 1) % s.ringLen

/-- Whether EN = 1 and the ring has room for a record. -/
def Dev.ringRoom (s : Dev) : Bool :=
  s.fbit Reg.EVT_CTL Reg.EVT_CTL_EN_f && s.ringNext != s.fget Reg.EVT_TAIL Reg.EVT_TAIL_TAIL_f

/-- A dropped record (R544). `now` says that EVT_LOST may go out without a further event. Log 100 (DEDUCED). -/
def Dev.recordDrop (s : Dev) (now : Bool) : Dev :=
  ((s.count Reg.EVT_DROP_LO 1).fset Reg.EVT_STAT Reg.EVT_STAT_OVF_f true).onArb fun a =>
    { a with lost := Nat.min (a.lost + 1) 4095, lostNow := a.lostNow || now }

/-- Write a record into the ring, advance HEAD, and send the notice of a ring that turns non-empty; a record without room or
with EN = 0, or one whose write ends in a bus error, is dropped. -/
def Dev.ringWrite (s : Dev) (ws : List Word) : Dev :=
  if s.ringRoom then
    let empty := s.fget Reg.EVT_HEAD Reg.EVT_HEAD_HEAD_f == s.fget Reg.EVT_TAIL Reg.EVT_TAIL_TAIL_f
    match s.memWriteN s.ringAt ws with
    | (false, s) => s.recordDrop false
    | (true, s) =>
      let h := s.ringNext
      let s := s.fput Reg.EVT_HEAD Reg.EVT_HEAD_HEAD_f h
      if empty && s.fbit Reg.EVT_CTL Reg.EVT_CTL_NOTIFY_f then
        s.sendTo 0x222 0x18 (s.fget Reg.EVT_DEST Reg.EVT_DEST_DEVICE_f) (s.fget Reg.EVT_DEST Reg.EVT_DEST_UNIT_f) 0 [word h]
      else s
  else s.recordDrop true

/-- Forward a record whose class bit is set in EVT_FWD.CLASSES to the host unit, with ORDER 3 (R545). Log 100 (DEDUCED). -/
def Dev.evtForward (s : Dev) (code : Nat) (ws : List Word) : Dev :=
  if bits (s.fget Reg.EVT_FWD Reg.EVT_FWD_CLASSES_f) (code / 256) (code / 256) == 1 then
    s.sendTo 0x222 0x20 s.devnum (s.fget Reg.EVT_FWD Reg.EVT_FWD_UNIT_f) 3 ws
  else s

/-- Number an event and give its record to the ring and to the host. -/
def Dev.recordOne (s : Dev) (code unit t : Nat) : Dev :=
  let ws := recordWords s.arb.nextSeq code unit t
  let s := s.onArb fun a => { a with nextSeq := (a.nextSeq + 1) % 2 ^ 24 }
  (s.ringWrite ws).evtForward code ws

/-- EVT_LOST, once EN = 1 and the ring has room: its unit field is the number of records dropped (R544). Log 100 (DEDUCED). -/
def Dev.evtLost (s : Dev) : Dev :=
  if s.arb.lost != 0 && s.ringRoom then
    let n := s.arb.lost
    (s.onArb fun a => { a with lost := 0, lostNow := false }).recordOne 0x002 n s.time
  else s

/-- Record an event ahead of which a pending EVT_LOST goes out. Log 100 (DEDUCED). -/
def Dev.record (s : Dev) (code unit t : Nat) : Dev := s.evtLost.recordOne code unit t

/-- Whether the rate limit drops the event now (R542). Log 98 (DEDUCED). -/
def Dev.suppressed (s : Dev) (code unit : Nat) : Bool :=
  rateLimited code &&
    s.evSeen.any fun e => e.1 == code && e.2.1 == unit && decide (s.elapsed < e.2.2 + 10000000 * nsUnit)

/-- Accept one event: drop it under the rate limit, or record it at time `t`. Log 98 (DEDUCED). -/
def Dev.accept (s : Dev) (code unit t : Nat) : Dev :=
  if s.suppressed code unit then s.count Reg.EVT_SUPPR_LO 1
  else
    let s := if rateLimited code then
        { s with evSeen := (s.evSeen.filter fun e => !(e.1 == code && e.2.1 == unit)) ++ [(code, unit, s.elapsed)] }
      else s
    s.record code unit t

/-- The arbiter records the tail's entries in order with their own times and empties the tail (R535, R543). -/
def Dev.tailFlush (s : Dev) : Dev :=
  let es := s.tail
  es.foldl (fun s e => s.accept e.code e.unit e.time) { s with tail := [] }

/-- EVENT_ACCEPT: the arbiter first records the island's tail, then accepts the next event (R535, R539 to R545).
Log 99 (DESIGN CHOICE). -/
def Dev.eventAccept (s : Dev) : Dev :=
  if s.dom 207 == .on then
    let s := s.tailFlush
    match s.evq with
    | [] => s
    | (code, unit) :: t => { s with evq := t }.accept code unit s.time
  else s

/-- A pending EVT_LOST that awaits no further event is written (R544). Log 100 (DEDUCED). -/
def Dev.evtLostNow (s : Dev) : Dev := if s.arb.lostNow then s.evtLost else s

/-- A write of EVT_TAIL. -/
def Dev.evtTailWrite (s : Dev) (w : Word) : Dev :=
  (s.fput Reg.EVT_TAIL Reg.EVT_TAIL_TAIL_f (getF w Reg.EVT_TAIL_TAIL_f)).evtLostNow

/-- A write of EVT_CTL; EN is locked with the structure image (R13). -/
def Dev.evtCtlWrite (s : Dev) (w : Word) (locked : Bool) : Dev :=
  let s := s.fput Reg.EVT_CTL Reg.EVT_CTL_NOTIFY_f (getF w Reg.EVT_CTL_NOTIFY_f)
  if locked then s else (s.fput Reg.EVT_CTL Reg.EVT_CTL_EN_f (getF w Reg.EVT_CTL_EN_f)).evtLostNow

end Sys2Proof.Machine
end

