-- ==== Sys2Proof/Machine/Queue.lean ====
section
/-! DEFINITION. Queues: packing, items, waiting and dropping, key order, notices, duplicated pointers, resets (R324 to
R337). -/

namespace Sys2Proof.Machine

/-- A queue's settings, read from its registers (R339). -/
structure QCfg where
  cls : Nat
  ww : Nat
  imode : Nat
  bofs : Nat
  keymode : Nat
  cap : Nat
  lpos : Nat
  lwm1 : Nat
  ladd : Nat
  ilen : Nat
  deriving DecidableEq, Repr

/-- An empty queue. -/
def qEmpty : Queue :=
  { words := [], units := [], cur := 0, hdr := [], curWords := 0, sink := false, items := [], rel := [], relGran := 0,
    reserved := [], arb := 0, discard := false, lens := [], rdIn := 0, wp := 0, rp := 0, wpGray := 0, rpGray := 0 }

/-- Queue `n`. -/
def Dev.queue (s : Dev) (n : Nat) : Queue := SMap.get s.queues qEmpty n

/-- Store queue `n`. -/
def Dev.setQueue (s : Dev) (n : Nat) (q : Queue) : Dev := { s with queues := SMap.set s.queues qEmpty n q }

/-- The settings of queue `n`. -/
def Dev.qcfg (s : Dev) (n : Nat) : QCfg :=
  let c := s.rget (Reg.QUE_CFG n)
  let i := s.rget (Reg.QUE_ITEM n)
  { cls := getF c Reg.QUE_CFG_CLASS_f, ww := getF c Reg.QUE_CFG_WW_f, imode := getF c Reg.QUE_CFG_IMODE_f
    bofs := getF c Reg.QUE_CFG_BOFS_f, keymode := getF c Reg.QUE_CFG_KEYMODE_f
    cap := s.fget (Reg.QUE_CAP n) Reg.QUE_CAP_CAP_f
    lpos := getF i Reg.QUE_ITEM_LPOS_f, lwm1 := getF i Reg.QUE_ITEM_LWM1_f, ladd := getF i Reg.QUE_ITEM_LADD_f
    ilen := getF i Reg.QUE_ITEM_ILEN_f }

/-- Bits of a write unit. -/
def QCfg.width (c : QCfg) : Nat := match c.ww with | 1 => 12 | 2 => 8 | _ => 24

/-- Write units in a read-word (R326). -/
def QCfg.upw (c : QCfg) : Nat := match c.ww with | 1 => 2 | 2 => 3 | _ => 1

/-- Whether the settings let the queue take words (R329). -/
def QCfg.valid (c : QCfg) : Bool :=
  c.cls != 3 && c.ww != 3 && c.imode != 3 && (c.ww == 0 || c.cls == 0) &&
  (c.imode != 1 || decide (c.lpos + c.lwm1 + 1 ≤ c.width)) && (c.imode != 2 || c.ww == 0)

/-- Whether queue `n` is in service (R329, R331). -/
def Dev.qOn (s : Dev) (n : Nat) : Bool := s.fbit (Reg.QUE_CFG n) Reg.QUE_CFG_EN_f && (s.qcfg n).valid

/-- The length of an item in write units, once its leading units tell it (R329). -/
def QCfg.itemLen (c : QCfg) (hdr : List Word) : Option Nat :=
  match c.imode with
  | 0 => some (Nat.max 1 c.ilen)
  | 1 => hdr.head?.map fun w => Nat.max 1 (bits w.toNat (c.lpos + c.lwm1) c.lpos + c.ladd)
  | _ =>
    match hdr[c.bofs + 2]?, hdr[c.bofs + 3]? with
    | some h2, some h3 => some (c.bofs + 4 + (bits h2.toNat 1 0 * 32 + bits h3.toNat 23 19))
    | _, _ => none

/-- Leading units the queue keeps to know an item's length. -/
def QCfg.hdrLen (c : QCfg) : Nat := match c.imode with | 0 => 0 | 1 => 1 | _ => c.bofs + 4

/-- Granules of 8 words that hold `n` words. -/
def granules (n : Nat) : Nat := (n + 7) / 8

/-- Granules of a class L queue in use or reserved: complete items, the item being read, running jobs. -/
def Queue.usedGran (q : Queue) : Nat :=
  (q.items.filter (·.full)).foldl (fun n i => n + granules i.words.length) (q.reserved.foldl (fun n e => n + e.2) q.relGran)

/-- Words of the item still arriving in a class L queue. -/
def Queue.openItem (q : Queue) : List Word := ((q.items.find? fun i => !i.full).map (·.words)).getD []

/-- A 19-bit Gray code. -/
def gray (b : Nat) : Nat := b ^^^ (b / 2)

/-- The number of a 19-bit Gray code. -/
def ungray (g : Nat) : Nat := (List.range 19).foldl (fun n i => n ^^^ (g / 2 ^ i)) 0

/-- Advance the write pointer, both copies (R334). -/
def Queue.wpInc (q : Queue) : Queue :=
  { q with wp := (q.wp + 1) % 2 ^ 19, wpGray := gray ((ungray q.wpGray + 1) % 2 ^ 19) }

/-- Advance the read pointer, both copies. -/
def Queue.rpInc (q : Queue) : Queue :=
  { q with rp := (q.rp + 1) % 2 ^ 19, rpGray := gray ((ungray q.rpGray + 1) % 2 ^ 19) }

/-- Whether the duplicated pointers disagree or lie too far apart (R334). -/
def Queue.mismatch (q : Queue) (cap : Nat) : Bool :=
  gray q.wp != q.wpGray || gray q.rp != q.rpGray || decide ((q.wp + 2 ^ 19 - q.rp) % 2 ^ 19 > cap)

/-- What a pushed unit does beside being stored: an item ends with a read-word length and the valid units of its last
word, or an item that can never fit begins to be dropped. -/
inductive QEv where
  | none
  | item (len lastv : Nat)
  | oversize
  deriving DecidableEq, Repr

/-- Value of packed units, first unit lowest. -/
def packUnits (width : Nat) (us : List Nat) : Nat := us.foldr (fun u n => u + n * 2 ^ width) 0

/-- The padded word of R327. -/
def padUnits (width : Nat) (us : List Nat) : Nat :=
  if width = 8 then (if us.length = 1 then us.getD 0 0 + 0xA1 * 2 ^ 16 else packUnits 8 us + 0xA2 * 2 ^ 16)
  else us.getD 0 0 + 0xA01 * 2 ^ 12

/-- Store one read-word of the current item. -/
def Queue.store (c : QCfg) (q : Queue) (w : Word) : Queue :=
  let q := { q with curWords := q.curWords + 1 }.wpInc
  if c.cls = 2 then
    if q.items.any fun i => !i.full then
      { q with items := q.items.map fun i => if i.full then i else { i with words := i.words ++ [w] } }
    else { q with items := q.items ++ [{ key := w, seq := q.arb, words := [w], full := false }], arb := q.arb + 1 }
  else { q with words := q.words ++ [w] }

/-- Push one write unit (R326 to R331); none means the producer must wait, or the item does not fit. -/
def Queue.unit (c : QCfg) (q : Queue) (w : Word) : Option (Queue × QEv) :=
  let u := w.toNat % 2 ^ c.width
  let hdr := if q.hdr.length < c.hdrLen then q.hdr ++ [word u] else q.hdr
  let n := q.cur + 1
  let len := c.itemLen hdr
  let ends := match len with | some l => decide (l ≤ n) | none => false
  let reset := { q with cur := 0, hdr := [], curWords := 0, units := [], sink := false, discard := false }
  if q.discard || q.sink then
    some (if ends then reset else { q with cur := n, hdr := hdr }, .none)
  else
    let needNew := q.units.length = 0
    let lenNew := c.itemLen q.hdr == none || q.cur = 0
    let tooLong := c.cls = 2 && (match len with | some l => decide (l > c.cap) | none => decide (n > c.cap))
    if tooLong then
      -- the item can never fit: what is stored of it is freed, the rest is dropped
      let k := q.openItem.length
      let q1 := { q with items := q.items.filter (·.full), wp := (q.wp + 2 ^ 19 - k) % 2 ^ 19
                         wpGray := gray ((q.wp + 2 ^ 19 - k) % 2 ^ 19), units := [], curWords := 0, sink := true }
      some (if ends then { q1 with cur := 0, hdr := [], sink := false } else { q1 with cur := n, hdr := hdr }, .oversize)
    else
      let room :=
        if c.cls = 2 then
          match len with
          | some l => !lenNew || decide (q.usedGran + granules l ≤ c.cap / 8)
          | none => decide (q.usedGran + granules n ≤ c.cap / 8)
        else !needNew || decide (q.words.length < c.cap)
      if room then
        let us := q.units ++ [u]
        let lastv := if us.length = c.upw then 0 else us.length
        let q1 := { q with cur := n, hdr := hdr, units := us }
        let q2 :=
          if us.length = c.upw then ({ q1 with units := [] }).store c (word (packUnits c.width us))
          else if ends then ({ q1 with units := [] }).store c (word (padUnits c.width us))
          else q1
        if ends then
          let l := q2.curWords
          some ({ q2 with cur := 0, hdr := [], curWords := 0
                          items := q2.items.map fun i => { i with full := true }
                          lens := if c.cls = 2 then q2.lens else q2.lens ++ [l] }, .item l lastv)
        else some (q2, .none)
      else none

/-- Order of two class L items: by key, then by the arbiter's order (R332). -/
def itemBefore (c : QCfg) (us : Nat) (a b : LItem) : Bool :=
  let ka : Int := if c.keymode = 1 then sdiff 24 a.key.toNat us else a.key.toNat
  let kb : Int := if c.keymode = 1 then sdiff 24 b.key.toNat us else b.key.toNat
  decide (ka < kb) || (ka == kb && decide (a.seq < b.seq))

/-- The complete item that a class L queue releases next. -/
def Queue.nextItem (c : QCfg) (us : Nat) (q : Queue) : Option LItem :=
  (q.items.filter (·.full)).foldl (fun o i => match o with
    | none => some i
    | some j => if itemBefore c us i j then some i else some j) none

/-- The word a consumer reads next, and the queue without it. -/
def Queue.popWord (c : QCfg) (us : Nat) (q : Queue) : Option (Word × Queue) :=
  if c.cls = 2 then
    match q.rel with
    | w :: t => some (w, { q with rel := t, relGran := if t = [] then 0 else q.relGran }.rpInc)
    | [] =>
      match q.nextItem c us with
      | none => none
      | some i =>
        match i.words with
        | [] => none
        | w :: t =>
          some (w, { q with items := q.items.erase i, rel := t
                            relGran := if t = [] then 0 else granules i.words.length }.rpInc)
  else
    match q.words with
    | [] => none
    | w :: t =>
      let q1 := { q with words := t, rdIn := q.rdIn + 1 }.rpInc
      some (w, match q1.lens with
        | l :: ls => if q1.rdIn ≥ l then { q1 with lens := ls, rdIn := 0 } else q1
        | [] => q1)

/-- Readable read-words: QUE_STAT.DEPTH (R328, R339). -/
def Queue.depth (q : Queue) : Nat :=
  q.words.length + q.rel.length + (q.items.filter (·.full)).foldl (fun n i => n + i.words.length) 0

/-- The producer is part-way through an item. -/
def Queue.partway (q : Queue) : Bool := q.cur != 0

/-- Whether the consumer has read part of an item. -/
def Queue.midRead (q : Queue) : Bool := q.rdIn != 0 || q.rel != []

/-- Reset a queue (R336, R337); RDCUT takes its reset value, and is set when the consumer has read part of an item.
Log 102 (DEDUCED). -/
def Dev.qReset (s : Dev) (n : Nat) : Dev :=
  let q := s.queue n
  let s := s.fset (Reg.QUE_STAT n) Reg.QUE_STAT_RDCUT_f q.midRead
  let part := q.partway && !q.discard
  let s := s.setQueue n { qEmpty with arb := q.arb, discard := q.discard || q.partway, cur := q.cur, hdr := q.hdr }
  if part then (s.count (Reg.QUE_CUT_LO n) 1).raise 0x411 n else s

/-- Reset on a pointer mismatch (R334). -/
def Dev.qCheck (s : Dev) (n : Nat) : Dev :=
  if (s.queue n).mismatch (s.qcfg n).cap then ((s.count (Reg.QUE_MISM_LO n) 1).raise 0x410 n).qReset n else s

/-- A drop is counted and raises QUE_DROP (R331, R338). -/
def Dev.qDrop (s : Dev) (n : Nat) : Dev := (s.count (Reg.QUE_DROP_LO n) 1).raise 0x412 n

/-- Whether queue `n` is the inbox of a bound core (R234). -/
def Dev.isInbox (s : Dev) (n : Nat) : Bool := s.cores.any fun e => e.2.bound && e.2.inbox == n

/-- Whether queue `n` holds a deadline queue's items (R84). -/
def Dev.isDlq (s : Dev) (n : Nat) : Bool :=
  (List.range 64).any fun k =>
    s.fbit (Reg.DLQ_CFG k) Reg.DLQ_CFG_EN_f && s.fget (Reg.DLQ_CFG k) Reg.DLQ_CFG_QUEUE_f == n

/-- An item is complete: ITEMS counts it, and a notice goes out when NOTIFY asks for one (R333). -/
def Dev.qItemDone (s : Dev) (n len lastv : Nat) : Dev :=
  let items := (s.rget (Reg.QUE_ITEMS n)).toNat + 1
  let s := s.rset (Reg.QUE_ITEMS n) (word items)
  if s.fbit (Reg.QUE_CFG n) Reg.QUE_CFG_NOTIFY_f && !(s.isInbox n) && !(s.isDlq n) then
    let d := s.rget (Reg.QUE_NOTIFY n)
    s.sendTo (0x400 + n) 0x18 (getF d Reg.QUE_NOTIFY_DEVICE_f) (getF d Reg.QUE_NOTIFY_UNIT_f) 0
      [word n, word items, word (lastv * 2 ^ 18 + len), word s.us]
  else s

/-- Push one unit that has room. The answer is false when the producer must wait. -/
def Dev.qPush (s : Dev) (n : Nat) (w : Word) : Bool × Dev :=
  if s.qOn n then
    match (s.queue n).unit (s.qcfg n) w with
    | none => (false, s)
    | some (q, e) =>
      let s := s.setQueue n q
      let s := match e with
        | .none => s
        | .item l v => s.qItemDone n l v
        | .oversize => s.qDrop n
      (true, s.qCheck n)
  else (true, s.qDrop n)

/-- Push units in order; the answer is false when one of them found no room. -/
def Dev.qPushAll (s : Dev) (n : Nat) (ws : List Word) : Bool × Dev :=
  match ws with
  | [] => (true, s)
  | w :: t =>
    match s.qPush n w with
    | (false, s) => (false, s)
    | (true, s) => s.qPushAll n t

/-- Push an item or a bead's payload whole or not at all; the answer says whether it was taken (R330, R331). -/
def Dev.qPushWhole (s : Dev) (n : Nat) (ws : List Word) : Bool × Dev :=
  match s.qPushAll n ws with
  | (true, s1) => (true, s1)
  | (false, _) => (false, s)

/-- Take the next readable word of a queue. A queue with EN = 0 shows none (R331). -/
def Dev.qPop (s : Dev) (n : Nat) : Option (Word × Dev) :=
  if s.qOn n then
    match (s.queue n).popWord (s.qcfg n) s.us with
    | none => none
    | some (w, q) => some (w, (s.setQueue n q).qCheck n)
  else none

end Sys2Proof.Machine
end

