-- ==== Sys2Proof/Machine/Launch.lean ====
section
/-! DEFINITION. Launch lists: entries, deadlines, holds, injection (R69 to R80). -/

namespace Sys2Proof.Machine

/-! ### Deadline tags (R82, R83, R447) -/

/-- The shift of a tag's scale. -/
def tagShift (e : Nat) : Nat := e * 3

/-- The key K of a bead's deadline tag at microsecond count `us` (R83, R447). -/
def tagKey (ver tag us : Nat) : Nat :=
  let sh := if ver = 1 then 0 else tagShift (tag / 2 ^ 13)
  let n := if ver = 1 then 15 else 13
  let q := us / 2 ^ sh
  let d := sdiff n (tag % 2 ^ n) (q % 2 ^ n)
  (((q : Int) + d) * 2 ^ sh % 2 ^ 24).toNat

/-- Whether a deadline lies in the window of scale `e` around `us`; both are microsecond counts. -/
def scaleHolds (e dl us : Nat) : Bool :=
  let u : Int := us + 2 ^ 24
  let d := (u + sdiff 24 dl us) / 2 ^ tagShift e - u / 2 ^ tagShift e
  decide (-4096 ≤ d) && decide (d ≤ 4095)

/-- The version 2 tag of a deadline with the smallest scale that holds it (R75); scale 3 where none does (R82). -/
def tagOf (dl us : Nat) : Nat :=
  let e := if scaleHolds 0 dl us then 0 else if scaleHolds 1 dl us then 1 else if scaleHolds 2 dl us then 2 else 3
  e * 2 ^ 13 + dl / 2 ^ tagShift e % 2 ^ 13

/-- The microsecond count of a time of seconds and nanoseconds (R71). -/
def usOfPair (t : Nat × Nat) : Nat := (t.1 * 1000000 + t.2 / 1000) % 2 ^ 24

/-! ### Lists -/

/-- A list no image has placed. -/
def listEmpty : LaunchList :=
  { placed := none, base := (0, 0), period := (0, 0), count := 0, idx := 0, pos := 8, cur := none, skips := [] }

/-- Launch list `n`. -/
def Dev.list (s : Dev) (n : Nat) : LaunchList := SMap.get s.lnc.lists listEmpty n

/-- Update the launcher. -/
def Dev.onLnc (s : Dev) (f : Launcher → Launcher) : Dev := { s with lnc := f s.lnc }

/-- Store launch list `n`. -/
def Dev.setList (s : Dev) (n : Nat) (l : LaunchList) : Dev :=
  s.onLnc fun c => { c with lists := SMap.set c.lists listEmpty n l }

/-- Whether list `n` runs. -/
def Dev.listOn (s : Dev) (n : Nat) : Bool := s.fbit (Reg.LNC_CTL n) Reg.LNC_CTL_EN_f

/-- Whether list `n` is FED. -/
def Dev.listFed (s : Dev) (n : Nat) : Bool := s.fbit (Reg.LNC_CTL n) Reg.LNC_CTL_MODE_f

/-- Stop list `n` and clear its EN. -/
def Dev.listStop (s : Dev) (n : Nat) : Dev :=
  (s.setList n { s.list n with cur := none }).fset (Reg.LNC_CTL n) Reg.LNC_CTL_EN_f false

/-- Count a bad entry and raise LNC_BADENTRY (R77). -/
def Dev.listBad (s : Dev) (n : Nat) : Dev := (s.count (Reg.LNC_BAD_LO n) 1).raise 0x10A n

/-- What a check of an entry's words finds: its own four words and its bead. -/
def entryBad (fed : Bool) (w0 : Word) (bead : List Word) (itemLen : Option Nat) : Bool :=
  let blen := bits w0.toNat 21 15
  let h0 := (bead.getD 0 0).toNat
  let len := bits (bead.getD 2 0).toNat 1 0 * 32 + bits (bead.getD 3 0).toNat 23 19
  bits w0.toNat 23 22 != bit fed || decide (blen < 4) || decide (blen > 68) || len != blen - 4 ||
    (bits h0 23 20 != 1 && bits h0 23 20 != 2) ||
    (match itemLen with | some l => l != 4 + blen | none => false)

/-- A reached entry whose launch time is `t`; it is late when that time lies strictly before now (R76). -/
def Dev.entryAt (s : Dev) (t : Nat × Nat) (w0 : Word) (bead : List Word) (inject : Bool) : LaunchEntry :=
  { at_ := t, bead := bead, dlrel := bits w0.toNat 13 0, late := inject && decide (diff69 t.1 t.2 s.time < 0),
    inject := inject }

/-- Record the entry a list has reached; a late one is counted and reported (R76). -/
def Dev.listReached (s : Dev) (n : Nat) (e : LaunchEntry) : Dev :=
  let s := s.setList n { s.list n with cur := some e }
  if e.late then (s.count (Reg.LNC_LATE_LO n) 1).raise 0x101 n else s

/-- A CYCLIC list reaches the entry at its position: it is read and checked (R76, R77). -/
def Dev.reachCyclic (s : Dev) (n : Nat) : Dev :=
  let l := s.list n
  match l.placed with
  | none => s
  | some a =>
    match s.memReadN (a + l.pos) 4 with
    | (h, true, s) =>
      let w0 := h.getD 0 0
      let blen := bits w0.toNat 21 15
      if blen < 4 ∨ blen > 68 then (s.listBad n).listStop n
      else
        match s.memReadN (a + l.pos + 4) blen with
        | (bead, true, s) =>
          let t := addTime l.base (time3 (h.getD 1 0) (h.getD 2 0) (h.getD 3 0))
          if l.skips.contains l.idx then s.listReached n (s.entryAt t w0 bead false)
          else if entryBad false w0 bead none then
            let s := s.listBad n
            (s.setList n { l with skips := l.skips ++ [l.idx] }).listReached n (s.entryAt t w0 bead false)
          else s.listReached n (s.entryAt t w0 bead true)
        | (_, _, s) => (s.listBad n).listStop n
    | (_, _, s) => (s.listBad n).listStop n

/-- The feed queue of list `n`. -/
def Dev.feedQ (s : Dev) (n : Nat) : Nat := s.fget (Reg.LNC_CTL n) Reg.LNC_CTL_FEEDQ_f

/-- Take the whole head item, of `k` words, from a queue. -/
def Dev.feedTake (s : Dev) (q k : Nat) : Dev :=
  match k with
  | 0 => s
  | k + 1 =>
    match s.qPop q with
    | some (_, s) => s.feedTake q k
    | none => s

/-- A FED list reaches the complete item at the head of its feed queue; malformed items are taken and the list goes on
(R76, R77). -/
def Dev.reachFed (s : Dev) (n fuel : Nat) : Dev :=
  match fuel with
  | 0 => s
  | fuel + 1 =>
    let q := s.feedQ n
    if s.qOn q then
      match (s.queue q).lens with
      | [] => s
      | len :: _ =>
        let ws := (s.queue q).words.take len
        let w0 := ws.getD 0 0
        if entryBad true w0 (ws.drop 4) (some len) then ((s.listBad n).feedTake q len).reachFed n fuel
        else s.listReached n (s.entryAt (time3 (ws.getD 1 0) (ws.getD 2 0) (ws.getD 3 0)) w0 (ws.drop 4) true)
    else s

/-- List `n` reaches its next entry. -/
def Dev.reach (s : Dev) (n : Nat) : Dev :=
  if s.listFed n then s.reachFed n ((s.queue (s.feedQ n)).lens.length + 1) else s.reachCyclic n

/-- FED_ENTRY_ARRIVAL: an entry arrives at the head of an empty feed queue (R76). -/
def Dev.fedArrival (s : Dev) (n : Nat) : Dev :=
  if s.listOn n && s.listFed n && !s.lnc.held && (s.list n).cur == none then s.reach n else s

/-- Advance the base by the smallest whole number of periods that makes it not earlier than now; the answer is that number
(R80). Log 57 (DEDUCED). -/
def Dev.baseAdvance (s : Dev) (l : LaunchList) : Nat × LaunchList :=
  let d := diff69 l.base.1 l.base.2 s.time
  let p := nsOfPair l.period
  let k := if d ≥ 0 then 0 else ((-d).toNat + p - 1) / p
  (k, { l with base := addTime l.base (pairOfNs (k * p)) })

/-- A CYCLIC list begins a cycle at entry 0 after its base has advanced. Log 57 (DEDUCED). -/
def Dev.listBegin (s : Dev) (n : Nat) (always : Bool) : Dev :=
  let (k, l) := s.baseAdvance (s.list n)
  let s := s.setList n { l with idx := 0, pos := 8, cur := none }
  (if always || decide (k > 0) then s.raise 0x105 n else s).reach n

/-! ### Holds (R80) -/

/-- Whether a condition that holds every list is present: TIME_VALID clear, LNC_GCTL.EN = 0, or the launcher's domain not
ON. Log 56 (DEDUCED). -/
def Dev.lncCond (s : Dev) : Bool :=
  !s.timeValid || !(s.fbit Reg.LNC_GCTL Reg.LNC_GCTL_EN_f) || s.dom 207 != .on

/-- A hold begins. Log 58 (DEDUCED). -/
def Dev.lncHold (s : Dev) : Dev := s.onLnc fun c => { c with held := true }

/-- The hold ends when no condition remains: CYCLIC lists resume at entry 0 with LNC_RESYNC, FED lists at their head entry.
Log 58 (DEDUCED). -/
def Dev.lncResume (s : Dev) : Dev :=
  if s.lnc.held && !s.lncCond then
    let s := s.onLnc fun c => { c with held := false }
    (List.range 64).foldl (fun s n =>
      if s.listOn n then
        if s.listFed n then (s.setList n { s.list n with cur := none }).reach n
        else s.listBegin n true
      else s) s
  else s

/-- LNC_GCTL_EN_WRITE. Log 58 (DEDUCED). -/
def Dev.lncGctlWrite (s : Dev) (w : Word) : Dev :=
  let en := getF w Reg.LNC_GCTL_EN_f == 1
  let s := s.fset Reg.LNC_GCTL Reg.LNC_GCTL_EN_f en
  if en then s.lncResume else s.lncHold

/-! ### Starting and stopping a list (R73) -/

/-- The period of a list header: seconds, nanoseconds. -/
def headerPeriod (h : List Word) : Nat × Nat := (bits (h.getD 4 0).toNat 23 0, (time3 0 (h.getD 5 0) (h.getD 6 0)).2)

/-- LIST_ENABLE: the header is checked, skips are forgotten, the list starts (R73, R80). A list whose EN is already 1 goes on unchanged.
Log 57 (DEDUCED), 200 (DESIGN CHOICE). -/
def Dev.listEnable (s : Dev) (n : Nat) : Dev :=
  let l := s.list n
  match l.placed with
  | none => s
  | some a =>
    if s.listOn n then s
    else if s.listFed n then
      let s := (s.setList n { l with cur := none, skips := [] }).fset (Reg.LNC_CTL n) Reg.LNC_CTL_EN_f true
      if s.lnc.held then s else s.reach n
    else
      match s.memReadN a 8 with
      | (h, true, s) =>
        let count := bits (h.getD 0 0).toNat 11 0
        let per := headerPeriod h
        if count = 0 ∨ nsOfPair per < 10000 then s.listBad n
        else
          let l := { l with base := time3 (h.getD 1 0) (h.getD 2 0) (h.getD 3 0), period := per, count := count, idx := 0,
                            pos := 8, cur := none, skips := [] }
          let s := (s.setList n l).fset (Reg.LNC_CTL n) Reg.LNC_CTL_EN_f true
          if s.lnc.held then s else s.listBegin n false
      | (_, _, s) => s.listBad n

/-- A write of LNC_CTL_n.EN. -/
def Dev.listEnWrite (s : Dev) (n : Nat) (en : Bool) : Dev :=
  if en then s.listEnable n else s.listStop n

/-! ### Injection (R75, R78, R79) -/

/-- The bead of an entry with its deadline and check word. -/
def Dev.entryBead (s : Dev) (e : LaunchEntry) : Bead :=
  let h0 := e.bead.getD 0 0
  let h3 := e.bead.getD 3 0
  let ver := bits h0.toNat 23 20
  let dl := (usOfPair e.at_ + e.dlrel) % 2 ^ 24
  let tag := if ver = 1 then dl % 2 ^ 15 else tagOf dl s.us
  Bead.seal {
    h0 := if e.dlrel = 0 then h0 else word (putBits h0.toNat 11 11 1)
    h1 := e.bead.getD 1 0
    h2 := e.bead.getD 2 0
    h3 := if e.dlrel = 0 then h3 else word (putBits h3.toNat 14 0 tag)
    payload := e.bead.drop 4
    crc := 0 }

/-- The list whose reached entry is due first: by launch time, then by list number (R78). -/
def Dev.dueList (s : Dev) : Option Nat :=
  ((List.range 64).foldl (fun (o : Option (Int × Nat)) n =>
    match (s.list n).cur with
    | some e =>
      let d := diff69 e.at_.1 e.at_.2 s.time
      if s.listOn n && decide (d ≤ 0) then
        match o with
        | some (d', _) => if d < d' then some (d, n) else o
        | none => some (d, n)
      else o
    | none => o) none).map (·.2)

/-- The list goes on to its next entry after one was launched or passed. Log 57 (DEDUCED). -/
def Dev.listNext (s : Dev) (n : Nat) (e : LaunchEntry) : Dev :=
  let l := s.list n
  let cyc := s.rget (Reg.LNC_CYCLE n)
  if s.listFed n then
    ((s.setList n { l with cur := none }).rset (Reg.LNC_CYCLE n) (cyc + 1)).feedTake (s.feedQ n) (4 + e.bead.length) |>.reach n
  else if l.idx + 1 ≥ l.count then
    let l := { l with idx := 0, pos := 8, base := addTime l.base l.period, cur := none }
    ((s.setList n l).rset (Reg.LNC_CYCLE n) (cyc + 1)).reach n
  else (s.setList n { l with idx := l.idx + 1, pos := l.pos + 4 + e.bead.length, cur := none }).reach n

/-- LAUNCH_INJECT: the entry that is due first is launched, or passed when it is skipped. At most 16 injections begin within
1 µs: a further one waits until 1 µs has passed since the earliest of them (R79). Log 56 (DEDUCED). -/
def Dev.launchInject (s : Dev) : Dev :=
  if s.lnc.held || s.lncCond then s
  else match s.dueList with
    | none => s
    | some n =>
      match (s.list n).cur with
      | none => s
      | some e =>
        if e.inject then
          let recent := s.lnc.begun.filter fun b => decide (s.elapsed < b + 1000 * nsUnit)
          let s := if recent.length ≥ 16 then s.pass (recent.headD 0 + 1000 * nsUnit) else s
          let slip := !e.late && decide (diff69 e.at_.1 e.at_.2 s.time < -40)
          let s := if slip then s.count Reg.LNC_SLIP_LO 1 else s
          let s := s.onLnc fun c => { c with begun := (c.begun ++ [s.elapsed]).drop (c.begun.length - 15) }
          (s.send (s.entryBead e)).listNext n e
        else s.listNext n e

/-- A reset of queue `q` takes the waiting entry of every FED list that it feeds (R76). -/
def Dev.feedReset (s : Dev) (q : Nat) : Dev :=
  (List.range 64).foldl (fun s n =>
    if s.listOn n && s.listFed n && s.feedQ n == q then s.setList n { s.list n with cur := none } else s) s

/-- LNC_STAT_n.STATE. -/
def Dev.listState (s : Dev) (n : Nat) : Nat :=
  if !(s.listOn n) then 0
  else if s.lnc.held || s.lncCond then 2
  else if s.listFed n && (s.list n).cur == none then 3
  else 1

end Sys2Proof.Machine
end

