-- ==== Sys2Proof/Machine/Otp.lean ====
section
/-! DEFINITION. What OTP rows say: lifecycle, policy, the order of boot candidates and the one in use (R501 to R503, R511). -/

namespace Sys2Proof.Machine

/-- Whether a row has been written. -/
def Dev.otpWritten (s : Dev) (r : Nat) : Bool := (SMap.get s.sec.otp none r).isSome

/-- Whether a row reads uncorrectable. -/
def Dev.otpBad (s : Dev) (r : Nat) : Bool := s.sec.bad.contains r

/-- A marker row: 0 unwritten, 1 written, 2 a value it cannot hold. A row that reads uncorrectable counts as written. -/
def Dev.markerRow (s : Dev) (r : Nat) : Nat :=
  if s.otpBad r then 1
  else if !(s.otpWritten r) || s.otpRow r == 0 then 0
  else if s.otpRow r == 0x5AC300 + r then 1 else 2

/-- The number of leading marker rows. -/
def Dev.lcCount (s : Dev) : Nat := (((List.range 4).takeWhile fun r => s.markerRow r == 1)).length

/-- SEC_STAT.LCERR. Log 172 (DEDUCED). -/
def Dev.lcErr (s : Dev) : Bool :=
  (List.range 4).any (fun r => s.markerRow r == 2) ||
    (List.range 4).any fun r => decide (s.lcCount ≤ r) && s.markerRow r == 1

/-- The lifecycle state the device acts in: 0 MANUFACTURE to 4 SCRAPPED. Log 172 (DEDUCED). -/
def Dev.lc (s : Dev) : Nat := if s.lcErr then 4 else s.lcCount

/-- The written policy rows and their values. A row that reads uncorrectable counts as unwritten. -/
def Dev.policyRows (s : Dev) : List (Nat × Nat) :=
  ((List.range 29).filter fun i => s.otpWritten (483 + i) && !s.otpBad (483 + i)).map fun i => (483 + i, s.otpRow (483 + i))

/-- A policy field, with its unwritten value `d`. Log 163 (DESIGN CHOICE). -/
def Dev.policy (s : Dev) (f d : Nat) : Nat :=
  match s.policyRows with
  | [] => d
  | rows => (Config.policy f rows).getD d

/-- The boot candidates in order: 0 flash A, 1 flash B, 2 host, 3 peer (R502, R511). -/
def Dev.bootOrder (s : Dev) : List Nat :=
  let own := s.policy 0 (4 * 256 + 0xE4)
  let pinned := s.policy 1 0 != 0
  if !pinned && s.sec.bootsel == 0 then [0, 1]
  else if !pinned && s.sec.bootsel == 1 then [2]
  else if !pinned && s.sec.bootsel == 2 then [3]
  else (List.range (Nat.min 4 (Nat.max 1 (own / 256)))).map fun i => own / 4 ^ i % 4

/-- The boot candidate in use, until a structure image has been measured: before the self-test the start candidate, then the one
tried, then the one whose firmware runs; none in SCRAPPED and after a failed self-test (R511; R530 step 4). Log 174 (DEDUCED). -/
def Dev.bootUse (s : Dev) : Option Nat :=
  if s.lc == 4 || s.sec.img.isSome then none
  else match s.sec.stage with
    | 0 => s.bootOrder[s.fget Reg.SEC_BOOTREC Reg.SEC_BOOTREC_START_f % s.bootOrder.length]?
    | 1 => if s.sec.atEnd then none else s.bootOrder[s.sec.idx]?
    | 2 => some s.sec.cand
    | 3 => some s.sec.cand
    | _ => none

/-- Whether HOSTBOOT or PEERQ names a quad for the boot candidate in use (R502, R530 step 4). Log 174 (DEDUCED). -/
def Dev.bootQuad (s : Dev) (q : Nat) : Bool :=
  match s.bootUse with
  | some 2 => s.policy 8 0 % 16 == q
  | some 3 => (s.policy 7 0).testBit q
  | _ => false

end Sys2Proof.Machine
end

