-- ==== Sys2Proof/Machine/Flags.lean ====
section
/-! DEFINITION. Exact arithmetic narrowed at the end: rounding, saturation and the counts and flags computed from
results (R211, R212, R215). -/

namespace Sys2Proof.Machine

/-- rnd(x, s): x / 2^s rounded by mode RND (R211): 0 nearest, ties away from zero; 1 nearest, ties to even; 2 toward
minus infinity; 3 toward zero. -/
def rnd (mode : Nat) (x : Int) (s : Nat) : Int :=
  if s = 0 then x
  else
    let p : Int := 2 ^ s
    let fl := x.fdiv p
    let r := x - fl * p
    match mode with
    | 0 => if x ≥ 0 then (x + p / 2).fdiv p else -((-x + p / 2).fdiv p)
    | 1 => if 2 * r < p then fl else if 2 * r > p then fl + 1 else if fl % 2 = 0 then fl else fl + 1
    | 2 => fl
    | _ => x.tdiv p

/-- Clamp to [lo, hi]. -/
def clampI (lo hi x : Int) : Int := if x < lo then lo else if x > hi then hi else x

/-- The value and whether clamping changed it. -/
def satI (lo hi x : Int) : Int × Bool := (clampI lo hi x, clampI lo hi x != x)

/-- Clamp to a signed width. -/
def satW (w : Nat) (x : Int) : Int × Bool := satI (-(2 ^ (w - 1))) (2 ^ (w - 1) - 1) x

/-- Shift by a signed amount: rnd for a positive one, exact left shift for a negative one. -/
def rndS (mode : Nat) (x : Int) (s : Int) : Int :=
  if s ≥ 0 then rnd mode x s.toNat else x * 2 ^ (-s).toNat

/-- The headroom of one component of width `w`: leading bits equal to the sign bit, minus 1 (R215). -/
def headroom (w : Nat) (x : Int) : Nat :=
  let u := if x < 0 then (-x - 1).toNat else x.toNat
  w - 1 - (if u = 0 then 0 else Nat.log2 u + 1)

/-- Leading zeros of a 24-bit word, 0 to 24. -/
def clz24 (w : Word) : Nat := if w.toNat = 0 then 24 else 23 - Nat.log2 w.toNat

end Sys2Proof.Machine
end

