-- ==== Sys2Proof/Machine/CmxMath.lean ====
section
/-! DEFINITION. The exact results of Cholesky, triangular solve, inverse and QR over complex rationals, the condition number, and
the components that R255 allows within 4 units of an exact result (R255, R256). Matrices are lists of rows. -/

namespace Sys2Proof.Machine

/-- A complex rational. -/
abbrev CRat := Rat × Rat

/-- Sum, difference, product, conjugate, square of the magnitude, quotient by a rational and by a complex number. -/
def cqAdd (a b : CRat) : CRat := (a.1 + b.1, a.2 + b.2)
def cqSub (a b : CRat) : CRat := (a.1 - b.1, a.2 - b.2)
def cqMul (a b : CRat) : CRat := (a.1 * b.1 - a.2 * b.2, a.1 * b.2 + a.2 * b.1)
def cqConj (a : CRat) : CRat := (a.1, -a.2)
def cqMag (a : CRat) : Rat := a.1 * a.1 + a.2 * a.2
def cqOver (a : CRat) (d : Rat) : CRat := (a.1 / d, a.2 / d)
def cqDiv (a b : CRat) : CRat := cqOver (cqMul a (cqConj b)) (cqMag b)

/-- Two to a signed power. -/
def pow2 (k : Int) : Rat := if k ≥ 0 then 2 ^ k.toNat else 1 / 2 ^ (-k).toNat

/-- The matrix of R rows and C columns with given integer elements. -/
def cqMat (R C : Nat) (f : Nat → Nat → Int × Int) : List (List CRat) :=
  (List.range R).map fun r => (List.range C).map fun c => (((f r c).1 : Rat), ((f r c).2 : Rat))

/-- Element (r, c). -/
def cqAt (m : List (List CRat)) (r c : Nat) : CRat := (m.getD r []).getD c (0, 0)

/-- The inner product aᴴ b of two columns. -/
def cqDot (a b : List CRat) : CRat := (a.zip b).foldl (fun t (x, y) => cqAdd t (cqMul (cqConj x) y)) (0, 0)

/-- The columns of a matrix of C columns. -/
def cqCols (C : Nat) (m : List (List CRat)) : List (List CRat) := (List.range C).map fun c => m.map fun row => row.getD c (0, 0)

/-- Columns of the factor L·D·Lᴴ of a Hermitian matrix: each pivot d and the column of the remaining matrix below it, itself
included; it ends before the first pivot that `good` refuses. -/
def ldl (good : Rat → Bool) : Nat → List (List CRat) → List (Rat × List CRat)
  | 0, _ => []
  | n + 1, m =>
    let col := m.map fun row => row.getD 0 (0, 0)
    let d := (col.getD 0 (0, 0)).1
    if good d then
      let next := (m.tail.zip col.tail).map fun (row, a) =>
        (row.tail.zip col.tail).map fun (x, b) => cqSub x (cqOver (cqMul a (cqConj b)) d)
      (d, col) :: ldl good n next
    else []

/-- Whether a Hermitian matrix of order n is positive definite. -/
def posDef (n : Nat) (m : List (List CRat)) : Bool := (ldl (fun d => decide (0 < d)) n m).length == n

/-- a·I + b·M for a matrix of order n. -/
def cqShift (n : Nat) (a b : Rat) (m : List (List CRat)) : List (List CRat) :=
  (List.range n).map fun r => (List.range n).map fun c =>
    cqAdd (if r = c then (a, 0) else (0, 0)) (b * (cqAt m r c).1, b * (cqAt m r c).2)

/-- Bisection: the least of lo + 1 to hi at which a monotone test holds, with hi - lo at most 2^fuel. -/
def leastHit (test : Nat → Bool) : Nat → Nat → Nat → Nat
  | 0, _, hi => hi
  | fuel + 1, lo, hi =>
    let mid := (lo + hi) / 2
    if hi ≤ lo + 1 then hi else if test mid then leastHit test fuel lo mid else leastHit test fuel mid hi

/-- Whether the 2-norm condition number of a matrix of C columns is below 2^12: a t above the square of its largest singular
value, found to 2^-23 of the trace of AᴴA, is below 2^24 times the square of its least. Log 41 (DEDUCED). -/
def wellCond (C : Nat) (a : List (List CRat)) : Bool :=
  let cols := cqCols C a
  let m := cols.map fun x => cols.map fun y => cqDot x y
  let tr := (List.range C).foldl (fun t i => t + (cqAt m i i).1) (0 : Rat)
  let t (k : Nat) : Rat := 2 * tr * k / 2 ^ 24
  let k := leastHit (fun k => posDef C (cqShift C (t k) (-1) m)) 24 0 (2 ^ 24)
  decide (0 < tr) && posDef C (cqShift C (-(t k)) (2 ^ 24) m)

/-- An exact result component: a times the square root of k. -/
structure Root where
  a : Rat
  k : Rat

/-- The greatest integer at most, and the least at least, an exact component. -/
def rootFloor (x : Root) : Int :=
  let q := x.a * x.a * x.k
  let f : Nat := Nat.sqrt q.floor.toNat
  let c : Int := if ((f * f : Nat) : Rat) = q then f else (f : Int) + 1
  if x.a < 0 then -c else f
def rootCeil (x : Root) : Int := -(rootFloor ⟨-x.a, x.k⟩)

/-- A component within 4 units of the exact one, chosen by the free value `fv`; `low` bounds a diagonal at 0. Log 41 (DEDUCED). -/
def nearRoot (x : Root) (nonneg : Bool) (fv : Nat) : Int :=
  let lo := rootCeil x - 4
  let lo := if nonneg && decide (lo < 0) then 0 else lo
  let hi := rootFloor x + 4
  lo + fv % (hi - lo + 1).toNat

/-- A component of an ill-conditioned input: free, in a range that holds what saturates. Log 41 (DEDUCED). -/
def wideFree (nonneg : Bool) (fv : Nat) : Int := if nonneg then ((fv % 2 ^ 25 : Nat) : Int) else (BitVec.ofNat 26 fv).toInt

/-- The solved rows of T·X = B in solving order, up to the first zero diagonal element: index and row (R255, R256). -/
def solveRows (t b : List (List CRat)) : List Nat → List (Nat × List CRat) → List (Nat × List CRat)
  | [], done => done
  | i :: rest, done =>
    let p := cqAt t i i
    if cqMag p < 1 then done
    else
      let row := done.foldl (fun row (j, x) => (row.zip x).map fun (u, v) => cqSub u (cqMul (cqAt t i j) v)) (b.getD i [])
      solveRows t b rest (done ++ [(i, row.map fun u => cqDiv u p)])

/-- Gauss–Jordan elimination of the rows [A | B] with partial pivoting on the largest |x|², ties to the lower row (R255): the
rows after step k of n, and the index of the first failing pivot. -/
def gaussJordan (n : Nat) : Nat → List (List CRat) → List (List CRat) × Option Nat
  | 0, m => (m, none)
  | f + 1, m =>
    let k := n - (f + 1)
    let best := (List.range n).foldl (fun b r => if k < r ∧ cqMag (cqAt m b k) < cqMag (cqAt m r k) then r else b) k
    let p := cqAt m best k
    if cqMag p < 1 then (m, some k)
    else
      let top := (m.getD best []).map fun x => cqDiv x p
      let m := (m.set best (m.getD k [])).set k top
      let m := m.zipIdx.map fun (row, r) =>
        if r = k then row else (row.zip top).map fun (x, y) => cqSub x (cqMul (row.getD k (0, 0)) y)
      gaussJordan n f m

/-- The orthogonal columns of Gram–Schmidt, not normalised. -/
def gramSchmidt (cols : List (List CRat)) : List (List CRat) :=
  cols.foldl (fun us a =>
    us ++ [us.foldl (fun v u => (v.zip u).map fun (x, y) => cqSub x (cqMul (cqOver (cqDot u a) (cqDot u u).1) y)) a]) []

end Sys2Proof.Machine
end

