-- ==== Sys2Proof/Machine/Cmx.lean ====
section
/-! DEFINITION. The rod matrix coprocessor: shapes, acceptance, arithmetic, commit, squash, lock, state image (R250 to
R266). -/

namespace Sys2Proof.Machine

/-- A CMX after a reset: every register 16 x 16 and zero, no owner (R250). -/
def cmxDef : Cmx :=
  { el := [], shapes := [], owner := none, releasing := false, waiters := [], q := [], nextTag := 0, fenced := false }

/-- The CMX of rod `r`. -/
def Dev.cmxOf (s : Dev) (r : Nat) : Cmx := SMap.get s.cmx cmxDef r

/-- Store the CMX of rod `r`. -/
def Dev.setCmx (s : Dev) (r : Nat) (c : Cmx) : Dev := { s with cmx := SMap.set s.cmx cmxDef r c }

/-- The committed shape of register m. -/
def Cmx.shape (c : Cmx) (m : Nat) : Nat × Nat := SMap.get c.shapes (16, 16) m

/-- Element (r, c) of register m as signed components. -/
def Cmx.elem (x : Cmx) (m r c : Nat) : Int × Int :=
  let e := SMap.get x.el (0, 0) (256 * m + 16 * r + c)
  (e.1.toInt, e.2.toInt)

/-- Store an element. -/
def Cmx.setElem (x : Cmx) (m r c : Nat) (v : Int × Int) : Cmx :=
  { x with el := SMap.set x.el (0, 0) (256 * m + 16 * r + c) (wordI v.1, wordI v.2) }

/-- Shapes that an operation leaves, given the shapes before it: register and new shape (R255). -/
def shapeAfter (sh : Nat → Nat × Nat) (o : CmxOp) : List (Nat × Nat × Nat) :=
  let t (b : Bool) (m : Nat) : Nat × Nat := if b then ((sh m).2, (sh m).1) else sh m
  match o with
  | .shape md r c => [(md, r, c)]
  | .alu fn md ma mb _ _ ta tb _ =>
    match fn with
    | 4 => [(md, (t ta ma).1, (t tb mb).2)]
    | 6 => [(md, (sh ma).1, (sh mb).2)]
    | 8 => [(md, (sh ma).2, (sh ma).2), (mb, (sh ma).1, (sh ma).2)]
    | 1 => [(md, t ta ma)]
    | 2 => [(md, t ta ma)]
    | 3 => [(md, t ta ma)]
    | _ => [(md, sh ma)]
  | _ => []

/-- The shapes that the accepted instructions, squashed ones apart, will leave (R261, R263). -/
def Cmx.shapeNext (c : Cmx) (m : Nat) : Nat × Nat :=
  (c.q.filter fun e => !e.squashed).foldl (fun (sh : Nat → Nat × Nat) e =>
    let news := shapeAfter sh e.op
    fun k => match news.find? fun n => n.1 == k with
      | some n => n.2
      | none => sh k) c.shape m

/-- The matrix register an exception names (R258). -/
def CmxOp.reg (o : CmxOp) : Nat :=
  match o with
  | .put m _ _ _ _ _ => m
  | .get m _ _ _ _ _ => m
  | .shape md _ _ => md
  | .alu _ md _ _ _ _ _ _ _ => md

/-- The rules of R254 and R255 against shapes; the answer is the cause of R258. Log 42 (DEDUCED). -/
def CmxOp.check (o : CmxOp) (sh : Nat → Nat × Nat) : Option Nat :=
  let t (b : Bool) (m : Nat) : Nat × Nat := if b then ((sh m).2, (sh m).1) else sh m
  let need (b : Bool) : Option Nat := if b then none else some 2
  match o with
  | .put m _ col _ idx _ => need (decide (idx < if col then (sh m).2 else (sh m).1))
  | .get m _ col _ idx _ => need (decide (idx < if col then (sh m).2 else (sh m).1))
  | .shape _ _ _ => none
  | .alu fn md ma mb _ _ ta tb acc =>
    match fn with
    | 2 => need (t ta ma == t tb mb)
    | 3 => need (t ta ma == t tb mb)
    | 4 => need ((t ta ma).2 == (t tb mb).1 && (!acc || sh md == ((t ta ma).1, (t tb mb).2)))
    | 5 => need ((sh ma).1 == (sh ma).2)
    | 6 => need ((sh ma).1 == (sh ma).2 && (sh mb).1 == (sh ma).1)
    | 7 => need ((sh ma).1 == (sh ma).2)
    | 8 => if md = mb then some 3 else need (decide ((sh ma).1 ≥ (sh ma).2))
    | _ => none

/-- Whether rod `r`'s CMX takes instructions: in service, powered and not fenced (R258, R266, R267). Log 43 (DEDUCED). -/
def Dev.cmxAvail (s : Dev) (r : Nat) : Bool :=
  !(s.cmxOf r).fenced && s.dom (112 + r) == .on && s.fbit (Reg.CMX_CTL r) Reg.CMX_CTL_EN_f

/-- Whether core `c` of the rod owns the CMX; a lock being released has no owner that may use it (R257, R260). -/
def Cmx.ownedBy (x : Cmx) (c : Nat) : Bool := x.owner == some c && !x.releasing

/-- The cause that turns an instruction of core `c` (0 to 7 of rod `r`) away at acceptance (R258, R261). -/
def Dev.cmxReject (s : Dev) (r c : Nat) (o : CmxOp) : Option Nat :=
  if !s.cmxAvail r then some 4
  else if !(s.cmxOf r).ownedBy c then some 1
  else o.check (s.cmxOf r).shapeNext

/-- The tag of the instruction that has begun: the first, unless it is a CMXPUT without its data (R261). -/
def Cmx.begun (c : Cmx) : Option Nat :=
  match c.q.head? with
  | some e => match e.op with
    | .put .. => if e.data.isSome then some e.tag else none
    | _ => some e.tag
  | none => none

/-- The instructions accepted ahead of the one that the CMX executes (R261). -/
def Cmx.depth (c : Cmx) : Nat := c.q.length - bit c.begun.isSome

/-- Whether the CMX can accept one more: up to four ahead of the one it executes (R261). -/
def Cmx.room (c : Cmx) : Bool := decide (c.depth < 4)

/-- Accept an instruction: its tag is the answer. -/
def Dev.cmxAccept (s : Dev) (r c pc : Nat) (o : CmxOp) : Nat × Dev :=
  let x := s.cmxOf r
  let e : CmxEntry := { tag := x.nextTag, core := c, pc := pc, op := o, data := none, squashed := false }
  (x.nextTag, s.setCmx r { x with q := x.q ++ [e], nextTag := x.nextTag + 1 })

/-- The vector data of an executing CMXPUT reaches the CMX. -/
def Dev.cmxData (s : Dev) (r tag : Nat) (ws : List Word) (mask : Nat) : Dev :=
  let x := s.cmxOf r
  s.setCmx r { x with q := x.q.map fun e => if e.tag = tag then { e with data := some (ws, mask) } else e }

/-- Cancel a tag (R263): an instruction that has begun runs on without commit, any other is removed. -/
def Dev.cmxCancel (s : Dev) (r tag : Nat) : Dev :=
  let x := s.cmxOf r
  if x.begun = some tag then
    s.setCmx r { x with q := x.q.map fun e => if e.tag = tag then { e with squashed := true } else e }
  else s.setCmx r { x with q := x.q.filter fun e => e.tag ≠ tag }

/-- The segment coordinates of element i (R254). -/
def segRC (col half : Bool) (idx i : Nat) : Nat × Nat :=
  if col then (8 * bit half + i, idx) else (idx, 8 * bit half + i)

/-- Every coordinate of an R x C matrix. -/
def coords (R C : Nat) : List (Nat × Nat) := (List.range R).flatMap fun r => (List.range C).map fun c => (r, c)

/-- The operation's result for one register: the register, its new shape, each component before saturation. -/
structure MatOut where
  m : Nat
  rows : Nat
  cols : Nat
  val : Nat → Nat → Int × Int

/-- Write a result: elements outside the new shape become 0; the answer says whether a component saturated (R251,
R252). -/
def Cmx.write (x : Cmx) (o : MatOut) : Cmx × Bool :=
  let vals := (coords o.rows o.cols).map fun (r, c) => (r, c, o.val r c)
  let sat := vals.any fun (_, _, v) => (satW 24 v.1).2 || (satW 24 v.2).2
  let x := { x with el := SMap.drop x.el fun k => k / 256 == o.m
                    shapes := SMap.set x.shapes (16, 16) o.m (o.rows, o.cols) }
  (vals.foldl (fun x (r, c, v) => x.setElem o.m r c ((satW 24 v.1).1, (satW 24 v.2).1)) x, sat)

/-- Element (r, c) of op(x). -/
def Cmx.opElem (x : Cmx) (t : Bool) (m r c : Nat) : Int × Int :=
  if t then ((x.elem m c r).1, -(x.elem m c r).2) else x.elem m r c

/-- A complex product. -/
def cmul (a b : Int × Int) : Int × Int := (a.1 * b.1 - a.2 * b.2, a.1 * b.2 + a.2 * b.1)

/-- What an operation commits: its results, and the failing pivot's cause and index. -/
structure CmxRes where
  outs : List MatOut
  late : Option (Nat × Nat)

/-- A result component before saturation: within 4 units of the exact value of a well-conditioned input, free for any other
(R255). Log 41 (DEDUCED). -/
def cmxComp (well nonneg : Bool) (x : Root) (fv : Nat) : Int := if well then nearRoot x nonneg fv else wideFree nonneg fv

/-- The results of an operation (R255, R256). COPY, ADD, SUB and MUL are rounded exactly; CHOL, TRSL, INV and QR take the exact
pivots and, for each component, a free value that R255 allows. `fv` yields free values. Log 41 (DEDUCED). -/
def Cmx.compute (x : Cmx) (fv : Nat → Nat) (o : CmxOp) : CmxRes :=
  match o with
  | .shape md r c => ⟨[⟨md, r, c, fun _ _ => (0, 0)⟩], none⟩
  | .alu fn md ma mb sh f ta tb acc =>
    let A := x.opElem ta ma
    let B := x.opElem tb mb
    let shp (t : Bool) (m : Nat) := if t then ((x.shape m).2, (x.shape m).1) else x.shape m
    let r2 (v : Int × Int) (k : Int) : Int × Int := (rndS 0 v.1 k, rndS 0 v.2 k)
    let n := (x.shape ma).1
    let C := (x.shape ma).2
    let at_ (i r c : Nat) : Nat := 2 * i + 2 * (16 * r + c)
    let pair (well : Bool) (i r c : Nat) (v : CRat) (k : Rat) : Int × Int :=
      (cmxComp well false ⟨v.1, k⟩ (fv (at_ i r c)), cmxComp well false ⟨v.2, k⟩ (fv (at_ i r c + 1)))
    let diag (well : Bool) (r : Nat) (a k : Rat) : Int × Int := (cmxComp well true ⟨a, k⟩ (fv (at_ 0 r r)), 0)
    match fn with
    | 1 => ⟨[⟨md, (shp ta ma).1, (shp ta ma).2, fun r c => r2 (A r c) sh⟩], none⟩
    | 2 => ⟨[⟨md, (shp ta ma).1, (shp ta ma).2, fun r c => r2 ((A r c).1 + (B r c).1, (A r c).2 + (B r c).2) sh⟩], none⟩
    | 3 => ⟨[⟨md, (shp ta ma).1, (shp ta ma).2, fun r c => r2 ((A r c).1 - (B r c).1, (A r c).2 - (B r c).2) sh⟩], none⟩
    | 4 =>
      let prod (r c : Nat) : Int × Int :=
        (List.range (shp ta ma).2).foldl (fun a k => let p := cmul (A r k) (B k c); (a.1 + p.1, a.2 + p.2)) (0, 0)
      let val (r c : Nat) : Int × Int :=
        let p := r2 (prod r c) ((f : Int) + sh)
        if acc then ((x.elem md r c).1 + p.1, (x.elem md r c).2 + p.2) else p
      ⟨[⟨md, (shp ta ma).1, (shp tb mb).2, val⟩], none⟩
    | 5 =>
      let a := cqMat n n fun r c =>
        if r = c then ((x.elem ma r r).1, 0) else if r > c then x.elem ma r c else ((x.elem ma c r).1, -(x.elem ma c r).2)
      let cols := ldl (fun d => decide (1 ≤ d)) n a
      let well := wellCond n a
      let val (r c : Nat) : Int × Int :=
        match cols[c]? with
        | none => (0, 0)
        | some (d, col) =>
          let k : Rat := pow2 (f - 2 * sh) / d
          if r < c then (0, 0) else if r = c then diag well r d k else pair well 0 r c (col.getD (r - c) (0, 0)) k
      ⟨[⟨md, n, n, val⟩], if cols.length < n then some (1, cols.length) else none⟩
    | 6 =>
      let t := cqMat n n fun r c => if ta then (if c < r then (0, 0) else ((x.elem ma c r).1, -(x.elem ma c r).2))
        else if r < c then (0, 0) else x.elem ma r c
      let order := if ta then (List.range n).reverse else List.range n
      let sol := solveRows t (cqMat n (x.shape mb).2 fun r c => x.elem mb r c) order []
      let well := wellCond n t
      let k := pow2 (f - sh)
      let val (r c : Nat) : Int × Int :=
        match sol.find? fun e => e.1 == r with
        | none => (0, 0)
        | some (_, row) => pair well 0 r c (cqMul (k, 0) (row.getD c (0, 0))) 1
      ⟨[⟨md, n, (x.shape mb).2, val⟩], (order[sol.length]?).map fun i => (2, i)⟩
    | 7 =>
      let a := cqMat n n fun r c => x.elem ma r c
      let (m, bad) := gaussJordan n n (cqMat n (2 * n) fun r c => if c < n then x.elem ma r c else (bit (c == n + r), 0))
      let well := wellCond n a
      let k := pow2 (2 * f - sh)
      ⟨[⟨md, n, n, fun r c => if bad.isSome then (0, 0) else pair well 0 r c (cqMul (k, 0) (cqAt m r (n + c))) 1⟩],
        bad.map fun i => (2, i)⟩
    | 8 =>
      let a := cqMat n C fun r c => x.elem ma r c
      let cols := cqCols C a
      let us := gramSchmidt cols
      let well := wellCond C a
      let col (l : List (List CRat)) (i : Nat) : List CRat := l.getD i []
      let mag (i : Nat) : Rat := (cqDot (col us i) (col us i)).1
      let R (r c : Nat) : Int × Int :=
        if r > c then (0, 0) else if r = c then diag well r (pow2 (-sh)) (mag r)
        else pair well 0 r c (cqMul (pow2 (-sh), 0) (cqDot (col us r) (col cols c))) (1 / mag r)
      let Q (r c : Nat) : Int × Int := pair well 256 r c (cqMul (pow2 f, 0) ((col us c).getD r (0, 0))) (1 / mag c)
      ⟨[⟨md, C, C, R⟩, ⟨mb, n, C, Q⟩], none⟩
    | _ => ⟨[], none⟩
  | _ => ⟨[], none⟩

/-- Free values one operation may use. Log 41 (DEDUCED). -/
def cmxFreeCount : Nat := 1024

/-- Commit the results of an operation (R251, R252, R262): registers, SAT, the late error record of the owner. -/
def Dev.cmxCommitOp (s : Dev) (r : Nat) (e : CmxEntry) : Dev :=
  let x := s.cmxOf r
  let k := s.fresh
  let res := x.compute (fun i => Config.free (k + i)) e.op
  let s := { s with fresh := s.fresh + cmxFreeCount }
  let (x, sat) := res.outs.foldl (fun (x, b) o => let (x, b2) := x.write o; (x, b || b2)) (x, false)
  let s := s.setCmx r x
  let s := if sat then s.fset (Reg.CMX_STAT r) Reg.CMX_STAT_SAT_f true else s
  match res.late with
  | none => s
  | some (cause, idx) =>
    if s.fbit (Reg.CMX_LERR r) Reg.CMX_LERR_VALID_f then s.fset (Reg.CMX_LERR r) Reg.CMX_LERR_MORE_f true
    else
      let g := r * 8 + (x.owner.getD e.core)
      let c := s.core g
      let s := s.setCore g { c with csr := SMap.set c.csr 0 0x107 (SMap.get c.csr 0 0x107 ||| 1) }
      let more := s.fget (Reg.CMX_LERR r) Reg.CMX_LERR_MORE_f
      let s := s.rset (Reg.CMX_LERR r) (word (2 ^ 23 + more * 2 ^ 22 + cause * 2 ^ 18 + e.op.reg * 2 ^ 15 + idx * 2 ^ 11))
      (s.rset (Reg.CMX_LERRPC r) (word (e.core * 2 ^ 16 + e.pc))).raise 0x301 r

/-- Release the lock as a D reset of the owner does (R260): instructions of that core that have not begun are discarded, a
begun one runs to its end without commit and the lock is free then, a late error not yet delivered is dropped. -/
def Dev.cmxRelease (s : Dev) (r : Nat) : Dev :=
  let x := s.cmxOf r
  match x.owner with
  | none => s
  | some o =>
    let q := (x.q.filter fun e => e.core ≠ o || some e.tag == x.begun).map fun e =>
      if e.core = o then { e with squashed := true } else e
    let g := r * 8 + o
    let c := s.core g
    let pend := bits (SMap.get c.csr 0 0x107).toNat 0 0 == 1
    let s := s.setCmx r { x with q := q, owner := if q = [] then none else some o, releasing := q ≠ [] }
    if pend then
      let s := s.setCore g { c with csr := SMap.set c.csr 0 0x107 (SMap.get c.csr 0 0x107 &&& ~~~1) }
      (s.fset (Reg.CMX_LERR r) Reg.CMX_LERR_VALID_f false).fset (Reg.CMX_LERR r) Reg.CMX_LERR_MORE_f false
    else s

/-- A D reset of the CMX (R250, R267): registers of shape 16 x 16 and zero, D-class fields at their resets. -/
def Dev.cmxDReset (s : Dev) (r : Nat) : Dev :=
  let x := s.cmxOf r
  let s := s.setCmx r { cmxDef with fenced := x.fenced, nextTag := x.nextTag, waiters := x.waiters }
  s.resetRegs .D fun a => decide (Reg.CMX_CTL r ≤ a) && decide (a < Reg.CMX_CTL r + 0x10)

/-- The 4,128 words of the state image of R264, check word included. -/
def Cmx.image (x : Cmx) (sat : Bool) : List Word :=
  let shapes := (List.range 8).map fun m => word (((x.shape m).1 - 1) * 16 + ((x.shape m).2 - 1))
  let lead := [word 0x584D43, word (2 ^ 16), word (bit sat * 2 ^ 23)] ++ shapes ++ List.replicate 20 0
  let body := (List.range 8).flatMap fun m => (coords 16 16).flatMap fun (r, c) =>
    if r < (x.shape m).1 ∧ c < (x.shape m).2 then
      let e := SMap.get x.el (0, 0) (256 * m + 16 * r + c)
      [e.1, e.2]
    else [0, 0]
  let chk := (lead ++ body).foldl (fun a w => a ^^^ w) (0 : Word)
  lead ++ [chk] ++ body

/-- Whether the words of a state image have the right magic, version and check word (R258, R264). -/
def imageOk (ws : List Word) : Bool :=
  ws.getD 0 0 == word 0x584D43 && bits (ws.getD 1 0).toNat 23 16 == 1 &&
  ws.foldl (fun a w => a ^^^ w) (0 : Word) == 0

/-- The registers a state image gives (R264). -/
def Cmx.restore (x : Cmx) (ws : List Word) : Cmx :=
  let sh (m : Nat) : Nat × Nat :=
    (bits (ws.getD (3 + m) 0).toNat 7 4 + 1, bits (ws.getD (3 + m) 0).toNat 3 0 + 1)
  let x := { x with el := [], shapes := (List.range 8).foldl (fun m i => SMap.set m (16, 16) i (sh i)) [] }
  (List.range 8).foldl (fun x m => (coords (sh m).1 (sh m).2).foldl (fun x (r, c) =>
    let v := (ws.getD (32 + 512 * m + 32 * r + 2 * c) 0, ws.getD (33 + 512 * m + 32 * r + 2 * c) 0)
    { x with el := SMap.set x.el (0, 0) (256 * m + 16 * r + c) v }) x) x

end Sys2Proof.Machine
end

