-- ==== Sys2Proof/Machine/Operands.lean ====
section
/-! DEFINITION. Operand forms of the Reckoner: the fields of instruction words (R217), the register files with their
hard-wired members (R204), vector elements and masks (R207 to R210), accumulator lanes (R213), control and status
registers (R247). -/

namespace Sys2Proof.Machine

/-! ### Fields of the first word (R217); `w` is the word as a number -/

/-- Bits [hi:lo] of an instruction word. -/
def ib (w : Word) (hi lo : Nat) : Nat := bits w.toNat hi lo
/-- Field d, [17:13]. -/
def iD (w : Word) : Nat := ib w 17 13
/-- Field a, [12:8]. -/
def iA (w : Word) : Nat := ib w 12 8
/-- Field b, [7:3]. -/
def iB (w : Word) : Nat := ib w 7 3
/-- Field FN or K, [2:0]. -/
def iF (w : Word) : Nat := ib w 2 0
/-- Pointer register of format M, [12:9]. -/
def iP (w : Word) : Nat := ib w 12 9
/-- The b or g_s register of the two-word memory forms, [8:4]. Log 28 (DEDUCED). -/
def iS (w : Word) : Nat := ib w 8 4
/-- A field read as a signed number. -/
def sx (n v : Nat) : Int := if v ≥ 2 ^ (n - 1) then (v : Int) - 2 ^ n else v
/-- IMM [7:0], signed. Log 28 (DEDUCED). -/
def iImm (w : Word) : Int := sx 8 (ib w 7 0)

/-- A first word from its parts: L, opcode and bits [17:0]. -/
def encWord (l op low : Nat) : Word := word (l * 2 ^ 23 + op * 2 ^ 18 + low)

/-! ### Register files (R204) -/

/-- g_i; g0 reads 0. -/
def Core.gr (c : Core) (i : Nat) : Word := if i = 0 then 0 else SMap.get c.g 0 i
/-- Write g_i; a write to g0 is ignored. -/
def Core.gw (c : Core) (i : Nat) (v : Word) : Core := if i = 0 then c else { c with g := SMap.set c.g 0 i v }
/-- p_i. -/
def Core.pr (c : Core) (i : Nat) : Addr := SMap.get c.p 0 i
/-- Write p_i. -/
def Core.pw (c : Core) (i : Nat) (v : Addr) : Core := { c with p := SMap.set c.p 0 i v }
/-- k_i; k0 reads 0xFFFF. -/
def Core.kr (c : Core) (i : Nat) : BitVec 16 := if i = 0 then 0xFFFF else SMap.get c.k 0 i
/-- Write k_i; a write to k0 is ignored. -/
def Core.kw (c : Core) (i : Nat) (v : BitVec 16) : Core := if i = 0 then c else { c with k := SMap.set c.k 0 i v }
/-- Word w of v_i. -/
def Core.vr (c : Core) (i w : Nat) : Word := SMap.get c.v 0 (16 * i + w)
/-- Write word w of v_i. -/
def Core.vw (c : Core) (i w : Nat) (x : Word) : Core := { c with v := SMap.set c.v 0 (16 * i + w) x }
/-- Lane l of a_i, signed. -/
def Core.ar (c : Core) (i l : Nat) : Int := (SMap.get c.a 0 (16 * i + l)).toInt
/-- Write lane l of a_i. -/
def Core.aw (c : Core) (i l : Nat) (x : Int) : Core :=
  { c with a := SMap.set c.a 0 (16 * i + l) (BitVec.ofInt 56 x) }

/-! ### Control and status registers (R247) -/

/-- Reset value of a CSR: MSTATUS has PPL = 1, every other is 0. -/
def csrReset (n : Nat) : Word := if n = 0x100 then word (2 ^ 21) else 0
/-- A stored CSR. -/
def Core.cs (c : Core) (n : Nat) : Word := SMap.get c.csr (csrReset n) n
/-- Store a CSR. -/
def Core.cw (c : Core) (n : Nat) (v : Word) : Core := { c with csr := SMap.set c.csr (csrReset n) n v }
/-- One bit of a stored CSR. -/
def Core.cb (c : Core) (n i : Nat) : Bool := bits (c.cs n).toNat i i == 1
/-- Set one bit of a stored CSR. -/
def Core.cbw (c : Core) (n i : Nat) (b : Bool) : Core := c.cw n (word (putBits (c.cs n).toNat i i (bit b)))

/-- MSTATUS.MIE. -/
def Core.mie (c : Core) : Bool := c.cb 0x100 23
/-- MSTATUS.INH. -/
def Core.inh (c : Core) : Bool := c.cb 0x100 19
/-- VCFG.ET. -/
def Core.et (c : Core) : Nat := bits (c.cs 0).toNat 23 22
/-- VCFG.LONG. -/
def Core.long (c : Core) : Bool := c.cb 0 21
/-- VCFG.RND. -/
def Core.rmode (c : Core) : Nat := bits (c.cs 0).toNat 20 19
/-- VCFG.MSH. -/
def Core.msh (c : Core) : Nat := bits (c.cs 0).toNat 4 0
/-- VSTART. -/
def Core.vstart (c : Core) : Nat := bits (c.cs 1).toNat 3 0

/-- Bits of a CSR that a write stores (R247); 0 for a read-only CSR and for MIP, whose bits only CSRC clears (R239).
Log 15 (DEDUCED), 23 (DEDUCED). -/
def csrMask (n : Nat) : Nat :=
  match n with
  | 0x000 => 0xF8001F
  | 0x001 => 0xF
  | 0x002 => 0xC00000
  | 0x100 => 0xE80000
  | 0x101 => 0xFFFF
  | 0x102 => 0xFFFF
  | 0x103 => 0x80000F
  | 0x104 => 0xFFFFFF
  | 0x105 => 0xFF
  | 0x106 => 0x1F
  | 0x108 => 0xFFFFFF
  | 0x109 => 0xC00000
  | 0x10A => 0xFFFFFF
  | 0x10B => 0xFFFFFF
  | 0x10C => 0x80003F
  | 0x10D => 0xFFFFFF
  | 0x10E => 0xFF
  | _ => 0

/-- Whether a CSR number is implemented; the Abacist has no VCFG, VSTART and VSTAT (R246, R247). Log 23 (DEDUCED). -/
def csrThere (core n : Nat) : Bool :=
  (decide (n ≤ 2) && core != 112) || (decide (8 ≤ n) && decide (n ≤ 0xF)) ||
    (decide (0x100 ≤ n) && decide (n ≤ 0x10E))

/-! ### Vector elements (R207, R208) and masks (R210) -/

/-- Element count. -/
def elemCount (et : Nat) (long : Bool) : Nat :=
  match et, long with
  | 2, false => 4
  | 2, true => 8
  | _, false => 8
  | _, true => 16

/-- Words of an element. -/
def elemWords (et : Nat) : Nat := if et = 2 then 2 else 1

/-- Bits of a component. -/
def compBits (et : Nat) : Nat := if et = 1 then 12 else 24

/-- The components of C12 data in a word (R7). -/
def c12I (w : Word) : Int := sx 12 (bits w.toNat 23 12)
def c12Q (w : Word) : Int := sx 12 (bits w.toNat 11 0)
/-- A C12 word of two components. -/
def c12 (i q : Int) : Word := word ((BitVec.ofInt 12 i).toNat * 4096 + (BitVec.ofInt 12 q).toNat)

/-- Element i of v_n under type `et`, as two signed components; a W24 element has Q = 0. -/
def Core.elem (c : Core) (et n i : Nat) : Int × Int :=
  match et with
  | 1 => (c12I (c.vr n i), c12Q (c.vr n i))
  | 2 => ((c.vr n (2 * i)).toInt, (c.vr n (2 * i + 1)).toInt)
  | _ => ((c.vr n i).toInt, 0)

/-- Write element i of v_n. -/
def Core.setElem (c : Core) (et n i : Nat) (x : Int × Int) : Core :=
  match et with
  | 1 => c.vw n i (c12 x.1 x.2)
  | 2 => (c.vw n (2 * i) (wordI x.1)).vw n (2 * i + 1) (wordI x.2)
  | _ => c.vw n i (wordI x.1)

/-- Whether bit i of mask register k is 1. -/
def Core.act (c : Core) (k i : Nat) : Bool := bits (c.kr k).toNat i i == 1

/-- Words 8 to 15 of v_n become 0: the end of a short instruction that writes v_n (R209). -/
def Core.zeroHigh (c : Core) (n : Nat) : Core :=
  if c.long then c else (List.range 8).foldl (fun c i => c.vw n (8 + i) 0) c

end Sys2Proof.Machine
end

