-- ==== Sys2Proof/Machine/Rck.lean ====
section
/-! DEFINITION. What every Reckoner instruction shares: exceptions and interrupts (R237 to R241), issue and completion
(R205, R235, R236), CMX instructions decoded ahead (R261, R263), region grants (R229, R345), waits (R242 to R245),
resets (R249). Core 112 is the Abacist. -/

namespace Sys2Proof.Machine

/-- Update one core. -/
def Dev.onCore (s : Dev) (n : Nat) (f : Core → Core) : Dev := s.setCore n (f (s.core n))

/-- The pending bits of MIP: the stored ones, TIMER and NOTICE (R239). -/
def Dev.mip (s : Dev) (n : Nat) : Nat :=
  let c := s.core n
  let timer := c.cb 0x10C 23 && s.due (c.cs 0x10A).toNat ((c.cs 0x10B).toNat + bits (c.cs 0x10C).toNat 5 0 * 2 ^ 24)
  let notice := c.bound && decide ((s.queue c.inbox).depth > 0)
  bits (c.cs 0x107).toNat 1 0 + bit timer * 4 + bit notice * 8 + bits (c.cs 0x107).toNat 4 4 * 16

/-- The lowest pending interrupt whose MIE bit is 1. Log 27 (DEDUCED). -/
def Dev.irq (s : Dev) (n : Nat) : Option Nat :=
  (List.range 5).find? fun i => bits (s.mip n) i i == 1 && (s.core n).cb 0x106 i

/-- Squash the instructions decoded ahead: each tag is cancelled (R236, R263). -/
def Dev.squash (s : Dev) (n : Nat) : Dev :=
  let s := (s.core n).ahead.foldl (fun s a =>
    match a.cmx with
    | some (_, tag, none) => s.cmxCancel (n / 8) tag
    | _ => s) s
  s.onCore n fun c => { c with ahead := [] }

/-- Entry to an exception or interrupt in one step (R240). Log 40 (DEDUCED). -/
def Core.enter (c : Core) (mepc cause badl badh : Nat) (writeBad : Bool) : Core :=
  let ms := (c.cs 0x100).toNat
  let ms1 := putBits (putBits ms 22 22 (bits ms 23 23)) 23 23 0
  let ms2 := putBits (putBits ms1 21 21 (bit c.machine)) 19 19 1
  let c := ((c.cw 0x102 (word mepc)).cw 0x103 (word cause)).cw 0x100 (word ms2)
  let c := if writeBad then (c.cw 0x104 (word badl)).cw 0x105 (word badh) else c
  { c with machine := true, pc := bits (c.cs 0x101).toNat 15 0, hold := none, wantRod := false }

/-- A synchronous exception of core `n` at its present instruction (R238, R240); with INH = 1 it halts the core (R241).
Log 40 (DEDUCED). -/
def Dev.trap (s : Dev) (n code badl badh : Nat) : Dev :=
  let s := s.squash n
  let c := s.core n
  if c.inh then
    let s := s.rset (Reg.RCK_HALT n) (word (code * 2 ^ 20 + c.pc))
    (s.setCore n { c with st := .halted, hold := none }).raise 0x302 (coreEvt n)
  else s.setCore n (c.enter c.pc code badl badh true)

/-- ILLEGAL: MBADL holds the first instruction word. Log 16 (DEDUCED). -/
def Dev.illegal (s : Dev) (n : Nat) (w : Word) : Dev := s.trap n 0 w.toNat 0

/-- LOAD_ERR and ACCESS: MBADL and MBADH hold an address. -/
def Dev.trapAddr (s : Dev) (n code a : Nat) : Dev := s.trap n code (a % 2 ^ 24) (a / 2 ^ 24)

/-- Completion of the instruction of `len` words: the PC advances modulo 2^16 and IRET counts it (R205, R247). -/
def Core.done (c : Core) (len : Nat) : Core :=
  { c with pc := (c.pc + len) % 2 ^ 16, iret := (c.iret + 1) % 2 ^ 48, hold := none }

/-- Completion of a branch or jump to `target`. -/
def Core.goto (c : Core) (target : Int) : Core :=
  { c with pc := (target % 2 ^ 16).toNat, iret := (c.iret + 1) % 2 ^ 48, hold := none }

/-- Whether an interrupt can be taken: pending and enabled, MSTATUS.MIE = 1 and INH = 0 (R239). -/
def Dev.intReady (s : Dev) (n : Nat) : Bool := (s.irq n).isSome && (s.core n).mie && !(s.core n).inh

/-- Whether core `n` issues instructions: running, powered, held by nothing, no W reset in progress (R531). An interrupt that can
be taken goes before the next instruction (R239, R243). Log 27 (DEDUCED). -/
def Dev.issues (s : Dev) (n : Nat) : Bool :=
  (s.core n).st == .run && (s.core n).hold == none && s.fbit (Reg.RCK_CTL n) Reg.RCK_CTL_RUN_f &&
    s.dom (if n = 112 then 210 else n) == .on && !(s.core n).lmBusy && !s.stc.wbusy && !s.intReady n

/-- Issue of an instruction of `len` words whose first word is `w`: the fetch checks local memory (R206), a reserved or
must-be-zero violation raises ILLEGAL (R218), else `body` acts. A core that does not issue takes no instruction.
Log 14 (DESIGN CHOICE). -/
def Dev.issue (s : Dev) (n len : Nat) (w : Word) (ill : Bool) (body : Dev → Dev) : Dev :=
  if s.issues n then
    let pc := (s.core n).pc
    let (f1, s) := s.lmRead n pc
    let (f2, s) := if len = 2 then s.lmRead n (pc + 1) else (some 0, s)
    match f1, f2 with
    | none, _ => s.trapAddr n 1 pc
    | some _, none => s.trapAddr n 1 ((pc + 1) % 2 ^ 16)
    | some _, some _ =>
      let s := s.onCore n fun c => { c with len := len }
      if ill then s.illegal n w else body s
  else s

/-- An instruction that only changes the core's registers and completes. Log 14 (DESIGN CHOICE). -/
def Dev.issueReg (s : Dev) (n len : Nat) (w : Word) (ill : Bool) (f : Core → Core) : Dev :=
  s.issue n len w ill fun s => s.onCore n fun c => (f c).done len

/-- Whether a core executes the opcode: the Abacist only OP 0x00 to 0x0F and OP2 0x00 to 0x04, 0x10 and 0x11 (R246). -/
def notAbacist (n : Nat) : Bool := n == 112

/-- The word of a core's own local memory that an address names, by either view of R10. Log 25 (DEDUCED). -/
def ownWord (n a : Nat) : Option Nat :=
  if a < 0x10000 then some a
  else if n < 112 ∧ lmAddr n 0 ≤ a ∧ a < lmAddr n 0 + 0x10000 then some (a - lmAddr n 0)
  else none

/-! ### Region grants (R229, R345) -/

/-- Whether a region entry covers an address and grants the kind of access. Log 122 (DEDUCED). -/
def Region.allows (r : Region) (a : Nat) (write : Bool) : Bool :=
  decide (r.base ≤ a) && decide (a < r.base + r.len) && (if write then r.wr else r.rd)

/-- Whether the region table of core `n` grants an access at its present level; its own local memory, by either view, and
every address for the Abacist are granted without an entry (R229, R237, R345). Log 25 (DEDUCED), 122 (DEDUCED). -/
def Dev.grants (s : Dev) (n a : Nat) (write : Bool) : Bool :=
  n == 112 || decide (a < 0x10000) || decide (lmAddr n 0 ≤ a ∧ a < lmAddr n 0 + 0x10000) ||
    s.regions.any fun r => bits r.rods (n / 8) (n / 8) == 1 && r.allows a write && ((s.core n).machine || r.rodlvl)

/-! ### CMX instructions of a core (R257, R261, R263) -/

/-- A CMX exception: cause and register in MBADL (R258). Log 42 (DEDUCED). -/
def Dev.trapCmx (s : Dev) (n cause m : Nat) : Dev := s.trap n 5 (cause * 2 ^ 20 + m * 2 ^ 17) 0

/-- Execution of a CMX instruction that has been accepted with `tag`, or turned away: CMXPUT sends its vector, CMXGET holds
the core, CMXOP completes. A CMXPUT or CMXGET with VSTART not 0 raises ILLEGAL (R226, R254); a CMXGET whose instruction a fence
has ended takes UNAVAIL (R266). -/
def Dev.cmxExec (s : Dev) (n : Nat) (w : Word) (o : CmxOp) (tag : Nat) (rej : Option (Nat × Nat)) : Dev :=
  let c := s.core n
  let vec := match o with | .put .. => true | .get .. => true | _ => false
  if vec && c.vstart != 0 then (if rej.isSome then s else s.cmxCancel (n / 8) tag).illegal n w
  else match rej with
    | some (cause, m) => s.trapCmx n cause m
    | none =>
      match o with
      | .put _ k _ _ _ a =>
        let s := s.cmxData (n / 8) tag ((List.range 16).map fun i => c.vr a i) (bits (c.kr k).toNat 7 0)
        s.onCore n fun c => c.done 2
      | .get .. =>
        if (s.cmxOf (n / 8)).q.any fun e => e.tag == tag then
          s.onCore n fun c => { c with hold := some (.cmxGet tag), len := 2 }
        else s.trapCmx n 4 o.reg
      | _ => s.onCore n fun c => c.done 2

/-- What the CMX answers to an instruction at `pc` (R261): its tag or its rejection, or none while it holds four. -/
def Dev.cmxOffer (s : Dev) (n pc : Nat) (o : CmxOp) : Option (Nat × Option (Nat × Nat)) × Dev :=
  match s.cmxReject (n / 8) (n % 8) o with
  | some cause => (some (0, some (cause, o.reg)), s)
  | none =>
    if (s.cmxOf (n / 8)).room then
      let (tag, s) := s.cmxAccept (n / 8) (n % 8) pc o
      (some (tag, none), s)
    else (none, s)

/-- A CMX instruction that executes as it is decoded: it is offered to the CMX and executes; while the CMX is full the decoder
holds (R261). -/
def Dev.cmxIssue (s : Dev) (n : Nat) (w : Word) (ill : Bool) (o : CmxOp) : Dev :=
  s.issue n 2 w (ill || notAbacist n) fun s =>
    match s.cmxOffer n (s.core n).pc o with
    | (some (tag, rej), s) => s.cmxExec n w o tag rej
    | (none, s) => s.onCore n fun c => { c with hold := some (.cmxRoom o) }

/-- The first word of a CMX instruction as MBADL would show it (R253). -/
def cmxWord0 (o : CmxOp) : Word :=
  match o with
  | .put m k _ _ _ a => encWord 1 0x15 (a * 2 ^ 13 + m * 2 ^ 10 + k)
  | .get m k _ _ _ d => encWord 1 0x16 (d * 2 ^ 13 + m * 2 ^ 10 + k)
  | .shape md _ _ => encWord 1 0x17 (md * 2 ^ 15)
  | .alu _ md ma mb _ _ _ _ _ => encWord 1 0x17 (md * 2 ^ 15 + ma * 2 ^ 12 + mb * 2 ^ 9)

/-- The held instruction completes: the PC advances past it. -/
def Dev.release (s : Dev) (n : Nat) (f : Core → Core) : Dev := s.onCore n fun c => (f c).done c.len

/-! ### Resets and stops of a core -/

/-- A D reset of core `n` (R249, R260, R533): registers, CSRs and control fields at their resets, PC at ENTRY, local memory
kept; its CMX lock is released. What the image gave the core, and waits of others, stay. -/
def Dev.coreDReset (s : Dev) (n : Nat) : Dev :=
  let s := s.squash n
  let s := if n < 112 ∧ (s.cmxOf (n / 8)).owner = some (n % 8) then s.cmxRelease (n / 8) else s
  let s := if n < 112 then
      s.setCmx (n / 8) { s.cmxOf (n / 8) with waiters := (s.cmxOf (n / 8)).waiters.filter (· ≠ n % 8) } else s
  let s := s.resetRegs .D fun a => decide (Reg.RCK_CTL n ≤ a) && decide (a < Reg.RCK_CTL n + 0x10)
  let c := s.core n
  s.setCore n { coreDef with pc := s.fget (Reg.RCK_CTL n) Reg.RCK_CTL_ENTRY_f, lmBusy := c.lmBusy, inbox := c.inbox
                             bound := c.bound, role := c.role }

/-- A retained rod returns to ON: each core stays in the wait it asked for, core 0 in IDLE (R244). -/
def Dev.rodReturn (s : Dev) (r : Nat) : Dev :=
  if s.dom (112 + r) == .retain then
    let s := (s.setDom (112 + r) .on).onCore (r * 8) fun c => { c with wantRod := false }
    (List.range 8).foldl (fun s i =>
      let n := r * 8 + i
      let c := s.core n
      if c.st == .retain && c.tgt != 1 then (s.setCore n { c with st := .wait }).setDom n .on
      else if c.st == .retain || s.dom n == .off then s
      else s.setDom n .on) s
  else s

/-- Start core `n` at its PC, or let it stop: RCK_CTL.RUN (R249). A halted or fenced core does not leave its state.
Log 37 (DEDUCED). -/
def Dev.coreRun (s : Dev) (n : Nat) (run : Bool) : Dev :=
  let s := s.fset (Reg.RCK_CTL n) Reg.RCK_CTL_RUN_f run
  let c := s.core n
  if run then (if c.st == .stopped then s.setCore n { c with st := .run } else s)
  else
    match c.st with
    | .run => if c.hold == none && c.stores == [] then s.setCore n { c with st := .stopped } else s
    | .wait => s.setCore n { c with st := .stopped, hold := none, wantRod := false }
    | .retain =>
      let s := if c.tgt ≠ 1 ∧ c.wantRod then s.rodReturn (n / 8) else s
      let s := s.setCore n { c with st := .stopped, hold := none, wantRod := false }
      if c.tgt = 1 then s.setDom n .on else s
    | _ => s

/-- A core whose RUN has been cleared stops once its held instruction has completed and its stores have their responses
(R249). Log 26 (DESIGN CHOICE). -/
def Dev.settle (s : Dev) (n : Nat) : Dev :=
  let c := s.core n
  if s.fbit (Reg.RCK_CTL n) Reg.RCK_CTL_RUN_f then s
  else if c.st == .run && c.hold == none && c.stores == [] then s.setCore n { c with st := .stopped }
  else if c.st == .wait || c.st == .retain then s.coreRun n false
  else s

/-! ### Waits (R242 to R245) -/

/-- A core enters the wait of its WAITCFG.TGT, or goes on at once when an enabled interrupt is pending (R242). The PC
already lies after the WAITM. -/
def Dev.enterWait (s : Dev) (n : Nat) : Dev :=
  if (s.irq n).isSome then s.onCore n fun c => { c with hold := none }
  else
    let c := s.core n
    let s := s.setCore n { c with st := if c.tgt = 1 then .retain else .wait, hold := none, wantRod := c.tgt == 2 }
    if c.tgt = 1 then s.setDom n .retain else s

/-- A rod whose core 0 asked for it retains once its other cores rest and its CMX is idle; core 0's own wake condition comes first
(R244). -/
def Dev.rodRests (s : Dev) (r : Nat) : Bool :=
  (s.core (r * 8)).st == .wait && (s.core (r * 8)).wantRod && (s.irq (r * 8)).isNone && (s.cmxOf r).q == [] &&
  (List.range 7).all fun i => (s.core (r * 8 + 1 + i)).st != .run

/-- The rod's domains and waiting cores retain. -/
def Dev.rodRetain (s : Dev) (r : Nat) : Dev :=
  let s := (List.range 8).foldl (fun s i =>
    let n := r * 8 + i
    let s := s.onCore n fun c => if c.st == .wait then { c with st := .retain } else c
    if s.dom n == .on then s.setDom n .retain else s) s
  s.setDom (112 + r) .retain

/-- The wait of core `n` ends (R243): its domain and its rod are ON and it continues after the WAITM. -/
def Dev.wake (s : Dev) (n : Nat) : Dev :=
  let s := if n < 112 then s.rodReturn (n / 8) else s
  let c := s.core n
  if c.st == .wait || c.st == .retain then
    let s := s.setCore n { c with st := .run, hold := none, wantRod := false }
    if n < 112 then s.setDom n .on else s
  else s

end Sys2Proof.Machine
end

