-- ==== Sys2Proof/Machine/RckScalar.lean ====
section
/-! DEFINITION. Scalar, pointer, predicate, branch and CSR instructions, exceptions and waits of the Reckoner (R219,
R220, R222, R240, R242, R247). Each operation takes the core, the instruction word or words, and the device. -/

namespace Sys2Proof.Machine

/-- The eight ALU functions (R219 OP 0x00). -/
def aluOp (fn : Nat) (x y : Word) : Word :=
  let sh := bits y.toNat 4 0
  match fn with
  | 0 => x + y
  | 1 => x - y
  | 2 => x &&& y
  | 3 => x ||| y
  | 4 => x ^^^ y
  | 5 => x <<< sh
  | 6 => x >>> sh
  | _ => x.sshiftRight sh

def Dev.rckAlu (s : Dev) (n : Nat) (w : Word) : Dev :=
  s.issueReg n 1 w false fun c => c.gw (iD w) (aluOp (iF w) (c.gr (iA w)) (c.gr (iB w)))

/-- The eight ALUX functions (R219 OP 0x01). -/
def aluxOp (fn : Nat) (x y : Word) : Word :=
  match fn with
  | 0 => wordI (satW 24 (x.toInt + y.toInt)).1
  | 1 => wordI (satW 24 (x.toInt - y.toInt)).1
  | 2 => word (x.toNat * y.toNat)
  | 3 => wordI ((x.toInt * y.toInt).fdiv (2 ^ 24))
  | 4 => word (x.toNat * y.toNat / 2 ^ 24)
  | 5 => word (bit (decide (x.toInt < y.toInt)))
  | 6 => word (bit (decide (x.toNat < y.toNat)))
  | _ => word (clz24 x)

def Dev.rckAlux (s : Dev) (n : Nat) (w : Word) : Dev :=
  s.issueReg n 1 w (iF w == 7 && iB w != 0) fun c => c.gw (iD w) (aluxOp (iF w) (c.gr (iA w)) (c.gr (iB w)))

def Dev.rckAddi (s : Dev) (n : Nat) (w : Word) : Dev :=
  s.issueReg n 1 w false fun c => c.gw (iD w) (c.gr (iA w) + wordI (iImm w))

def Dev.rckAndi (s : Dev) (n : Nat) (w : Word) : Dev :=
  s.issueReg n 1 w false fun c => c.gw (iD w) (c.gr (iA w) &&& wordI (iImm w))

/-- SHI (R219): IMM[7:6] SLL, SRL, SRA, ROR by IMM[4:0]; for an amount of 24 to 31 the spec states no result and the value
`fv` is free. Log 17 (DESIGN CHOICE). -/
def shiOp (kind amt : Nat) (x : Word) (fv : Nat) : Word :=
  if amt ≥ 24 then word fv
  else match kind with
    | 0 => x <<< amt
    | 1 => x >>> amt
    | 2 => x.sshiftRight amt
    | _ => x.rotateRight amt

/-- Log 17 (DESIGN CHOICE). -/
def Dev.rckShi (s : Dev) (n : Nat) (w : Word) : Dev :=
  s.issue n 1 w (ib w 5 5 == 1) fun s =>
    let (fv, s) := if ib w 4 0 ≥ 24 then s.free else (0, s)
    s.onCore n fun c => (c.gw (iD w) (shiOp (ib w 7 6) (ib w 4 0) (c.gr (iA w)) fv)).done 1

def Dev.rckMovi (s : Dev) (n : Nat) (w : Word) : Dev :=
  s.issueReg n 1 w false fun c => c.gw (iD w) (wordI (sx 13 (ib w 12 0)))

/-- PALU (R219 OP 0x08): FN 0 PADDG, 1 PSUBP, 2 PSETL, 3 PSETH, 4 PGETL, 5 PGETH, 6 PMOV; FN 7 is reserved, and a pointer
number above 15 has a non-zero bit in a field that must be 0 (R217). Log 15 (DEDUCED). -/
def paluIll (w : Word) : Bool :=
  match iF w with
  | 0 => decide (iD w ≥ 16 ∨ iA w ≥ 16)
  | 1 => decide (iA w ≥ 16 ∨ iB w ≥ 16)
  | 2 => decide (iD w ≥ 16)
  | 3 => decide (iD w ≥ 16)
  | 4 => decide (iA w ≥ 16)
  | 5 => decide (iA w ≥ 16)
  | 6 => decide (iD w ≥ 16 ∨ iA w ≥ 16)
  | _ => true

def Core.palu (c : Core) (w : Word) : Core :=
  let pa := c.pr (iA w)
  match iF w with
  | 0 => c.pw (iD w) (pa + (c.gr (iB w)).signExtend 32)
  | 1 => c.gw (iD w) (wordI (satW 24 ((pa.toNat : Int) - (c.pr (iB w)).toNat)).1)
  | 2 => c.pw (iD w) (BitVec.ofNat 32 (putBits (c.pr (iD w)).toNat 23 0 (c.gr (iA w)).toNat))
  | 3 => c.pw (iD w) (BitVec.ofNat 32 (putBits (c.pr (iD w)).toNat 31 24 (c.gr (iA w)).toNat))
  | 4 => c.gw (iD w) (word pa.toNat)
  | 5 => c.gw (iD w) (word (bits pa.toNat 31 24))
  | _ => c.pw (iD w) pa

def Dev.rckPalu (s : Dev) (n : Nat) (w : Word) : Dev :=
  s.issueReg n 1 w (paluIll w) fun c => c.palu w

def Dev.rckPaddi (s : Dev) (n : Nat) (w : Word) : Dev :=
  s.issueReg n 1 w (decide (iD w ≥ 16 ∨ iA w ≥ 16)) fun c =>
    c.pw (iD w) (c.pr (iA w) + BitVec.ofInt 32 (iImm w))

/-- Condition codes of BR (R219 OP 0x0A). Field a lies in [17:13]. -/
def brTaken (c : Core) (w : Word) : Bool :=
  let x := (c.gr (iD w)).toInt
  match ib w 12 10 with
  | 0 => x == 0
  | 1 => x != 0
  | 2 => decide (x < 0)
  | 3 => decide (x ≥ 0)
  | 4 => decide (x > 0)
  | 5 => decide (x ≤ 0)
  | 6 => c.kr (iD w) != 0
  | _ => c.kr (iD w) == 0

def Dev.rckBr (s : Dev) (n : Nat) (w : Word) : Dev :=
  s.issue n 1 w (decide (ib w 12 10 ≥ 6) && decide (iD w ≥ 8)) fun s => s.onCore n fun c =>
    if brTaken c w then c.goto (c.pc + sx 10 (ib w 9 0)) else c.done 1

def Dev.rckJ (s : Dev) (n : Nat) (w : Word) : Dev :=
  s.issue n 1 w false fun s => s.onCore n fun c =>
    let link := word ((c.pc + 1) % 2 ^ 16)
    (if ib w 17 17 = 1 then c.gw 31 link else c).goto (c.pc + sx 17 (ib w 16 0))

def Dev.rckJr (s : Dev) (n : Nat) (w : Word) : Dev :=
  s.issue n 1 w false fun s => s.onCore n fun c => c.goto (bits (c.gr (iA w)).toNat 15 0)

def Dev.rckJalr (s : Dev) (n : Nat) (w : Word) : Dev :=
  s.issue n 1 w false fun s => s.onCore n fun c =>
    (c.gw (iD w) (word ((c.pc + 1) % 2 ^ 16))).goto (bits (c.gr (iA w)).toNat 15 0)

/-! ### CSR instructions (R219 OP 0x0D, R237, R247) -/

/-- The CSR number of format C, [12:3]. -/
def iCsr (w : Word) : Nat := ib w 12 3

/-- Whether the access raises ILLEGAL: an unimplemented number, or 0x100 and above at rod level. -/
def Dev.csrIll (s : Dev) (n : Nat) (w : Word) : Bool :=
  !csrThere n (iCsr w) || (decide (iCsr w ≥ 0x100) && !(s.core n).machine)

/-- The unit number of a core (R449). Log 24 (DESIGN CHOICE). -/
def coreUnit (n : Nat) : Nat := if n = 112 then 0x7F else n

/-- The value a CSR reads as. Log 24 (DESIGN CHOICE). -/
def Dev.csrRead (s : Dev) (n num : Nat) : Word :=
  let c := s.core n
  match num with
  | 0x008 => word (secOf s.time)
  | 0x00A => word (putBits (c.cs 0xA).toNat 23 23 (bit s.timeValid))
  | 0x00B => word s.us
  | 0x00C => word c.iret
  | 0x00D => word (c.iret / 2 ^ 24)
  | 0x00E => word (coreUnit n * 2 ^ 12 + coreEvt n)
  | 0x00F => word c.inbox
  | 0x100 => word (putBits (c.cs 0x100).toNat 20 20 (bit c.machine))
  | 0x107 => word (s.mip n)
  | _ => c.cs num

/-- Reading TNOW_S latches the nanoseconds of the same instant (R247). -/
def Dev.csrLatch (s : Dev) (n num : Nat) : Dev :=
  if num = 8 then
    s.onCore n fun c => (c.cw 9 (word (nsOf s.time))).cw 0xA (word (nsOf s.time / 2 ^ 24))
  else s

/-- Store a CSR's writable bits; a write to VSTART at rod level is ignored (R237). Log 22 (DEDUCED), 23 (DEDUCED). -/
def Core.csrStore (c : Core) (num : Nat) (v : Word) : Core :=
  if num = 1 && !c.machine then c
  else
    let m := csrMask num
    c.cw num (word ((c.cs num).toNat - ((c.cs num).toNat &&& m) + (v.toNat &&& m)))

/-- Clear bits of MIP: CMXLATE, STERR and SOFT clear; TIMER and NOTICE follow their conditions (R239). Log 22 (DEDUCED). -/
def Core.mipClear (c : Core) (v : Word) : Core :=
  let c1 := c.cw 0x107 ((c.cs 0x107) &&& ~~~(v &&& 0x13))
  if bits v.toNat 1 1 = 1 then { c1 with sterrSeen := false } else c1

def Dev.rckCsrr (s : Dev) (n : Nat) (w : Word) : Dev :=
  s.issue n 1 w (s.csrIll n w) fun s =>
    let v := s.csrRead n (iCsr w)
    (s.csrLatch n (iCsr w)).onCore n fun c => (c.gw (iD w) v).done 1

def Dev.rckCsrw (s : Dev) (n : Nat) (w : Word) : Dev :=
  s.issue n 1 w (s.csrIll n w) fun s => s.onCore n fun c => (c.csrStore (iCsr w) (c.gr (iD w))).done 1

def Dev.rckCsrs (s : Dev) (n : Nat) (w : Word) : Dev :=
  s.issue n 1 w (s.csrIll n w) fun s =>
    let v := s.csrRead n (iCsr w)
    s.onCore n fun c => (c.csrStore (iCsr w) (v ||| c.gr (iD w))).done 1

/-- Log 22 (DEDUCED). -/
def Dev.rckCsrc (s : Dev) (n : Nat) (w : Word) : Dev :=
  s.issue n 1 w (s.csrIll n w) fun s =>
    let v := s.csrRead n (iCsr w)
    s.onCore n fun c =>
      (if iCsr w = 0x107 then c.mipClear (c.gr (iD w)) else c.csrStore (iCsr w) (v &&& ~~~(c.gr (iD w)))).done 1

/-- ECALL (R240): exception 4 with MEPC at the ECALL. -/
def Dev.rckEcall (s : Dev) (n : Nat) (w : Word) : Dev :=
  s.issue n 1 w (iD w != 0 || iCsr w != 0) fun s => s.trap n 4 0 0

/-- ERET (R240): PC = MEPC, MIE = PMIE, level = PPL, INH clears. ILLEGAL at rod level; the Abacist stays at machine level
(R237, R246). -/
def Dev.rckEret (s : Dev) (n : Nat) (w : Word) : Dev :=
  s.issue n 1 w (iD w != 0 || iCsr w != 0 || !(s.core n).machine) fun s =>
    s.onCore n fun c =>
      let ms := (c.cs 0x100).toNat
      let c1 := c.cw 0x100 (word (putBits (putBits ms 23 23 (bits ms 22 22)) 19 19 0))
      ({ c1 with machine := n == 112 || bits ms 21 21 == 1 }).goto (bits (c.cs 0x102).toNat 15 0)

/-- WAITM (R242). It completes outstanding stores first, as FENCE.RW does. On the Abacist it acts on PWR_MODE: with MODE
equal to the present mode it waits as IDLE, else it waits for the mode change (R246, R484). -/
def Dev.rckWaitm (s : Dev) (n : Nat) (w : Word) : Dev :=
  let tgt := if n = 112 then 0 else bits ((s.core n).cs 0x109).toNat 23 22
  s.issue n 1 w (iD w != 0 || iCsr w != 0 || !(s.core n).machine || tgt == 3 || (tgt == 2 && n % 8 != 0)) fun s =>
    let s := s.onCore n fun c => { c.done 1 with tgt := tgt }
    if (s.core n).stores ≠ [] then s.onCore n fun c => { c with hold := some .waitDrain }
    else if n = 112 ∧ s.fget Reg.PWR_MODE Reg.PWR_MODE_MODE_f ≠ s.pwr.mode then
      s.onCore n fun c => { c with st := .wait, hold := some .waitMode }
    else s.enterWait n

/-! ### Fences (R230) -/

/-- FENCE.W and FENCE.RW: hold until every earlier posted store has its response; loads, BSEND and QPUSH have completed
when they let the core go on. Log 26 (DESIGN CHOICE). -/
def Dev.rckFence (s : Dev) (n : Nat) (w : Word) : Dev :=
  s.issue n 1 w (iD w != 0 || iA w != 0 || iB w != 0) fun s =>
    if (s.core n).stores = [] then s.onCore n fun c => c.done 1
    else s.onCore n fun c => { c with hold := some .fence }

/-- FENCE.I: instructions already decoded are discarded (R230, R236). -/
def Dev.rckFenceI (s : Dev) (n : Nat) (w : Word) : Dev :=
  s.issue n 1 w (iD w != 0 || iA w != 0 || iB w != 0) fun s => (s.squash n).onCore n fun c => c.done 1

/-! ### Predicates (R219 OP 0x0F) -/

/-- A mask number above 7 has a non-zero bit in a field that must be 0 (R217). Log 15 (DEDUCED). -/
def kopIll (w : Word) : Bool :=
  match iF w with
  | 4 => decide (iD w ≥ 8)
  | 5 => decide (iA w ≥ 8)
  | 6 => decide (iA w ≥ 8)
  | 7 => decide (iA w ≥ 8)
  | _ => decide (iD w ≥ 8 ∨ iA w ≥ 8 ∨ iB w ≥ 8)

/-- Set bits of a mask. -/
def popcount16 (k : BitVec 16) : Nat := ((List.range 16).filter fun i => bits k.toNat i i == 1).length

def Core.kop (c : Core) (w : Word) : Core :=
  let x := c.kr (iA w)
  let y := c.kr (iB w)
  match iF w with
  | 0 => c.kw (iD w) (x &&& y)
  | 1 => c.kw (iD w) (x ||| y)
  | 2 => c.kw (iD w) (x ^^^ y)
  | 3 => c.kw (iD w) (x &&& ~~~y)
  | 4 => c.kw (iD w) (BitVec.ofNat 16 (c.gr (iA w)).toNat)
  | 5 => c.gw (iD w) (word x.toNat)
  | 6 => c.gw (iD w) (word (((List.range 16).find? fun i => bits x.toNat i i == 1).getD 16))
  | _ => c.gw (iD w) (word (popcount16 x))

def Dev.rckKop (s : Dev) (n : Nat) (w : Word) : Dev := s.issueReg n 1 w (kopIll w) fun c => c.kop w

/-! ### Two-word scalar instructions (R220) -/

def Dev.rckLi (s : Dev) (n : Nat) (w e : Word) : Dev := s.issueReg n 2 w false fun c => c.gw (iD w) e

def Dev.rckLip (s : Dev) (n : Nat) (w e : Word) : Dev :=
  s.issueReg n 2 w (decide (iD w ≥ 16) || iA w != 0) fun c =>
    c.pw (iD w) (BitVec.ofNat 32 (ib w 7 0 * 2 ^ 24 + e.toNat))

/-- Comparisons of BCC; a in [17:13], b in [12:8], CC in [7:5]. -/
def bccTaken (cc : Nat) (x y : Word) : Bool :=
  match cc with
  | 0 => x == y
  | 1 => x != y
  | 2 => decide (x.toInt < y.toInt)
  | 3 => decide (x.toInt ≥ y.toInt)
  | 4 => decide (x.toNat < y.toNat)
  | _ => decide (x.toNat ≥ y.toNat)

def Dev.rckBcc (s : Dev) (n : Nat) (w e : Word) : Dev :=
  s.issue n 2 w (decide (ib w 7 5 ≥ 6) || ib e 23 16 != 0) fun s => s.onCore n fun c =>
    if bccTaken (ib w 7 5) (c.gr (iD w)) (c.gr (iA w)) then c.goto (c.pc + sx 16 (ib e 15 0)) else c.done 2

def Dev.rckJmp (s : Dev) (n : Nat) (w e : Word) : Dev :=
  s.issue n 2 w false fun s => s.onCore n fun c =>
    let link := word ((c.pc + 2) % 2 ^ 16)
    (if ib w 17 17 = 1 then c.gw 31 link else c).goto (ib e 15 0)

end Sys2Proof.Machine
end

