-- ==== Sys2Proof/Machine/RckVector.lean ====
section
/-! DEFINITION. Vector arithmetic, accumulators, masks and conversions of the Reckoner (R207 to R216, R219 to R221, R226).
Vector memory instructions are in Machine/RckMem.lean. -/

namespace Sys2Proof.Machine

/-- Issue of a vector instruction outside the memory group: not on the Abacist, with VSTART = 0, and, when `typed`, with a
valid element type (R207, R226, R246). Log 14 (DESIGN CHOICE). -/
def Dev.issueVec (s : Dev) (n len : Nat) (w : Word) (typed ill : Bool) (f : Core → Core) : Dev :=
  let c := s.core n
  s.issueReg n len w (ill || notAbacist n || c.vstart != 0 || (typed && c.et == 3)) f

/-- Set VSTAT.SAT when `b` (R211, R216). -/
def Core.satIf (c : Core) (b : Bool) : Core := if b then c.cbw 2 23 true else c
/-- Set VSTAT.ASAT when `b` (R213, R216). -/
def Core.asatIf (c : Core) (b : Bool) : Core := if b then c.cbw 2 22 true else c

/-- Saturate an element's components to `et`; W24 has no Q. -/
def satElem (et : Nat) (x : Int × Int) : (Int × Int) × Bool :=
  let i := satW (compBits et) x.1
  let q := satW (compBits et) x.2
  ((i.1, q.1), i.2 || (et != 0 && q.2))

/-- Write the active elements of v_d with the saturated values of `f`, which sees the registers before any is written
(R209, R210, R211). `et` is the type of the result and `cnt` its element count. -/
def Core.vmap (c : Core) (et cnt d : Nat) (active : Nat → Bool) (f : Nat → Int × Int) : Core :=
  let r := (List.range cnt).foldl (fun (r : Core × Bool) i =>
    if active i then
      let (v, b) := satElem et (f i)
      (r.1.setElem et d i v, r.2 || b)
    else r) (c, false)
  (r.1.zeroHigh d).satIf r.2

/-- Element count of the present type and length. -/
def Core.cnt (c : Core) : Nat := elemCount c.et c.long

/-- A masked element-by-element instruction of format V. -/
def Core.vbin (c : Core) (w : Word) (f : Int × Int → Int × Int → Int × Int) : Core :=
  let et := c.et
  c.vmap et c.cnt (iD w) (c.act (iF w)) fun i => f (c.elem et (iA w) i) (c.elem et (iB w) i)

def Dev.rckVadd (s : Dev) (n : Nat) (w : Word) : Dev :=
  s.issueVec n 1 w true false fun c => c.vbin w fun a b => (a.1 + b.1, a.2 + b.2)

def Dev.rckVsub (s : Dev) (n : Nat) (w : Word) : Dev :=
  s.issueVec n 1 w true false fun c => c.vbin w fun a b => (a.1 - b.1, a.2 - b.2)

/-- The conjugate when `j`. -/
def conjIf (j : Bool) (x : Int × Int) : Int × Int := if j then (x.1, -x.2) else x

/-- The exact product of R212: real for W24, complex for C12 and C24. -/
def vprod (et : Nat) (j : Bool) (a b : Int × Int) : Int × Int :=
  if et = 0 then (a.1 * b.1, 0) else cmul a (conjIf j b)

def Core.vmul (c : Core) (w : Word) (j : Bool) : Core :=
  c.vbin w fun a b =>
    let p := vprod c.et j a b
    (rnd c.rmode p.1 c.msh, rnd c.rmode p.2 c.msh)

def Dev.rckVmul (s : Dev) (n : Nat) (w : Word) : Dev := s.issueVec n 1 w true false fun c => c.vmul w false
def Dev.rckVmulj (s : Dev) (n : Nat) (w : Word) : Dev := s.issueVec n 1 w true false fun c => c.vmul w true

/-! ### Accumulators (R213, R214) -/

/-- The accumulator and lane of component I and of Q of element i (R213). -/
def laneI (et d i : Nat) : Nat × Nat := if et = 2 then (d, 2 * i) else (d, i)
def laneQ (et d i : Nat) : Nat × Nat := if et = 2 then (d, 2 * i + 1) else (d + 1, i)

/-- Whether an accumulator number is ILLEGAL: above 3, or odd for a C12 pair (R213, R217). Log 15 (DEDUCED). -/
def accIll (et d : Nat) (pair : Bool) : Bool := decide (d ≥ 4) || (pair && et == 1 && d % 2 == 1)

/-- Add to a lane, saturating to 56 bits (R213). -/
def Core.accAdd (r : Core × Bool) (al : Nat × Nat) (x : Int) : Core × Bool :=
  let v := satW 56 (r.1.ar al.1 al.2 + x)
  (r.1.aw al.1 al.2 v.1, r.2 || v.2)

/-- VMAC and VMACJ (R212, R213). -/
def Core.vmac (c : Core) (w : Word) (j : Bool) : Core :=
  let et := c.et
  let r := (List.range c.cnt).foldl (fun r i =>
    if c.act (iF w) i then
      let p := vprod et j (c.elem et (iA w) i) (c.elem et (iB w) i)
      let r := Core.accAdd r (laneI et (iD w) i) p.1
      if et = 0 then r else Core.accAdd r (laneQ et (iD w) i) p.2
    else r) (c, false)
  r.1.asatIf r.2

def Dev.rckVmac (s : Dev) (n : Nat) (w : Word) : Dev :=
  s.issueVec n 1 w true (accIll (s.core n).et (iD w) true) fun c => c.vmac w false
def Dev.rckVmacj (s : Dev) (n : Nat) (w : Word) : Dev :=
  s.issueVec n 1 w true (accIll (s.core n).et (iD w) true) fun c => c.vmac w true

/-- VPOW (R212, R213): lane i of the named accumulator gains the squared magnitude. -/
def Core.vpow (c : Core) (w : Word) : Core :=
  let et := c.et
  let r := (List.range c.cnt).foldl (fun r i =>
    if c.act (iF w) i then
      let a := c.elem et (iA w) i
      Core.accAdd r (iD w, i) (a.1 * a.1 + a.2 * a.2)
    else r) (c, false)
  r.1.asatIf r.2

def Dev.rckVpow (s : Dev) (n : Nat) (w : Word) : Dev :=
  s.issueVec n 1 w true (accIll 0 (iD w) false || iB w != 0) fun c => c.vpow w

/-- VSEL (R219): every element is written, from v_a when active and else from v_b. -/
def Dev.rckVsel (s : Dev) (n : Nat) (w : Word) : Dev :=
  s.issueVec n 1 w true false fun c =>
    c.vmap c.et c.cnt (iD w) (fun _ => true) fun i =>
      if c.act (iF w) i then c.elem c.et (iA w) i else c.elem c.et (iB w) i

/-- VSHI (R219): IMM[7:6] 0 shift left with saturation, 1 shift right with rnd, 2 arithmetic shift right; per component,
unmasked. -/
def Core.vshi (c : Core) (w : Word) : Core :=
  let amt := ib w 4 0
  let f (x : Int) : Int := match ib w 7 6 with
    | 0 => x * 2 ^ amt
    | 1 => rnd c.rmode x amt
    | _ => x.fdiv (2 ^ amt)
  c.vmap c.et c.cnt (iD w) (fun _ => true) fun i =>
    let a := c.elem c.et (iA w) i
    (f a.1, f a.2)

def Dev.rckVshi (s : Dev) (n : Nat) (w : Word) : Dev :=
  s.issueVec n 1 w true (ib w 7 6 == 3 || ib w 5 5 == 1) fun c => c.vshi w

/-- VEXT (R214): accumulator in [9:8], SH in [7:3]. -/
def Core.vext (c : Core) (w : Word) : Core :=
  let et := c.et
  let acc := ib w 9 8
  c.vmap et c.cnt (iD w) (c.act (iF w)) fun i =>
    let l := laneI et acc i
    let q := laneQ et acc i
    (rnd c.rmode (c.ar l.1 l.2) (iB w), if et = 0 then 0 else rnd c.rmode (c.ar q.1 q.2) (iB w))

def Dev.rckVext (s : Dev) (n : Nat) (w : Word) : Dev :=
  s.issueVec n 1 w true (ib w 12 10 != 0 || accIll (s.core n).et (ib w 9 8) true) fun c => c.vext w

/-- |x|². -/
def mag2 (x : Int × Int) : Int := x.1 * x.1 + x.2 * x.2

/-- VCMP (R219): mask register [17:15], condition [14:13]; inactive bits and bits above the element count become 0. -/
def Core.vcmp (c : Core) (w : Word) : Core :=
  let et := c.et
  let cond (a b : Int × Int) : Bool := match ib w 14 13 with
    | 0 => a == b
    | 1 => a != b
    | 2 => if et = 0 then decide (a.1 < b.1) else decide (mag2 a < mag2 b)
    | _ => if et = 0 then decide (a.1 ≤ b.1) else decide (mag2 a ≤ mag2 b)
  let m := (List.range c.cnt).foldl (fun m i =>
    if c.act (iF w) i && cond (c.elem et (iA w) i) (c.elem et (iB w) i) then m + 2 ^ i else m) 0
  c.kw (ib w 17 15) (BitVec.ofNat 16 m)

def Dev.rckVcmp (s : Dev) (n : Nat) (w : Word) : Dev := s.issueVec n 1 w true false fun c => c.vcmp w

/-- VBC (R219): active elements become g_a; for C24 I = g_a and Q = g_b. -/
def Core.vbc (c : Core) (w : Word) : Core :=
  let x := c.gr (iA w)
  let v : Int × Int := match c.et with
    | 1 => (c12I x, c12Q x)
    | 2 => (x.toInt, (c.gr (iB w)).toInt)
    | _ => (x.toInt, 0)
  c.vmap c.et c.cnt (iD w) (c.act (iF w)) fun _ => v

def Dev.rckVbc (s : Dev) (n : Nat) (w : Word) : Dev := s.issueVec n 1 w true false fun c => c.vbc w

/-! ### Two-word vector instructions (R220) -/

/-- VLOG (R220): bitwise on the words of active elements; EXT[2:0] 5 to 7 are reserved. Log 20 (DESIGN CHOICE). -/
def Core.vlog (c : Core) (w e : Word) : Core :=
  let f (x y : Word) : Word := match ib e 2 0 with
    | 0 => x &&& y
    | 1 => x ||| y
    | 2 => x ^^^ y
    | 3 => x &&& ~~~y
    | _ => ~~~x
  let et := if c.et = 3 then 0 else c.et
  let wpe := elemWords et
  ((List.range (elemCount et c.long * wpe)).foldl (fun r i =>
    if c.act (iF w) (i / wpe) then r.vw (iD w) i (f (c.vr (iA w) i) (c.vr (iB w) i)) else r) c).zeroHigh (iD w)

/-- Log 20 (DESIGN CHOICE). -/
def Dev.rckVlog (s : Dev) (n : Nat) (w e : Word) : Dev :=
  s.issueVec n 2 w false (decide (ib e 2 0 ≥ 5)) fun c => c.vlog w e

/-- The exact values of VARX (R212, R220) for one element, before saturation, and whether the spec states no result for it: a tie
of two different elements in MIN or MAX, the product of a real element and j. Log 18 (DESIGN CHOICE). -/
def varxOp (k et rmode : Nat) (a b : Int × Int) : (Int × Int) × Bool :=
  let lt (x y : Int × Int) : Bool := if et = 0 then decide (x.1 < y.1) else decide (mag2 x < mag2 y)
  let wrap (x : Int) : Int := (BitVec.ofInt (compBits et) x).toInt
  let tie := et != 0 && mag2 a == mag2 b && a != b
  match k with
  | 0 => (if lt b a then b else a, tie)
  | 1 => (if lt a b then b else a, tie)
  | 2 => (((a.1.natAbs : Int), (a.2.natAbs : Int)), false)
  | 3 => ((-a.1, -a.2), false)
  | 4 => ((a.1, -a.2), false)
  | 5 => ((-a.2, a.1), et == 0)
  | 6 => ((a.2, -a.1), et == 0)
  | 7 => ((wrap (a.1 + b.1), wrap (a.2 + b.2)), false)
  | 8 => ((wrap (a.1 - b.1), wrap (a.2 - b.2)), false)
  | _ => ((rnd rmode (a.1 + b.1) 1, rnd rmode (a.2 + b.2) 1), false)

/-- VARX: an element without a stated result takes free components, and whether SAT sets for it is free. Log 18 (DESIGN CHOICE). -/
def Core.varx (c : Core) (fv : Nat → Nat) (w e : Word) : Core :=
  let et := c.et
  let k := ib e 3 0
  let open_ (i : Nat) : Bool := (varxOp k et c.rmode (c.elem et (iA w) i) (c.elem et (iB w) i)).2
  let fr (n : Nat) : Int := (BitVec.ofNat (compBits et) n).toInt
  let c1 := c.vmap et c.cnt (iD w) (c.act (iF w)) fun i =>
    if open_ i then
      if k ≤ 1 then (if fv (3 * i) % 2 = 0 then c.elem et (iA w) i else c.elem et (iB w) i)
      else (fr (fv (3 * i)), fr (fv (3 * i + 1)))
    else (varxOp k et c.rmode (c.elem et (iA w) i) (c.elem et (iB w) i)).1
  c1.satIf ((List.range c.cnt).any fun i => c.act (iF w) i && open_ i && decide (k > 1) && fv (3 * i + 2) % 2 == 1)

/-- Log 19 (DESIGN CHOICE). -/
def Dev.rckVarx (s : Dev) (n : Nat) (w e : Word) : Dev :=
  let k := s.fresh
  if s.issues n then
    ({ s with fresh := s.fresh + 48 }).issueVec n 2 w true (decide (ib e 3 0 ≥ 10)) fun c =>
      c.varx (fun i => Config.free (k + i)) w e
  else s

/-- VCVT (R221): KIND in EXT[3:0], SH in EXT[8:4]; the mask names elements of the result. -/
def Core.vcvt (c : Core) (w e : Word) : Core :=
  let sh := ib e 8 4
  let n24 := elemCount 2 c.long
  let n12 := elemCount 1 c.long
  let a := iA w
  let b := iB w
  let up (x : Int × Int) : Int × Int := (x.1 * 2 ^ sh, x.2 * 2 ^ sh)
  let dn (x : Int × Int) : Int × Int := (rnd c.rmode x.1 sh, rnd c.rmode x.2 sh)
  match ib e 3 0 with
  | 0 => c.vmap 2 n24 (iD w) (c.act (iF w)) fun i => up (c.elem 1 a i)
  | 1 => c.vmap 2 n24 (iD w) (c.act (iF w)) fun i => up (c.elem 1 a (n24 + i))
  | 2 => c.vmap 1 n12 (iD w) (c.act (iF w)) fun i => dn (if i < n24 then c.elem 2 a i else c.elem 2 b (i - n24))
  | 3 => c.vmap 0 n12 (iD w) (c.act (iF w)) fun i => ((c.elem 1 a i).1 * 2 ^ sh, 0)
  | 4 => c.vmap 0 n12 (iD w) (c.act (iF w)) fun i => ((c.elem 1 a i).2 * 2 ^ sh, 0)
  | _ => c.vmap 1 n12 (iD w) (c.act (iF w)) fun i => dn ((c.elem 0 a i).1, (c.elem 0 b i).1)

def Dev.rckVcvt (s : Dev) (n : Nat) (w e : Word) : Dev :=
  s.issueVec n 2 w false (decide (ib e 3 0 ≥ 6)) fun c => c.vcvt w e

/-- VEXP (R215): the smallest headroom of the active components. -/
def Core.vexp (c : Core) (w : Word) : Nat :=
  let et := c.et
  let wd := compBits et
  (List.range c.cnt).foldl (fun m i =>
    if c.act (iF w) i then
      let a := c.elem et (iA w) i
      let h := if et = 0 then headroom wd a.1 else Nat.min (headroom wd a.1) (headroom wd a.2)
      Nat.min m h
    else m) (wd - 1)

def Dev.rckVexp (s : Dev) (n : Nat) (w _e : Word) : Dev :=
  s.issueVec n 2 w true false fun c => c.gw (iD w) (word (c.vexp w))

def Dev.rckVshlv (s : Dev) (n : Nat) (w _e : Word) : Dev :=
  s.issueVec n 2 w true false fun c =>
    let k := bits (c.gr (iB w)).toNat 4 0
    c.vmap c.et c.cnt (iD w) (c.act (iF w)) fun i =>
      let a := c.elem c.et (iA w) i
      (a.1 * 2 ^ k, a.2 * 2 ^ k)

def Dev.rckVshrv (s : Dev) (n : Nat) (w _e : Word) : Dev :=
  s.issueVec n 2 w true false fun c =>
    let k := bits (c.gr (iB w)).toNat 4 0
    c.vmap c.et c.cnt (iD w) (c.act (iF w)) fun i =>
      let a := c.elem c.et (iA w) i
      (rnd c.rmode a.1 k, rnd c.rmode a.2 k)

/-- VPERM (R220): word i of v_d is the word of v_a that word i of v_b names; short indices are [2:0]. K must be 0. -/
def Core.vperm (c : Core) (w : Word) : Core :=
  let cnt := if c.long then 16 else 8
  ((List.range cnt).foldl (fun r i =>
    r.vw (iD w) i (c.vr (iA w) (bits (c.vr (iB w) i).toNat (if c.long then 3 else 2) 0))) c).zeroHigh (iD w)

def Dev.rckVperm (s : Dev) (n : Nat) (w _e : Word) : Dev :=
  s.issueVec n 2 w false (iF w != 0) fun c => c.vperm w

/-- ACLR (R220): every lane of a_d becomes 0. -/
def Dev.rckAclr (s : Dev) (n : Nat) (w _e : Word) : Dev :=
  s.issueVec n 2 w true (decide (iD w ≥ 4)) fun c => (List.range 16).foldl (fun c l => c.aw (iD w) l 0) c

/-- ARED (R220): lane 0 gets the sum of the active lanes of a_d; for C24 lane 0 the sum of I and lane 1 of Q; for C12 lane 0
of each member of the pair; all other lanes 0. Log 21 (DEDUCED). -/
def Core.ared (c : Core) (w : Word) : Core :=
  let et := c.et
  let d := iD w
  let sum (f : Nat → Nat × Nat) : Int :=
    (List.range c.cnt).foldl (fun t i => if c.act (iF w) i then t + c.ar (f i).1 (f i).2 else t) 0
  let i := satW 56 (sum (laneI et d))
  let q := satW 56 (sum (laneQ et d))
  let clr (c : Core) (a : Nat) : Core := (List.range 16).foldl (fun c l => c.aw a l 0) c
  match et with
  | 1 => (((clr (clr c d) (d + 1)).aw d 0 i.1).aw (d + 1) 0 q.1).asatIf (i.2 || q.2)
  | 2 => (((clr c d).aw d 0 i.1).aw d 1 q.1).asatIf (i.2 || q.2)
  | _ => ((clr c d).aw d 0 i.1).asatIf i.2

/-- Log 21 (DEDUCED). -/
def Dev.rckAred (s : Dev) (n : Nat) (w _e : Word) : Dev :=
  s.issueVec n 2 w true (accIll (s.core n).et (iD w) true) fun c => c.ared w

/-- AMOV (R220): a_d = a_a. -/
def Dev.rckAmov (s : Dev) (n : Nat) (w _e : Word) : Dev :=
  s.issueVec n 2 w true (decide (iD w ≥ 4 ∨ iA w ≥ 4)) fun c =>
    (List.range 16).foldl (fun r l => r.aw (iD w) l (c.ar (iA w) l)) c

/-- VGET (R220): g_d = word WORD of v_a. -/
def Dev.rckVget (s : Dev) (n : Nat) (w e : Word) : Dev :=
  s.issueVec n 2 w false false fun c => c.gw (iD w) (c.vr (iA w) (ib e 3 0))

/-- VPUT (R209, R220): word WORD of v_d = g_a, and no other word changes. -/
def Dev.rckVput (s : Dev) (n : Nat) (w e : Word) : Dev :=
  s.issueVec n 2 w false false fun c => c.vw (iD w) (ib e 3 0) (c.gr (iA w))

/-! ### CMX instructions (R253 to R255) -/

/-- The rows and columns an EXT names for SHAPE, or the operation with its fields. -/
def cmxOpOf (fn : Nat) (w e : Word) : CmxOp :=
  if fn = 0 then .shape (ib w 17 15) (ib e 7 4 + 1) (ib e 3 0 + 1)
  else .alu fn (ib w 17 15) (ib w 14 12) (ib w 11 9) (sx 5 (ib e 19 15)) (ib e 14 10) (ib e 9 9 == 1) (ib e 8 8 == 1)
    (ib e 7 7 == 1)

/-- A CMXOP's must-be-zero fields: word 0 [8:0], EXT [6:0], or EXT [19:8] for SHAPE (R253). Log 15 (DEDUCED). -/
def cmxOpIll (fn : Nat) (w e : Word) : Bool :=
  ib w 8 0 != 0 || (if fn = 0 then ib e 19 8 != 0 else ib e 6 0 != 0)

def Dev.rckCmxOp (s : Dev) (fn n : Nat) (w e : Word) : Dev :=
  s.cmxIssue n w (cmxOpIll fn w e) (cmxOpOf fn w e)

def Dev.rckCmxPut (s : Dev) (n : Nat) (w e : Word) : Dev :=
  s.cmxIssue n w (ib w 9 3 != 0 || ib e 17 0 != 0)
    (.put (ib w 12 10) (iF w) (ib e 23 23 == 1) (ib e 22 22 == 1) (ib e 21 18) (iD w))

def Dev.rckCmxGet (s : Dev) (n : Nat) (w e : Word) : Dev :=
  s.cmxIssue n w (ib w 9 3 != 0 || ib e 17 0 != 0)
    (.get (ib w 12 10) (iF w) (ib e 23 23 == 1) (ib e 22 22 == 1) (ib e 21 18) (iD w))

/-! ### CMX control (R257, R258) without the image functions -/

/-- The CMXPUT, CMXGET or CMXOP that two words spell, without a reserved FN or a non-zero bit in a field that must be 0 (R253). -/
def cmxDecode (w e : Word) : Option CmxOp :=
  let seg := ib w 9 3 == 0 && ib e 17 0 == 0
  match ib w 23 18 with
  | 53 => if seg then some (.put (ib w 12 10) (iF w) (ib e 23 23 == 1) (ib e 22 22 == 1) (ib e 21 18) (iD w)) else none
  | 54 => if seg then some (.get (ib w 12 10) (iF w) (ib e 23 23 == 1) (ib e 22 22 == 1) (ib e 21 18) (iD w)) else none
  | 55 => if ib e 23 20 ≤ 8 && !(cmxOpIll (ib e 23 20) w e) then some (cmxOpOf (ib e 23 20) w e) else none
  | _ => none

/-- The must-be-zero bits of a CMXCTL word (R253): word 0 [8:0] and EXT [23:4]. -/
def cmxCtlIll (w e : Word) : Bool := ib w 8 0 != 0 || ib e 23 4 != 0

/-- Whether core `n` owns its rod's CMX. -/
def Dev.cmxOwns (s : Dev) (n : Nat) : Bool := (s.cmxOf (n / 8)).ownedBy (n % 8)

/-- Whether the CMX has committed or discarded every instruction of core `n`. -/
def Dev.cmxDrained (s : Dev) (n : Nat) : Bool := (s.cmxOf (n / 8)).q.all fun e => e.core != n % 8

/-- Issue of a CMXCTL function: unavailable, or not the owner where ownership is needed, raises CMX (R257, R258). -/
def Dev.cmxCtl (s : Dev) (n : Nat) (w e : Word) (owner : Bool) (body : Dev → Dev) : Dev :=
  s.issue n 2 w (cmxCtlIll w e || notAbacist n) fun s =>
    if !s.cmxAvail (n / 8) then s.trapCmx n 4 0
    else if owner && !s.cmxOwns n then s.trapCmx n 1 0
    else body s

/-- Whether the lock is free for a new request: nobody owns it and nobody waits for it (R259). -/
def Cmx.free (x : Cmx) : Bool := x.owner == none && x.waiters == []

def Dev.rckCmxAcq (s : Dev) (n : Nat) (w e : Word) : Dev :=
  s.cmxCtl n w e false fun s =>
    let x := s.cmxOf (n / 8)
    if x.free then (s.setCmx (n / 8) { x with owner := some (n % 8) }).onCore n fun c => c.done 2
    else if x.ownedBy (n % 8) then s.onCore n fun c => c.done 2
    else (s.setCmx (n / 8) { x with waiters := x.waiters ++ [n % 8] }).onCore n fun c => { c with hold := some .cmxAcq }

def Dev.rckCmxAcqt (s : Dev) (n : Nat) (w e : Word) : Dev :=
  s.cmxCtl n w e false fun s =>
    let x := s.cmxOf (n / 8)
    let s := if x.free then s.setCmx (n / 8) { x with owner := some (n % 8) } else s
    let got := s.cmxOwns n
    s.onCore n fun c => (c.gw (iD w) (word (bit got))).done 2

def Dev.rckCmxRel (s : Dev) (n : Nat) (w e : Word) : Dev :=
  s.cmxCtl n w e true fun s =>
    if s.cmxDrained n then
      (s.setCmx (n / 8) { s.cmxOf (n / 8) with owner := none }).onCore n fun c => c.done 2
    else s.onCore n fun c => { c with hold := some .cmxRel }

def Dev.rckCmxSync (s : Dev) (n : Nat) (w e : Word) : Dev :=
  s.cmxCtl n w e true fun s =>
    if s.cmxDrained n then s.onCore n fun c => c.done 2
    else s.onCore n fun c => { c with hold := some .cmxSync }

def Dev.rckCmxLerr (s : Dev) (n : Nat) (w e : Word) : Dev :=
  s.cmxCtl n w e true fun s =>
    let v := s.rget (Reg.CMX_LERR (n / 8))
    let s := (s.fset (Reg.CMX_LERR (n / 8)) Reg.CMX_LERR_VALID_f false).fset (Reg.CMX_LERR (n / 8)) Reg.CMX_LERR_MORE_f false
    s.onCore n fun c => (c.gw (iD w) v).done 2

/-- Write the state image at p in the core's local memory (R264). -/
def Dev.cmxSaveNow (s : Dev) (n p : Nat) : Dev :=
  let img := (s.cmxOf (n / 8)).image (s.fbit (Reg.CMX_STAT (n / 8)) Reg.CMX_STAT_SAT_f)
  let x := (ownWord n p).getD 0
  ((List.range 4128).foldl (fun s i => s.lmWrite n (x + i) (img.getD i 0) allLanes) s).release n id

/-- Words read from local memory; the address of the first double-bit error, if there is one. -/
def Dev.lmReadN (s : Dev) (core a n : Nat) : List Word × Option Nat × Dev :=
  match n with
  | 0 => ([], none, s)
  | n + 1 =>
    match s.lmRead core a with
    | (none, s) => ([], some a, s)
    | (some w, s) =>
      let (ws, bad, s) := s.lmReadN core (a + 1) n
      (w :: ws, bad, s)

/-- Read and check the image at p, then load it; a LOAD_ERR or BADIMAGE leaves the CMX unchanged (R264). -/
def Dev.cmxRestoreNow (s : Dev) (n p : Nat) : Dev :=
  let x := (ownWord n p).getD 0
  let (ws, bad, s) := s.lmReadN n x 4128
  match bad with
  | some a => s.trapAddr n 2 (p + (a - x))
  | none =>
    if imageOk ws then
      let s := s.setCmx (n / 8) ((s.cmxOf (n / 8)).restore ws)
      let s := s.fset (Reg.CMX_STAT (n / 8)) Reg.CMX_STAT_SAT_f (bits (ws.getD 2 0).toNat 23 23 == 1)
      s.release n id
    else s.trapCmx n 5 0

/-- CMXSAVE and CMXRESTORE: an image not wholly in local memory raises ACCESS with p (R258). -/
def Dev.rckCmxImage (s : Dev) (n : Nat) (w e : Word) (save : Bool) : Dev :=
  s.cmxCtl n w e true fun s =>
    let p := ((s.core n).pr (iP w)).toNat
    if (match ownWord n p with | some x => decide (x + 4128 > 0x10000) | none => true) then s.trapAddr n 3 p
    else if s.cmxDrained n then (if save then s.cmxSaveNow n p else s.cmxRestoreNow n p)
    else s.onCore n fun c => { c with hold := some (if save then .cmxSave p else .cmxRestore p) }

def Dev.rckCmxSave (s : Dev) (n : Nat) (w e : Word) : Dev := s.rckCmxImage n w e true
def Dev.rckCmxRestore (s : Dev) (n : Nat) (w e : Word) : Dev := s.rckCmxImage n w e false

/-! ### Events of the coprocessor and the core (R240, R243, R251, R259, R263) -/

/-- A CMX instruction decoded ahead that found the CMX full is offered again (R261). -/
def Dev.offerAhead (s : Dev) (n : Nat) : Dev :=
  let c := s.core n
  match c.ahead.getLast? with
  | some ⟨w, e, none⟩ =>
    match cmxDecode w e with
    | some o =>
      let lens := c.ahead.dropLast.foldl (fun k a => k + 1 + ib a.w 23 23) c.len
      match s.cmxOffer n ((c.pc + lens) % 2 ^ 16) o with
      | (some (tag, rej), s) => s.onCore n fun c => { c with ahead := c.ahead.dropLast ++ [⟨w, e, some (o, tag, rej)⟩] }
      | (none, s) => s
    | none => s
  | _ => s

/-- Cores that waited for their CMX instructions to drain, or for room, go on (R257, R261). -/
def Dev.cmxWaiters (s : Dev) (r : Nat) : Dev :=
  (List.range 8).foldl (fun s i =>
    let n := r * 8 + i
    match (s.core n).hold with
    | some .cmxRel =>
      if s.cmxDrained n then (s.setCmx r { s.cmxOf r with owner := none }).release n id else s
    | some .cmxSync => if s.cmxDrained n then s.release n id else s
    | some (.cmxSave p) => if s.cmxDrained n then s.cmxSaveNow n p else s
    | some (.cmxRestore p) => if s.cmxDrained n then s.cmxRestoreNow n p else s
    | some (.cmxRoom o) =>
      match s.cmxOffer n (s.core n).pc o with
      | (some (tag, rej), s) => (s.onCore n fun c => { c with hold := none }).cmxExec n (cmxWord0 o) o tag rej
      | (none, s) => s
    | _ => if n = 112 then s else s.offerAhead n) s

/-- CMX_COMMIT (R251, R261 to R263): the operation that the CMX executes ends. A squashed one ends in the shadow and is
counted; a CMXPUT needs its data and a CMXGET a core that holds for it. -/
def Dev.cmxCommit (s : Dev) (r : Nat) : Dev :=
  let x := s.cmxOf r
  match x.q with
  | [] => s
  | e :: t =>
    let n := r * 8 + e.core
    let popped := s.setCmx r (if x.releasing ∧ t = [] then { x with q := t, owner := none, releasing := false }
      else { x with q := t })
    if e.squashed then (popped.count (Reg.CMX_SQUASH_LO r) 1).cmxWaiters r
    else match e.op with
      | .put m _ col half idx _ =>
        match e.data with
        | none => s
        | some (ws, mask) =>
          let (R, C) := x.shape m
          let x1 := (List.range 8).foldl (fun x i =>
            let (row, c) := segRC col half idx i
            if bits mask i i = 1 ∧ row < R ∧ c < C then
              { x with el := SMap.set x.el (0, 0) (256 * m + 16 * row + c) (ws.getD (2 * i) 0, ws.getD (2 * i + 1) 0) }
            else x) { x with q := t }
          ((s.setCmx r x1).count (Reg.CMX_OPS_LO r) 1).cmxWaiters r
      | .get m k col half idx d =>
        if (s.core n).hold = some (.cmxGet e.tag) then
          let (R, C) := x.shape m
          let put (c : Core) : Core := (List.range 8).foldl (fun c i =>
            let (row, cc) := segRC col half idx i
            if c.act k i then
              let v : Word × Word := if row < R ∧ cc < C then SMap.get x.el (0, 0) (256 * m + 16 * row + cc) else (0, 0)
              (c.vw d (2 * i) v.1).vw d (2 * i + 1) v.2
            else c) c
          (((popped.count (Reg.CMX_OPS_LO r) 1).release n put).settle n).cmxWaiters r
        else s
      | _ => ((popped.cmxCommitOp r e).count (Reg.CMX_OPS_LO r) 1).cmxWaiters r

/-- CMXACQ_GRANT (R259): the freed lock goes to the first waiting core. -/
def Dev.cmxGrant (s : Dev) (r : Nat) : Dev :=
  let x := s.cmxOf r
  match x.owner, x.waiters with
  | none, i :: t =>
    let s := s.setCmx r { x with owner := some i, waiters := t }
    if (s.core (r * 8 + i)).hold = some .cmxAcq then (s.release (r * 8 + i) id).settle (r * 8 + i) else s
  | _, _ => s

/-- Fencing a CMX (R266): accepted instructions end without commit, the lock is cleared, a core held at a CMXGET or waiting
in CMXACQ takes CMX with cause UNAVAIL. Log 43 (DEDUCED). -/
def Dev.cmxFence (s : Dev) (r : Nat) : Dev :=
  let q := (s.cmxOf r).q
  let s := s.setCmx r { s.cmxOf r with q := [], owner := none, releasing := false, waiters := [], fenced := true }
  let s := (List.range 8).foldl (fun s i =>
    let n := r * 8 + i
    match (s.core n).hold with
    | some (.cmxGet t) => s.trapCmx n 4 (((q.find? fun e => e.tag == t).map fun e => e.op.reg).getD 0)
    | some .cmxAcq => s.trapCmx n 4 0
    | some (.cmxRoom o) => s.trapCmx n 4 o.reg
    | _ => s) s
  s.cmxWaiters r

/-- INTERRUPT_TAKEN (R239, R240): with an enabled pending interrupt, MSTATUS.MIE = 1 and INH = 0, a core between two
instructions, between two elements of a vector memory instruction (R225), or waiting in QPOP, QPUSH or CMXACQ (R233,
R259) enters its handler; what was decoded ahead is squashed. Log 27 (DEDUCED). -/
def Dev.interrupt (s : Dev) (n : Nat) : Dev :=
  let c := s.core n
  let open_ := match c.hold with
    | none => true
    | some (.vmem _) => true
    | some (.qpop ..) => true
    | some (.qpush ..) => true
    | some .cmxAcq => true
    | _ => false
  match s.irq n with
  | none => s
  | some i =>
    if c.st == .run && open_ && s.intReady n then
      let s := s.squash n
      let s := if c.hold = some .cmxAcq then
          s.setCmx (n / 8) { s.cmxOf (n / 8) with waiters := (s.cmxOf (n / 8)).waiters.filter (· ≠ n % 8) } else s
      s.onCore n fun c =>
        let c := match c.hold with
          | some (.vmem v) => c.cw 1 (word ((v.elems.getD 0 (0, 0)).1))
          | _ => c
        c.enter c.pc (2 ^ 23 + i) 0 0 false
    else s

/-- WAIT_WAKE (R243): a wait ends when an interrupt whose MIE bit is 1 is pending. Log 27 (DEDUCED). -/
def Dev.waitWake (s : Dev) (n : Nat) : Dev :=
  let c := s.core n
  if (c.st == .wait || c.st == .retain) && (s.irq n).isSome && c.hold == none then s.wake n else s

end Sys2Proof.Machine
end

