-- ==== Sys2Proof/Machine/Power.lean ====
section
/-! DEFINITION. Power domains, chip modes, supply sets, AVSBus, wake and the slack servo (R94 to R98, R478 to R498).
The start of the device after a wake from OFF is in Machine/Reset.lean. -/

namespace Sys2Proof.Machine

/-- A supply set that is off. -/
def supOff : SupSet := { en := false, pg := false, low := false, avs := false, ready := false, since := 0 }

/-- A supply set that is good since core reset release. -/
def supGood : SupSet := { en := true, pg := true, low := false, avs := true, ready := true, since := 0 }

/-- Milliseconds in units of the time base. -/
def ms (n : Nat) : Nat := n * 1000000 * nsUnit

/-- The end of the window of length `len` that holds time `t` (R96). -/
def windowEnd (t len : Nat) : Nat := (t / len + 1) * len

/-- The power state at core reset release (R530 step 4): mode RUN, both sets good, window of 10 ms. Log 9 (DESIGN CHOICE). -/
def pwrReset : Pwr :=
  { mode := 0, entry := none, entryAt := 0, grpOf := [], grpCmd := [], grpBusy := none, grpAt := 0, named := [],
    resetAtOn := [], oscFrom := none, held := false, main := supGood,
    back := supGood, avs := none, avsNext := [], resend := false, readAt := 0, wake := none, wakeReq := false, resetN := false,
    retryWait := 0, mvMain := 800, mvBack := 800, winLen := ms 10, winEnd := ms 10, worst := none, railed := false }

/-- Update the power state. -/
def Dev.onPwr (s : Dev) (f : Pwr → Pwr) : Dev := { s with pwr := f s.pwr }

/-- A set is good (R490). -/
def SupSet.good (x : SupSet) : Bool := x.en && x.pg && !x.low && x.avs && x.ready

/-- The active set is the backup set. -/
def Dev.selBack (s : Dev) : Bool := s.fbit Reg.SUP_STAT Reg.SUP_STAT_SEL_f

/-- A supply set. -/
def Dev.sup (s : Dev) (back : Bool) : SupSet := if back then s.pwr.back else s.pwr.main

/-- Set a bit of SUP_FAULT. -/
def Dev.supFault (s : Dev) (f : Fld) : Dev := s.fset Reg.SUP_FAULT f true

/-- No backup: NOBACKUP and SUP_NOBACKUP naming the inactive set (R493). -/
def Dev.noBackup (s : Dev) : Dev := (s.supFault Reg.SUP_FAULT_NOBACKUP_f).raise 0x804 (bit !s.selBack)

/-- Whether the inactive set's ceasing to be good is reported: in RUN and QUIET, outside a wake (R493). -/
def Dev.standbyWatched (s : Dev) : Bool := decide (s.pwr.mode ≤ 1) && s.pwr.wake.isNone

/-- Store a supply set; a set that becomes good starts its interval without a break (R490), and the inactive one that stops being good
leaves no backup (R493). -/
def Dev.setSup (s : Dev) (back : Bool) (x : SupSet) : Dev :=
  let was := (s.sup back).good
  let x := if x.good && !was then { x with since := s.elapsed } else x
  let s := s.onPwr fun p => if back then { p with back := x } else { p with main := x }
  if was && !x.good && back != s.selBack && s.standbyWatched then s.noBackup else s

/-- A set has been good without a break for PWR_SWITCHBACK_HOLD (R490, R491). -/
def Dev.goodHeld (s : Dev) (back : Bool) : Bool :=
  (s.sup back).good &&
    decide ((s.sup back).since + ms (Nat.max 1 (s.fget Reg.PWR_SWITCHBACK_HOLD Reg.PWR_SWITCHBACK_HOLD_HOLD_f)) ≤ s.elapsed)

/-! ### AVSBus (R495) -/

/-- The present set-point code. -/
def Dev.code (s : Dev) : Nat := s.fget Reg.PWR_VSET Reg.PWR_VSET_CODE_f

/-- Start a set-point transaction: the active port first (R495). -/
def Dev.avsStart (s : Dev) (code : Nat) : Dev :=
  let b := s.selBack
  let s := s.fput Reg.PWR_VSET Reg.PWR_VSET_CODE_f code
  (s.onPwr fun p => { p with avs := some { code := code, back := b, active := true, since := s.elapsed } }).emit (.avsWrite b code)

/-- Send a code now, or after the transaction that runs and the codes that wait. -/
def Dev.avsSend (s : Dev) (code : Nat) : Dev :=
  if s.pwr.avs.isSome then s.onPwr fun p => { p with avsNext := p.avsNext ++ [code] } else s.avsStart code

/-- A transaction has ended: the standby port follows the active one when it is enabled, else a queued code goes out. -/
def Dev.avsEnd (s : Dev) (t : AvsTx) : Dev :=
  if t.active && (s.sup (!t.back)).en then
    (s.onPwr fun p => { p with avs := some { code := t.code, back := !t.back, active := false, since := s.elapsed } }).emit
      (.avsWrite (!t.back) t.code)
  else
    let s := s.onPwr fun p => { p with avs := none }
    match s.pwr.avsNext with
    | c :: t => (s.onPwr fun p => { p with avsNext := t }).avsStart c
    | [] => s

/-- An AVSBus error of a port (R494, R495). -/
def Dev.avsErr (s : Dev) (back : Bool) : Dev := (s.supFault Reg.SUP_FAULT_AVSERR_f).raise 0x805 (bit back)

/-- AVS_STEP_ACK: the port of the running transaction acknowledges it (R495). -/
def Dev.avsAck (s : Dev) : Dev :=
  match s.pwr.avs with
  | none => s
  | some t =>
    let s := s.setSup t.back { s.sup t.back with avs := true, ready := (s.sup t.back).ready || !t.active }
    let s := match s.pwr.wake with
      | some w => if w.stage == WakeStage.sent then s.onPwr fun p => { p with wake := some { w with stage := .ready } } else s
      | none => s
    s.avsEnd t

/-- AVS_STEP_TIMEOUT: 1 ms without acknowledgment sets AVSERR and raises SUP_AVS_ERR; a standby set stops being good, a wake
goes on at the regulator's start-up voltage (R487 step 4, R495). -/
def Dev.avsTimeout (s : Dev) : Dev :=
  match s.pwr.avs with
  | none => s
  | some t =>
    let s := (s.pass (t.since + ms 1)).avsErr t.back
    let s := if t.active then s else s.setSup t.back { s.sup t.back with avs := false }
    let s := match s.pwr.wake with
      | some w => if w.stage == WakeStage.sent then s.onPwr fun p => { p with wake := some { w with stage := .ready } } else s
      | none => s
    s.avsEnd t

/-! ### The slack servo (R94 to R98) -/

/-- A slack sample in steps of 0.125 %, clamped to -800 to 800 (R94, R95). Log 66 (DEDUCED). -/
def clampSlack (x : Int) : Int := clampI (-800) 800 x

/-- The servo takes a sample: the worst of the window is kept (R96). Log 66 (DEDUCED). -/
def Dev.sample (s : Dev) (x : Int) : Dev :=
  let x := clampSlack x
  s.onPwr fun p => { p with worst := some (match p.worst with | some w => if w < x then w else x | none => x) }

/-- PWR_SLACK_POST (R95). Log 61 (DESIGN CHOICE). -/
def Dev.slackPost (s : Dev) (v : Nat) : Dev := s.sample (sx 12 v)

/-- The servo's window length of PWR_SLACK_WIN; 0 acts as 1. -/
def Dev.winCfg (s : Dev) : Nat := ms (Nat.max 1 (s.fget Reg.PWR_SLACK_WIN Reg.PWR_SLACK_WIN_WIN_f))

/-- Whether a step or a write of PWR_VSET has not been acknowledged by the active port, or waits to be sent (R97, R495). -/
def Dev.unacked (s : Dev) : Bool :=
  s.pwr.avsNext != [] || (match s.pwr.avs with | some t => t.active | none => false)

/-- The end of a slack window (R96, R97, R98). ACTION tells which way the code moved, even where limits narrowed meanwhile bring it in
against the step. After a switch that met a step the present code is sent to both ports (R495). Log 200 (DESIGN CHOICE). -/
def Dev.windowDone (s : Dev) : Dev :=
  let ctl := s.rget Reg.PWR_SERVO_CTL
  let on := getF ctl Reg.PWR_SERVO_CTL_EN_f == 1 && getF ctl Reg.PWR_SERVO_CTL_HOLD_f == 0
  let vmin := getF ctl Reg.PWR_SERVO_CTL_VMIN_f
  let vmax := getF ctl Reg.PWR_SERVO_CTL_VMAX_f
  let floor := sx 12 (s.fget Reg.PWR_SLACK_FLOOR Reg.PWR_SLACK_FLOOR_FLOOR_f)
  let worst := s.pwr.worst
  let step : Int := match worst with
    | none => -1
    | some w => if w > floor then -1 else if w < floor then 1 else 0
  let want : Int := (s.code : Int) + step
  let next := (clampI vmin vmax want).toNat
  let moved := on && !s.unacked && next != s.code
  let action := if !on || s.unacked then 3 else if next = s.code then (if step = 0 then 0 else 3) else if next < s.code then 1 else 2
  let below := match worst with | some w => decide (w < floor) | none => false
  let rail := on && s.code == vmax && below
  let s := s.rset Reg.PWR_SLACK_WORST (word (bit worst.isNone * 2 ^ 23 + action * 2 ^ 21 +
    (BitVec.ofInt 12 (worst.getD 800)).toNat))
  let s := if moved then s.avsSend next else if s.pwr.resend then s.avsSend s.code else s
  let s := s.onPwr fun p => { p with resend := false }
  let s := if rail && !s.pwr.railed then s.raise 0x106 0 else s
  let len := s.winCfg
  let s := (List.range 64).foldl (fun s n => s.fput (Reg.DLQ_STAT n) Reg.DLQ_STAT_WORST_f
    (BitVec.ofInt 12 ((SMap.get s.jobs.worst none n).getD 800)).toNat) s
  let s := { s with jobs := { s.jobs with worst := [] } }
  s.onPwr fun p => { p with worst := none, railed := rail, winLen := len, winEnd := windowEnd s.time len }

/-- SLACK_WINDOW_END: the counter has reached the end boundary of the window in progress (R96); in RETAIN and OFF the servo
does nothing (R495). Log 66 (DEDUCED). -/
def Dev.windowEndOp (s : Dev) : Dev :=
  if decide (s.pwr.winEnd ≤ s.time) && decide (s.pwr.mode ≤ 1) then s.windowDone else s

/-- A SET, SETPPS load or STEP takes the counter backward: the window in progress becomes the one that holds the new time
(R96). -/
def Dev.windowBack (s : Dev) : Dev := s.onPwr fun p => { p with winEnd := windowEnd s.time p.winLen }

/-- The supplies are back: a window whose end has passed meanwhile has ended without a decision (R495), and the one that holds the time
begins with no samples (R96). Log 66 (DEDUCED). -/
def Dev.windowWake (s : Dev) : Dev :=
  if s.pwr.winEnd ≤ s.time ∨ s.time + s.pwr.winLen < s.pwr.winEnd then
    let len := s.winCfg
    { s.onPwr fun p => { p with worst := none, winLen := len, winEnd := windowEnd s.time len } with
      jobs := { s.jobs with worst := [] } }
  else s

/-- A write of PWR_SERVO_CTL (R98): invalid limits change nothing but ERR; ERR clears by writing 1. -/
def Dev.servoCtlWrite (s : Dev) (w : Word) : Dev :=
  let vmax := getF w Reg.PWR_SERVO_CTL_VMAX_f
  let vmin := getF w Reg.PWR_SERVO_CTL_VMIN_f
  let s := if getF w Reg.PWR_SERVO_CTL_ERR_f = 1 then s.fset Reg.PWR_SERVO_CTL Reg.PWR_SERVO_CTL_ERR_f false else s
  if 110 ≤ vmin ∧ vmin ≤ vmax ∧ vmax ≤ 170 then
    let s := s.fput Reg.PWR_SERVO_CTL Reg.PWR_SERVO_CTL_EN_f (getF w Reg.PWR_SERVO_CTL_EN_f)
    let s := s.fput Reg.PWR_SERVO_CTL Reg.PWR_SERVO_CTL_HOLD_f (getF w Reg.PWR_SERVO_CTL_HOLD_f)
    (s.fput Reg.PWR_SERVO_CTL Reg.PWR_SERVO_CTL_VMAX_f vmax).fput Reg.PWR_SERVO_CTL Reg.PWR_SERVO_CTL_VMIN_f vmin
  else s.fset Reg.PWR_SERVO_CTL Reg.PWR_SERVO_CTL_ERR_f true

/-- A write of PWR_VSET: clamped to VMIN to VMAX and sent as a step (R98, R495). -/
def Dev.vsetWrite (s : Dev) (w : Word) : Dev :=
  let lo : Int := s.fget Reg.PWR_SERVO_CTL Reg.PWR_SERVO_CTL_VMIN_f
  let hi : Int := s.fget Reg.PWR_SERVO_CTL Reg.PWR_SERVO_CTL_VMAX_f
  s.avsSend (clampI lo hi (getF w Reg.PWR_VSET_CODE_f : Int)).toNat

/-! ### Domain states (R480, R481) -/

/-- The units of a domain that work can be bound to. -/
def domUnits (d : Nat) : List Nat :=
  if d < 112 then [d]
  else if d < 126 then [0xDC + (d - 112)]
  else if 174 ≤ d ∧ d ≤ 179 then (List.range 4).map (0x80 + (d - 174) * 4 + ·)
  else if 180 ≤ d ∧ d ≤ 183 then (List.range 4).map (0x98 + (d - 180) * 4 + ·)
  else if 184 ≤ d ∧ d ≤ 186 then (List.range 4).map (0xA8 + (d - 184) * 4 + ·)
  else if 187 ≤ d ∧ d ≤ 188 then (List.range 4).map (0xB4 + (d - 187) * 4 + ·)
  else if 189 ≤ d ∧ d ≤ 192 then (List.range 4).map (0xBC + (d - 189) * 4 + ·)
  else if 193 ≤ d ∧ d ≤ 194 then (List.range 4).map (0xCC + (d - 193) * 4 + ·)
  else if 195 ≤ d ∧ d ≤ 202 then [0xD4 + (d - 195)]
  else if d = 203 then [0x820]
  else if d = 205 then [0x200]
  else if d = 206 then [0x201]
  else if 158 ≤ d ∧ d ≤ 173 then [0x1000 + (d - 158)]
  else []

/-- Domains that no command switches and no binding turns off (R481, R530 step 4). -/
def domFixed (d : Nat) : Bool :=
  decide (126 ≤ d ∧ d ≤ 157) || d == 204 || d == 207 || d == 208 || d == 209 || d == 210 || d == 211

/-- Whether a lane quad is assigned to ETHERNET or FABRIC, which QUIET keeps ON (R483). -/
def Dev.quadKept (s : Dev) (q : Nat) : Bool :=
  let p := s.fget (Reg.LAN_QCFG q) Reg.LAN_QCFG_USE_f
  p == 1 || p == 3

/-- Whether QUIET keeps a domain ON (R483). -/
def Dev.quietOn (s : Dev) (d : Nat) : Bool :=
  domFixed d || decide (189 ≤ d ∧ d ≤ 192) || d == 203 ||
    (decide (158 ≤ d ∧ d ≤ 173) && s.quadKept (d - 158)) || SMap.get s.pwr.grpOf none d == some 0

/-- The rule of R480 in force for a domain and the state it gives. Log 174 (DEDUCED). -/
def Dev.domRule (s : Dev) (d : Nat) : Nat × DomSt :=
  let grp := (SMap.get s.pwr.grpOf none d).map fun g => SMap.get s.pwr.grpCmd 1 g
  if s.pwr.mode = 3 then (0, .off)
  else if s.pwr.mode = 2 then (0, .retain)
  else if s.pwr.mode = 1 ∧ ¬ s.quietOn d then (0, .retain)
  else match grp with
    | some 0 => (1, .off)
    | some 2 => (1, .retain)
    | _ =>
      let rod := if d < 112 then d / 8 else d - 112
      if d < 126 ∧ s.rodHeld rod then (2, .retain)
      else if d < 112 ∧ (s.core d).st = .retain then (2, .retain)
      else if domFixed d then (3, .on)
      else if 158 ≤ d ∧ d ≤ 173 ∧ s.bootQuad (d - 158) then (3, .on)
      else if (domUnits d).any fun u => s.pwr.named.contains u && !s.fenced u then (3, .on)
      else (3, .off)

/-- The state of a unit that a domain's OFF loses (R479): its registers and the block state behind them. Cores, matrix
coprocessors and local memories are cleared here; other blocks clear their own state in Machine/Reset.lean. -/
def Dev.coreOff (s : Dev) (n : Nat) : Dev :=
  let s := s.coreDReset n
  let s := s.clearRegs fun a => decide (Reg.RCK_CTL n ≤ a) && decide (a < Reg.RCK_CTL n + 0x10) && a != Reg.RCK_CTL n
  (s.onCore n fun c => { c with lmBusy := true }).lmZero n

/-- LOCAL_MEM_INIT_DONE: the zeroing of a core's local memory has ended and accesses are served (R479). -/
def Dev.lmInitDone (s : Dev) (n : Nat) : Dev := s.onCore n fun c => { c with lmBusy := false }

/-! ### Wake (R486 to R489) -/

/-- Start a wake sequence: EN_MAIN is asserted and PG_MAIN awaited (R487 steps 1 and 2). Log 158 (DEDUCED). -/
def Dev.wakeStart (s : Dev) (source : WakeFrom) (tried : Nat) : Dev :=
  (s.onPwr fun p => { p with
    wake := some { source := source, stage := .pgMain, t0 := s.elapsed, since := s.elapsed, tried := tried }
    wakeReq := false
    main := { supOff with en := true }
    back := supOff
    avs := none
    avsNext := []
    resend := false
    retryWait := 0 })

/-- A wake request (R486): in RETAIN and OFF it starts the sequence; a WAKE_N during a retry wait starts it at once with the
retry count restarted (R488); while a mode is being entered it is kept for the WAITM or the end of entry (R484).
Log 155 (DEDUCED). -/
def Dev.wakeRequest (s : Dev) (pin : Bool) : Dev :=
  match s.pwr.wake with
  | some w => if w.stage == .retry && pin then
      (s.fput Reg.SUP_RETRY Reg.SUP_RETRY_ATTEMPT_f 0).wakeStart w.source 0 else s
  | none =>
    if s.pwr.mode = 2 then s.wakeStart .retain 0
    else if s.pwr.mode = 3 then s.wakeStart .off 0
    else s.onPwr fun p => { p with wakeReq := true }

/-- WAKE_N_REQUEST: WAKE_N has been low for 1 µs and PWR_WAKECFG.WAKEN = 1 (R486). -/
def Dev.wakeNLow (s : Dev) : Dev :=
  if s.fbit Reg.PWR_WAKECFG Reg.PWR_WAKECFG_WAKEN_f then s.wakeRequest true else s

/-- Enter the settling of a set that gave its power-good. -/
def Dev.wakeSettle (s : Dev) (w : Wake) (back : Bool) : Dev :=
  let s := s.setSup back { s.sup back with pg := true }
  let s := s.fset Reg.SUP_STAT Reg.SUP_STAT_SEL_f back
  s.onPwr fun p => { p with wake := some { w with stage := .settle, since := s.elapsed } }

/-- A set's power-good rises: its rails are in range (R569). Log 205 (DEDUCED). -/
def Dev.pgHigh (s : Dev) (back : Bool) : Dev := s.setSup back { s.sup back with pg := true, low := false }

/-- WAKE_PG_RISE: a power-good rises; the set it belongs to becomes active and settles (R487 step 3). Log 205 (DEDUCED). -/
def Dev.pgRise (s : Dev) (back : Bool) : Dev :=
  match s.pwr.wake with
  | some w =>
    if w.stage == .pgMain && !back then s.wakeSettle w false
    else if w.stage == .pgBack && back then s.wakeSettle w true
    else s.pgHigh back
  | none => s.pgHigh back

/-- Both sets have failed (R488): EN pins low, WAKE_FAIL, and a retry after 1 s doubling to 64 s while retries remain. -/
def Dev.wakeFail (s : Dev) (w : Wake) : Dev :=
  let s := s.onPwr fun p => { p with main := supOff, back := supOff }
  let s := (s.supFault Reg.SUP_FAULT_WAKE_FAIL_f).raise 0x802 w.tried
  let s := s.fput Reg.SUP_RETRY Reg.SUP_RETRY_ATTEMPT_f w.tried
  if w.tried < s.fget Reg.PWR_WAKE_RETRY_MAX Reg.PWR_WAKE_RETRY_MAX_MAX_f then
    s.onPwr fun p => { p with wake := some { w with stage := .retry, since := s.elapsed }, retryWait := Nat.min 64 (2 ^ w.tried) }
  else s.onPwr fun p => { p with wake := some { w with stage := .retry, since := s.elapsed }, retryWait := 0 }

/-- PWR_WAKE_REG_TMO in units of the time base; 0 acts as 1. -/
def Dev.regTmo (s : Dev) : Nat :=
  Nat.max 1 (s.fget Reg.PWR_WAKE_REG_TMO Reg.PWR_WAKE_REG_TMO_TMO_f) * 100000 * nsUnit

/-- WAKE_REG_TIMEOUT: PWR_WAKE_REG_TMO passes without the power-good awaited (R487 step 2). -/
def Dev.regTimeout (s : Dev) : Dev :=
  match s.pwr.wake with
  | some w =>
    if w.stage == .pgMain then
      let s := (s.pass (w.since + s.regTmo)).fset Reg.SUP_CTL Reg.SUP_CTL_MAINEN_f false
      s.onPwr fun p => { p with
        main := supOff, back := { supOff with en := true }, wake := some { w with stage := .pgBack, since := s.elapsed } }
    else if w.stage == .pgBack then (s.pass (w.since + s.regTmo)).wakeFail w
    else s
  | none => s

/-- WAKE_RETRY_TIMER: the retry wait expires and the sequence starts again (R488). -/
def Dev.wakeRetry (s : Dev) : Dev :=
  match s.pwr.wake with
  | some w =>
    if w.stage == .retry && s.pwr.retryWait != 0 then
      let s := s.pass (w.since + s.pwr.retryWait * secUnit)
      (s.fput Reg.SUP_RETRY Reg.SUP_RETRY_ATTEMPT_f (w.tried + 1)).wakeStart w.source (w.tried + 1)
    else s
  | none => s

/-- SUP_RETRY.WAIT: seconds to the next retry. -/
def Dev.retrySecs (s : Dev) : Nat :=
  match s.pwr.wake with
  | some w =>
    if w.stage == .retry then (w.since + s.pwr.retryWait * secUnit - s.elapsed + secUnit - 1) / secUnit else 0
  | none => 0

/-- WAKE_SETTLE_END: 100 µs of settling have ended and the code goes to the active port: the code held at entry for RETAIN, 160 after
OFF; the other set is enabled when BACKEN and its enable ask for it (R487 steps 4 and 5). Log 4 (DESIGN CHOICE). -/
def Dev.settleEnd (s : Dev) : Dev :=
  match s.pwr.wake with
  | some w =>
    if w.stage == .settle then
      let s := s.pass (w.since + 100000 * nsUnit)
      let code := match w.source with | .retain => s.code | _ => 160
      let b := s.selBack
      let s := s.setSup b { s.sup b with ready := true, avs := true }
      let other := if b then s.fbit Reg.SUP_CTL Reg.SUP_CTL_MAINEN_f else s.fbit Reg.SUP_CTL Reg.SUP_CTL_BACKEN_f
      let s := if s.fbit Reg.SUP_CTL Reg.SUP_CTL_BACKEN_f && other then s.setSup (!b) { s.sup (!b) with en := true } else s
      (s.onPwr fun p => { p with wake := some { w with stage := .sent } }).avsSend code
    else s
  | none => s

/-! ### Switch-over (R490 to R493) -/

/-- Connect a set: SEL changes and the switch is counted; a step already sent completes on the set that received it, and the next
window sends the present code to both ports (R495). -/
def Dev.switchTo (s : Dev) (back : Bool) : Dev :=
  let s := s.onPwr fun p => { p with resend := p.resend || p.avs.isSome }
  (s.fset Reg.SUP_STAT Reg.SUP_STAT_SEL_f back).count Reg.SUP_SWCNT_LO 1

/-- RAIL_LOW: a rail of a set becomes low, or its PG pin falls (`pgFall`). Of the active set: the device switches when the other
set has been good for PWR_SWITCHBACK_HOLD (R491), else it does not (R493). -/
def Dev.railLow (s : Dev) (back pgFall : Bool) : Dev :=
  let x := s.sup back
  let s1 := s.setSup back (if pgFall then { x with pg := false } else { x with low := true })
  if back = s.selBack then
    if s.goodHeld (!back) then
      ((s1.switchTo (!back)).supFault Reg.SUP_FAULT_SWITCHED_f).raise 0x801 (bit back)
    else s1.noBackup
  else s1

/-- STANDBY_SET_FAIL: the inactive set stops being good in RUN or QUIET (R493). -/
def Dev.standbyFail (s : Dev) : Dev :=
  let b := !s.selBack
  if s.pwr.mode ≤ 1 then s.setSup b { s.sup b with low := true } else s

/-- STANDBY_SET_GOOD: an enabled inactive set's PG rises with its rails in range; after settling it receives the present code
and becomes good, which starts the HOLDOK interval (R487, R490). -/
def Dev.standbyGood (s : Dev) : Dev :=
  let b := !s.selBack
  if (s.sup b).en then
    (s.setSup b { s.sup b with pg := true, low := false, ready := true, avs := true }).emit (.avsWrite b s.code)
  else s

/-- SUP_CTL.SWBACK (R492). -/
def Dev.swBack (s : Dev) : Dev :=
  if s.selBack && s.goodHeld false then (s.switchTo false).raise 0x801 2 else s.supFault Reg.SUP_FAULT_ERR_f

/-- SUP_CTL.SWTEST (R492). -/
def Dev.swTest (s : Dev) : Dev :=
  if !s.selBack && s.goodHeld true then (s.switchTo true).raise 0x801 3 else s.supFault Reg.SUP_FAULT_ERR_f

/-- A write of MAINEN or BACKEN: the enable of the active set is not cleared (R497). -/
def Dev.supEnable (s : Dev) (back en : Bool) : Dev :=
  if back = s.selBack && !en then s.supFault Reg.SUP_FAULT_ERR_f
  else
    let s := s.fset Reg.SUP_CTL (if back then Reg.SUP_CTL_BACKEN_f else Reg.SUP_CTL_MAINEN_f) en
    if back = s.selBack then s
    else s.setSup back (if en then { s.sup back with en := true } else supOff)

/-- A write of SUP_CTL (R492, R497): the switches first, then the enables. Log 161 (DESIGN CHOICE). -/
def Dev.supCtlWrite (s : Dev) (w : Word) : Dev :=
  let s := if getF w Reg.SUP_CTL_SWBACK_f = 1 then s.swBack else s
  let s := if getF w Reg.SUP_CTL_SWTEST_f = 1 then s.swTest else s
  let m := getF w Reg.SUP_CTL_MAINEN_f == 1
  let b := getF w Reg.SUP_CTL_BACKEN_f == 1
  let s := if m != s.fbit Reg.SUP_CTL Reg.SUP_CTL_MAINEN_f then s.supEnable false m else s
  if b != s.fbit Reg.SUP_CTL Reg.SUP_CTL_BACKEN_f then s.supEnable true b else s

/-- AVS_READBACK_TIMER: 10 ms after the last time both outputs are read back; a set within ±15 mV of the present code reads back well
(R490, R494). A Status read that shows a fault sets AVSERR. -/
def Dev.avsReadback (s : Dev) (mvMain mvBack : Nat) (faultMain faultBack : Bool) : Dev :=
  let near (mv : Nat) : Bool := decide (((mv : Int) - s.code * 5).natAbs ≤ 15)
  let s := s.pass (s.pwr.readAt + ms 10)
  let s := s.onPwr fun p => { p with mvMain := mvMain % 2 ^ 16, mvBack := mvBack % 2 ^ 16, readAt := s.elapsed }
  let s := s.setSup false { s.sup false with avs := near mvMain }
  let s := s.setSup true { s.sup true with avs := near mvBack }
  let s := if faultMain then s.avsErr false else s
  if faultBack then s.avsErr true else s

/-! ### Mode entry and group commands (R481, R484, R485) -/

/-- Whether a core rests: in a WAITM, STOPPED, HALTED or fenced (R484). -/
def Dev.coreRests (s : Dev) (n : Nat) : Bool := (s.core n).st != .run

end Sys2Proof.Machine
end

