-- ==== Sys2Proof/Machine/Time.lean ====
section
/-! DEFINITION. The time base: counter, increment, slew, reference, TIME_VALID, time commands, PPS, compare units (R364 to
R383, R579). -/

namespace Sys2Proof.Machine

/-- The time base after a P or C reset: free-running (R368). Log 9 (DESIGN CHOICE). -/
def timReset : TimeBase :=
  { refOk := false, incHeld := none, incNext := none, rem := 0, armed := none, ppsLast := none, ppsFrom := 0, ppsMissed := false
    ppsoSec := 0, ppsoEnd := 0, cmp := [], cmpSkip := [] }

/-- Update the time base. -/
def Dev.onTim (s : Dev) (f : TimeBase → TimeBase) : Dev := { s with tim := f s.tim }

/-- A refused or saturated command or write of the time base. -/
def Dev.timErr (s : Dev) : Dev := s.fset Reg.TIM_CTL Reg.TIM_CTL_ERR_f true

/-- INC in force, in units of 2^-40 ns (R367). -/
def Dev.inc (s : Dev) : Nat := (s.rget Reg.TIM_INC_LO).toNat + (s.rget Reg.TIM_INC_HI).toNat * 2 ^ 24

/-- The slew rate in ppm: 0 acts as 1, above 1,000 as 1,000 (R374, R383). Log 95 (DEDUCED). -/
def Dev.slewRate (s : Dev) : Nat := Nat.min 1000 (Nat.max 1 (s.fget Reg.TIM_SLEW Reg.TIM_SLEW_RATE_f))

/-- What one TCLK edge adds, and the slew that remains (R367, R374). Log 1 (DESIGN CHOICE), 95 (DEDUCED). -/
def Dev.edge (s : Dev) : Nat × Int :=
  let inc := s.inc
  let extra := inc * s.slewRate / 1000000
  let r := s.tim.rem
  if r = 0 then (inc, 0)
  else if r > 0 then
    let x := Nat.min extra r.toNat
    (inc + x, r - x)
  else
    let x := Nat.min extra (-r).toNat
    (inc - x, r + x)

/-- A committed INC comes into force, both words together (R367). -/
def Dev.incTake (s : Dev) : Dev :=
  match s.tim.incNext with
  | none => s
  | some (lo, hi) => ((s.rset Reg.TIM_INC_LO lo).rset Reg.TIM_INC_HI hi).onTim fun x => { x with incNext := none }

/-- One TCLK edge: a committed INC comes into force; the counter and elapsed time advance (R364, R367, R579).
Log 1 (DESIGN CHOICE). -/
def Dev.tclk (s : Dev) : Dev :=
  let s := s.incTake
  let (a, r) := s.edge
  { s with time := (s.time + a) % timeMod, elapsed := s.elapsed + a, tim := { s.tim with rem := r } }

/-! ### TIME_VALID (R369) -/

/-- A change of TIME_VALID from 1 to 0 raises TIME_INVALID. -/
def Dev.invalidate (s : Dev) : Dev :=
  if s.timeValid then ((s.fset Reg.TIM_CTL Reg.TIM_CTL_VALID_f false).raise 0x103 0).lncHold else s

/-! ### Compare units (R379) -/

/-- The committed target of compare unit k. -/
def Dev.cmpTarget (s : Dev) (k : Nat) : Nat × Nat := SMap.get s.tim.cmp (0, 0) k

/-- Store the target of compare unit k, committed and in its registers. -/
def Dev.setCmp (s : Dev) (k : Nat) (t : Nat × Nat) : Dev :=
  let s := ((s.rset (Reg.TIM_CMP_TS k) (word t.1)).rset (Reg.TIM_CMP_TNSL k) (word t.2)).rset (Reg.TIM_CMP_TNSH k)
    (word (t.2 / 2 ^ 24))
  s.onTim fun x => { x with cmp := SMap.set x.cmp (0, 0) k t }

/-- A target plus nanoseconds, with the carry of R364. -/
def addNs (t : Nat × Nat) (ns : Nat) : Nat × Nat :=
  ((t.1 + (t.2 + ns) / 1000000000) % 2 ^ 24, (t.2 + ns) % 1000000000)

/-- The period of a compare unit; below 1,000 ns it acts as 1,000 ns. -/
def Dev.cmpPeriod (s : Dev) (k : Nat) : Nat :=
  Nat.max 1000 ((s.rget (Reg.TIM_CMP_PERL k)).toNat + s.fget (Reg.TIM_CMP_PERH k) Reg.TIM_CMP_PERH_PERH_f * 2 ^ 24)

/-- The smallest whole number of periods, at least `least`, that makes a target not due. -/
def periodsPast (t : Nat × Nat) (per now : Nat) (least : Nat) : Nat :=
  let d := diff69 t.1 t.2 now
  if d > 0 then least else Nat.max least ((-d).toNat / per + 1)

/-- A field of a compare unit's control register. -/
def Dev.cmpBit (s : Dev) (k : Nat) (f : Fld) : Bool := s.fbit (Reg.TIM_CMP_CTL k) f

/-- Whether compare unit k is due: armed, its target due, and TIME_VALID set unless WAKE = 1 (R370, R379). -/
def Dev.cmpDue (s : Dev) (k : Nat) : Bool :=
  let t := s.cmpTarget k
  s.cmpBit k Reg.TIM_CMP_CTL_EN_f && due69 t.1 t.2 s.time &&
    (s.timeValid || s.cmpBit k Reg.TIM_CMP_CTL_WAKE_f || !(s.cmpBit k Reg.TIM_CMP_CTL_NOTE_f))

/-- COMPARE_DUE: notice, wake request, DUE, and the next target or EN cleared (R379, R486). -/
def Dev.compareDue (s : Dev) (k : Nat) : Dev :=
  if s.cmpDue k then
    let t := s.cmpTarget k
    let skip := s.tim.cmpSkip.contains k
    let d := s.rget (Reg.TIM_CMP_DEST k)
    let s := if s.cmpBit k Reg.TIM_CMP_CTL_NOTE_f then
        let s := s.sendTo 0x220 0x18 (getF d Reg.TIM_CMP_DEST_DEVICE_f) (getF d Reg.TIM_CMP_DEST_UNIT_f) 0
          [word (bit skip * 16 + k), word t.1, word t.2, word (t.2 / 2 ^ 24)]
        s.onTim fun x => { x with cmpSkip := x.cmpSkip.filter (· ≠ k) }
      else s
    let s := if s.cmpBit k Reg.TIM_CMP_CTL_WAKE_f && s.fbit Reg.PWR_WAKECFG Reg.PWR_WAKECFG_CMPW_f then s.wakeRequest false
      else s
    let s := s.fset (Reg.TIM_CMP_CTL k) Reg.TIM_CMP_CTL_DUE_f true
    if s.cmpBit k Reg.TIM_CMP_CTL_PER_f then
      let per := s.cmpPeriod k
      let t1 := addNs t per
      let more := periodsPast t1 per s.time 0
      let s := s.setCmp k (addNs t1 (more * per))
      if more = 0 then s
      else
        (s.fset (Reg.TIM_CMP_CTL k) Reg.TIM_CMP_CTL_SKIP_f true).onTim fun x =>
          { x with cmpSkip := if x.cmpSkip.contains k then x.cmpSkip else x.cmpSkip ++ [k] }
    else s.fset (Reg.TIM_CMP_CTL k) Reg.TIM_CMP_CTL_EN_f false
  else s

/-- When TIME_VALID sets, a periodic unit with NOTE = 1 and WAKE = 0 whose target has passed moves on without firing
(R379). -/
def Dev.cmpResync (s : Dev) : Dev :=
  (List.range 16).foldl (fun s k =>
    let t := s.cmpTarget k
    if s.cmpBit k Reg.TIM_CMP_CTL_EN_f && s.cmpBit k Reg.TIM_CMP_CTL_PER_f && s.cmpBit k Reg.TIM_CMP_CTL_NOTE_f &&
        !(s.cmpBit k Reg.TIM_CMP_CTL_WAKE_f) && due69 t.1 t.2 s.time then
      s.setCmp k (addNs t (periodsPast t (s.cmpPeriod k) s.time 0 * s.cmpPeriod k))
    else s) s

/-- A write of TIM_CMP_TNSH_k stores it and commits the target (R379). -/
def Dev.cmpCommit (s : Dev) (k : Nat) (w : Word) : Dev :=
  let s := s.fput (Reg.TIM_CMP_TNSH k) Reg.TIM_CMP_TNSH_NSH_f w.toNat
  let t := ((s.rget (Reg.TIM_CMP_TS k)).toNat, (s.rget (Reg.TIM_CMP_TNSL k)).toNat + bits w.toNat 5 0 * 2 ^ 24)
  s.onTim fun x => { x with cmp := SMap.set x.cmp (0, 0) k t }

/-- A firmware write of TIM_CTL.VALID: 1 takes effect only with REFOK = 1 and TSET = 1, else it sets ERR; 0 clears (R369). A
Tally target that has passed becomes late (R548). -/
def Dev.validWrite (s : Dev) (v : Bool) : Dev :=
  if v then
    if s.timeValid then s
    else if s.tim.refOk && s.fbit Reg.TIM_CTL Reg.TIM_CTL_TSET_f then
      ((s.fset Reg.TIM_CTL Reg.TIM_CTL_VALID_f true).cmpResync).tlyValid.lncResume
    else s.timErr
  else s.invalidate

/-- A write of TIM_CTL: ERR clears by 1, STEPGUARD is stored, VALID as R369 states. -/
def Dev.timCtlWrite (s : Dev) (w : Word) : Dev :=
  let s := if getF w Reg.TIM_CTL_ERR_f = 1 then s.fset Reg.TIM_CTL Reg.TIM_CTL_ERR_f false else s
  let s := s.fput Reg.TIM_CTL Reg.TIM_CTL_STEPGUARD_f (getF w Reg.TIM_CTL_STEPGUARD_f)
  s.validWrite (getF w Reg.TIM_CTL_VALID_f == 1)

/-! ### Setting and correcting (R371 to R374) -/

/-- The counter jumps (SET, SETPPS load, STEP): TIM_STEP when the nanoseconds change, the step guard (R372), the servo's
window (R96), PPS_OUT gives no edge for skipped seconds (R377). -/
def Dev.jump (s : Dev) (t : Nat) : Dev :=
  let old := s.time
  let dn : Int := ((t / nsUnit : Nat) : Int) - ((old / nsUnit : Nat) : Int)
  let s := { s with time := t }
  let s := if t < old then s.windowBack else s
  let dly := sx 16 (s.fget Reg.TIM_PPSO_DLY Reg.TIM_PPSO_DLY_DLY_f)
  let s := s.onTim fun x => { x with ppsoSec := (((t : Int) + dly * nsUnit) / secUnit).toNat }
  let s := if dn ≠ 0 then s.raise 0x108 0 else s
  if decide (dn.natAbs > s.fget Reg.TIM_CTL Reg.TIM_CTL_STEPGUARD_f * 100) then s.invalidate else s

/-- TIM_SET as a time; none when its nanoseconds are 1,000,000,000 or more (R371). -/
def Dev.timSet (s : Dev) : Option Nat :=
  let sec := (s.rget Reg.TIM_SET_SL).toNat + (s.rget Reg.TIM_SET_SH).toNat * 2 ^ 24
  let ns := (s.rget Reg.TIM_SET_NSL).toNat + s.fget Reg.TIM_SET_NSH Reg.TIM_SET_NSH_NS_f * 2 ^ 24
  if ns < 1000000000 then some (timeOf sec ns) else none

/-- TIM_OFS: a signed 30-bit number of nanoseconds; -2^29, which lies outside the range of R371, acts as -(2^29 - 1).
Log 203 (DESIGN CHOICE). -/
def Dev.timOfs (s : Dev) : Int :=
  max (-(2 ^ 29 - 1)) (sx 30 ((s.rget Reg.TIM_OFS_LO).toNat + s.fget Reg.TIM_OFS_HI Reg.TIM_OFS_HI_OFSH_f * 2 ^ 24))

/-- TIM_CMD SET (R371). -/
def Dev.cmdSet (s : Dev) : Dev :=
  match s.timSet with
  | none => s.timErr
  | some t =>
    let s := s.jump t
    let s := s.fset Reg.TIM_CTL Reg.TIM_CTL_TSET_f true
    s.onTim fun x => { x with armed := none, rem := 0 }

/-- TIM_CMD SETPPS (R371): the load is armed with the present TIM_SET. -/
def Dev.cmdSetpps (s : Dev) : Dev :=
  match s.timSet with
  | none => s.timErr
  | some t => s.onTim fun x => { x with armed := some t }

/-- TIM_CMD STEP (R371). -/
def Dev.cmdStep (s : Dev) : Dev :=
  s.jump (((s.time : Int) + s.timOfs * nsUnit) % timeMod).toNat

/-- The largest remaining slew, (2^29 - 1) ns. -/
def slewMax : Int := (2 ^ 29 - 1) * nsUnit

/-- TIM_CMD SLEW (R371, R374). -/
def Dev.cmdSlew (s : Dev) : Dev :=
  let r := s.tim.rem + s.timOfs * nsUnit
  let s1 := s.onTim fun x => { x with rem := clampI (-slewMax) slewMax r }
  if clampI (-slewMax) slewMax r = r then s1 else s1.timErr

/-- TIM_CMD CANCEL (R371). -/
def Dev.cmdCancel (s : Dev) : Dev := s.onTim fun x => { x with armed := none, rem := 0 }

/-- A write of TIM_CMD. -/
def Dev.timCmdWrite (s : Dev) (w : Word) : Dev :=
  if getF w Reg.TIM_CMD_GO_f = 1 then
    match getF w Reg.TIM_CMD_OP_f with
    | 0 => s.cmdSet
    | 1 => s.cmdSetpps
    | 2 => s.cmdStep
    | 3 => s.cmdSlew
    | 4 => s.cmdCancel
    | _ => s.timErr
  else s

/-- SLEW_END (R374): the edge after which no slew remains. With a remaining slew that one edge removes, that edge is taken; REM
ends at exactly 0. -/
def Dev.slewEnd (s : Dev) : Dev :=
  if s.tim.rem ≠ 0 ∧ s.incTake.edge.2 = 0 then s.tclk else s

/-- TIM_INC_LO: held until TIM_INC_HI is written (R367). -/
def Dev.incLoWrite (s : Dev) (w : Word) : Dev := s.onTim fun x => { x with incHeld := some w }

/-- TIM_INC_COMMIT: the write of TIM_INC_HI commits both words at the next TCLK edge; INC outside 0.75 to 1.5 ns is ignored
and sets ERR (R367). With no held low word the low word in force is kept. Log 203 (DESIGN CHOICE). -/
def Dev.incCommit (s : Dev) (w : Word) : Dev :=
  let lo := s.tim.incHeld.getD (s.rget Reg.TIM_INC_LO)
  let inc := lo.toNat + w.toNat * 2 ^ 24
  let s := s.onTim fun x => { x with incHeld := none }
  if 4 * inc < 3 * nsUnit ∨ 2 * inc > 3 * nsUnit then s.timErr
  else s.onTim fun x => { x with incNext := some (lo, w) }

/-! ### Reference (R367, R368) -/

/-- The step of the counter when TCLK switches: a free value of at most 2 ns, never backward (R366, R368); it is no increment,
so elapsed time leaves it out (R579). Log 203 (DESIGN CHOICE). -/
def Dev.switchStep (s : Dev) : Dev :=
  let (v, s) := s.free
  { s with time := (s.time + v % (2 * nsUnit + 1)) % timeMod }

/-- REF_LOSS: TCLK from the free-running oscillator, REFOK clears, TIME_VALID clears, TIM_REF_LOSS (R368). A reference that is
lost already is not lost again. Log 203 (DESIGN CHOICE). -/
def Dev.refLoss (s : Dev) : Dev :=
  if s.tim.refOk then
    ((s.switchStep.onTim fun x => { x with refOk := false }).invalidate).raise 0x107 0
  else s

/-- REF_RELOCK: a reference of `hz` Hz is there; the PLL relocks and TCLK switches back (R368) when MULT puts TCLK inside 800
to 1,000 MHz (R367). -/
def Dev.refRelock (s : Dev) (hz : Nat) : Dev :=
  let f := hz * s.fget Reg.TIM_REFCFG Reg.TIM_REFCFG_MULT_f
  if !s.tim.refOk && decide (800000000 ≤ f) && decide (f ≤ 1000000000) then
    s.switchStep.onTim fun x => { x with refOk := true }
  else s

/-- A write of TIM_REFCFG: values outside 6 to 100 are ignored and set ERR; a change while the PLL is locked is a reference
loss (R367, R383). -/
def Dev.refcfgWrite (s : Dev) (w : Word) : Dev :=
  let m := getF w Reg.TIM_REFCFG_MULT_f
  if m < 6 ∨ m > 100 then s.timErr
  else if m = s.fget Reg.TIM_REFCFG Reg.TIM_REFCFG_MULT_f then s
  else
    let s1 := s.fput Reg.TIM_REFCFG Reg.TIM_REFCFG_MULT_f m
    if s.tim.refOk then s1.refLoss else s1

/-! ### PPS (R376, R377) -/

/-- Store a time in the five capture registers. -/
def Dev.capture (s : Dev) (t : Nat) (tv : Bool) : Dev :=
  let s := (s.rset Reg.TIM_PPSI_SL (word (secOf t))).rset Reg.TIM_PPSI_SH (word (secOf t / 2 ^ 24))
  let s := s.rset Reg.TIM_PPSI_NSL (word (nsOf t))
  let s := s.rset Reg.TIM_PPSI_NSH (word (nsOf t / 2 ^ 24 + bit tv * 2 ^ 23))
  s.rset Reg.TIM_PPSI_FR (word (fracOf t))

/-- PPS_IN_EDGE: an edge of PPS_IN with its direction and pulse width. `err` is the capture's error in units of 2^-40 ns, which
R376 keeps within ±2.5 ns. The edge is accepted with EN = 1, the polarity of EDGE, 100 ns of width and 500 ms of
elapsed time since the previous one; an armed SETPPS loads. -/
def Dev.ppsEdge (s : Dev) (rising : Bool) (widthNs : Nat) (err : Int) : Dev :=
  let cfg := s.rget Reg.TIM_PPSI_CFG
  let pol := getF cfg Reg.TIM_PPSI_CFG_EDGE_f == (if rising then 0 else 1)
  let gap := match s.tim.ppsLast with | some e => decide (e + ms 500 ≤ s.elapsed) | none => true
  if getF cfg Reg.TIM_PPSI_CFG_EN_f == 1 && pol && decide (widthNs ≥ 100) && gap then
    let dly : Int := sx 16 (getF cfg Reg.TIM_PPSI_CFG_DLY_f) * nsUnit
    let s := s.onTim fun x => { x with ppsLast := some s.elapsed, ppsMissed := false }
    let s := s.rset Reg.TIM_PPSI_CNT (word ((s.rget Reg.TIM_PPSI_CNT).toNat + 1))
    match s.tim.armed with
    | some t =>
      let s := s.jump (((t : Int) + dly) % timeMod).toNat
      let s := s.fset Reg.TIM_CTL Reg.TIM_CTL_TSET_f true
      let s := s.onTim fun x => { x with armed := none, rem := 0 }
      s.capture t s.timeValid
    | none =>
      let e := clampI (-(5 * nsUnit / 2)) (5 * nsUnit / 2) err
      s.capture (((s.time : Int) - dly + e) % timeMod).toNat s.timeValid
  else s

/-- PPS_IN_TIMEOUT: no accepted edge for 1.1 s of elapsed time raises PPS_IN_MISS once (R376). -/
def Dev.ppsTimeout (s : Dev) : Dev :=
  let since := Nat.max (s.tim.ppsLast.getD 0) s.tim.ppsFrom
  if s.fbit Reg.TIM_PPSI_CFG Reg.TIM_PPSI_CFG_EN_f && !s.tim.ppsMissed then
    ((s.pass (since + ms 1100)).onTim fun x => { x with ppsMissed := true }).raise 0x109 0
  else s

/-- A write of TIM_PPSI_CFG: setting EN starts the miss interval; a miss already reported is reported again only after an
accepted edge (R376). -/
def Dev.ppsiCfgWrite (s : Dev) (w : Word) : Dev :=
  let was := s.fbit Reg.TIM_PPSI_CFG Reg.TIM_PPSI_CFG_EN_f
  let s := s.rset Reg.TIM_PPSI_CFG (w &&& word 0xC0FFFF)
  if getF w Reg.TIM_PPSI_CFG_EN_f = 1 ∧ ¬ was then s.onTim fun x => { x with ppsFrom := s.elapsed } else s

/-- The whole second that the counter plus PPSO_DLY has reached. -/
def Dev.ppsoNow (s : Dev) : Nat :=
  (((s.time : Int) + sx 16 (s.fget Reg.TIM_PPSO_DLY Reg.TIM_PPSO_DLY_DLY_f) * nsUnit) / secUnit).toNat

/-- PPS_OUT_PULSE: the counter has reached a whole second minus TIM_PPSO_DLY; the pulse lasts WIDTH ms (R377). -/
def Dev.ppsOut (s : Dev) : Dev :=
  let cfg := s.rget Reg.TIM_PPSO_CFG
  let k := s.ppsoNow
  if getF cfg Reg.TIM_PPSO_CFG_EN_f = 1 ∧ (s.timeValid ∨ getF cfg Reg.TIM_PPSO_CFG_FREE_f = 1) ∧ k ≠ s.tim.ppsoSec then
    let width := Nat.max 1 (getF cfg Reg.TIM_PPSO_CFG_WIDTH_f)
    (s.onTim fun x => { x with ppsoSec := k, ppsoEnd := s.elapsed + ms width }).emit (.ppsOut k)
  else s

/-- The level of PPS_OUT: active from its edge for WIDTH ms, inactive with EN clear, and while TIME_VALID is clear unless
FREE = 1; POL = 1 makes the active level low (R377). -/
def Dev.ppsOutLevel (s : Dev) : Bool :=
  let cfg := s.rget Reg.TIM_PPSO_CFG
  let active := getF cfg Reg.TIM_PPSO_CFG_EN_f == 1 && (s.timeValid || getF cfg Reg.TIM_PPSO_CFG_FREE_f == 1) &&
    decide (s.elapsed < s.tim.ppsoEnd)
  active != (getF cfg Reg.TIM_PPSO_CFG_POL_f == 1)

/-- A write of TIM_PPSO_CFG: setting EN takes edges from the next whole second on. -/
def Dev.ppsoCfgWrite (s : Dev) (w : Word) : Dev :=
  let was := s.fbit Reg.TIM_PPSO_CFG Reg.TIM_PPSO_CFG_EN_f
  let s := s.rset Reg.TIM_PPSO_CFG (w &&& word 0xE0FF00)
  if getF w Reg.TIM_PPSO_CFG_EN_f = 1 ∧ ¬ was then s.onTim fun x => { x with ppsoSec := s.ppsoNow } else s

/-! ### Permission (R375) -/

/-- Whether a register of the TIM window is one of those R375 guards. Log 97 (DEDUCED). -/
def timGuarded (a : Nat) : Bool :=
  a == Reg.TIM_CTL || a == Reg.TIM_REFCFG || a == Reg.TIM_INC_LO || a == Reg.TIM_INC_HI || a == Reg.TIM_SET_SL ||
  a == Reg.TIM_SET_SH || a == Reg.TIM_SET_NSL || a == Reg.TIM_SET_NSH || a == Reg.TIM_CMD || a == Reg.TIM_OFS_LO ||
  a == Reg.TIM_OFS_HI || a == Reg.TIM_SLEW

/-- Whether a requester is the Abacist or the security island of this device. Log 97 (DEDUCED). -/
def Req.trusted (r : Req) : Bool := r == .local 0x7F || r == .local 0x7E

/-- Whether a requester may write the guarded time registers (R375). -/
def Dev.timMay (s : Dev) (r : Req) : Bool :=
  r.trusted || (s.fbit Reg.TIM_WRUNIT Reg.TIM_WRUNIT_VALID_f &&
    r == .local (s.fget Reg.TIM_WRUNIT Reg.TIM_WRUNIT_UNIT_f))

end Sys2Proof.Machine
end

