-- ==== Sys2Proof/Machine/Jobs.lean ====
section
/-! DEFINITION. Beads that reach a unit (R445, R446, R451, R482), deadline queues and their jobs, slack samples (R81 to
R98). -/

namespace Sys2Proof.Machine

/-! ### Arrival of a bead at a unit -/

/-- Whether a bead is a request that a response answers (R450, R451). Log 63 (DEDUCED). -/
def Bead.request (b : Bead) : Bool := !b.rsp && [0x01, 0x02, 0x08, 0x09, 0x10, 0x28].contains b.op

/-- Discard a bead and count it in FAB_BADDST; a request gets an error response with the cause (R451).
Log 62 (DEDUCED), 63 (DEDUCED). -/
def Dev.badDest (s : Dev) (b : Bead) (cause : Nat) : Dev :=
  let s := s.count Reg.FAB_BADDST_LO 1
  if b.request && !b.bcast then s.answerErr b cause else s

/-- Whether beads for a unit are turned away because its domain is held in RETAIN or OFF by R480 rules 1, 2 or 4, or because
it is fenced (R482, R551). -/
def Dev.unitAway (s : Dev) (u : Nat) : Bool :=
  s.fenced u ||
  match unitDomain u with
  | some d => s.dom d != .on && (s.domRule d).1 != 2
  | none => false

/-- A bead for a unit that takes none: a request gets BUSERR, any other bead is counted and raises PWR_DOM_DROP with the domain
(R482, R496). -/
def Dev.domDrop (s : Dev) (b : Bead) : Dev :=
  if b.request then s.answerErr b 5
  else (s.count Reg.PWR_DOMDROP_LO 1).raise 0x808 ((unitDomain b.dunit).getD 0)

/-- A bead reaches the unit it names: it leaves the network; a damaged one, one with an opcode the unit does not take, and one
for a unit that is away are discarded; any other is handed to `k`. Log 62 (DEDUCED). -/
def Dev.arrive (s : Dev) (b : Bead) (takes : Bool) (k : Dev → Dev) : Dev :=
  let s := s.take b
  if !b.ok then s.count Reg.FAB_BADDST_LO 1
  else if s.unitAway b.dunit then s.domDrop b
  else if takes then k s
  else s.badDest b 3

/-! ### Slack (R94, R95) -/

/-- A deadline queue's slack sample, for the servo and for the queue's own worst: none while TIME_VALID is clear and with
NOSERVO = 1 (R92, R94). Log 61 (DESIGN CHOICE). -/
def Dev.dlqSample (s : Dev) (n : Nat) (x : Int) : Dev :=
  if s.timeValid && !(s.fbit (Reg.DLQ_CFG n) Reg.DLQ_CFG_NOSERVO_f) then
    let x := clampSlack x
    let w := match SMap.get s.jobs.worst none n with | some w => if w < x then w else x | none => x
    { s.sample x with jobs := { s.jobs with worst := SMap.set s.jobs.worst none n (some w) } }
  else s

/-- The sample of a completing job: 800 (K - C) / max(K - B, 1) steps of 0.125 % (R94). Where the quotient is not whole the
spec does not say which neighbour it resolves to: a free choice. Log 61 (DESIGN CHOICE). -/
def Dev.slackOf (s : Dev) (key arrived : Word) : Int × Dev :=
  let num := 800 * sdiff 24 key.toNat s.us
  let den := let d := sdiff 24 key.toNat arrived.toNat; if d < 1 then 1 else d
  let fl := num / den
  if fl * den = num then (fl, s)
  else
    let (r, s) := s.free
    (fl + (r % 2 : Nat), s)

/-! ### Deadline queues (R84 to R93) -/

/-- The queue instance of DLQ n. -/
def Dev.dlqQ (s : Dev) (n : Nat) : Nat := s.fget (Reg.DLQ_CFG n) Reg.DLQ_CFG_QUEUE_f

/-- Whether DLQ n is in service (R91). -/
def Dev.dlqOn (s : Dev) (n : Nat) : Bool :=
  s.fbit (Reg.DLQ_CFG n) Reg.DLQ_CFG_EN_f && s.qOn (s.dlqQ n)

/-- A completion status word (R89). -/
def statusWord (outcome : Nat) (late : Bool) (low : Nat) : Word := word (outcome * 2 ^ 22 + bit late * 2 ^ 21 + low % 2 ^ 21)

/-- The bead stored in a job item. Log 60 (DEDUCED). -/
def jobBead (ws : List Word) : Bead :=
  Bead.seal { h0 := ws.getD 0 0, h1 := ws.getD 1 0, h2 := ws.getD 2 0, h3 := ws.getD 3 0, payload := ws.drop 4, crc := 0 }

/-- Whether the microsecond count exceeds a key; never while TIME_VALID is clear (R87, R92). -/
def Dev.keyPast (s : Dev) (key : Word) : Bool := s.timeValid && decide (sdiff 24 key.toNat s.us < 0)

/-- A discarded job: MISSED completion, DLQ_MISS, DEADLINE_MISS, a sample of -100 % (R87, R94). Log 60 (DEDUCED). -/
def Dev.jobMissed (s : Dev) (n : Nat) (b : Bead) : Dev :=
  (((s.answer b false [statusWord 2 false 0]).count (Reg.DLQ_MISS_LO n) 1).raise 0x102 n).dlqSample n (-800)

/-- The words of a queue's head item leave it: RP counts them. -/
def Queue.dropItem (q : Queue) (i : LItem) : Queue :=
  let r := (q.rp + i.words.length) % 2 ^ 19
  { q with items := q.items.erase i, rp := r, rpGray := gray r }

/-- The settings of the queue that holds the items of DLQ n: its order is that of R86, by signed difference. -/
def Dev.dlqCfg (s : Dev) (n : Nat) : QCfg := { s.qcfg (s.dlqQ n) with keymode := 1 }

/-- Discard every head whose deadline has passed (R87). -/
def Dev.dlqExpire (s : Dev) (n fuel : Nat) : Dev :=
  match fuel with
  | 0 => s
  | fuel + 1 =>
    let q := s.queue (s.dlqQ n)
    match q.nextItem (s.dlqCfg n) s.us with
    | none => s
    | some i =>
      if s.keyPast i.key then
        ((s.setQueue (s.dlqQ n) (q.dropItem i)).jobMissed n (jobBead (i.words.drop 2))).dlqExpire n fuel
      else s

/-- HEAD_DEADLINE_EXPIRE: jobs at the head of DLQ n whose deadline has passed are discarded. -/
def Dev.headExpire (s : Dev) (n : Nat) : Dev := s.dlqExpire n ((s.queue (s.dlqQ n)).items.length + 1)

/-- The key a job bead receives at arrival count `us` (R83, R85). Log 59 (DEDUCED). -/
def Dev.jobKey (s : Dev) (n : Nat) (b : Bead) : Word :=
  if b.dlv then word (tagKey b.ver b.tag s.us)
  else word (s.us + 64 * Nat.max 1 (s.fget (Reg.DLQ_CFG n) Reg.DLQ_CFG_DEFDL_f))

/-- A job bead is stamped and queued, or answered MISSED, queue full or queue out of service (R85, R87, R90, R91). -/
def Dev.jobQueue (s : Dev) (b : Bead) : Dev :=
  let n := b.dunit - 0x100
  let key := s.jobKey n b
  let item := key :: word s.us :: b.h0 :: b.h1 :: b.h2 :: b.h3 :: b.payload
  let q := s.dlqQ n
  if !(s.dlqOn n) then
    ((s.answer b false [statusWord 1 false 0x1FFFFE]).count (Reg.DLQ_OFF_LO n) 1).raise 0x10B n
  else if s.keyPast key then s.jobMissed n b
  else if item.length ≤ (s.qcfg q).cap ∧
      (s.queue q).usedGran + granules item.length ≤ (s.qcfg q).cap / 8 then
    (s.qPushWhole q item).2
  else
    ((s.answer b false [statusWord 1 false 0x1FFFFF]).raise 0x104 n).dlqSample n (-800)

/-- JOB_ARRIVAL. Log 59 (DEDUCED). -/
def Dev.jobArrival (s : Dev) (b : Bead) : Dev :=
  s.arrive b (b.op == 0x10 && !b.rsp && decide (0x100 ≤ b.dunit) && decide (b.dunit ≤ 0x13F)) fun s => s.jobQueue b

/-- The jobs a unit runs. -/
def Dev.jobsOf (s : Dev) (u : Nat) : List Job := SMap.get s.jobs.running [] u

/-- Store the jobs a unit runs. -/
def Dev.setJobs (s : Dev) (u : Nat) (js : List Job) : Dev :=
  { s with jobs := { s.jobs with running := SMap.set s.jobs.running [] u js } }

/-- A job leaves its unit. -/
def Dev.dropJob (s : Dev) (u : Nat) (j : Job) : Dev := s.setJobs u ((s.jobsOf u).erase j)

/-- The deadline queue an accelerator unit is bound to while its EN = 1 (R84). -/
def Dev.boundTo (s : Dev) (u : Nat) : Option Nat :=
  let at_ (r : Nat) (en dlq : Fld) : Option Nat := if s.fbit r en then some (s.fget r dlq) else none
  if 0x80 ≤ u ∧ u ≤ 0x97 then at_ (Reg.SPC_CTL (u - 0x80)) Reg.SPC_CTL_EN_f Reg.SPC_CTL_DLQ_f
  else if 0x98 ≤ u ∧ u ≤ 0xA7 then at_ (Reg.TRL_CTL (u - 0x98)) Reg.TRL_CTL_EN_f Reg.TRL_CTL_DLQ_f
  else if 0xA8 ≤ u ∧ u ≤ 0xB3 then at_ (Reg.TRB_CTL (u - 0xA8)) Reg.TRB_CTL_EN_f Reg.TRB_CTL_DLQ_f
  else if 0xB4 ≤ u ∧ u ≤ 0xBB then at_ (Reg.ENC_CTL (u - 0xB4)) Reg.ENC_CTL_EN_f Reg.ENC_CTL_DLQ_f
  else if 0xCC ≤ u ∧ u ≤ 0xD3 then at_ (Reg.RAD_CTL (u - 0xCC)) Reg.RAD_CTL_EN_f Reg.RAD_CTL_DLQ_f
  else none

/-- Jobs a unit runs at a time: four in a spectral engine, one in any other (R133, R171). -/
def pipesOf (u : Nat) : Nat := if 0x80 ≤ u ∧ u ≤ 0x97 then 4 else 1

/-- Whether a unit is bound to DLQ n and free to take a job. -/
def Dev.unitFree (s : Dev) (n u : Nat) : Bool :=
  s.boundTo u == some n && decide ((s.jobsOf u).length < pipesOf u) && !s.fenced u && s.unitOn u

/-- The free unit of DLQ n with the lowest number (R86). -/
def Dev.freeUnit (s : Dev) (n : Nat) : Option Nat := (List.range 0x100).find? fun u => s.unitFree n u

/-- JOB_TAKE: a free unit takes the head item of DLQ n; its granules stay reserved (R86, R87, R332). -/
def Dev.jobTake (s : Dev) (n : Nat) : Dev :=
  if s.dlqOn n then
    let s := s.headExpire n
    let q := s.queue (s.dlqQ n)
    match s.freeUnit n, q.nextItem (s.dlqCfg n) s.us with
    | some u, some i =>
      let q := { q.dropItem i with reserved := q.reserved ++ [(i.seq, granules i.words.length)] }
      let j : Job := { dlq := n, key := i.key, arrived := i.words.getD 1 0, seq := i.seq, bead := i.words.drop 2
                       cfg := s.rget Reg.TRB_CFG }
      let s := s.setQueue (s.dlqQ n) q
      s.setJobs u (s.jobsOf u ++ [j])
    | _, _ => s
  else s

/-- The granules of a running job are free again, unless a reset of the queue has freed them (R332, R336). -/
def Dev.jobFree (s : Dev) (j : Job) : Dev :=
  let q := s.queue (s.dlqQ j.dlq)
  s.setQueue (s.dlqQ j.dlq) { q with reserved := q.reserved.filter fun e => e.1 != j.seq }

/-- A job of unit `u` ends: LATE flag and count, slack sample, completion bead from the unit (R88, R89, R94). The unit is then
free. Log 64 (DESIGN CHOICE). -/
def Dev.jobEnd (s : Dev) (u : Nat) (j : Job) (outcome low : Nat) (rest : List Word) : Dev :=
  let late := s.keyPast j.key
  let b := jobBead j.bead
  let (x, s) := s.slackOf j.key j.arrived
  let s := if late then s.count (Reg.DLQ_LATE_LO j.dlq) 1 else s
  let s := s.dlqSample j.dlq x
  let s := s.send (mkBead (head0 b.ver b.op b.dlv true false) b.sdev b.sunit b.order s.devnum u b.seq b.tag
    (statusWord outcome late low :: rest))
  (s.jobFree j).dropJob u j

/-- A job of a fenced unit returns to its queue with its K, B and arbiter position (R553). -/
def Dev.jobMigrate (s : Dev) (u : Nat) (j : Job) : Dev :=
  let s := (s.jobFree j).dropJob u j
  let q := s.queue (s.dlqQ j.dlq)
  let ws := j.key :: j.arrived :: j.bead
  let r := (q.rp + 2 ^ 19 - ws.length) % 2 ^ 19
  let s := s.setQueue (s.dlqQ j.dlq)
    { q with items := { key := j.key, seq := j.seq, words := ws, full := true } :: q.items, rp := r, rpGray := gray r }
  ((s.count (Reg.DLQ_MIG_LO j.dlq) 1).raise 0x321 j.dlq).headExpire j.dlq

/-- Every running job of a unit migrates. -/
def Dev.jobsMigrate (s : Dev) (u : Nat) : Dev := (s.jobsOf u).foldl (fun s j => s.jobMigrate u j) s

/-- DLQ_STAT_n.DEPTH: items queued, saturating at 4,095. -/
def Dev.dlqDepth (s : Dev) (n : Nat) : Nat :=
  Nat.min 4095 ((s.queue (s.dlqQ n)).items.filter (·.full)).length

end Sys2Proof.Machine
end

