-- ==== Sys2Proof/Machine/Bridge.lean ====
section
/-! DEFINITION. The Ethernet bridge: ports, database, frame buffer, gates, shapers, launch times, egress, MACsec, management
ring, bead frames (R384 to R419). -/

namespace Sys2Proof.Machine

/-! ### Ports -/

/-- A port after reset. Log 9 (DESIGN CHOICE). -/
def portReset : BPort :=
  { link := false, andone := false, rmode := 0, feclock := false, tx := none, deficit := [], drr := none, gates := 255,
    openAt := [], ct := none, opLen := 1, credit := [], lovh := [], refill := 10, refIdx := 0, freeAt := 0 }

/-- The bridge after reset. Log 9 (DESIGN CHOICE). -/
def bridgeReset : Bridge :=
  { ports := [], queues := [], frames := [], nextId := 0, fdb := [], gather := [], txSeq := [], rxSeq := [], sas := [], fh := [] }

/-- Update the bridge. -/
def Dev.onBrg (s : Dev) (f : Bridge → Bridge) : Dev := { s with brg := f s.brg }

/-- Port p. -/
def Dev.bport (s : Dev) (p : Nat) : BPort := SMap.get s.brg.ports portReset p

/-- Update port p. -/
def Dev.onPort (s : Dev) (p : Nat) (f : BPort → BPort) : Dev :=
  s.onBrg fun b => { b with ports := SMap.set b.ports portReset p (f (s.bport p)) }

/-- Whether frames can go out of or come in by port p: bridge and port in service, link up. -/
def Dev.portUp (s : Dev) (p : Nat) : Bool :=
  s.fbit Reg.BRG_GCTL Reg.BRG_GCTL_EN_f && s.fbit (Reg.BRG_PCFG p) Reg.BRG_PCFG_EN_f && (s.bport p).link

/-- The mode in use (R384, R386). -/
def Dev.portMode (s : Dev) (p : Nat) : Nat :=
  let m := s.fget (Reg.BRG_PCFG p) Reg.BRG_PCFG_MODE_f
  if m = 7 then (s.bport p).rmode else m

/-- The time of one octet at the MAC rate, in ps. -/
def Dev.octetPs (s : Dev) (p : Nat) : Nat :=
  match s.portMode p with
  | 1 => 800 | 2 => 800 | 6 => 80 | _ => 320

/-- Whether MACsec protects PTP frames of the port, which then is a boundary-clock port (R411). -/
def Dev.ptpSecured (s : Dev) (p : Nat) : Bool :=
  s.fbit (Reg.BRG_MSEC p) Reg.BRG_MSEC_EN_f && !(s.fbit (Reg.BRG_MSEC p) Reg.BRG_MSEC_PTPBYP_f)

/-- Whether port p is a boundary-clock port (R407, R411). -/
def Dev.ptpBc (s : Dev) (p : Nat) : Bool :=
  decide (p < 16) && (s.fbit (Reg.BRG_PCFG p) Reg.BRG_PCFG_PTPM_f || s.ptpSecured p)

/-- Count an event of port p at the counter's low word. -/
def Dev.pcount (s : Dev) (a : Nat) : Dev := s.count a 1

/-! ### Addresses and the database (R389) -/

/-- A MAC address held in two registers. -/
def Dev.macAt (s : Dev) (lo : Nat) : Nat := (s.rget lo).toNat + (s.rget (lo + 1)).toNat * 2 ^ 24

/-- The bead port's address. -/
def Dev.beadMac (s : Dev) : Nat := s.macAt Reg.BRG_BEADMAC_LO

/-- The management port's address. -/
def Dev.mgmtMac (s : Dev) : Nat := s.macAt Reg.BRG_MGMTMAC_LO

/-- Whether port p is a member of a VID (R388). -/
def Dev.member (s : Dev) (vid p : Nat) : Bool := bits (s.rget (Reg.BRG_VLAN_MEMBER vid)).toNat p p == 1

/-- The entry of an address in a VID. Log 123 (DEDUCED). -/
def Dev.fdbFind (s : Dev) (vid mac : Nat) : Option FdbEntry := s.brg.fdb.find? fun e => e.vid == vid && e.mac == mac

/-- The device's own static entries (R389). Log 123 (DEDUCED). -/
def Dev.ownEntry (s : Dev) (vid mac : Nat) : Option Nat :=
  if mac = s.beadMac ∧ s.member vid 16 then some 16
  else if mac = s.mgmtMac ∧ s.member vid 17 then some 17
  else none

/-- The ports a frame goes to, by the first rule of R389 that applies. -/
def Dev.destPorts (s : Dev) (ingress vid da : Nat) : List Nat :=
  if da = 0x0180C200000E then [17]
  else if 0x0180C2000000 ≤ da ∧ da ≤ 0x0180C200000F then
    (if s.fbit Reg.BRG_GCTL Reg.BRG_GCTL_RSVMGMT_f then [17] else [])
  else
    let ok (p : Nat) : Bool := s.member vid p && p != ingress
    match s.ownEntry vid da with
    | some p => if p = ingress then [] else [p]
    | none => match s.fdbFind vid da with
      | some e => (List.range 18).filter fun p => bits e.mask p p == 1 && ok p
      | none => (List.range 18).filter ok

/-- The VIDs whose member register has been written; every other VID has no member. -/
def Dev.vidsWritten (s : Dev) : List Nat :=
  s.regs.filterMap fun e =>
    if Reg.BRG_VLAN_MEMBER 0 ≤ e.1 ∧ e.1 < Reg.BRG_VLAN_MEMBER 4096 ∧ (e.1 - Reg.BRG_VLAN_MEMBER 0) % 2 = 0 then
      some ((e.1 - Reg.BRG_VLAN_MEMBER 0) / 2) else none

/-- How many of a bucket's four places the device's own static entries take (R389). Log 123 (DEDUCED). -/
def Dev.ownInBucket (s : Dev) (k : Nat) : Nat :=
  (s.vidsWritten.filter fun v => s.member v 16 && fdbBucket v s.beadMac == k).length +
    (s.vidsWritten.filter fun v => s.member v 17 && fdbBucket v s.mgmtMac == k && !(s.member v 16 && s.beadMac == s.mgmtMac)).length

/-- Put an entry into the database; the answer is false when its bucket is full. Log 123 (DEDUCED). -/
def Dev.fdbPut (s : Dev) (e : FdbEntry) : Bool × Dev :=
  let rest := s.brg.fdb.filter fun x => !(x.vid == e.vid && x.mac == e.mac)
  let k := fdbBucket e.vid e.mac
  if (rest.filter fun x => fdbBucket x.vid x.mac == k).length + s.ownInBucket k < 4 then
    (true, s.onBrg fun b => { b with fdb := rest ++ [e] })
  else (false, s)

/-- Learn a source address on its ingress port (R389). -/
def Dev.learn (s : Dev) (p vid sa : Nat) : Dev :=
  let own := (s.ownEntry vid sa).isSome
  let stat := match s.fdbFind vid sa with | some e => e.static | none => false
  if s.fbit (Reg.BRG_PCFG p) Reg.BRG_PCFG_LEARN_f && sa / 2 ^ 40 % 2 == 0 && !own && !stat then
    match s.fdbPut { vid := vid, mac := sa, mask := 2 ^ p, static := false, fresh := s.elapsed } with
    | (true, s) => s
    | (false, s) => s.count Reg.BRG_LEARNFAIL_LO 1
  else s

/-- A command of BRG_FDBCMD (R389, R420). -/
def Dev.fdbRun (s : Dev) (op : Nat) : Dev :=
  let vid := s.fget Reg.BRG_FDBCMD Reg.BRG_FDBCMD_VID_f
  let mac := s.macAt Reg.BRG_FDBMAC_LO
  let err (s : Dev) : Dev := s.fset Reg.BRG_FDBCMD Reg.BRG_FDBCMD_ERR_f true
  match op with
  | 0 =>
    match s.fdbFind vid mac, s.ownEntry vid mac with
    | some e, _ => (s.rset Reg.BRG_FDBMASK (word e.mask)).fset Reg.BRG_FDBCMD Reg.BRG_FDBCMD_STATIC_f e.static
    | none, some p => (s.rset Reg.BRG_FDBMASK (word (2 ^ p))).fset Reg.BRG_FDBCMD Reg.BRG_FDBCMD_STATIC_f true
    | none, none => err s
  | 1 =>
    match s.fdbPut { vid := vid, mac := mac, mask := (s.rget Reg.BRG_FDBMASK).toNat,
                     static := s.fbit Reg.BRG_FDBCMD Reg.BRG_FDBCMD_STATIC_f, fresh := s.elapsed } with
    | (true, s) => s
    | (false, s) => err s
  | 2 =>
    match s.fdbFind vid mac with
    | some e => s.onBrg fun b => { b with fdb := b.fdb.erase e }
    | none => err s
  | _ => s.onBrg fun b => { b with fdb := b.fdb.filter (·.static) }

/-- A write of BRG_FDBCMD. -/
def Dev.fdbWrite (s : Dev) (w : Word) : Dev :=
  let s := if getF w Reg.BRG_FDBCMD_ERR_f = 1 then s.fset Reg.BRG_FDBCMD Reg.BRG_FDBCMD_ERR_f false else s
  let s := s.storeRw Reg.BRG_FDBCMD w
  if getF w Reg.BRG_FDBCMD_GO_f = 1 then s.fdbRun (getF w Reg.BRG_FDBCMD_OP_f) else s

/-- FDB_AGE_OUT: a dynamic entry that no frame has refreshed for AGE seconds is removed (R389). -/
def Dev.fdbAge (s : Dev) (vid mac : Nat) : Dev :=
  let age := s.fget Reg.BRG_GCTL Reg.BRG_GCTL_AGE_f
  match s.fdbFind vid mac with
  | some e =>
    if e.static ∨ age = 0 then s
    else (s.pass (e.fresh + age * secUnit)).onBrg fun b => { b with fdb := b.fdb.erase e }
  | none => s

/-! ### Frame buffer and queues (R391) -/

/-- The frames queued in class t of port p, oldest first. -/
def Dev.fq (s : Dev) (p t : Nat) : List Nat := SMap.get s.brg.queues [] (p * 8 + t)

/-- Store a queue; a class whose queue empties resets its deficit (R397). -/
def Dev.setFq (s : Dev) (p t : Nat) (l : List Nat) : Dev :=
  let s := s.onBrg fun b => { b with queues := SMap.set b.queues [] (p * 8 + t) l }
  if l = [] then s.onPort p fun x => { x with deficit := SMap.set x.deficit 0 t 0 } else s

/-- A frame by number. -/
def Dev.frameOf (s : Dev) (id : Nat) : Option BFrame := s.brg.frames.find? fun f => f.id == id

/-- Cells of 192 octets that hold a frame. -/
def cellsFor (len : Nat) : Nat := Nat.max 1 ((len + 191) / 192)

/-- The lowest `n` free cells; none when the buffer lacks them. Log 124 (DESIGN CHOICE). -/
def Dev.freeCells (s : Dev) (n : Nat) : Option (List Nat) :=
  let used := s.brg.frames.flatMap (·.cells)
  let total := (s.rget Reg.BRG_BUFCELLS).toNat
  let l := ((List.range (Nat.min total (used.length + n))).filter fun c => !used.contains c).take n
  if l.length = n then some l else none

/-- The addresses of the words of a frame in its cells. -/
def Dev.frameAddrs (s : Dev) (f : BFrame) : List Nat :=
  let base := s.getAddr Reg.BRG_BUFBASE_LO
  (List.range ((f.len + 2) / 3)).map fun i => base + f.cells.getD (i / 64) 0 * 64 + i % 64

/-- Write a frame's octets into its cells. Log 124 (DESIGN CHOICE). -/
def Dev.frameStore (s : Dev) (f : BFrame) (l : List Nat) : Dev :=
  ((s.frameAddrs f).zip (octWords l)).foldl (fun s e => (s.memWrite e.1 e.2 allLanes).2) s

/-- Read words at addresses; none after a bus error. -/
def Dev.readWords (s : Dev) (l : List Nat) : Option (List Word) × Dev :=
  match l with
  | [] => (some [], s)
  | a :: t =>
    match s.memRead a with
    | (none, s) => (none, s)
    | (some w, s) =>
      match s.readWords t with
      | (some ws, s) => (some (w :: ws), s)
      | (none, s) => (none, s)

/-- A frame no longer waits for port p; it leaves the buffer with its last port. -/
def Dev.frameLeave (s : Dev) (id p : Nat) : Dev :=
  s.onBrg fun b => { b with
    frames := (b.frames.map fun f => if f.id = id then { f with left := f.left.erase p } else f).filter (·.left != []) }

/-- The transmit report of a TXFRAME bead (R404): outcome, port, egress time. Log 125 (DEDUCED). -/
def Dev.txReport (s : Dev) (rep : Option Bead) (outcome p cross : Nat) (tv : Bool) : Dev :=
  match rep with
  | none => s
  | some b => s.answer b false [word (outcome * 2 ^ 22 + p * 2 ^ 17), word (secOf cross), word (nsOf cross),
      word (nsOf cross / 2 ^ 24), word (bit tv * 2 ^ 23 + fracOf cross)]

/-- A discarded copy of a frame; the egress time and TV of its report are free. Log 125 (DEDUCED). -/
def Dev.txDiscard (s : Dev) (f : BFrame) (p : Nat) : Dev :=
  if f.rep.isNone then s
  else
    let (v, s) := s.free
    s.txReport f.rep 2 p (v / 2 % timeMod) (v % 2 == 1)

/-- Whether a frame leaves port p with a tag. -/
def Dev.tagged (s : Dev) (p : Nat) (f : BFrame) : Bool :=
  !f.raw && bits (s.rget (Reg.BRG_VLAN_UNTAG f.vid)).toNat p p == 0

/-- A field of a class. -/
def Dev.tcBit (s : Dev) (p t : Nat) (f : Fld) : Bool := s.fbit (Reg.BRG_TCCFG p t) f

/-- How far a time lies past a launch time, in units of 2^-40 ns. Log 128 (DESIGN CHOICE). -/
def pastBy (lt : Nat × Nat) (t : Nat) : Int := -(diff69 lt.1 lt.2 t) * nsUnit + (t % nsUnit : Nat)

/-- Remove the head frame of a queue. -/
def Dev.dropHead (s : Dev) (p t : Nat) (f : BFrame) : Dev :=
  ((s.setFq p t (s.fq p t).tail).txDiscard f p).frameLeave f.id p

/-- Discard head frames by their launch times (R402): every one while TIME_VALID is clear; with `check`, one that lies more than
LATEMAX in the past. The head that follows has just become the head; `n` bounds them. Log 129 (DEDUCED). -/
def Dev.ltDrop (s : Dev) (p t n : Nat) (check : Bool) : Dev :=
  match n with
  | 0 => s
  | n + 1 =>
    match (s.fq p t).head?.bind s.frameOf with
    | none => s
    | some f =>
      match (if s.tcBit p t Reg.BRG_TCCFG_TIMED_f then f.lt else none) with
      | none => s
      | some lt =>
        let max := s.fget (Reg.BRG_LTCFG p) Reg.BRG_LTCFG_LATEMAX_f
        if !s.timeValid then ((s.pcount (Reg.BRG_LTDROP_LO p)).dropHead p t f).ltDrop p t n true
        else if check && decide (pastBy lt s.time > (max * 1000 * nsUnit : Nat)) then
          (((s.pcount (Reg.BRG_LTDROP_LO p)).raise 0x612 p).dropHead p t f).ltDrop p t n true
        else s

/-- A frame has just become the head of a queue, or the line has become free for it (R402). -/
def Dev.headCheck (s : Dev) (p t : Nat) : Dev := s.ltDrop p t (s.fq p t).length true

/-- Queue one copy of a stored frame, or discard it (R387, R391, R404). -/
def Dev.enqueue (s : Dev) (f : BFrame) (tc p : Nat) : Dev :=
  let q := s.fq p tc
  let held := (q.filterMap s.frameOf).foldl (fun n g => n + g.cells.length) 0
  let lim := s.fget (Reg.BRG_TCCFG p tc) Reg.BRG_TCCFG_QLIM_f
  if !(s.portUp p) then ((s.pcount (Reg.BRG_LINKDROP_LO p)).txDiscard f p).frameLeave f.id p
  else if f.onestep.isSome ∧ s.ptpSecured p then ((s.pcount (Reg.BRG_TXBAD_LO 16)).txDiscard f p).frameLeave f.id p
  else if lim ≠ 0 ∧ held + f.cells.length > lim then ((s.pcount (Reg.BRG_BUFDROP_LO p)).txDiscard f p).frameLeave f.id p
  else if q = [] then (s.setFq p tc [f.id]).headCheck p tc
  else s.setFq p tc (q ++ [f.id])

/-- Store a frame for external ports and queue a copy at each (R391). -/
def Dev.storeFrame (s : Dev) (f : BFrame) (l : List Nat) (tc : Nat) (ps : List Nat) : Dev :=
  if ps = [] then s
  else match s.freeCells (cellsFor l.length) with
    | none => ps.foldl (fun s p => (s.pcount (Reg.BRG_BUFDROP_LO p)).txDiscard f p) s
    | some cells =>
      let f := { f with id := s.brg.nextId, cells := cells, len := l.length, left := ps }
      let s := (s.onBrg fun b => { b with frames := b.frames ++ [f], nextId := b.nextId + 1 }).frameStore f l
      ps.foldl (fun s p => s.enqueue f tc p) s

/-! ### Internal ports -/

/-- The management port writes a record into its ring and sends a notice (R409). -/
def Dev.mgmtRx (s : Dev) (ingress : Nat) (l : List Nat) (ts : Nat) (tv : Bool) : Dev :=
  let base := s.getAddr Reg.BRG_MGMT_BASE_LO
  let len := (s.rget Reg.BRG_MGMT_LEN).toNat
  let head := (s.rget Reg.BRG_MGMT_HEAD).toNat
  let tail := (s.rget Reg.BRG_MGMT_TAIL).toNat
  let n := 5 + (l.length + 2) / 3
  let start := if head + n ≤ len then head else 0
  let next := (start + n) % len
  let fits := len != 0 && decide (n ≤ len) &&
    (if tail ≤ head then (if start = head then next != tail else decide (n < tail)) else start == head && decide (head + n < tail))
  if fits then
    let rec' := [word (bit tv * 2 ^ 23 + ingress * 2 ^ 17 + l.length), word (secOf ts), word (nsOf ts),
      word (nsOf ts / 2 ^ 24), word (fracOf ts)] ++ octWords l
    let s := (s.memWriteN (base + start) rec').2
    let s := s.rset Reg.BRG_MGMT_HEAD (word next)
    let d := s.rget Reg.BRG_MGMT_DEST
    s.sendTo 0x821 0x18 (getF d Reg.BRG_MGMT_DEST_DEVICE_f) (getF d Reg.BRG_MGMT_DEST_UNIT_f) 0 [word start, word l.length]
  else s.pcount (Reg.BRG_MGMTDROP_LO 17)

/-- The beads of a bead frame, injected in order as coming from endpoint h; the first bad one ends it (R416). -/
def Dev.unpackBeads (s : Dev) (h n : Nat) (ws : List Word) : Dev :=
  match n with
  | 0 => s
  | n + 1 =>
    match ws with
    | [] => s
    | h0 :: h1 :: h2 :: h3 :: t =>
      let len := bits h2.toNat 1 0 * 32 + bits h3.toNat 23 19
      let b : Bead := { h0 := h0, h1 := h1, h2 := h2, h3 := h3, payload := t.take len, crc := t.getD len 0 }
      if len < t.length ∧ b.ok then
        let h2' := word (s.devnum * 2 ^ 14 + (0x840 + h) * 4 + bits h2.toNat 1 0)
        (s.send { b with h2 := h2' }.seal).unpackBeads h n (t.drop (len + 1))
      else s.pcount (Reg.BRG_BEADERR_LO 16)
    | _ => s.pcount (Reg.BRG_BEADERR_LO 16)

/-- A bead frame for the bead port (R416). Log 126 (DEDUCED). -/
def Dev.beadFrame (s : Dev) (l : List Nat) (vid : Nat) : Dev :=
  let ep := (List.range 16).find? fun h =>
    s.fbit (Reg.BRG_HOST h) Reg.BRG_HOST_RXEN_f && s.macAt (Reg.BRG_HOST_MAC_LO h) == frameSa l &&
      (if s.fbit (Reg.BRG_HOST h) Reg.BRG_HOST_TAG_f then s.fget (Reg.BRG_HOST h) Reg.BRG_HOST_VID_f
        else s.fget (Reg.BRG_PVID 16) Reg.BRG_PVID_PVID_f) == vid
  let nw := be (slice l 18 2)
  match ep with
  | some h =>
    if frameDa l = s.beadMac ∧ l.getD 14 0 = 0x46 ∧ l.getD 15 0 = 0x10 then
      let seq := be (slice l 16 2)
      let gap := match SMap.get s.brg.rxSeq none h with | some q => seq != (q + 1) % 65536 | none => false
      let s := if gap then s.pcount (Reg.BRG_FSEQGAP_LO 16) else s
      let s := s.onBrg fun b => { b with rxSeq := SMap.set b.rxSeq none h (some seq) }
      let ws := beWords (slice l 20 (3 * nw))
      s.unpackBeads h nw ws
    else s.pcount (Reg.BRG_BEADERR_LO 16)
  | none => s.pcount (Reg.BRG_BEADERR_LO 16)

/-- A frame reaches the bead port: beads, or fronthaul for the DFE units (R416, R417). -/
def Dev.beadPortRx (s : Dev) (ingress : Nat) (l : List Nat) (vid ts : Nat) (tv : Bool) : Dev :=
  if frameType l = 0x88B5 then s.beadFrame l vid
  else if frameType l = 0xAEFE ∧ frameDa l = s.beadMac then
    s.onBrg fun b => { b with fh := b.fh ++ [{ octets := l.drop 14, time := ts, tv := tv, sa := frameSa l, port := ingress }] }
  else s

/-- Forward a classified frame (R389 to R391, R407): `ps` are its ports. Log 125 (DEDUCED). -/
def Dev.forward (s : Dev) (f : BFrame) (l : List Nat) (tc : Nat) (ps : List Nat) : Dev :=
  let ptp := isPtp l
  let ext := ps.filter fun p => decide (p < 16) && !(ptp && s.ptpBc p)
  let s := s.storeFrame f l tc ext
  let s := if ps.contains 16 then s.beadPortRx f.ingress l f.vid f.its f.tv else s
  let s := if ps.contains 17 then
      s.mgmtRx f.ingress (if s.tagged 17 f then addTag l f.pcp f.dei f.vid else l) f.its f.tv else s
  if ext = [] then s.txDiscard f 31 else s

/-- The class of a PCP at an ingress port (R390). -/
def Dev.classOf (s : Dev) (p pcp : Nat) : Nat := bits (s.rget (Reg.BRG_PCPMAP p)).toNat (3 * pcp + 2) (3 * pcp)

/-- Ingress processing (R388): VID, PCP and DEI of a frame, or none when it is discarded. -/
def Dev.classify (s : Dev) (p : Nat) (l : List Nat) : Option (Nat × Nat × Nat) :=
  let c := s.rget (Reg.BRG_PVID p)
  let aft := getF c Reg.BRG_PVID_AFT_f
  let r := match frameTag l with
    | none => if aft = 1 then none else some (getF c Reg.BRG_PVID_PVID_f, getF c Reg.BRG_PVID_PCP_f, 0)
    | some (pcp, dei, vid) =>
      if vid = 0 then (if aft = 1 then none else some (getF c Reg.BRG_PVID_PVID_f, pcp, dei))
      else if aft = 2 then none else some (vid, pcp, dei)
  match r with
  | some (vid, pcp, dei) => if vid = 0xFFF ∨ ¬ s.member vid p then none else some (vid, pcp, dei)
  | none => none

/-- A frame that a port of the bridge takes in, without stored copy. -/
def frameNew (vid pcp dei ingress ts : Nat) (tv : Bool) : BFrame :=
  { id := 0, cells := [], len := 0, vid := vid, pcp := pcp, dei := dei, raw := false, ingress := ingress, its := ts, tv := tv,
    lt := none, rep := none, onestep := none, left := [] }

/-- Classify a frame that arrives on a port and forward it; `f` adds what the sender asked for. -/
def Dev.ingressFrame (s : Dev) (p : Nat) (l : List Nat) (ts : Nat) (tv : Bool) (tc : Option Nat) (f : BFrame → BFrame) : Dev :=
  match s.classify p l with
  | none => s
  | some (vid, pcp, dei) =>
    let bare := untag l
    let s := if p < 16 then s.learn p vid (frameSa bare) else s
    let ps := if (isPtp bare && s.ptpBc p) || frameType bare == 0x888E then [17] else s.destPorts p vid (frameDa bare)
    s.forward (f (frameNew vid pcp dei p ts tv)) bare (tc.getD (s.classOf p pcp)) ps

/-! ### MACsec (R410 to R412) -/

/-- Whether a frame without tag passes port p in clear: MACsec off, EAPOL, or PTP with PTPBYP = 1. -/
def Dev.inClear (s : Dev) (p : Nat) (bare : List Nat) : Bool :=
  !(s.fbit (Reg.BRG_MSEC p) Reg.BRG_MSEC_EN_f) || frameType bare == 0x888E ||
    (s.fbit (Reg.BRG_MSEC p) Reg.BRG_MSEC_PTPBYP_f && isPtp bare)

/-- Octets that MACsec adds to a frame. -/
def Dev.msecGrow (s : Dev) (p : Nat) : Nat := if s.fbit (Reg.BRG_MSEC p) Reg.BRG_MSEC_TXSCI_f then 32 else 24

/-- Update SAs. -/
def Dev.onSa (s : Dev) (p : Sa → Bool) (f : Sa → Sa) : Dev :=
  s.onBrg fun b => { b with sas := b.sas.map fun a => if p a then f a else a }

/-- Whether an SA is for the cipher that BRG_MSEC_p.CIPHER sets for its port (R410): another one stays unused.
Log 130 (PRESUMED). -/
def Dev.saFits (s : Dev) (a : Sa) : Bool := a.cipher == s.fget (Reg.BRG_MSEC a.port) Reg.BRG_MSEC_CIPHER_f

/-- The transmit association in use. Log 130 (PRESUMED). -/
def Dev.txSa (s : Dev) (p : Nat) : Option Sa := s.brg.sas.find? fun a => a.port == p && a.tx && a.used && s.saFits a

/-- The number of packet numbers a cipher has. -/
def pnMax (cipher : Nat) : Nat := if cipher ≥ 2 then 2 ^ 64 else 2 ^ 32

/-- The confidentiality offset of port p (R410). -/
def Dev.msecOffset (s : Dev) (p : Nat) : Nat :=
  match s.fget (Reg.BRG_MSEC p) Reg.BRG_MSEC_OFFSET_f with | 1 => 30 | 2 => 50 | _ => 0

/-- The IV of a frame: SCI and PN, or for XPN the SSCI and PN with the salt (R410). Log 130 (PRESUMED). -/
def Sa.iv (a : Sa) (sci pn : Nat) : List Nat :=
  if a.cipher ≥ 2 then octets 12 ((a.ssci * 2 ^ 64 + pn % 2 ^ 64) ^^^ a.salt) else octets 12 (sci * 2 ^ 32 + pn % 2 ^ 32)

/-- Whether an SA's cipher takes a 256-bit key. -/
def Sa.wide (a : Sa) : Bool := a.cipher % 2 == 1

/-- A frame under a transmit SA: SecTAG of 8 or 16 octets, enciphered data from the offset on, ICV of 16 octets (R410).
Log 130 (PRESUMED). -/
def Dev.msecSeal (s : Dev) (p : Nat) (a : Sa) (pn : Nat) (l : List Nat) : List Nat :=
  let sc := s.fbit (Reg.BRG_MSEC p) Reg.BRG_MSEC_TXSCI_f
  let conf := s.fbit (Reg.BRG_MSEC p) Reg.BRG_MSEC_CONF_f
  let sci := Config.macsecSci p % 2 ^ 64
  let data := l.drop 12
  let off := if conf then s.msecOffset p else data.length
  let tag := [0x88, 0xE5, bit sc * 32 + bit conf * 12 + a.an, if data.length < 48 then data.length else 0] ++ octets 4 pn ++
    (if sc then octets 8 sci else [])
  let sealed := Config.macsecSeal a.wide a.key (a.iv sci pn) (l.take 12 ++ tag ++ data.take off) (data.drop off)
  l.take 12 ++ tag ++ data.take off ++ fitOctets ((data.drop off).length + 16) sealed

/-- Take a packet number for a frame that starts; none when the association has none left (R412). Log 130 (PRESUMED). -/
def Dev.takePn (s : Dev) (p : Nat) : Option (Sa × Nat) × Dev :=
  match s.txSa p with
  | none => (none, s)
  | some a =>
    if a.pn ≥ pnMax a.cipher then (none, s)
    else
      let left := pnMax a.cipher - (a.pn + 1)
      let warn := !a.warned && decide (left ≤ (s.rget (Reg.BRG_MSEC_PNTHR p)).toNat * 1024)
      let s := s.onSa (fun x => x == a) fun x => { x with pn := x.pn + 1, warned := x.warned || warn }
      (some (a, a.pn), if warn then s.raise 0x615 p else s)

/-- A received frame in clear (R410, R411): `sc` is the receive channel its SCI names. None when MACsec discards it.
Log 130 (PRESUMED). -/
def Dev.msecRx (s : Dev) (p : Nat) (l : List Nat) (sc : Nat) : Option (List Nat) × Dev :=
  let v := s.fget (Reg.BRG_MSEC p) Reg.BRG_MSEC_VALIDATE_f
  if !(s.fbit (Reg.BRG_MSEC p) Reg.BRG_MSEC_EN_f) then (some l, s)
  else if frameType l = 0x88E5 then
    let tci := l.getD 14 0
    let an := tci % 4
    let tag := if tci / 32 % 2 = 1 then 16 else 8
    let sl := l.getD 15 0 % 64
    let n := if sl = 0 then l.length - 12 - tag - 16 else sl
    let body := (l.drop (12 + tag)).take n
    let strip := l.take 12 ++ body
    let lenient := if v ≠ 2 ∧ tci / 8 % 2 = 0 then some strip else none
    match s.brg.sas.find? fun a => a.port == p && !a.tx && a.chan == sc && a.an == an && s.saFits a with
    | none => (lenient, s)
    | some a =>
      let low := be (slice l 16 4)
      let pn := if a.cipher ≥ 2 then
          let c := a.pn / 2 ^ 32 * 2 ^ 32 + low
          if c + 2 ^ 31 ≤ a.pn then c + 2 ^ 32 else c
        else low
      let r := s.rget (Reg.BRG_MSEC_RPL p)
      let old := getF r Reg.BRG_MSEC_RPL_EN_f == 1 && decide (pn + getF r Reg.BRG_MSEC_RPL_WINDOW_f < a.pn)
      if old then (none, s)
      else
        let sci := if tag = 16 then be (slice l 20 8) else Config.macsecSci (p + 16 * (sc + 1)) % 2 ^ 64
        let off := if tci / 8 % 2 = 1 then s.msecOffset p else n
        match Config.macsecOpen a.wide a.key (a.iv sci pn) (l.take (12 + tag) ++ body.take off) (body.drop off)
            (slice l (12 + tag + n) 16) with
        | some c => (some (l.take 12 ++ body.take off ++ c), s.onSa (fun x => x == a) fun x => { x with pn := Nat.max x.pn (pn + 1) })
        | none => (lenient, s)
  else if s.inClear p (untag l) ∨ v ≠ 2 then (some l, s)
  else (none, s)

/-! ### Receive (R387, R389, R405) -/

/-- A signed delay register in units of 0.125 ns, in units of the time base. -/
def Dev.delay (s : Dev) (a : Nat) (f : Fld) : Int := sx 16 (s.fget a f) * (nsUnit / 8 : Nat)

/-- A timestamp's error: within ±2 ns while TIME_VALID and REFOK are set, unbounded otherwise (R405). -/
def Dev.stampErr (s : Dev) (err : Int) : Int :=
  if s.timeValid && s.tim.refOk then clampI (-(2 * nsUnit)) (2 * nsUnit) err else err

/-- FRAME_RECEIVED: a frame of `l` octets without FCS has been received on external port p. `back` is the time since its first
bit after the SFD crossed the ball, `err` the timestamp's error, in units of the time base; `sc` is the receive channel that the
SCI of a MACsec frame names. -/
def Dev.frameReceived (s : Dev) (p : Nat) (l : List Nat) (fcsOk : Bool) (back : Nat) (err : Int) (sc : Nat) : Dev :=
  if p < 16 ∧ s.portUp p then
    if ¬ fcsOk ∨ l.length < 60 ∨ l.length > 9212 ∨ frameType (untag l) = 0x8808 then s.pcount (Reg.BRG_RXERR_LO p)
    else
      let s := s.pcount (Reg.BRG_RXFRM_LO p)
      let ts := (((s.time : Int) - back - s.delay (Reg.BRG_RXDLY p) Reg.BRG_RXDLY_DLY_f + s.stampErr err) % timeMod).toNat
      match s.msecRx p l sc with
      | (some c, s) => s.ingressFrame p c ts s.timeValid none id
      | (none, s) => s
  else s

/-- Every frame queued at a port whose link is down is discarded (R387). Log 131 (PRESUMED). -/
def Dev.linkFlush (s : Dev) (p : Nat) : Dev :=
  (List.range 8).foldl (fun s t =>
    let q := s.fq p t
    (q.foldl (fun s id => match s.frameOf id with
      | some f => ((s.pcount (Reg.BRG_LINKDROP_LO p)).txDiscard f p).frameLeave id p
      | none => s) s).setFq p t []) s

/-- The mode that auto-negotiation resolves from what both sides advertise, in the layout of ADV: the highest common ability, with
the FEC that either side requests (R386, Clause 73). Log 204 (PRESUMED). -/
def resolveMode (adv peer : Nat) : Option Nat :=
  let both (i : Nat) : Bool := bits adv i i == 1 && bits peer i i == 1
  let either (i : Nat) : Bool := bits adv i i == 1 || bits peer i i == 1
  if both 4 then some 6
  else if both 1 then some (if either 2 then 5 else if either 3 then 4 else 3)
  else if both 0 then some (if either 3 then 2 else 1)
  else none

/-- PORT_LINK_CHANGE: the link of port p goes up or down; a change raises BRG_LINK (R387). In MODE 7 `peer` is what the link partner
advertises, and the link comes up once auto-negotiation is complete with a common ability (R386). -/
def Dev.portLink (s : Dev) (p : Nat) (up andone feclock : Bool) (peer : Nat) : Dev :=
  if p < 16 then
    let was := (s.bport p).link
    let m := s.fget (Reg.BRG_PCFG p) Reg.BRG_PCFG_MODE_f
    let andone := andone && m == 7
    let r := if andone then resolveMode (s.fget (Reg.BRG_PCFG p) Reg.BRG_PCFG_ADV_f) peer else none
    let use := if m = 7 then r.getD 0 else m
    let up := up && s.fbit (Reg.BRG_PCFG p) Reg.BRG_PCFG_EN_f && use != 0
    let fec := feclock && (use == 2 || use == 4 || use == 5 || use == 6)
    let s := s.onPort p fun x => { x with link := up, andone := andone, feclock := fec, rmode := r.getD 0 }
    if was = up then s
    else
      let s := s.raise 0x610 p
      if up then s
      else
        let s := match (s.bport p).tx with
          | some t => (s.pcount (Reg.BRG_LINKDROP_LO p)).txDiscard t.frame p
          | none => s
        (s.onPort p fun x => { x with tx := none }).linkFlush p
  else s

/-! ### Gates (R393 to R396) -/

/-- The cycle and base of the list in force. -/
def Dev.gclBase (s : Dev) (p : Nat) : Nat × Nat :=
  time3 (s.rget (Reg.BRG_GCLOBASE_S p)) (s.rget (Reg.BRG_GCLOBASE_NSL p)) (s.rget (Reg.BRG_GCLOBASE_NSH p))

/-- A 30-bit duration in two registers. -/
def Dev.get30 (s : Dev) (lo : Nat) : Nat := (s.rget lo).toNat + bits (s.rget (lo + 1)).toNat 5 0 * 2 ^ 24

/-- The entries of a bank. -/
def Dev.gclEntries (s : Dev) (p k len : Nat) : List (Nat × Nat) :=
  (List.range len).map fun e =>
    (s.fget (Reg.BRG_GCLE_GATES p k e) Reg.BRG_GCLE_GATES_GATES_f, (s.rget (Reg.BRG_GCLE_INTERVAL p k e)).toNat)

/-- The gates at a position of a cycle, and the start and end of their interval (R393). -/
def gclAt (es : List (Nat × Nat)) (start cycle pos : Nat) : Nat × Nat × Nat :=
  match es with
  | [] => (255, start, cycle)
  | [(g, _)] => (g, start, cycle)
  | (g, i) :: t =>
    if pos < start + i ∨ cycle ≤ start + i then (g, start, Nat.min (start + i) cycle) else gclAt t (start + i) cycle pos

/-- Gates of a list at a position counted from its base, with the interval's start and end; without a cycle they are free. -/
def Dev.gclList (s : Dev) (p k len cycle : Nat) (pos : Int) : Nat × Nat × Nat :=
  if cycle = 0 then (Config.gatesNoCycle p % 256, 0, 2 ^ 30)
  else gclAt (s.gclEntries p k len) 0 cycle (pos % cycle).toNat

/-- The bank in force. -/
def Dev.gclOper (s : Dev) (p : Nat) : Nat := s.fget (Reg.BRG_GCLCTL p) Reg.BRG_GCLCTL_OPER_f

/-- The gates of port p `dt` ns from now, how long ago their interval began at that moment and how long it still lasts, the
change of a pending list included (R393, R394, R396). Log 127 (DESIGN CHOICE). -/
def Dev.gateAt (s : Dev) (p dt : Nat) : Nat × Nat × Nat :=
  let x := s.bport p
  let toCt := x.ct.map fun c => diff69 c.1 c.2 s.time
  let after := match toCt with | some c => decide (c ≤ dt) | none => false
  if after then
    let c := (toCt.getD 0)
    let cyc := s.get30 (Reg.BRG_GCLCYC_LO p)
    let pos : Int := (dt : Int) - c
    let (g, a, b) := s.gclList p (1 - s.gclOper p) (s.fget (Reg.BRG_GCLCTL p) Reg.BRG_GCLCTL_LEN_f) cyc pos
    let q := (pos % cyc).toNat
    (g, q - a, b - q)
  else
    let limit (n : Nat) : Nat := match toCt with | some c => Nat.min n (c - dt).toNat | none => n
    if s.fbit (Reg.BRG_GCLCTL p) Reg.BRG_GCLCTL_GEN_f then
      let base := s.gclBase p
      let cyc := s.get30 (Reg.BRG_GCLOCYC_LO p)
      let pos : Int := (dt : Int) - diff69 base.1 base.2 s.time
      let (g, a, b) := s.gclList p (s.gclOper p) x.opLen cyc pos
      let q := (pos % cyc).toNat
      (g, q - a, limit (b - q))
    else (255, 0, limit (2 ^ 31))

/-- When class t's gate next closes, in ns from `dt` on; `n` bounds the intervals looked at, none when it stays open. -/
def Dev.closeFrom (s : Dev) (p t n dt : Nat) : Option Nat :=
  match n with
  | 0 => none
  | n + 1 =>
    let (g, _, r) := s.gateAt p dt
    if bits g t t = 0 then some dt
    else if r ≥ 2 ^ 31 then none else s.closeFrom p t n (dt + Nat.max 1 r)

/-- GATE_INTERVAL_END: the gates of the present instant apply; a frame of a class with GUARD = 0 that runs past its closing gate is
an overrun (R393, R396). -/
def Dev.gateUpdate (s : Dev) (p : Nat) : Dev :=
  let (g, ago, _) := s.gateAt p 0
  let x := s.bport p
  let run := match x.tx with
    | some t => bits x.gates t.tc t.tc == 1 && bits g t.tc t.tc == 0 && !(s.tcBit p t.tc Reg.BRG_TCCFG_GUARD_f)
    | none => false
  let s := if run then s.pcount (Reg.BRG_OVERRUN_LO p) else s
  s.onPort p fun x => { x with
    gates := g
    openAt := (List.range 8).foldl (fun m t =>
      if bits g t t = 1 ∧ bits x.gates t t = 0 then SMap.set m 0 t (s.time - ago * nsUnit) else m) x.openAt }

/-- A bank that may not come into force (R394). -/
def Dev.gclBad (s : Dev) (p len : Nat) : Bool :=
  len == 0 || decide (s.get30 (Reg.BRG_GCLCYC_LO p) < 1000) ||
    (s.gclEntries p (1 - s.gclOper p) len).any fun e => e.2 == 0

/-- Submit the administrative bank (R394). -/
def Dev.gclSubmit (s : Dev) (p : Nat) : Dev :=
  let len := s.fget (Reg.BRG_GCLCTL p) Reg.BRG_GCLCTL_LEN_f
  if s.gclBad p len then (s.fset (Reg.BRG_GCLCTL p) Reg.BRG_GCLCTL_ERR_f true).raise 0x613 p
  else
    let base := time3 (s.rget (Reg.BRG_GCLBASE_S p)) (s.rget (Reg.BRG_GCLBASE_NSL p)) (s.rget (Reg.BRG_GCLBASE_NSH p))
    let cyc := s.get30 (Reg.BRG_GCLCYC_LO p)
    let d := diff69 base.1 base.2 s.time
    let n := if d > 0 then 0 else (-d).toNat / cyc + 1
    let ct := addTime base (pairOfNs (n * cyc))
    (s.fset (Reg.BRG_GCLCTL p) Reg.BRG_GCLCTL_PEND_f true).onPort p fun x => { x with ct := some ct }

/-- GCL_SUBMIT: a write of BRG_GCLCTL_p. While PEND = 1 the length is kept; PEND = 0 withdraws the change (R394). -/
def Dev.gclWrite (s : Dev) (p : Nat) (w : Word) : Dev :=
  let was := s.fbit (Reg.BRG_GCLCTL p) Reg.BRG_GCLCTL_PEND_f
  let s := if getF w Reg.BRG_GCLCTL_ERR_f = 1 then s.fset (Reg.BRG_GCLCTL p) Reg.BRG_GCLCTL_ERR_f false else s
  let s := s.fput (Reg.BRG_GCLCTL p) Reg.BRG_GCLCTL_GEN_f (getF w Reg.BRG_GCLCTL_GEN_f)
  let s := if was then s else s.fput (Reg.BRG_GCLCTL p) Reg.BRG_GCLCTL_LEN_f (getF w Reg.BRG_GCLCTL_LEN_f)
  let s :=
    if getF w Reg.BRG_GCLCTL_PEND_f = 1 then (if was then s else s.gclSubmit p)
    else (s.fset (Reg.BRG_GCLCTL p) Reg.BRG_GCLCTL_PEND_f false).onPort p fun x => { x with ct := none }
  s.gateUpdate p

/-- GCL_CHANGE: at the change time the administrative bank comes into force (R394). -/
def Dev.gclChange (s : Dev) (p : Nat) : Dev :=
  match (s.bport p).ct with
  | some ct =>
    if due69 ct.1 ct.2 s.time then
      let g := s.gateAt p 0
      let len := s.fget (Reg.BRG_GCLCTL p) Reg.BRG_GCLCTL_LEN_f
      let s := s.gateUpdate p
      let s := ((s.rset (Reg.BRG_GCLOBASE_S p) (s.rget (Reg.BRG_GCLBASE_S p))).rset (Reg.BRG_GCLOBASE_NSL p)
        (s.rget (Reg.BRG_GCLBASE_NSL p))).rset (Reg.BRG_GCLOBASE_NSH p) (s.rget (Reg.BRG_GCLBASE_NSH p))
      let s := (s.rset (Reg.BRG_GCLOCYC_LO p) (s.rget (Reg.BRG_GCLCYC_LO p))).rset (Reg.BRG_GCLOCYC_HI p)
        (s.rget (Reg.BRG_GCLCYC_HI p))
      let s := s.fput (Reg.BRG_GCLCTL p) Reg.BRG_GCLCTL_OPER_f (1 - s.gclOper p)
      let s := (s.fset (Reg.BRG_GCLCTL p) Reg.BRG_GCLCTL_PEND_f false).fset (Reg.BRG_GCLCTL p) Reg.BRG_GCLCTL_GEN_f true
      s.onPort p fun x => { x with ct := none, opLen := len, gates := g.1 }
    else s
  | none => s

/-! ### Shapers (R398, R399) -/

/-- Units of 100 ns of shared time. -/
def Dev.now100 (s : Dev) : Nat := s.time / (100 * nsUnit)

/-- The credit limit of a shaper: BURST × 64 octets in units of 2^-8 octet. -/
def Dev.burst (s : Dev) (p t : Nat) : Int :=
  Nat.max 1 (s.fget (Reg.BRG_SHPBURST p t) Reg.BRG_SHPBURST_BURST_f) * 64 * 256

/-- SHAPER_REFILL: the refill instants passed since the last one give every shaper its credit (R398); new settings take effect
(R399). A part of a unit of 2^-8 octet is free. Log 128 (DESIGN CHOICE). -/
def Dev.shaperRefill (s : Dev) (p : Nat) : Dev :=
  let x := s.bport p
  let r := Nat.max 1 x.refill
  let k := s.now100 / r
  if k ≤ x.refIdx then s.onPort p fun x => { x with refIdx := k }
  else
    let n := k - x.refIdx
    let s := (List.range 8).foldl (fun s t =>
      if s.fbit (Reg.BRG_SHPRATE p t) Reg.BRG_SHPRATE_EN_f then
        let rate := Nat.max 1 (s.fget (Reg.BRG_SHPRATE p t) Reg.BRG_SHPRATE_RATE_f)
        let (f, s) := s.free
        let gain := n * (rate * r * 16 / 5) + (if rate * r * 16 % 5 = 0 then 0 else f % (n + 1))
        let c := clampI (-(2 ^ 40)) (s.burst p t) (SMap.get (s.bport p).credit 0 t + gain)
        s.onPort p fun x => { x with credit := SMap.set x.credit 0 t c
                                     lovh := SMap.set x.lovh 20 t (s.fget (Reg.BRG_SHPBURST p t) Reg.BRG_SHPBURST_LOVH_f) }
      else s) s
    let r1 := Nat.max 1 (s.fget (Reg.BRG_REFILL p) Reg.BRG_REFILL_REFILL_f)
    s.onPort p fun x => { x with refill := r1, refIdx := s.now100 / r1 }

/-- A write of BRG_SHPRATE: setting EN starts the credit at the burst (R398). -/
def Dev.shpRateWrite (s : Dev) (p t : Nat) (w : Word) : Dev :=
  let was := s.fbit (Reg.BRG_SHPRATE p t) Reg.BRG_SHPRATE_EN_f
  let s := s.storeRw (Reg.BRG_SHPRATE p t) w
  if getF w Reg.BRG_SHPRATE_EN_f = 1 ∧ ¬ was then
    s.onPort p fun x => { x with credit := SMap.set x.credit 0 t (s.burst p t)
                                 lovh := SMap.set x.lovh 20 t (s.fget (Reg.BRG_SHPBURST p t) Reg.BRG_SHPBURST_LOVH_f) }
  else s

/-! ### Egress selection (R392, R396 to R402) -/

/-- The octets of a frame on the wire of port p after MACsec, FCS included (R396). -/
def Dev.wireLen (s : Dev) (p : Nat) (f : BFrame) (clear : Bool) : Nat :=
  Nat.max 60 (f.len + if s.tagged p f then 4 else 0) + 4 + if clear then 0 else s.msecGrow p

/-- The octets of a frame before the FCS and MACsec. -/
def Dev.wireOctets (s : Dev) (p : Nat) (f : BFrame) (l : List Nat) : List Nat :=
  pad60 (if s.tagged p f then addTag l f.pcp f.dei f.vid else l)

/-- The octets of a frame in the buffer as they stand, for the tests that need its type; a poisoned cell reads as nothing. -/
def Dev.peek (s : Dev) (f : BFrame) : List Nat :=
  wordOcts (((s.frameAddrs f).take 22).map fun a => ((s.memRead a).1).getD 0) f.len

/-- The line time of `n` octets of port p, in units of the time base. -/
def Dev.lineTime (s : Dev) (p n : Nat) : Nat := n * s.octetPs p * nsUnit / 1000

/-- The time of the reference plane for a frame that starts its preamble now (R400). -/
def Dev.crossNow (s : Dev) (p : Nat) : Nat :=
  (((s.time : Int) + (8 * s.octetPs p * nsUnit / 1000 : Nat) + s.delay (Reg.BRG_TXDLY p) Reg.BRG_TXDLY_DLY_f) % timeMod).toNat

/-- Whether a frame of L octets ends before class t's gate closes, `dist` ns from now (R396). Log 128 (DESIGN CHOICE). -/
def Dev.fitsIn (s : Dev) (p len : Nat) (dist : Option Nat) : Bool :=
  match dist with
  | none => true
  | some d => decide ((len + 20) * s.octetPs p * nsUnit < (d * nsUnit - s.time % nsUnit) * 1000)

/-- Whether a guarded head frame fits even at the instant its gate opened (R396). -/
def Dev.fitsEver (s : Dev) (p t len : Nat) (dist : Option Nat) : Bool :=
  match dist with
  | none => true
  | some d =>
    let open' := (s.time - SMap.get (s.bport p).openAt 0 t) / nsUnit
    decide ((len + 20) * s.octetPs p < (open' + d) * 1000)

/-- Discard a guarded head frame that no opening of its gate can hold (R396). Log 128 (DESIGN CHOICE). -/
def Dev.guardDrop (s : Dev) (p t : Nat) : Dev :=
  match (s.fq p t).head?.bind s.frameOf with
  | none => s
  | some f =>
    if s.tcBit p t Reg.BRG_TCCFG_GUARD_f && bits (s.bport p).gates t t == 1 then
      let l := s.wireLen p f (s.inClear p (s.peek f))
      if s.fitsEver p t l (s.closeFrom p t 1100 0) then s
      else (((s.pcount (Reg.BRG_GUARDDROP_LO p)).raise 0x614 p).dropHead p t f).headCheck p t
    else s

/-- Discard head frames that can no longer be sent (R396, R402); `n` bounds them. Log 129 (DEDUCED). -/
def Dev.prune (s : Dev) (p t n : Nat) : Dev :=
  match n with
  | 0 => s
  | n + 1 =>
    let s := s.ltDrop p t (n + 1) false
    let s1 := s.guardDrop p t
    if (s1.fq p t).length < (s.fq p t).length then s1.prune p t n else s1

/-- Whether class t of port p may send its head frame now (R392). Log 129 (DEDUCED). -/
def Dev.eligible (s : Dev) (p t : Nat) : Bool :=
  match (s.fq p t).head?.bind s.frameOf with
  | none => false
  | some f =>
    let l := s.wireLen p f (s.inClear p (s.peek f))
    bits (s.bport p).gates t t == 1 &&
    (!(s.tcBit p t Reg.BRG_TCCFG_GUARD_f) || s.fitsIn p l (s.closeFrom p t 1100 0)) &&
    (!(s.fbit (Reg.BRG_SHPRATE p t) Reg.BRG_SHPRATE_EN_f) || decide (0 ≤ SMap.get (s.bport p).credit 0 t)) &&
    (!(s.tcBit p t Reg.BRG_TCCFG_TIMED_f) || match f.lt with
      | some lt => decide (0 ≤ pastBy lt (s.crossNow p))
      | none => true)

/-- L of the head frame of a class. -/
def Dev.headLen (s : Dev) (p t : Nat) : Nat :=
  match (s.fq p t).head?.bind s.frameOf with
  | some f => s.wireLen p f (s.inClear p (s.peek f))
  | none => 0

/-- Deficit round-robin (R397): the class that sends next. `c` is the class in visit, `fresh` whether its visit begins. -/
def Dev.drr (s : Dev) (p : Nat) (n c : Nat) (fresh : Bool) : Option Nat × Dev :=
  match n with
  | 0 => (none, s)
  | n + 1 =>
    let next := (c + 7) % 8
    if s.tcBit p c Reg.BRG_TCCFG_SP_f || !(s.eligible p c) then s.drr p n next true
    else
      let quantum := Nat.max 1 (s.fget (Reg.BRG_TCCFG p c) Reg.BRG_TCCFG_QUANTUM_f) * 64
      let d := SMap.get (s.bport p).deficit 0 c + (if fresh then quantum else 0)
      let s := s.onPort p fun x => { x with deficit := SMap.set x.deficit 0 c d, drr := some c }
      if s.headLen p c + 20 ≤ d then
        (some c, s.onPort p fun x => { x with deficit := SMap.set x.deficit 0 c (d - (s.headLen p c + 20)) })
      else s.drr p n next true

/-- The class that sends next: the highest eligible SP class, else by deficit round-robin (R392). -/
def Dev.nextClass (s : Dev) (p : Nat) : Option Nat × Dev :=
  match (List.range 8).reverse.find? fun t => s.tcBit p t Reg.BRG_TCCFG_SP_f && s.eligible p t with
  | some t => (some t, s)
  | none =>
    if (List.range 8).any fun t => s.eligible p t then
      match (s.bport p).drr with
      | some c => s.drr p 1400 c false
      | none => s.drr p 1400 7 true
    else (none, s)

/-- Start the head frame of class t, unless it is discarded as it starts (R391, R398, R402, R412). The answer says whether the
line is taken. Log 129 (DEDUCED). -/
def Dev.startFrame (s : Dev) (p t : Nat) : Bool × Dev :=
  match (s.fq p t).head?.bind s.frameOf with
  | none => (false, s)
  | some f =>
    match s.readWords (s.frameAddrs f) with
    | (none, s) => (false, (((s.pcount (Reg.BRG_POISONDROP_LO p)).raise 0x614 p).dropHead p t f).headCheck p t)
    | (some ws, s) =>
      let l := wordOcts ws f.len
      let clear := s.inClear p l
      let len := s.wireLen p f clear
      let (pn, s) := if clear then (none, s) else if len ≤ 9216 then s.takePn p else (none, s)
      if !clear && pn.isNone then (false, ((s.pcount (Reg.BRG_MSECDROP_LO p)).dropHead p t f).headCheck p t)
      else
        let cross := s.crossNow p
        let late := s.tcBit p t Reg.BRG_TCCFG_TIMED_f && match f.lt with
          | some lt => decide (pastBy lt cross > (8 * nsUnit : Nat))
          | none => false
        let s := if late then (s.pcount (Reg.BRG_LTLATE_LO p)).raise 0x611 p else s
        let lovh := SMap.get (s.bport p).lovh 20 t
        let s := s.setFq p t (s.fq p t).tail
        let tx : BTx := { frame := f, octets := l, tc := t, cross := cross, tv := s.timeValid, late := late, sec := pn
                          endAt := s.elapsed + s.lineTime p (len + 8) }
        let s := s.onPort p fun x => { x with
          tx := some tx
          freeAt := s.elapsed + s.lineTime p (len + 20)
          credit := if s.fbit (Reg.BRG_SHPRATE p t) Reg.BRG_SHPRATE_EN_f then
              SMap.set x.credit 0 t (SMap.get x.credit 0 t - ((len + lovh) * 256 : Nat)) else x.credit }
        (true, (s.frameLeave f.id p).headCheck p t)

/-- Select and start the next frame; a frame discarded as it starts gives way to the next; `n` bounds them. -/
def Dev.selectLoop (s : Dev) (p n : Nat) : Dev :=
  match n with
  | 0 => s
  | n + 1 =>
    let s := (List.range 8).foldl (fun s t => s.prune p t (s.fq p t).length) s
    match s.nextClass p with
    | (none, s) => s
    | (some t, s) =>
      match s.startFrame p t with
      | (true, s) => s
      | (false, s) => s.selectLoop p n

/-- EGRESS_SELECT and FRAME_LAUNCH_DUE: with the line free, after the inter-packet gap, shaper refill, gate change and launch times
are evaluated in this order and the port selects its next frame (R392). -/
def Dev.egressSelect (s : Dev) (p : Nat) : Dev :=
  if p < 16 ∧ s.portUp p ∧ (s.bport p).tx.isNone then
    let s := (((s.pass (s.bport p).freeAt).shaperRefill p).gclChange p).gateUpdate p
    s.selectLoop p (((List.range 8).map fun t => (s.fq p t).length).sum + 1)
  else s

/-! ### Transmit end (R404, R405, R408) -/

/-- Where the one-step timestamp of an eCPRI Request that a DFE unit sends lies in its frame (R114). Log 72 (PRESUMED). -/
def Dev.delayStampAt (s : Dev) (f : BFrame) (l : List Nat) : Option Nat :=
  let u := untag l
  match f.rep with
  | some b =>
    if b.sdev = s.devnum ∧ 0xD4 ≤ b.sunit ∧ b.sunit ≤ 0xDB ∧ frameType u = 0xAEFE ∧ u.getD 15 0 = 5 ∧ u.getD 19 0 = 0
    then some (if frameType l = 0x8100 then 24 else 20) else none
  | none => none

/-- FRAME_TX_END: the frame on the line of port p has been sent, its line time after its start. `err` is the timestamp's error. The
line has become free for the head frames (R402). -/
def Dev.frameTxEnd (s : Dev) (p : Nat) (err : Int) : Dev :=
  match (s.bport p).tx with
  | none => s
  | some t =>
    let f := t.frame
    let s := s.pass t.endAt
    let cross := (((t.cross : Int) + s.stampErr err) % timeMod).toNat
    let l := match f.onestep with
      | some o =>
        let l := patchPtp t.octets (ptpCarrier t.octets) o (o + 34)
          (octets 6 (secOf cross) ++ octets 4 (nsOf cross))
        addCorrection l (ptpCarrier t.octets) o (fracOf cross : Nat)
      | none =>
        match ptpEvent t.octets with
        | some (o, c) =>
          if f.ingress < 16 ∧ ¬ s.ptpBc f.ingress ∧ ¬ s.ptpBc p then
            addCorrection t.octets c o (((cross : Int) - f.its) / (2 ^ 24 : Nat))
          else t.octets
        | none => t.octets
    let l := match s.delayStampAt f l with
      | some o => l.take o ++ octets 6 (secOf cross) ++ octets 4 (nsOf cross) ++ l.drop (o + 10)
      | none => l
    let out := s.wireOctets p f l
    let out := match t.sec with | some (a, pn) => s.msecSeal p a pn out | none => out
    let s := (s.pcount (Reg.BRG_TXFRM_LO p)).pcount (Reg.BRG_TXFRMT_LO p t.tc)
    let s := (s.onPort p fun x => { x with tx := none }).emit (.frame p out)
    (List.range 8).foldl (fun s t => s.headCheck p t) (s.txReport f.rep (if t.late then 1 else 0) p cross t.tv)
where
  /-- The carrier of the PTP message of a frame. -/
  ptpCarrier (l : List Nat) : Nat := match ptpAt (untag l) with | some (_, c, _) => c | none => 0

/-! ### TXFRAME (R403) -/

/-- A TXFRAME bead that counts as invalid. -/
def Dev.txBad (s : Dev) (b : Bead) : Bool :=
  let w := b.pay 0
  let port := bits w 19 15
  let inline := bits w 21 21 == 1
  let len := bits (b.pay 4) 13 0
  !(decide (port < 16) || port == 31) || decide (b.len < 5) || decide (len < 14) || decide (len > 9212) ||
  (if inline then decide (len > 177) || decide (b.len < 5 + (len + 2) / 3)
    else bits w 22 22 == 0 || decide (b.len < 7)) ||
  (bits w 20 20 == 1 && decide (port < 16) && s.ptpSecured port)

/-- The octets of a valid TXFRAME bead; none after a bus error. -/
def Dev.txOctets (s : Dev) (b : Bead) : Option (List Nat) × Dev :=
  let len := bits (b.pay 4) 13 0
  if bits (b.pay 0) 21 21 = 1 then (some (wordOcts (b.payload.drop 5) len), s)
  else
    let a := b.pay 5 + bits (b.pay 6) 7 0 * 2 ^ 24
    match s.readWords ((List.range ((len + 2) / 3)).map (a + ·)) with
    | (some ws, s) => (some (wordOcts ws len), s)
    | (none, s) => (none, s)

/-- TXFRAME_BEAD: queue the frame of a TXFRAME bead (R403). -/
def Dev.txFrame (s : Dev) (b : Bead) : Dev :=
  if s.txBad b then s.pcount (Reg.BRG_TXBAD_LO 16)
  else
    let w := b.pay 0
    let port := bits w 19 15
    let tc := bits w 14 12
    let rep := if bits w 22 22 = 1 then some b else none
    match s.txOctets b with
    | (none, s) => s.txDiscard { frameNew 0 0 0 16 s.time s.timeValid with rep := rep } port
    | (some l, s) =>
      let add (f : BFrame) : BFrame := { f with
        lt := if bits w 23 23 = 1 then some (time3 (b.payload.getD 1 0) (b.payload.getD 2 0) (b.payload.getD 3 0)) else none
        rep := rep
        onestep := if bits w 20 20 = 1 then some (bits w 7 0) else none }
      if port < 16 then s.storeFrame (add { frameNew 0 0 0 16 s.time s.timeValid with raw := true }) l tc [port]
      else s.ingressFrame 16 l s.time s.timeValid (some tc) add

/-- TXFRAME_BEAD: a bead for the bead port. -/
def Dev.txFrameBead (s : Dev) (b : Bead) : Dev :=
  if b.dunit = 0x820 then s.arrive b (b.op == 0x28 && !b.rsp) fun s => s.txFrame b else s

/-! ### Beads over Ethernet (R413 to R415) -/

/-- The beads gathered for endpoint h and the elapsed time of the first. Log 126 (DEDUCED). -/
def Dev.gathered (s : Dev) (h : Nat) : List Bead × Nat := SMap.get s.brg.gather ([], 0) h

/-- Store the beads gathered for endpoint h. -/
def Dev.setGather (s : Dev) (h : Nat) (l : List Bead) (at' : Nat) : Dev :=
  s.onBrg fun b => { b with gather := SMap.set b.gather ([], 0) h (l, at') }

/-- The words of a bead, CRC word included. -/
def Bead.words (b : Bead) : List Word := [b.h0, b.h1, b.h2, b.h3] ++ b.payload ++ [b.crc]

/-- Send the beads gathered for endpoint h as one bead frame from port 16 (R413 to R415). -/
def Dev.beadFlush (s : Dev) (h : Nat) : Dev :=
  let (l, _) := s.gathered h
  if l = [] then s
  else
    let ws := l.flatMap Bead.words
    let seq := SMap.get s.brg.txSeq 0 h
    let c := s.rget (Reg.BRG_HOST h)
    let f := octets 6 (s.macAt (Reg.BRG_HOST_MAC_LO h)) ++ octets 6 s.beadMac ++ [0x88, 0xB5, 0x46, 0x10] ++ octets 2 seq ++
      octets 2 ws.length ++ ws.flatMap wordBe
    let f := pad60 f
    let f := if getF c Reg.BRG_HOST_TAG_f = 1 then addTag f (getF c Reg.BRG_HOST_PCP_f) 0 (getF c Reg.BRG_HOST_VID_f) else f
    let s := (s.setGather h [] 0).onBrg fun b => { b with txSeq := SMap.set b.txSeq 0 h ((seq + 1) % 65536) }
    s.ingressFrame 16 f s.time s.timeValid none id

/-- Words of a bead frame: MAXW, where a value outside 5 to 3,062 acts as 3,062. -/
def Dev.beadMaxW (s : Dev) : Nat :=
  let m := s.fget Reg.BRG_BEADCFG Reg.BRG_BEADCFG_MAXW_f
  if 5 ≤ m ∧ m ≤ 3062 then m else 3062

/-- BEAD_TO_HOST: a bead for a host endpoint is gathered; a frame that would grow beyond MAXW words goes first, and with HOLD = 0
every bead goes alone (R415). Log 126 (DEDUCED). -/
def Dev.beadToHost (s : Dev) (b : Bead) : Dev :=
  let h := b.dunit - 0x840
  if 0x840 ≤ b.dunit ∧ b.dunit ≤ 0x84F then
    let s := s.take b
    if !b.ok then s.count Reg.FAB_BADDST_LO 1
    else if !(s.fbit (Reg.BRG_HOST h) Reg.BRG_HOST_VALID_f) then s.badDest b 2
    else
      let n := ((s.gathered h).1.flatMap Bead.words).length
      let s := if n + b.len + 5 > s.beadMaxW then s.beadFlush h else s
      let (l, at') := s.gathered h
      let s := s.setGather h (l ++ [b]) (if l = [] then s.elapsed else at')
      if s.fget Reg.BRG_BEADCFG Reg.BRG_BEADCFG_HOLD_f = 0 then s.beadFlush h else s
  else s

/-- BEAD_FRAME_HOLD_EXPIRE: the oldest gathered bead of endpoint h has waited HOLD µs (R415). -/
def Dev.beadHold (s : Dev) (h : Nat) : Dev :=
  let (l, at') := s.gathered h
  if l = [] then s
  else (s.pass (at' + s.fget Reg.BRG_BEADCFG Reg.BRG_BEADCFG_HOLD_f * 1000 * nsUnit)).beadFlush h

/-! ### Resets (R418) -/

/-- A W reset of the bridge: queues, buffer and dynamic entries go; links, SAs and keys and static entries stay. -/
def Dev.brgWReset (s : Dev) : Dev :=
  s.onBrg fun b => { bridgeReset with
    ports := b.ports.map fun e => (e.1, { portReset with
      link := e.2.link, andone := e.2.andone, rmode := e.2.rmode, feclock := e.2.feclock, refIdx := e.2.refIdx })
    nextId := b.nextId
    fdb := b.fdb.filter (·.static)
    sas := b.sas }

/-- Everything returns to its reset value; SAKs are zeroised. -/
def Dev.brgReset (s : Dev) : Dev := s.onBrg fun _ => bridgeReset

/-- BRG_PSTAT_p as it reads. -/
def Dev.pstatWord (s : Dev) (p : Nat) : Word :=
  let x := s.bport p
  word (bit (x.link && s.fbit (Reg.BRG_PCFG p) Reg.BRG_PCFG_EN_f) * 2 ^ 23 + bit x.andone * 2 ^ 22 + s.portMode p * 2 ^ 19 +
    bit x.feclock * 2 ^ 18)

end Sys2Proof.Machine
end

