-- ==== Sys2Proof/Machine/Codec.lean ====
section
/-! DEFINITION. Bit strings and soft values in memory (R174, R175), the code of Shelet Burst Access (R46 to R48, R54 to R61),
the trellis search (R192, R195, R196). -/

namespace Sys2Proof.Machine

/-! ### Bits -/

/-- The low `n` bits of a number, most significant first. -/
def bitsOf (n v : Nat) : List Nat := (List.range n).map fun i => v / 2 ^ (n - 1 - i) % 2

/-- The number of bits, most significant first. -/
def ofBits (bs : List Nat) : Nat := bs.foldl (fun n b => 2 * n + b % 2) 0

/-- The parity of a number's low 32 bits. -/
def parityOf (n : Nat) : Nat := (List.range 32).foldl (fun p i => (p + n / 2 ^ i) % 2) 0

/-- A CRC of width w over bits, neither reflected nor inverted. -/
def crcBits (w poly init : Nat) (bs : List Nat) : Nat :=
  bs.foldl (fun c b =>
    let c2 := c * 2 % 2 ^ w
    if (c / 2 ^ (w - 1) + b) % 2 = 1 then c2 ^^^ poly else c2) init

/-- Bitwise sum of two bit lists. -/
def xorBits (a b : List Nat) : List Nat := List.zipWith (fun x y => (x + y) % 2) a b

/-- Words that hold `n` bits of a bit string (R174). -/
def bitWords (n : Nat) : Nat := (n + 23) / 24

/-- Word i of a packed bit string (R174): byte lanes 0 to 2, each from its most significant bit. -/
def packWord (bs : List Nat) : Word :=
  let by8 (k : Nat) : Nat := ofBits ((List.range 8).map fun i => bs.getD (8 * k + i) 0)
  word (by8 0 + by8 1 * 256 + by8 2 * 65536)

/-- A packed bit string. -/
def packBits (bs : List Nat) : List Word := (List.range (bitWords bs.length)).map fun i => packWord ((bs.drop (24 * i)).take 24)

/-- The bits of a word (R174). -/
def unpackWord (w : Word) : List Nat :=
  bitsOf 8 (w.toNat % 256) ++ bitsOf 8 (w.toNat / 256 % 256) ++ bitsOf 8 (w.toNat / 65536)

/-- Read words; none on a bus error. -/
def Dev.wordsRead (s : Dev) (a n : Nat) (io : Port := memPort) : Option (List Word) × Dev :=
  match s.memReadN a n io with
  | (ws, true, s) => (some ws, s)
  | (_, _, s) => (none, s)

/-- Read a bit string. -/
def Dev.bitsRead (s : Dev) (a n : Nat) (io : Port := memPort) : Option (List Nat) × Dev :=
  match s.wordsRead a (bitWords n) io with
  | (some ws, s) => (some ((ws.flatMap unpackWord).take n), s)
  | (none, s) => (none, s)

/-- Write a bit string; of its last word only the byte lanes that hold bits (R174). -/
def Dev.bitsWrite (s : Dev) (a : Nat) (bs : List Nat) (io : Port := memPort) : Bool × Dev :=
  (List.range (bitWords bs.length)).foldl (fun (r : Bool × Dev) i =>
    let part := (bs.drop (24 * i)).take 24
    let lanes := 2 ^ ((part.length + 7) / 8) - 1
    let (ok, s) := io.wr r.2 (a + i) (packWord part) lanes
    (r.1 && ok, s)) (true, s)

/-- Soft value i of words in S8 or S12 (R175). -/
def softAt (s12 : Bool) (ws : List Word) (i : Nat) : Int :=
  if s12 then
    let v := sx 12 ((ws.getD (i / 2) 0).toNat / 4096 ^ (i % 2) % 4096)
    if v = -2048 then -2047 else v
  else
    let v := sx 8 ((ws.getD (i / 3) 0).toNat / 256 ^ (i % 3) % 256)
    if v = -128 then -127 else v

/-- Words of `n` soft values. -/
def softWords (s12 : Bool) (n : Nat) : Nat := if s12 then (n + 1) / 2 else (n + 2) / 3

/-- Whether two ranges of words overlap. -/
def overlaps (a na b nb : Nat) : Bool := decide (a < b + nb) && decide (b < a + na)

/-! ### Shelet Burst Access (R54 to R61) -/

/-- The first `n` bits of the whitening sequence from a window of 9 bits (R57). -/
def whitenFrom (w : List Nat) (n : Nat) : List Nat :=
  match n with
  | 0 => []
  | n + 1 => w.headD 0 :: whitenFrom (w.tail ++ [(w.headD 0 + w.getD 5 0) % 2]) n

/-- Whiten bits from n = 0. -/
def whiten (bs : List Nat) : List Nat := xorBits bs (whitenFrom (List.replicate 9 1) bs.length)

/-- The generators 133, 171 and 165 (octal). -/
def convGens (rate3 : Bool) : List Nat := if rate3 then [0x5B, 0x79, 0x75] else [0x5B, 0x79]

/-- The outputs of the encoder in state `st` (u(n-1) in bit 5) for input u (R59). -/
def convOut (rate3 : Bool) (st u : Nat) : List Nat := (convGens rate3).map fun g => parityOf ((u * 64 + st) &&& g)

/-- The state after input u. -/
def convNext (st u : Nat) : Nat := u * 32 + st / 2

/-- Encode bits from a state. -/
def convEncode (rate3 : Bool) (st : Nat) (us : List Nat) : List Nat :=
  match us with
  | [] => []
  | u :: t => convOut rate3 st u ++ convEncode rate3 (convNext st u) t

/-- The column order of the block interleaver (R60). -/
def interCols : List Nat := [0, 8, 4, 12, 2, 10, 6, 14, 1, 9, 5, 13, 3, 11, 7, 15]

/-- The positions of n coded bits in the order they leave the interleaver. -/
def interPerm (n : Nat) : List Nat :=
  interCols.flatMap fun c => ((List.range ((n + 15) / 16)).map fun r => r * 16 + c).filter fun i => decide (i < n)

/-- Interleave. -/
def interleave (cs : List Nat) : List Nat := (interPerm cs.length).map fun i => cs.getD i 0

/-- The header CRC-8 (R55). -/
def crc8 (h : Nat) : Nat := crcBits 8 0x07 0xFF (bitsOf 16 h)

/-- The payload CRC-24 (R58). -/
def crc24b (bs : List Nat) : Nat := crcBits 24 0x864CFB 0xB704CE bs

def hLen (h : Nat) : Nat := bits h 15 8
def hRate3 (h : Nat) : Bool := bits h 7 6 == 1
def hRep (h : Nat) : Nat := 2 ^ bits h 5 3
def hAck (h : Nat) : Bool := bits h 2 2 == 1

/-- Whether the fields of a header are valid (R55, R56). -/
def headerOk (h : Nat) : Bool := hLen h != 0 && decide (bits h 7 6 ≤ 1) && decide (bits h 5 3 ≤ 5) && bits h 0 0 == 0

/-- The 90 coded and interleaved bits of a header (R55). -/
def codedHeader (h : Nat) : List Nat :=
  interleave (convEncode true 0 (whiten (bitsOf 16 h ++ bitsOf 8 (crc8 h)) ++ List.replicate 6 0))

/-- The bits of a payload and its CRC-24 (R58). -/
def payloadBits (bytes : List Nat) : List Nat :=
  let bs := bytes.flatMap (bitsOf 8)
  bs ++ bitsOf 24 (crc24b bs)

/-- One coded and interleaved copy of a payload. -/
def codedPayload (rate3 : Bool) (bytes : List Nat) : List Nat :=
  interleave (convEncode rate3 0 (whiten (payloadBits bytes) ++ List.replicate 6 0))

/-- Nc of a header (R58). -/
def hNc (h : Nat) : Nat := (if hRate3 h then 3 else 2) * (8 * hLen h + 30)

/-- D of a header with header repetition hr (R47). -/
def hD (h hr : Nat) : Nat := 90 * hr + hRep h * hNc h

/-- Symbols of a burst (R47). -/
def burstLen (h hr : Nat) : Nat := 96 + hD h hr + (hD h hr + 15) / 16 + 1

/-- The data symbols' bits of a burst (R46). -/
def dataBits (h hr : Nat) (bytes : List Nat) : List Nat :=
  (List.replicate hr (codedHeader h)).flatten ++ (List.replicate (hRep h) (codedPayload (hRate3 h) bytes)).flatten

/-- Data bits with their pilots (R46, R61). -/
def withPilots (ds : List Nat) : List Nat :=
  ((List.range ((ds.length + 15) / 16)).flatMap fun g => 0 :: (ds.drop (16 * g)).take 16) ++ [0]

/-- Every bit of a burst: preamble, sync word, data section (R46, R54). -/
def burstBits (h hr sync : Nat) (bytes : List Nat) : List Nat :=
  (List.replicate 4 (bitsOf 16 0x1D65)).flatten ++ bitsOf 32 sync ++ withPilots (dataBits h hr bytes)

/-! ### Trellis search (R192, R195) -/

/-- The metric of a branch: agreement of soft values with coded bits. -/
def branchSum (vs : List Int) (cs : List Nat) : Int := (List.zipWith (fun (v : Int) (c : Nat) => (1 - 2 * (c : Int)) * v) vs cs).foldl (· + ·) 0

/-- One step of the search: for each state the best metric and which predecessor it came from. Equal metrics take the free
choice of their place. Log 84 (DEDUCED). -/
def vitStep (rate3 : Bool) (m : List Int) (vs : List Int) (fr : Nat → Nat) : List (Int × Nat) :=
  (List.range 64).map fun ns =>
    let u := ns / 32
    let cand (b : Nat) : Int :=
      let st := ns % 32 * 2 + b
      m.getD st (-(2 ^ 60)) + branchSum vs (convOut rate3 st u)
    if cand 0 > cand 1 then (cand 0, 0) else if cand 0 < cand 1 then (cand 1, 1) else (cand 0, fr ns % 2)

/-- All steps: the last metrics, and each step's predecessor choices, the last step first. -/
def vitRun (rate3 : Bool) (m : List Int) (vs : List (List Int)) (fr : Nat → Nat) (acc : List (List Nat)) : List Int × List (List Nat) :=
  match vs with
  | [] => (m, acc)
  | v :: t =>
    let r := vitStep rate3 m v fr
    vitRun rate3 (r.map (·.1)) t (fun i => fr (i + 64)) (r.map (·.2) :: acc)

/-- The path back from a state: its bits in order and the state it began in. Log 84 (DEDUCED). -/
def vitTrace (st : Nat) (decs : List (List Nat)) (acc : List Nat) : List Nat × Nat :=
  match decs with
  | [] => (acc, st)
  | d :: t => vitTrace (st % 32 * 2 + d.getD st 0) t (st / 32 :: acc)

/-- The state of the best metric; equal ones by free choice. Log 84 (DEDUCED). -/
def vitBest (m : List Int) (r : Nat) : Nat :=
  let top := m.foldl (fun a b => if b > a then b else a) (-(2 ^ 62))
  let ss := (List.range 64).filter fun i => m.getD i 0 == top
  ss.getD (r % Nat.max 1 ss.length) 0

/-- Soft values grouped by step. -/
def groupSoft (r : Nat) (vs : List Int) (steps : Nat) : List (List Int) :=
  (List.range steps).map fun n => (vs.drop (r * n)).take r

/-- A TERMINATED search: from state 0 to state 0 (R195). -/
def vitTerm (rate3 : Bool) (vs : List Int) (nbit : Nat) (fr : Nat → Nat) : List Nat :=
  let (_, ds) := vitRun rate3 (0 :: List.replicate 63 (-(2 ^ 50))) (groupSoft (convGens rate3).length vs (nbit + 6)) fr []
  (vitTrace 0 ds []).1

/-- A TAIL-BITING search of up to 1 + `more` passes: bits, start state, passes run, whether the path closes (R195). -/
def vitTail (rate3 : Bool) (vs : List Int) (nbit : Nat) (fr : Nat → Nat) (m : List Int) (done more : Nat) :
    List Nat × Nat × Nat × Bool :=
  let (m1, ds) := vitRun rate3 m (groupSoft (convGens rate3).length vs nbit) (fun i => fr (i + 1)) []
  let e := vitBest m1 (fr 0)
  let (bs, st) := vitTrace e ds []
  match more with
  | 0 => (bs, st, done + 1, st == e)
  | more + 1 =>
    if st = e then (bs, st, done + 1, true)
    else vitTail rate3 vs nbit (fun i => fr (i + 64 * nbit + 1)) m1 (done + 1) more

/-- Non-zero soft values whose sign disagrees with the coded bits (R196). -/
def reencode (vs : List Int) (cs : List Nat) : Nat :=
  ((List.zip vs cs).filter fun x => decide (x.1 > 0) && x.2 == 1 || decide (x.1 < 0) && x.2 == 0).length

end Sys2Proof.Machine
end

