-- ==== Sys2Proof/Machine/Lte.lean ====
section
/-! DEFINITION. The channel codes of TS 36.212 and the scrambling of TS 36.211 that R177 to R179, R192, R198 and R199 name.
PRESUMED: the tables are those of the named standards, which the spec does not print. -/

namespace Sys2Proof.Machine

/-! ### Table 5.1.3-3: block size, f1, f2 of the turbo interleaver -/

def qpp0 : List (Nat × Nat × Nat) := [
  (40, 3, 10), (48, 7, 12), (56, 19, 42), (64, 7, 16), (72, 7, 18), (80, 11, 20), (88, 5, 22), (96, 11, 24),
  (104, 7, 26), (112, 41, 84), (120, 103, 90), (128, 15, 32), (136, 9, 34), (144, 17, 108), (152, 9, 38), (160, 21, 120),
  (168, 101, 84), (176, 21, 44), (184, 57, 46), (192, 23, 48), (200, 13, 50), (208, 27, 52), (216, 11, 36), (224, 27, 56),
  (232, 85, 58), (240, 29, 60), (248, 33, 62), (256, 15, 32), (264, 17, 198), (272, 33, 68), (280, 103, 210), (288, 19, 36)]

def qpp1 : List (Nat × Nat × Nat) := [
  (296, 19, 74), (304, 37, 76), (312, 19, 78), (320, 21, 120), (328, 21, 82), (336, 115, 84), (344, 193, 86), (352, 21, 44),
  (360, 133, 90), (368, 81, 46), (376, 45, 94), (384, 23, 48), (392, 243, 98), (400, 151, 40), (408, 155, 102), (416, 25, 52),
  (424, 51, 106), (432, 47, 72), (440, 91, 110), (448, 29, 168), (456, 29, 114), (464, 247, 58), (472, 29, 118), (480, 89, 180),
  (488, 91, 122), (496, 157, 62), (504, 55, 84), (512, 31, 64), (528, 17, 66), (544, 35, 68), (560, 227, 420), (576, 65, 96)]

def qpp2 : List (Nat × Nat × Nat) := [
  (592, 19, 74), (608, 37, 76), (624, 41, 234), (640, 39, 80), (656, 185, 82), (672, 43, 252), (688, 21, 86), (704, 155, 44),
  (720, 79, 120), (736, 139, 92), (752, 23, 94), (768, 217, 48), (784, 25, 98), (800, 17, 80), (816, 127, 102), (832, 25, 52),
  (848, 239, 106), (864, 17, 48), (880, 137, 110), (896, 215, 112), (912, 29, 114), (928, 15, 58), (944, 147, 118), (960, 29, 60),
  (976, 59, 122), (992, 65, 124), (1008, 55, 84), (1024, 31, 64), (1056, 17, 66), (1088, 171, 204), (1120, 67, 140), (1152, 35, 72)]

def qpp3 : List (Nat × Nat × Nat) := [
  (1184, 19, 74), (1216, 39, 76), (1248, 19, 78), (1280, 199, 240), (1312, 21, 82), (1344, 211, 252), (1376, 21, 86), (1408, 43, 88),
  (1440, 149, 60), (1472, 45, 92), (1504, 49, 846), (1536, 71, 48), (1568, 13, 28), (1600, 17, 80), (1632, 25, 102), (1664, 183, 104),
  (1696, 55, 954), (1728, 127, 96), (1760, 27, 110), (1792, 29, 112), (1824, 29, 114), (1856, 57, 116), (1888, 45, 354), (1920, 31, 120),
  (1952, 59, 610), (1984, 185, 124), (2016, 113, 420), (2048, 31, 64), (2112, 17, 66), (2176, 171, 136), (2240, 209, 420), (2304, 253, 216)]

def qpp4 : List (Nat × Nat × Nat) := [
  (2368, 367, 444), (2432, 265, 456), (2496, 181, 468), (2560, 39, 80), (2624, 27, 164), (2688, 127, 504), (2752, 143, 172), (2816, 43, 88),
  (2880, 29, 300), (2944, 45, 92), (3008, 157, 188), (3072, 47, 96), (3136, 13, 28), (3200, 111, 240), (3264, 443, 204), (3328, 51, 104),
  (3392, 51, 212), (3456, 451, 192), (3520, 257, 220), (3584, 57, 336), (3648, 313, 228), (3712, 271, 232), (3776, 179, 236), (3840, 331, 120),
  (3904, 363, 244), (3968, 375, 248), (4032, 127, 168), (4096, 31, 64), (4160, 33, 130), (4224, 43, 264), (4288, 33, 134), (4352, 477, 408)]

def qpp5 : List (Nat × Nat × Nat) := [
  (4416, 35, 138), (4480, 233, 280), (4544, 357, 142), (4608, 337, 480), (4672, 37, 146), (4736, 71, 444), (4800, 71, 120), (4864, 37, 152),
  (4928, 39, 462), (4992, 127, 234), (5056, 39, 158), (5120, 39, 80), (5184, 31, 96), (5248, 113, 902), (5312, 41, 166), (5376, 251, 336),
  (5440, 43, 170), (5504, 21, 86), (5568, 43, 174), (5632, 45, 176), (5696, 45, 178), (5760, 161, 120), (5824, 89, 182), (5888, 323, 184),
  (5952, 47, 186), (6016, 23, 94), (6080, 47, 190), (6144, 263, 480)]

/-- The whole table. Log 85 (PRESUMED). -/
def qppTable : List (Nat × Nat × Nat) := qpp0 ++ qpp1 ++ qpp2 ++ qpp3 ++ qpp4 ++ qpp5

/-- The parameters of block size K; none when K is not in the table. -/
def qppOf (k : Nat) : Option (Nat × Nat) := (qppTable.find? fun e => e.1 == k).map (·.2)

/-- The smallest block size not less than `b` (R177). -/
def qppAtLeast (b : Nat) : Option Nat := (qppTable.find? fun e => decide (b ≤ e.1)).map (·.1)

/-- The interleaved positions of a block of size K. -/
def qppPerm (k : Nat) : List Nat :=
  match qppOf k with
  | some (f1, f2) => (List.range k).map fun i => (f1 * i + f2 * i * i) % k
  | none => []

/-! ### The constituent encoder: feedback 1 + D2 + D3, parity 1 + D + D3 -/

/-- One step from state (s1, s2, s3) with input u: parity and next state. -/
def rscStep (st : Nat × Nat × Nat) (u : Nat) : Nat × (Nat × Nat × Nat) :=
  let fb := (u + st.2.1 + st.2.2) % 2
  ((fb + st.1 + st.2.2) % 2, (fb, st.1, st.2.1))

/-- The input that drives the encoder towards state 0. -/
def rscTail (st : Nat × Nat × Nat) : Nat := (st.2.1 + st.2.2) % 2

/-- Parity bits of a block and the state after it. -/
def rscRun (st : Nat × Nat × Nat) (us : List Nat) : List Nat × (Nat × Nat × Nat) :=
  match us with
  | [] => ([], st)
  | u :: t =>
    let (p, st1) := rscStep st u
    let (ps, st2) := rscRun st1 t
    (p :: ps, st2)

/-- The three tail inputs and their parities. -/
def rscEnd (st : Nat × Nat × Nat) (n : Nat) : List (Nat × Nat) :=
  match n with
  | 0 => []
  | n + 1 =>
    let x := rscTail st
    let (p, st1) := rscStep st x
    (x, p) :: rscEnd st1 n

/-- The three streams d0, d1, d2 of K + 4 bits (subclause 5.1.3.2); the first F bits of d0 and d1 are none (filler).
Log 85 (PRESUMED). -/
def turboEncode (cs : List Nat) (f : Nat) : List (List (Option Nat)) :=
  let k := cs.length
  let (z, s1) := rscRun (0, 0, 0) cs
  let (z', s2) := rscRun (0, 0, 0) ((qppPerm k).map fun i => cs.getD i 0)
  let a := rscEnd s1 3
  let b := rscEnd s2 3
  let x (e : List (Nat × Nat)) (i : Nat) : Option Nat := some (e.getD i (0, 0)).1
  let p (e : List (Nat × Nat)) (i : Nat) : Option Nat := some (e.getD i (0, 0)).2
  let fill (l : List Nat) : List (Option Nat) := (List.replicate f none) ++ (l.drop f).map some
  [fill cs ++ [x a 0, p a 1, x b 0, p b 1],
   fill z ++ [p a 0, x a 2, p b 0, x b 2],
   z'.map some ++ [x a 1, p a 2, x b 1, p b 2]]

/-! ### Sub-block interleavers and rate matching (subclauses 5.1.4.1 and 5.1.4.2) -/

/-- Column order of the turbo sub-block interleaver. Log 85 (PRESUMED). -/
def permTurbo : List Nat :=
  [0, 16, 8, 24, 4, 20, 12, 28, 2, 18, 10, 26, 6, 22, 14, 30, 1, 17, 9, 25, 5, 21, 13, 29, 3, 19, 11, 27, 7, 23, 15, 31]

/-- Column order of the convolutional sub-block interleaver. Log 85 (PRESUMED). -/
def permConv : List Nat :=
  [1, 17, 9, 25, 5, 21, 13, 29, 3, 19, 11, 27, 7, 23, 15, 31, 0, 16, 8, 24, 4, 20, 12, 28, 2, 18, 10, 26, 6, 22, 14, 30]

/-- Rows for a stream of d bits (R178). -/
def rowsOf (d : Nat) : Nat := (d + 31) / 32

/-- Which bit of a stream of d bits stands at each place of its interleaved sub-block; none for a dummy bit. The third
turbo stream is read one place later (`late`). Log 85 (PRESUMED). -/
def subBlock (perm : List Nat) (d : Nat) (late : Bool) : List (Option Nat) :=
  let r := rowsOf d
  let n := 32 * r
  let nd := n - d
  (List.range n).map fun k =>
    let y := (perm.getD (k / r) 0 + 32 * (k % r) + (if late then 1 else 0)) % n
    if y < nd then none else some (y - nd)

/-- The circular buffer of a turbo code block: for each place the stream and bit it holds (R178). -/
def turboBuffer (k : Nat) : List (Option (Nat × Nat)) :=
  let d := k + 4
  let v (s : Nat) : List (Option (Nat × Nat)) := (subBlock permTurbo d (s == 2)).map fun o => o.map fun i => (s, i)
  v 0 ++ (List.zipWith (fun a b => [a, b]) (v 1) (v 2)).flatten

/-- The circular buffer of a tail-biting code block of d bits per stream. -/
def convBuffer (d : Nat) : List (Option (Nat × Nat)) :=
  let v (s : Nat) : List (Option (Nat × Nat)) := (subBlock permConv d false).map fun o => o.map fun i => (s, i)
  v 0 ++ v 1 ++ v 2

/-- The bits a buffer holds, dummy and filler bits left out, from place `k0` once around the first `ncb` places. -/
def bufferBits (streams : List (List (Option Nat))) (buf : List (Option (Nat × Nat))) (ncb k0 : Nat) : List Nat :=
  let b := buf.take ncb
  (b.drop k0 ++ b.take k0).filterMap fun o =>
    match o with
    | some (s, i) => (streams.getD s []).getD i none
    | none => none

/-- E bits selected around a circular buffer. -/
def selectE (bs : List Nat) (e : Nat) : List Nat := (List.range e).map fun j => bs.getD (j % bs.length) 0

/-- The start of redundancy version rv: R (2 ceil(Ncb / 8 R) rv + 2). -/
def rvStart (k ncb rv : Nat) : Nat :=
  let r := rowsOf (k + 4)
  r * (2 * ((ncb + 8 * r - 1) / (8 * r)) * rv + 2)

/-- Kw of a block size (R178). -/
def kwOf (k : Nat) : Nat := 96 * rowsOf (k + 4)

/-- CRC-24A and CRC-16 of TS 36.212. Log 85 (PRESUMED). -/
def crc24a (bs : List Nat) : Nat := crcBits 24 0x864CFB 0 bs
def crc16 (bs : List Nat) : Nat := crcBits 16 0x1021 0 bs

/-! ### The scrambling sequence of TS 36.211 subclause 7.2 -/

/-- A register of 31 bits after `n` steps with feedback taps `taps`. -/
def goldRun (taps : Nat) (x n : Nat) : Nat :=
  match n with
  | 0 => x
  | n + 1 => goldRun taps (x / 2 + parityOf (x &&& taps) * 2 ^ 30) n

/-- The first `n` bits of c for the initialisation `cinit`. -/
def goldFrom (x1 x2 n : Nat) : List Nat :=
  match n with
  | 0 => []
  | n + 1 =>
    ((x1 + x2) % 2) :: goldFrom (x1 / 2 + parityOf (x1 &&& 9) * 2 ^ 30) (x2 / 2 + parityOf (x2 &&& 15) * 2 ^ 30) n

/-- The scrambling sequence. Log 85 (PRESUMED). -/
def goldSeq (cinit n : Nat) : List Nat := goldFrom (goldRun 9 1 1600) (goldRun 15 cinit 1600) n

/-! ### Max-log-MAP decoding (R184), exact: values carry one more factor 8 at every half-iteration -/

/-- The states of the constituent encoder as numbers. -/
def rscSt (s : Nat) : Nat × Nat × Nat := (s / 4 % 2, s / 2 % 2, s % 2)
def rscNum (st : Nat × Nat × Nat) : Nat := st.1 * 4 + st.2.1 * 2 + st.2.2

/-- A metric no path reaches. -/
def metricLow : Int := -(2 ^ 100)

/-- Twice the branch metric of input u and parity p for values x (systematic and a priori) and z. -/
def branch (x z : Int) (u p : Nat) : Int := (1 - 2 * (u : Int)) * x + (1 - 2 * (p : Int)) * z

/-- One forward step over all states. -/
def alphaStep (a : List Int) (v : Int × Int) : List Int :=
  (List.range 16).foldl (fun (n : List Int) i =>
    let (p, st) := rscStep (rscSt (i / 2)) (i % 2)
    let m := a.getD (i / 2) metricLow + branch v.1 v.2 (i % 2) p
    if m > n.getD (rscNum st) metricLow then n.set (rscNum st) m else n) (List.replicate 8 metricLow)

/-- One backward step over all states. -/
def betaStep (b : List Int) (v : Int × Int) : List Int :=
  (List.range 8).map fun s =>
    let m (u : Nat) : Int := let (p, st) := rscStep (rscSt s) u; b.getD (rscNum st) metricLow + branch v.1 v.2 u p
    if m 0 ≥ m 1 then m 0 else m 1

/-- The forward metrics before each step. -/
def alphas (a : List Int) (vs : List (Int × Int)) : List (List Int) :=
  match vs with
  | [] => []
  | v :: t => a :: alphas (alphaStep a v) t

/-- The backward metrics after each step. -/
def betas (vs : List (Int × Int)) : List (List Int) :=
  match vs with
  | [] => []
  | _ :: t =>
    match betas t, t with
    | b :: bs, v :: _ => betaStep b v :: b :: bs
    | _, _ => [0 :: List.replicate 7 metricLow]

/-- The likelihood of each step's input, times 2. -/
def mapLlr (vs : List (Int × Int)) : List Int :=
  List.zipWith (fun (ab : List Int × List Int) v =>
    let best (u : Nat) : Int := (List.range 8).foldl (fun m s =>
      let (p, st) := rscStep (rscSt s) u
      let x := ab.1.getD s metricLow + branch v.1 v.2 u p + ab.2.getD (rscNum st) metricLow
      if x > m then x else m) (4 * metricLow)
    best 0 - best 1) (List.zip (alphas (0 :: List.replicate 7 metricLow) vs) (betas vs)) vs

/-- One constituent decoder: systematic, parity and a priori values of the block, and the tail's values. It answers the
likelihoods and the extrinsic values. Log 84 (DEDUCED). -/
def mapDecode (sys par apr : List Int) (tail : List (Int × Int)) : List Int × List Int :=
  let xs := List.zipWith (· + ·) sys apr
  let l := (mapLlr (List.zip xs par ++ tail)).take sys.length
  (l.map (· / 2), List.zipWith (fun a b => a / 2 - b) l xs)

/-- What a turbo decoder reads from a soft buffer: the streams' values of the block and of the two tails (R179, R184). -/
structure TurboIn where
  sys : List Int
  par1 : List Int
  par2 : List Int
  tail1 : List (Int × Int)
  tail2 : List (Int × Int)
  deriving DecidableEq, Repr

/-- All values times a factor. -/
def TurboIn.scale (t : TurboIn) (c : Int) : TurboIn :=
  { sys := t.sys.map (· * c), par1 := t.par1.map (· * c), par2 := t.par2.map (· * c)
    tail1 := t.tail1.map fun v => (v.1 * c, v.2 * c), tail2 := t.tail2.map fun v => (v.1 * c, v.2 * c) }

/-- One full iteration with extrinsic scale ext / 8: the likelihoods in block order, the next a priori values and the
next input, scaled by 64. Log 84 (DEDUCED). -/
def turboIter (perm : List Nat) (ext : Nat) (t : TurboIn) (apr : List Int) : List Int × List Int × TurboIn :=
  let (_, e1) := mapDecode t.sys t.par1 apr t.tail1
  let t8 := t.scale 8
  let pick (l : List Int) : List Int := perm.map fun i => l.getD i 0
  let (l2, e2) := mapDecode (pick t8.sys) t8.par2 (pick (e1.map (· * (ext : Int)))) t8.tail2
  let back (l : List Int) : List Int :=
    (List.zip perm l).foldl (fun (r : List Int) x => r.set x.1 x.2) (List.replicate l.length 0)
  (back l2, back (e2.map (· * (ext : Int))), t8.scale 8)

/-- Hard decisions; a likelihood of 0 takes the free choice of its position. Log 84 (DEDUCED). -/
def hardBits (ls : List Int) (fr : List Nat) : List Nat :=
  match ls with
  | [] => []
  | l :: t => (if l > 0 then 0 else if l < 0 then 1 else fr.headD 0 % 2) :: hardBits t fr.tail

/-- Run up to `n` iterations, stopping early when `stop` holds of the data bits (R184): iterations run, bits. Log 84 (DEDUCED). -/
def turboRun (perm : List Nat) (ext f : Nat) (stop : List Nat → Bool) (fr : List Nat) (t : TurboIn) (apr : List Int) (done n : Nat) :
    Nat × List Nat :=
  match n with
  | 0 => (done, [])
  | n + 1 =>
    let (l, apr1, t1) := turboIter perm ext t apr
    let bs := (hardBits l fr).drop f
    if n = 0 ∨ stop bs then (done + 1, bs) else turboRun perm ext f stop fr t1 apr1 (done + 1) n

end Sys2Proof.Machine
end

