-- ==== Sys2Proof/Machine/Fixed.lean ====
section
/-! DEFINITION. Numbers the spec gives as exact reals: sines, square roots and decibel factors, computed in fixed point with
100 fraction bits, far below every rounding step that uses them (R104, R130). -/

namespace Sys2Proof.Machine

/-- One in fixed point. -/
def fxOne : Nat := 2 ^ 100

/-- 2 pi in fixed point. -/
def fxTwoPi : Nat := 7964883625991394727376702227904

/-- 10^(1/80) and its inverse in fixed point. -/
def fxDb : Nat := 1304666666053227006524293605871
def fxDbInv : Nat := 1231684756015243653812847350130

/-- Terms of a Taylor series in the fixed-point angle `x`, from the term `t` of order `k`, every second one.
Log 68 (DESIGN CHOICE). -/
def fxSeries (x t : Int) (k fuel : Nat) : Int :=
  match fuel with
  | 0 => 0
  | fuel + 1 => t + fxSeries x (-(t * x / fxOne * x / fxOne) / ((k + 1) * (k + 2))) (k + 2) fuel

/-- cos and sin of 2 pi a / b in fixed point. Log 68 (DESIGN CHOICE). -/
def fxCos (a b : Nat) : Int := fxSeries (fxTwoPi * (a % b) / b) fxOne 0 40
/-- Log 68 (DESIGN CHOICE). -/
def fxSin (a b : Nat) : Int := fxSeries (fxTwoPi * (a % b) / b) (fxTwoPi * (a % b) / b) 1 40

/-- The integer square root, bit by bit from bit `k`. -/
def isqrtFrom (n r k : Nat) : Nat :=
  match k with
  | 0 => r
  | k + 1 => isqrtFrom n (if (r + 2 ^ k) * (r + 2 ^ k) ≤ n then r + 2 ^ k else r) k

/-- The integer square root of a number below 2^256. -/
def isqrt (n : Nat) : Nat := isqrtFrom n 0 128

/-- The factor 10^(g / 80) of a gain of g steps of 0.25 dB, in fixed point (R104). -/
def fxGain (g : Int) : Nat :=
  (List.range g.natAbs).foldl (fun f _ => f * (if g < 0 then fxDbInv else fxDb) / fxOne) fxOne

/-- x / d rounded to the nearest integer, ties away from zero (R104). -/
def roundDiv (x : Int) (d : Nat) : Int :=
  if x < 0 then -((2 * -x + d) / (2 * d)) else (2 * x + d) / (2 * d)

/-- A sample in C24 units with gain g, as it is stored in C24 or C12 (R104): the component and whether it saturated. -/
def gainStore (c24 : Bool) (g v : Int) : Int × Bool :=
  if c24 then satW 24 (roundDiv (v * fxGain g) fxOne) else satW 12 (roundDiv (v * fxGain g) (fxOne * 4096))

end Sys2Proof.Machine
end

