-- ==== Sys2Proof/Machine/Spc.lean ====
section
/-! DEFINITION. Spectral engines: the descriptor, the transform, the end of a job (R127 to R133). -/

namespace Sys2Proof.Machine

/-- The descriptor of an SPC job (R128). -/
structure SpcDesc where
  inv : Bool
  in24 : Bool
  out24 : Bool
  mode : Nat
  rot : Bool
  map : Bool
  count : Nat
  n : Nat
  cp : Nat
  first : Nat
  fixsh : Nat
  bins : Nat
  inBase : Nat
  inLen : Nat
  inOff : Nat
  inStride : Nat
  outBase : Nat
  outStride : Nat
  deriving DecidableEq, Repr

/-- Read a descriptor. -/
def spcDesc (ws : List Word) : SpcDesc :=
  let w (i : Nat) : Nat := (ws.getD i 0).toNat
  { inv := bits (w 0) 23 23 == 1, in24 := bits (w 0) 22 22 == 1, out24 := bits (w 0) 21 21 == 1
    mode := bits (w 0) 20 19, rot := bits (w 0) 18 18 == 1, map := bits (w 0) 17 17 == 1
    count := bits (w 0) 16 13 + 1, n := bits (w 0) 12 0
    cp := bits (w 1) 23 12 + bits (w 2) 18 18 * 4096, first := bits (w 1) 11 0
    fixsh := bits (w 2) 23 19, bins := bits (w 2) 12 0
    inBase := w 3 + bits (w 4) 7 0 * 2 ^ 24, inLen := w 5, inOff := w 6, inStride := w 7
    outBase := w 8 + bits (w 9) 7 0 * 2 ^ 24, outStride := w 10 }

/-- A number without its factors p, at most `fuel` of them. -/
def stripP (p n fuel : Nat) : Nat :=
  match fuel with
  | 0 => n
  | fuel + 1 => if n % p = 0 then stripP p (n / p) fuel else n

/-- Whether a transform length is one of R127. -/
def spcLen (n : Nat) : Bool :=
  decide (12 ≤ n) && decide (n ≤ 4096) && stripP 5 (stripP 3 (stripP 2 n 12) 8) 6 == 1

/-- Whether a descriptor is valid (R132, ERR 1). BINS 0 is accepted and keeps no bin: R132 does not list it.
Log 65 (DESIGN CHOICE), 199 (DESIGN CHOICE). -/
def SpcDesc.valid (d : SpcDesc) : Bool :=
  d.mode != 3 && decide (d.fixsh ≤ 24) && spcLen d.n && decide (d.cp ≤ d.n) && decide (d.first + d.bins ≤ d.n) &&
  (d.mode != 1 || decide (d.bins * (if d.out24 then 2 else 1) + 1 ≤ d.outStride))

/-- Words of a sample. -/
def wordsOf (c24 : Bool) : Nat := if c24 then 2 else 1

/-- Read one sample in C24 units, a C12 component counting 2^12 (R8, R104); none on a bus error. -/
def Dev.sampleRead (s : Dev) (a : Nat) (c24 : Bool) : Option (Int × Int) × Dev :=
  match s.memRead a with
  | (none, s) => (none, s)
  | (some w, s) =>
    if c24 then
      match s.memRead (a + 1) with
      | (none, s) => (none, s)
      | (some q, s) => (some (w.toInt, q.toInt), s)
    else (some (c12I w * 4096, c12Q w * 4096), s)

/-- Read samples from a list of addresses; none on the first bus error. -/
def Dev.samplesRead (s : Dev) (as : List Nat) (c24 : Bool) : Option (List (Int × Int)) × Dev :=
  match as with
  | [] => (some [], s)
  | a :: t =>
    match s.sampleRead a c24 with
    | (none, s) => (none, s)
    | (some x, s) =>
      match s.samplesRead t c24 with
      | (none, s) => (none, s)
      | (some xs, s) => (some (x :: xs), s)

/-- Words of a sample in memory. -/
def sampleWords (c24 : Bool) (x : Int × Int) : List Word := if c24 then [wordI x.1, wordI x.2] else [c12 x.1 x.2]

/-- The frequency of a bin in MAP order (R130). -/
def SpcDesc.freq (d : SpcDesc) (i : Nat) : Int := if d.map then (i : Int) - (d.n / 2 : Nat) else i

/-- The exact sum of R130 at output index `o`, in fixed point; `xs` pairs each input with its index (sample or frequency).
Log 67 (DEDUCED). -/
def spcSum (d : SpcDesc) (xs : List (Int × (Int × Int))) (o : Int) : Int × Int :=
  xs.foldl (fun acc x =>
    let (k, n) := if d.inv then (x.1, o) else (o, x.1)
    let ph := ((n * (2 * k + bit d.rot)) % (2 * d.n)).toNat
    let c := fxCos ph (2 * d.n)
    let sn := if d.inv then fxSin ph (2 * d.n) else -(fxSin ph (2 * d.n))
    (acc.1 + x.2.1 * c - x.2.2 * sn, acc.2 + x.2.1 * sn + x.2.2 * c)) (0, 0)

/-- A component scaled by its mode and rounded (R130): FIXED and BLOCK by 2^e, UNITARY by the square root of N.
Log 67 (DEDUCED). -/
def spcScale (d : SpcDesc) (e : Nat) (x : Int) : Int :=
  let w : Nat := if d.out24 then 1 else 4096
  if d.mode = 2 then roundDiv (x * fxOne) (isqrt (d.n * fxOne * fxOne) * fxOne * w) else roundDiv x (fxOne * 2 ^ e * w)

/-- Bits of an output component. -/
def SpcDesc.width (d : SpcDesc) : Nat := if d.out24 then 24 else 12

/-- Whether a component saturates. -/
def SpcDesc.sat (d : SpcDesc) (x : Int) : Bool := (satW d.width x).2

/-- The smallest exponent, at most 24, at which no component saturates. Log 67 (DEDUCED). -/
def spcExp (d : SpcDesc) (xs : List (Int × Int)) : Nat :=
  ((List.range 25).find? fun e => xs.all fun x => !d.sat (spcScale d e x.1) && !d.sat (spcScale d e x.2)).getD 24

/-- A written component: the exact one, or a neighbour within 1 (R130), saturated. Log 67 (DEDUCED), 68 (DESIGN CHOICE). -/
def SpcDesc.written (d : SpcDesc) (x : Int) (r : Nat) : Int := (satW d.width ((satW d.width x).1 + ((r % 3 : Nat) : Int) - 1)).1

/-- The samples written for exact ones, each component with its free choice. -/
def spcWritten (d : SpcDesc) (xs : List (Int × Int)) (rs : List Nat) : List (Int × Int) :=
  match xs with
  | [] => []
  | x :: t => (d.written x.1 (rs.getD 0 1), d.written x.2 (rs.getD 1 1)) :: spcWritten d t (rs.drop 2)

/-- Addresses of the inputs of transform j (R129). -/
def SpcDesc.inputs (d : SpcDesc) (j : Nat) : List Nat :=
  let w := wordsOf d.in24
  (List.range (if d.inv then d.bins else d.n)).map fun i =>
    let o := (d.inOff + (if d.inv then 0 else d.cp) + i) * w
    d.inBase + j * d.inStride + (if d.inLen = 0 then o else o % d.inLen)

/-- Indices of the computed outputs in their order: kept bins, or all samples. -/
def SpcDesc.outs (d : SpcDesc) : List Int :=
  if d.inv then (List.range d.n).map Int.ofNat else (List.range d.bins).map fun i => d.freq (d.first + i)

/-- What an inverse transform writes: its last CP samples, copied, then all of them (R129). -/
def SpcDesc.prefixed {α : Type} (d : SpcDesc) (xs : List α) : List α := if d.inv then xs.drop (d.n - d.cp) ++ xs else xs

/-- The kept inputs with their indices. -/
def SpcDesc.index (d : SpcDesc) (xs : List (Int × Int)) : List (Int × (Int × Int)) :=
  (List.range xs.length).map fun i => ((if d.inv then d.freq (d.first + i) else (i : Int)), xs.getD i (0, 0))

/-- What a job has found so far: saturated components, the largest exponent, and an error with its transform. -/
structure SpcRun where
  sats : Nat
  exp : Nat
  err : Option (Nat × Nat)
  deriving DecidableEq, Repr

/-- Run transform j of a job. A saturated component of the cyclic prefix counts as often as it is written.
Log 68 (DESIGN CHOICE), 199 (DESIGN CHOICE). -/
def Dev.spcTransform (s : Dev) (d : SpcDesc) (r : SpcRun) (j : Nat) : SpcRun × Dev :=
  if r.err.isSome then (r, s)
  else
    match s.samplesRead (d.inputs j) d.in24 with
    | (none, s) => ({ r with err := some (2, j) }, s)
    | (some xs, s) =>
      let sums := d.outs.map (spcSum d (d.index xs))
      let e := match d.mode with | 0 => d.fixsh | 1 => spcExp d sums | _ => 0
      let ys := sums.map fun x => (spcScale d e x.1, spcScale d e x.2)
      let sats := (d.prefixed ys).foldl (fun n y => n + bit (d.sat y.1) + bit (d.sat y.2)) 0
      let (fr, s) := s.freeN (2 * ys.length)
      let ws := (d.prefixed (spcWritten d ys fr)).flatMap (sampleWords d.out24) ++ (if d.mode = 1 then [word e] else [])
      match s.memWriteN (d.outBase + j * d.outStride) ws with
      | (false, s) => ({ r with err := some (3, j) }, s)
      | (true, s) => ({ r with sats := r.sats + sats, exp := Nat.max r.exp e }, s)

/-- SPC_JOB_END: the job in place `p` of engine `n` computes its transforms and ends (R129 to R132). Log 64 (DESIGN CHOICE). -/
def Dev.spcEnd (s : Dev) (n p : Nat) : Dev :=
  let u := 0x80 + n
  match (s.jobsOf u)[p]? with
  | none => s
  | some j =>
    let d := spcDesc (j.bead.drop 4)
    if d.valid && decide (11 ≤ (j.bead.drop 4).length) then
      let (r, s) := (List.range d.count).foldl (fun (a : SpcRun × Dev) i => a.2.spcTransform d a.1 i)
        ({ sats := 0, exp := 0, err := none }, s)
      match r.err with
      | some (e, i) => s.jobEnd u j 1 (e * 2 ^ 16 + i) []
      | none =>
        let ex := match d.mode with | 0 => d.fixsh | 1 => r.exp | _ => 0
        s.jobEnd u j 0 (bit (r.sats != 0) * 2 ^ 20 + ex * 2 ^ 15 + Nat.min r.sats 32767) []
    else s.jobEnd u j 1 (2 ^ 16) []

end Sys2Proof.Machine
end

