-- ==== Sys2Proof/Machine/Accel.lean ====
section
/-! DEFINITION. The ends of turbo decoder, trellis decoder and encoder jobs (R177 to R202). -/

namespace Sys2Proof.Machine

/-- A two-word address of a descriptor: bits [31:24] in [7:0] of the second word. -/
def descAddr (ws : List Word) (i : Nat) : Nat := (ws.getD i 0).toNat + (ws.getD (i + 1) 0).toNat % 256 * 2 ^ 24

/-- A failed job of R186: ERR in status [20:16]. Log 60 (DEDUCED). -/
def Dev.jobFail (s : Dev) (u : Nat) (j : Job) (err : Nat) : Dev := s.jobEnd u j 1 (err * 2 ^ 16) []

/-! ### Turbo decoders -/

/-- The descriptor of a turbo job (R183). -/
structure TrbDesc where
  rpt : Bool
  imax : Nat
  estop : Bool
  outen : Bool
  k : Nat
  f : Nat
  sb : Nat
  out : Nat
  unit : Nat
  report : List Word
  deriving DecidableEq, Repr

/-- Read a turbo descriptor. -/
def trbDesc (ws : List Word) : TrbDesc :=
  let w0 := (ws.getD 0 0).toNat
  { rpt := bits w0 23 23 == 1, imax := bits w0 22 19, estop := bits w0 18 18 == 1, outen := bits w0 17 17 == 1
    k := bits w0 12 0, f := bits (ws.getD 1 0).toNat 23 18, sb := descAddr ws 2, out := descAddr ws 4
    unit := bits (ws.getD 6 0).toNat 23 12, report := (List.range 4).map fun i => ws.getD (7 + i) 0 }

/-- Data bits of a turbo job. -/
def TrbDesc.tbs (d : TrbDesc) : Nat := d.k - d.f - 24

/-- Whether a turbo descriptor is valid (R186). Log 65 (DESIGN CHOICE). -/
def TrbDesc.valid (d : TrbDesc) (len : Nat) : Bool :=
  decide (11 ≤ len) && (qppOf d.k).isSome && decide (d.f + 24 < d.k) && decide (1 ≤ d.imax) && decide (d.imax ≤ 8) &&
  !(d.outen && overlaps d.out (bitWords d.tbs) d.sb (8 + (kwOf d.k + 1) / 2))

/-- The decoder's input from the value words of a buffer (R178, R179). -/
def turboIn (k f : Nat) (ws : List Word) : TurboIn :=
  let buf := turboBuffer k
  let place := (List.range buf.length).filterMap fun i => (buf.getD i none).map fun x => (x, softAt true ws i)
  let v (s i : Nat) : Int := ((place.find? fun e => e.1 == (s, i)).map (·.2)).getD 0
  { sys := (List.range k).map fun i => if i < f then 2047 else v 0 i
    par1 := (List.range k).map fun i => if i < f then 0 else v 1 i
    par2 := (List.range k).map fun i => v 2 i
    tail1 := [(v 0 k, v 1 k), (v 2 k, v 0 (k + 1)), (v 1 (k + 1), v 2 (k + 1))]
    tail2 := [(v 0 (k + 2), v 1 (k + 2)), (v 2 (k + 2), v 0 (k + 3)), (v 1 (k + 3), v 2 (k + 3))] }

/-- Iterations a job may run: min(IMAX, IMAXCAP), IMAXCAP 0 and 9 to 15 acting as 8 (R184, R203). -/
def trbCap (cfg : Word) (imax : Nat) : Nat :=
  let c := getF cfg Reg.TRB_CFG_IMAXCAP_f
  Nat.min imax (if c = 0 ∨ c > 8 then 8 else c)

/-- The extrinsic scale in eighths; 0 acts as 8. -/
def trbExt (cfg : Word) : Nat :=
  let e := getF cfg Reg.TRB_CFG_EXTSC_f
  if e = 0 ∨ e > 8 then 8 else e

/-- The sequence number of the next result bead. -/
def Dev.takeRseq (s : Dev) : Nat × Dev :=
  let n := (s.rget Reg.TRB_RSEQ).toNat
  (n, s.rset Reg.TRB_RSEQ (word (n + 1)))

/-- The continuation beads of a result: word 0 RSEQ, then up to 63 data words (R190). Log 90 (DEDUCED). -/
def Dev.trbMore (s : Dev) (u unit order rseq : Nat) (ws : List Word) (fuel : Nat) : Dev :=
  match fuel with
  | 0 => s
  | fuel + 1 =>
    if ws = [] then s
    else (s.sendTo u 0x20 s.devnum unit order (word rseq :: ws.take 63)).trbMore u unit order rseq (ws.drop 63) fuel

/-- The result bead of a job (R188, R189). -/
def Dev.trbResult (s : Dev) (u : Nat) (j : Job) (d : TrbDesc) (ok : Bool) (iter : Nat) (early fail : Bool) (crc : Nat)
    (data : List Word) : Dev :=
  if d.rpt then
    let (rseq, s) := s.takeRseq
    let order := (jobBead j.bead).order
    let w0 := word (bit ok * 2 ^ 23 + iter * 2 ^ 19 + bit early * 2 ^ 18 + bit (s.keyPast j.key) * 2 ^ 17 + bit fail * 2 ^ 16)
    let head := w0 :: word rseq :: d.report ++ [word (if fail then 0 else d.tbs), word (if fail then 0 else crc)]
    let s := s.sendTo u 0x20 s.devnum d.unit order (head ++ (if ok then data.take 56 else []))
    if ok && decide (d.tbs > 1344) then s.trbMore u d.unit order rseq (data.drop 56) 8 else s
  else s

/-- Whether words lie in reckoning memory, the only place a turbo job may use (R183, R186). -/
def inRecMem (a n : Nat) : Bool := decide (0x10000000 ≤ a) && decide (a + n ≤ 0x13000000)

/-- TRB_JOB_END: the job of turbo decoder `n` (R184 to R190). A job that fails on its output has run its iterations.
Log 64 (DESIGN CHOICE), 65 (DESIGN CHOICE). -/
def Dev.trbEnd (s : Dev) (n : Nat) : Dev :=
  let u := 0xA8 + n
  match (s.jobsOf u).head? with
  | none => s
  | some j =>
    let ws := j.bead.drop 4
    let d := trbDesc ws
    let fail (s : Dev) (e : Nat) : Dev := (s.trbResult u j d false 0 false true 0 []).jobFail u j e
    if !(d.valid ws.length) then fail s 1
    else if !(inRecMem d.sb (8 + (kwOf d.k + 1) / 2)) then fail s 2
    else
      match s.wordsRead d.sb 2 with
      | (none, s) => fail s 2
      | (some h, s) =>
        let h0 := (h.getD 0 0).toNat
        let h1 := (h.getD 1 0).toNat
        match s.wordsRead (d.sb + 8) ((kwOf d.k + 1) / 2) with
        | (none, s) => fail s 2
        | (some vs, s) =>
          if bits h0 23 16 ≠ 0xB5 ∨ bits h0 15 12 ≠ 1 ∨ bits h1 12 0 ≠ d.k ∨ bits h1 23 18 ≠ d.f then fail s 4
          else
            let (fr, s) := s.freeN d.k
            let pass (bs : List Nat) : Bool := crc24a bs == 0
            let cap := trbCap j.cfg d.imax
            let (iter, bs) := turboRun (qppPerm d.k) (trbExt j.cfg) d.f (fun bs => d.estop && pass bs)
              (fr.map (· % 2)) (turboIn d.k d.f vs) (List.replicate d.k 0) 0 cap
            let ok := pass bs
            let early := d.estop && ok
            let data := bs.take d.tbs
            let crc := ofBits (bs.drop d.tbs)
            let (wrote, s) :=
              if !d.outen then (true, s) else if inRecMem d.out (bitWords d.tbs) then s.bitsWrite d.out data else (false, s)
            if !wrote then (s.trbResult u j d ok iter early true crc (packBits data)).jobFail u j 3
            else
              let s := s.count (Reg.TRB_JOBS_LO n) 1
              let s := if ok then s else s.count (Reg.TRB_CRCF_LO n) 1
              let s := s.trbResult u j d ok iter early false crc (packBits data)
              s.jobEnd u j 0 (bit ok * 2 ^ 20 + iter * 2 ^ 16 + bit early * 2 ^ 15) []

/-! ### Trellis decoders -/

/-- TRL_JOB_END: the job of trellis decoder `n` (R192 to R196). Log 64 (DESIGN CHOICE), 65 (DESIGN CHOICE). -/
def Dev.trlEnd (s : Dev) (n : Nat) (io : Port := memPort) : Dev :=
  let u := 0x98 + n
  match (s.jobsOf u).head? with
  | none => s
  | some j =>
    let ws := j.bead.drop 4
    let w0 := (ws.getD 0 0).toNat
    let tail := bits w0 23 22 == 1
    let rate3 := bits w0 21 21 == 1
    let s12 := bits w0 20 20 == 1
    let more := bits w0 19 18
    let nbit := bits w0 12 0
    let nsoft := (nbit + (if tail then 0 else 6)) * (if rate3 then 3 else 2)
    let inBase := descAddr ws 1
    let outBase := descAddr ws 3
    let ok := decide (5 ≤ ws.length) && decide (bits w0 23 22 ≤ 1) && decide (1 ≤ nbit) && (!tail || decide (7 ≤ nbit)) &&
      (!tail || more != 3) && !(overlaps inBase (softWords s12 nsoft) outBase (bitWords nbit))
    if !ok then s.jobFail u j 1
    else
      match s.wordsRead inBase (softWords s12 nsoft) io with
      | (none, s) => s.jobFail u j 2
      | (some iw, s) =>
        let vs := (List.range nsoft).map (softAt s12 iw)
        let f0 := s.fresh
        let fr (i : Nat) : Nat := Config.free (f0 + i)
        let s := { s with fresh := s.fresh + 3 * (64 * (nbit + 6) + 1) }
        let (bs, st, passes, closes) :=
          if tail then vitTail rate3 vs nbit fr (List.replicate 64 0) 0 more
          else ((vitTerm rate3 vs nbit fr).take nbit, 0, 1, true)
        let coded := convEncode rate3 st (if tail then bs else bs ++ List.replicate 6 0)
        let (wrote, s) := s.bitsWrite outBase bs io
        if !wrote then s.jobFail u j 3
        else
          (s.count (Reg.TRL_JOBS_LO n) 1).jobEnd u j 0
            (bit closes * 2 ^ 20 + (passes - 1) * 2 ^ 18 + Nat.min (reencode vs coded) 262143) []

/-! ### Encoders -/

/-- The descriptor of an encoder job (R197). -/
structure EncDesc where
  code : Nat
  entry : Bool
  exit : Nat
  mode : Nat
  crc : Nat
  a : Nat
  rv : Nat
  e : Nat
  mask : Nat
  init : Nat
  amp : Nat
  initHi : Nat
  inBase : Nat
  outBase : Nat
  ncb : Nat
  deriving DecidableEq, Repr

/-- Read an encoder descriptor. -/
def encDesc (ws : List Word) : EncDesc :=
  let w (i : Nat) : Nat := (ws.getD i 0).toNat
  { code := bits (w 0) 23 22, entry := bits (w 0) 21 21 == 1, exit := bits (w 0) 20 19, mode := bits (w 0) 18 17
    crc := bits (w 0) 16 15, a := bits (w 0) 12 0, rv := bits (w 1) 23 22, e := bits (w 1) 21 0
    mask := bits (w 2) 15 0, init := w 3, amp := bits (w 4) 23 12, initHi := bits (w 4) 7 0
    inBase := descAddr ws 5, outBase := descAddr ws 7, ncb := bits (w 9) 14 0 }

/-- The block size of a TURBO job. -/
def EncDesc.k (d : EncDesc) : Nat := (qppAtLeast (d.a + 24)).getD 0

/-- The circular buffer size of a TURBO job. -/
def EncDesc.ncbOf (d : EncDesc) : Nat := if d.ncb = 0 then kwOf d.k else d.ncb

/-- HR of an SBA job. -/
def EncDesc.hr (d : EncDesc) : Nat := 2 ^ d.rv

/-- Bits a job reads. -/
def EncDesc.inBits (d : EncDesc) : Nat := if d.entry then d.e else d.a

/-- Symbols or bits a job writes. -/
def EncDesc.outItems (d : EncDesc) : Nat :=
  if d.code = 2 then (if d.exit = 2 then burstLen d.mask d.hr else hD d.mask d.hr)
  else if d.exit = 2 then (if d.mode = 0 then d.e / 2 else d.e / 4) else d.e

/-- Words a job writes. -/
def EncDesc.outWords (d : EncDesc) : Nat := if d.exit = 2 then d.outItems else bitWords d.outItems

/-- Whether an encoder descriptor is valid (R197 to R201). Log 65 (DESIGN CHOICE). -/
def EncDesc.valid (d : EncDesc) (len : Nat) : Bool :=
  decide (10 ≤ len) && d.code != 3 && d.exit != 3 && d.mode != 3 && d.crc != 3 && decide (d.amp ≤ 2047) &&
  (match d.code with
   | 0 => d.mode != 2 && d.crc == 1 && decide (16 ≤ d.a) && decide (d.a ≤ 6120) && decide (1 ≤ d.e) && decide (d.initHi < 128) &&
          decide (d.ncb ≤ kwOf d.k)
   | 1 => d.mode != 2 && d.crc != 1 && decide (1 ≤ d.a) && decide (d.a ≤ 4095) && decide (1 ≤ d.e) && decide (d.initHi < 128)
   | _ => d.mode == 2 && !d.entry && headerOk d.mask && d.a == 8 * hLen d.mask) &&
  (d.exit != 2 || d.code == 2 || (if d.mode = 0 then d.e % 2 == 0 else d.e % 4 == 0 && decide (d.amp ≤ 682))) &&
  !(overlaps d.inBase (bitWords d.inBits) d.outBase d.outWords)

/-- The rate-matched bits of a TURBO or TBCC job (R198). -/
def EncDesc.matched (d : EncDesc) (ins : List Nat) : List Nat :=
  if d.entry then ins
  else if d.code = 0 then
    let b := ins ++ bitsOf 24 (crc24a ins)
    let f := d.k - b.length
    let sts := turboEncode (List.replicate f 0 ++ b) f
    selectE (bufferBits sts (turboBuffer d.k) d.ncbOf (rvStart d.k d.ncbOf d.rv % d.ncbOf)) d.e
  else
    let b := if d.crc = 2 then ins ++ bitsOf 16 (crc16 ins ^^^ d.mask) else ins
    let n := b.length
    let st := ofBits (((List.range 6).map fun i => b.getD ((n - 1 - i % n) % n) 0))
    let cs := convEncode true st b
    let sts := (List.range 3).map fun k => (List.range n).map fun i => some (cs.getD (3 * i + k) 0)
    selectE (bufferBits sts (convBuffer n) (convBuffer n).length 0) d.e

/-- The C12 symbols of bits (R199). -/
def mapSymbols (mode amp : Nat) (bs : List Nat) : List Word :=
  let b (i : Nat) : Int := bs.getD i 0
  let a : Int := amp
  match mode with
  | 0 => (List.range (bs.length / 2)).map fun i => c12 (a * (1 - 2 * b (2 * i))) (a * (1 - 2 * b (2 * i + 1)))
  | 1 => (List.range (bs.length / 4)).map fun i =>
      c12 (a * (1 - 2 * b (4 * i)) * (1 + 2 * b (4 * i + 2))) (a * (1 - 2 * b (4 * i + 1)) * (1 + 2 * b (4 * i + 3)))
  | _ => (List.range bs.length).map fun i =>
      let v := a * (1 - 2 * b i)
      if i % 2 = 0 then c12 v 0 else c12 0 v

/-- The bytes of a bit string. -/
def bytesOf (bs : List Nat) : List Nat := (List.range (bs.length / 8)).map fun i => ofBits ((bs.drop (8 * i)).take 8)

/-- What a job writes: bits, or symbol words. -/
def EncDesc.output (d : EncDesc) (ins : List Nat) : List Nat × List Word :=
  if d.code = 2 then
    if d.exit = 2 then ([], mapSymbols 2 d.amp (burstBits d.mask d.hr (d.init + d.initHi * 2 ^ 24) (bytesOf ins)))
    else (dataBits d.mask d.hr (bytesOf ins), [])
  else
    let e := d.matched ins
    let e := if d.exit = 0 then e else xorBits e (goldSeq (d.init + d.initHi * 2 ^ 24) e.length)
    if d.exit = 2 then ([], mapSymbols d.mode d.amp e) else (e, [])

/-- ENC_JOB_END: the job of encoder `n` (R197 to R201). Log 64 (DESIGN CHOICE). -/
def Dev.encEnd (s : Dev) (n : Nat) (io : Port := memPort) : Dev :=
  let u := 0xB4 + n
  match (s.jobsOf u).head? with
  | none => s
  | some j =>
    let ws := j.bead.drop 4
    let d := encDesc ws
    if !(d.valid ws.length) then s.jobFail u j 1
    else
      match s.bitsRead d.inBase d.inBits io with
      | (none, s) => s.jobFail u j 2
      | (some ins, s) =>
        let (bs, syms) := d.output ins
        let (wrote, s) := if d.exit = 2 then s.memWriteN d.outBase syms io else s.bitsWrite d.outBase bs io
        if !wrote then s.jobFail u j 3
        else (s.count (Reg.ENC_JOBS_LO n) 1).jobEnd u j 0 (Nat.min d.outWords 2097151) []

end Sys2Proof.Machine
end

