-- ==== Sys2Proof/Machine/Radio.lean ====
section
/-! DEFINITION. The arithmetic of the radio signal in fixed point: angles, the root-raised-cosine pulse, the matched filter, the
detection statistic, levels in dBFS, soft values (R49, R104, R121, R122, R138, R142, R145 to R150). Samples are pairs of
components in C24 units; an SBA stream has one every 2,500 ns, numbered from shared time 0. -/

namespace Sys2Proof.Machine

/-- A complex number in a common fixed-point scale. -/
abbrev Cpx := Int × Int

/-- Sum. -/
def cAdd (a b : Cpx) : Cpx := (a.1 + b.1, a.2 + b.2)

/-- a times the conjugate of b. -/
def cMulConj (a b : Cpx) : Cpx := (a.1 * b.1 + a.2 * b.2, a.2 * b.1 - a.1 * b.2)

/-- a turned by -x / d of a turn. Log 68 (DESIGN CHOICE), 80 (DESIGN CHOICE). -/
def cTurn (a : Cpx) (x : Int) (d : Nat) : Cpx :=
  let p := (x % d).toNat
  let c := fxCos p d
  let s := fxSin p d
  ((a.1 * c + a.2 * s) / fxOne, (a.2 * c - a.1 * s) / fxOne)

/-- Squared magnitude. -/
def cPow (a : Cpx) : Nat := (a.1 * a.1 + a.2 * a.2).toNat

/-- Parts of a turn in which phases are kept. -/
def nturn : Nat := 1000000000

/-- The largest angle of the first quadrant, in 10^-9 turn, whose direction does not pass (re, im), bit by bit from bit k. -/
def argFrom (re im : Int) (r k : Nat) : Nat :=
  match k with
  | 0 => r
  | k + 1 =>
    let a := r + 2 ^ k
    argFrom re im (if a ≤ 250000000 ∧ re * fxSin a nturn ≤ im * fxCos a nturn then a else r) k

/-- The angle of a number in 10^-9 turn, above minus half a turn; 0 for 0. Log 68 (DESIGN CHOICE). -/
def argN (z : Cpx) : Int :=
  let q : Int := argFrom z.1.natAbs z.2.natAbs 0 28
  if z.1 = 0 ∧ z.2 = 0 then 0
  else if 0 ≤ z.1 then (if 0 ≤ z.2 then q else -q)
  else if 0 ≤ z.2 then 500000000 - q else q - 500000000

/-! ### Pulse and matched filter (R49, R138) -/

/-- The root-raised-cosine pulse of roll-off 0.35 at t / T, in fixed point; 1 is the mean of its square over one T (R49).
Log 184 (DEDUCED). -/
def rrc (t T : Nat) : Int :=
  if t = 0 then (65 * fxOne / 100 + 28 * fxOne * fxOne / (10 * fxTwoPi) : Nat)
  else
    let num := fxSin (65 * t) (200 * T) + 14 * t * fxCos (135 * t) (200 * T) / (10 * T : Nat)
    num * 200 * T ^ 3 * fxOne / (fxTwoPi * t * ((100 * T ^ 2 : Nat) - (196 * t ^ 2 : Nat)))

/-- Samples of an SBA stream in one symbol period of T ns. -/
def overSamp (T : Nat) : Nat := T / 2500

/-- The signal after a matched filter centred on `f` (10^-6 Hz), with the phase of `f` since `t0` (ns) removed, at the time `t` (ps);
`xs` are the samples from number `k0` on. Its unit is 1 / fxOne of a C24 unit. Log 184 (DEDUCED). -/
def matched (T k0 : Nat) (xs : List Cpx) (f : Int) (t0 : Nat) (t : Int) : Cpx :=
  let z := xs.zipIdx.foldl (fun (a : Cpx) (e : Cpx × Nat) =>
    let n := k0 + e.2
    let g := rrc (t - (n * 2500000 : Nat)).natAbs (T * 1000)
    cAdd a (cTurn (e.1.1 * g, e.1.2 * g) (f * ((n * 2500 : Nat) - (t0 : Int))) (10 ^ 15))) (0, 0)
  (z.1 / overSamp T, z.2 / overSamp T)

/-- Take the direction of symbol k, of bit b, out of a received value (R48). -/
def unmap (k b : Nat) (z : Cpx) : Cpx :=
  let z := if k % 2 = 0 then z else (z.2, -z.1)
  if b = 0 then z else (-z.1, -z.2)

/-- Bit k of the preamble (R54). -/
def preBit (k : Nat) : Nat := (bitsOf 16 0x1D65).getD (k % 16) 0

/-- The frequency of grid hypothesis `fi` in 10^-6 Hz: fi × Rs / 64 (R137). -/
def gridFreq (T : Nat) (fi : Int) : Int := fi * (10 ^ 15 / (64 * T) : Nat)

/-- The largest hypothesis number on either side of Fc (R137). -/
def gridMax (T : Nat) : Nat := if T = 320000 then 1997 else if T = 80000 then 469 else 85

/-- The coherent correlation c(a, q) of R138. -/
def correlate (T k0 : Nat) (xs : List Cpx) (fi : Int) (tau q : Nat) : Cpx :=
  (List.range 16).foldl (fun a k =>
    let t : Int := ((tau : Int) + ((16 * q + k : Nat) - 64) * T) * 1000
    cAdd a (unmap k (preBit k) (matched T k0 xs (gridFreq T fi) (tau - 64 * T) t))) (0, 0)

/-- The detection statistic of R138 in fixed point, from each antenna's samples and noise floor (2^-20 of a squared C12 unit).
Log 184 (DEDUCED). -/
def statistic (T k0 : Nat) (rx : List (List Cpx)) (noise : List Nat) (fi : Int) (tau : Nat) : Nat :=
  let a := noise.length
  ((List.range a).map fun i =>
    ((List.range 4).foldl (fun n q => n + cPow (correlate T k0 (rx.getD i []) fi tau q) / fxOne) 0) * overSamp T /
      (1024 * a * noise.getD i 0)).foldl (· + ·) 0

/-! ### Levels (R8, R122, R142) -/

/-- Full scale, the squared magnitude 2,048 of R8, in units of 2^-20 of a squared C12 unit. Log 77 (DESIGN CHOICE). -/
def nfFull : Nat := 2 ^ 42

/-- The largest step k of 0.25 dB with 10^(k / 40) not above a power relative to full scale. Log 77 (DESIGN CHOICE). -/
def dbFloor (n : Nat) : Option Int :=
  ((List.range 1200).map fun (i : Nat) => (200 : Int) - (i : Int)).find? fun k => decide (nfFull * (fxGain k * fxGain k) ≤ n * (fxOne * fxOne))

/-- A level in steps of 0.25 dB: the step below or above, at the device's choice `r`; of no power any level.
Log 77 (DESIGN CHOICE). -/
def dbLevel (n r : Nat) : Int :=
  match dbFloor n with
  | some d => d + (r % 2 : Nat)
  | none => sx 12 (r % 4096)

/-- Mean power of samples in units of 2^-20 of a squared C12 unit. -/
def meanPow (xs : List Cpx) : Nat := (xs.map cPow).foldl (· + ·) 0 / (16 * xs.length)

/-- The power of antenna samples over the preamble in the occupied band centred on a hypothesis: the bins of Rs / 64 within
0.675 Rs of it (R142). Log 185 (DESIGN CHOICE). -/
def bandPow (T k0 : Nat) (xs : List Cpx) (fi : Int) (tau : Nat) : Nat :=
  let n := 64 * overSamp T
  let first := (tau - 64 * T) / 2500
  let x (j : Nat) : Cpx := if first + j < k0 then (0, 0) else xs.getD (first + j - k0) (0, 0)
  ((List.range 87).map fun b =>
    let z := (List.range n).foldl (fun a j =>
      cAdd a (cTurn ((x j).1 * fxOne, (x j).2 * fxOne) ((fi + b - 43) * j) n)) (0, 0)
    cPow z).foldl (· + ·) 0 / (fxOne * fxOne * n * n * 16)

/-- Ppre as a power: the mean over the antennas (R142). Log 185 (DESIGN CHOICE). -/
def preamblePow (T k0 : Nat) (rx : List (List Cpx)) (fi : Int) (tau : Nat) : Nat :=
  (rx.map fun xs => bandPow T k0 xs fi tau).foldl (· + ·) 0 / rx.length

/-- The noise of one antenna in an instance's band of 1.35 Rs (R142). -/
def bandNoise (T n : Nat) : Nat := n * 135 / (100 * overSamp T)

/-- A power of steps of 0.25 dB of dBFS in units of 2^-20 of a squared C12 unit. -/
def powOf (d : Int) : Nat := nfFull * (fxGain d * fxGain d) / (fxOne * fxOne)

/-! ### An instance's samples (R121, R149) -/

/-- A filtered value scaled by gain Gi to C12: the components, and whether one was clipped (R121). -/
def toC12 (g : Int) (z : Cpx) : Cpx × Bool :=
  let c (v : Int) : Int × Bool := satW 12 (roundDiv (v * fxGain g) (fxOne * fxOne * 4096))
  (((c z.1).1, (c z.2).1), (c z.1).2 || (c z.2).2)

/-- The value of one antenna at a symbol instant `t` (ps) with phase `ph` (10^-9 turn) removed; none where a sample within T of it
is clipped (R149). Log 186 (DEDUCED). -/
def symbolAt (T k0 : Nat) (xs : List Cpx) (f : Int) (t0 : Nat) (g t ph : Int) : Option Cpx :=
  let near := (List.range xs.length).filter fun j => decide ((t - ((k0 + j) * 2500000 : Nat)).natAbs ≤ T * 1000)
  if near.any fun j => (toC12 g (matched T k0 xs f t0 ((k0 + j) * 2500000 : Nat))).2 then none
  else
    let z := (toC12 g (matched T k0 xs f t0 t)).1
    let r := cTurn (z.1 * fxOne, z.2 * fxOne) ph nturn
    let c (v : Int) : Int := clampI (-2047) 2047 (roundDiv v fxOne)
    some (c r.1, c r.2)

/-! ### Soft values (R145, R146, R150, R163, R175) -/

/-- A branch of the combining: the symbols of one antenna by index in the data section, and its weight. -/
structure Branch where
  weight : Nat
  syms : List (Option Cpx)
  deriving DecidableEq, Repr

/-- Whether symbol i of a data section of `n` symbols is a pilot (R46). -/
def isPilot (n i : Nat) : Bool := i % 17 == 0 || i + 1 == n

/-- The amplitude of a branch: the sum of its pilots over their number. Log 186 (DEDUCED). -/
def Branch.amp (b : Branch) (n : Nat) : Cpx :=
  let ps := (List.range b.syms.length).filterMap fun i => if isPilot n i then (b.syms.getD i none).map (unmap i 0) else none
  let z := ps.foldl cAdd (0, 0)
  (z.1 / Nat.max 1 ps.length, z.2 / Nat.max 1 ps.length)

/-- The soft value of each data symbol of a section of `n` symbols, the branches combined by maximum ratio; 0 where every
contribution is erased (R149, R150). Log 186 (DEDUCED). -/
def softSyms (n : Nat) (bs : List Branch) : List Int :=
  let amps := bs.map fun b => (b, b.amp n)
  ((List.range n).filter fun i => !(isPilot n i)).map fun i =>
    amps.foldl (fun (v : Int) e =>
      match e.1.syms.getD i none with
      | some y => v + (cMulConj (unmap i 0 y) e.2).1 * e.1.weight
      | none => v) 0

/-- Copies of a coded block added after de-interleaving, in the decoder's scale and S12 range (R60, R146, R150, R175).
Log 186 (DEDUCED). -/
def sumCopies (n : Nat) (copies : List (List Int)) : List Int :=
  let perm := interPerm n
  (List.range n).map fun i =>
    let v := copies.foldl (fun (a : Int) c => a + c.getD (perm.idxOf i) 0) 0
    clampI (-2047) 2047 (roundDiv (v * (Config.softUnit + 1)) (2 ^ 60))

/-- Soft values in S12 (R175). -/
def packS12 (vs : List Int) : List Word :=
  (List.range ((vs.length + 1) / 2)).map fun i => c12 (vs.getD (2 * i + 1) 0) (vs.getD (2 * i) 0)

/-! ### Tracking (R147) -/

/-- The gains of the second-order phase loop for one pilot, as numerators over 10^3 d and d^2: with damping z / 1000 the natural
frequency of the noise bandwidth Rs × 0.0005 × 2^FBW gives w = 17 × 2^FBW z / d per pilot, d = z^2 + 250000; 2 (z / 1000) w
and w^2. Log 187 (DEDUCED). -/
def phaseGains (fbw z : Nat) : Nat × Nat × Nat := (2 * z * (17 * 2 ^ fbw * z), (17 * 2 ^ fbw * z) ^ 2, z * z + 250000)

/-- The gain of the first-order timing loop in 10^-6: 4 b / (1 + 2 b) for a noise bandwidth of b Rs. Log 187 (DEDUCED). -/
def timingGain (tbw : Nat) : Nat :=
  let b := match tbw with | 0 => 1 | 1 => 2 | 2 => 5 | _ => 10
  4000000 * b / (10000 + 2 * b)

end Sys2Proof.Machine
end

