-- ==== Sys2Proof/Machine/Burst.lean ====
section
/-! DEFINITION. Burst detectors and their reception instances, collisions, joint reception, reports, acknowledgments, and the
random-access detectors (R62 to R67, R136 to R171, R472). The radio signal reaches a command as samples: `k0` is the number
of the first one, counted from shared time 0 at 0.40 Msample/s, `rx` the samples of each antenna in C24 units after the
stream's gain. -/

namespace Sys2Proof.Machine

/-- Update burst reception. -/
def Dev.onBrx (s : Dev) (f : Brx → Brx) : Dev := { s with brx := f s.brx }

/-- Reception instance i. -/
def Dev.inst (s : Dev) (i : Nat) : Option Inst := SMap.get s.brx.insts none i

/-- Store reception instance i. -/
def Dev.setInst (s : Dev) (i : Nat) (x : Option Inst) : Dev :=
  s.onBrx fun b => { b with insts := SMap.set b.insts none i x }

/-- Store what is kept of a claim. -/
def Dev.setClaim (s : Dev) (o : Nat) (c : Claim) : Dev :=
  s.onBrx fun b => { b with hist := SMap.set b.hist none o (some c) }

/-- The active instances of a carrier slot, with their numbers. -/
def Dev.slotInsts (s : Dev) (det slot : Nat) : List (Nat × Inst) :=
  (List.range 128).filterMap fun k =>
    (s.inst (det * 128 + k)).bind fun x => if x.slot = slot then some (det * 128 + k, x) else none

/-- Symbol rate code of a slot. -/
def Dev.slotRate (s : Dev) (det slot : Nat) : Nat := s.fget (Reg.BDT_CCFG det slot) Reg.BDT_CCFG_RATE_f
/-- Symbol period of a slot in nanoseconds (R137); the invalid RATE 3 acts as 2. Log 189 (DESIGN CHOICE). -/
def Dev.slotT (s : Dev) (det slot : Nat) : Nat := match s.slotRate det slot with | 0 => 320000 | 1 => 80000 | _ => 20000
/-- Symbol rate of a slot in symbol/s (R45, R137); the invalid RATE 3 acts as 2. Log 189 (DESIGN CHOICE). -/
def Dev.slotRs (s : Dev) (det slot : Nat) : Nat := match s.slotRate det slot with | 0 => 3125 | 1 => 12500 | _ => 50000

/-- Header repetition of a slot. -/
def Dev.slotHr (s : Dev) (det slot : Nat) : Nat := 2 ^ s.fget (Reg.BDT_CCFG det slot) Reg.BDT_CCFG_HR_f

/-- The unit number of a detector. -/
def bdtUnit (det : Nat) : Nat := 0xBC + det

/-- First preamble symbol of an instance, in nanoseconds. -/
def Dev.instStart (s : Dev) (x : Inst) : Nat := x.tau - 64 * s.slotT x.det x.slot

/-- End of the closing pilot, once the header is known (R146). -/
def Dev.instStop (s : Dev) (x : Inst) : Option Nat :=
  x.header.map fun h => s.instStart x + burstLen h (s.slotHr x.det x.slot) * s.slotT x.det x.slot

/-- Whether an instance has passed its sync check. -/
def Inst.synced (x : Inst) : Bool := x.stage != InstStage.search

/-- A time in nanoseconds as the three words of R74. -/
def timeWords (ns : Nat) : List Word :=
  [word (ns / 1000000000), word (ns % 1000000000), word (ns % 1000000000 / 2 ^ 24)]

/-- Shared time in nanoseconds. -/
def Dev.nowNs (s : Dev) : Nat := s.time / nsUnit

/-- Something due at a shared time (ns) comes about: time has reached it. Log 5 (DESIGN CHOICE), 96 (DESIGN CHOICE). -/
def Dev.reachNs (s : Dev) (t : Nat) : Dev := s.pass (s.elapsed + (t * nsUnit - s.time))

/-- The sync word of a slot in two registers, bits [31:24] in [7:0] of the second (R45, R173). -/
def Dev.syncWord (s : Dev) (lo : Nat) : Nat := (s.rget lo).toNat + bits (s.rget (lo + 1)).toNat 7 0 * 2 ^ 24

/-- Antennas of a slot. -/
def Dev.slotAnts (s : Dev) (det slot : Nat) : Nat := s.fget (Reg.BDT_CCFG det slot) Reg.BDT_CCFG_AM1_f + 1

/-- The stream key, 256 × unit + stream, of antenna a of a slot (R136). -/
def Dev.slotStream (s : Dev) (det slot a : Nat) : Nat :=
  s.fget (Reg.BDT_CCFG det slot) Reg.BDT_CCFG_DFE_f * 256 + s.fget (Reg.BDT_CCFG det slot) Reg.BDT_CCFG_STREAM_f + a

/-- Symbols of the data section of an instance with an accepted header (R47). -/
def Dev.sectLen (s : Dev) (x : Inst) : Option Nat :=
  x.header.map fun h => burstLen h (s.slotHr x.det x.slot) - 96

/-! ### Reports (R164 to R166) -/

/-- Whether an outcome is reported (R164). -/
def reported (outcome : Nat) (all : Bool) : Bool := all || !(outcome == 6 || outcome == 7 || outcome == 9)

/-- The 16 words of a report (R165). Log 90 (DEDUCED). -/
def Dev.reportWords (s : Dev) (i : Nat) (x : Inst) (outcome cutoff : Nat) (late cont : Bool) (crc : Nat) : List Word :=
  let h := x.header.getD 0
  let joint := x.anchor == some s.devnum && x.contribs != []
  [word (outcome * 2 ^ 20 + s.fget (Reg.BDT_CPOOL x.det x.slot) Reg.BDT_CPOOL_CARRIER_f * 2 ^ 11 +
      bit (x.strong != []) * 2 ^ 10 + bit joint * 2 ^ 9 + bit cont * 2 ^ 8 + bit late * 2 ^ 7 + bit (!s.timeValid) * 2 ^ 6),
   word s.brx.rseq, word i] ++ timeWords (s.instStart x) ++
  (if cutoff = 0 then [0, 0, 0] else timeWords cutoff) ++
  [wordI x.freq,
   word ((BitVec.ofInt 12 x.ppre).toNat * 4096 + (BitVec.ofInt 12 (2 * (x.ppre - x.ninst))).toNat),
   word (x.syncErr * 2 ^ 16 + h), word crc,
   word ((BitVec.ofInt 12 x.drift).toNat * 4096 + Nat.min x.erased 4095),
   word (bit x.partner.isSome * 2 ^ 23 + x.partner.getD 0 * 4096 + x.anchor.getD 0),
   word ((BitVec.ofInt 12 x.ninst).toNat * 4096 + Nat.min x.contribs.length 7)]

/-- Send the report of an instance, and its continuation (R164 to R166). Log 90 (DEDUCED). -/
def Dev.report (s : Dev) (i : Nat) (x : Inst) (outcome cutoff : Nat) (late : Bool) (crc : Nat) (bytes : List Nat) : Dev :=
  let host := s.fget Reg.BRX_RPT Reg.BRX_RPT_HOSTUNIT_f
  let good := decide (outcome ≤ 2)
  let data := if good then packBits (bytes.flatMap (bitsOf 8)) else []
  let cont := decide (48 < data.length)
  let rseq := s.brx.rseq
  let s := s.sendTo (bdtUnit x.det) 0x20 s.devnum host 0 (s.reportWords i x outcome cutoff late cont crc ++ data.take 48)
  let s := if cont then s.sendTo (bdtUnit x.det) 0x20 s.devnum host 0 (word rseq :: data.drop 48) else s
  s.onBrx fun b => { b with rseq := (b.rseq + 1) % 2 ^ 24 }

/-! ### The end of an instance (R151) -/

/-- Whether the carrier of a slot has transmit antennas, so that it may acknowledge (R62). -/
def Dev.slotTx (s : Dev) (det slot : Nat) : Bool :=
  match s.carriers.find? fun c => c.num == s.fget (Reg.BDT_CPOOL det slot) Reg.BDT_CPOOL_CARRIER_f with
  | some c => c.txa != 0
  | none => false

/-- The noise floor of a stream before any block. -/
def nfReset : NoiseFloor := { idleFrom := 0, lastOk := 0, block := 0, est := none }

/-- The streams of a carrier become idle now, for the noise floor (R122). -/
def Dev.nfMark (s : Dev) (det slot : Nat) : Dev :=
  (List.range (s.slotAnts det slot)).foldl (fun s a =>
    let k := s.slotStream det slot a
    let x := { SMap.get s.dfe.nf nfReset k with idleFrom := s.elapsed }
    { s with dfe := { s.dfe with nf := SMap.set s.dfe.nf nfReset k x } }) s

/-- What subtracting an instance that ended with its payload takes (R155). -/
def Dev.rebuildOf (s : Dev) (x : Inst) (bytes : List Nat) : Rebuild :=
  { stream := burstBits (x.header.getD 0) (s.slotHr x.det x.slot) (s.syncWord (Reg.BDT_USYNC_LO x.det x.slot)) bytes
    start := s.instStart x, ref := x.cross - 64 * s.slotT x.det x.slot, freq := x.freqU, gain := x.gain, loops := x.loops, drift := x.drift
    amps := (List.range x.noise.length).map fun a =>
      ({ weight := 1, syms := x.syms.map fun y => y.getD a none } : Branch).amp ((s.sectLen x).getD 0) }

/-- Instance i ends: report, acknowledgment chance, counters; it is free, and with it its record (R151, R156, R158). The device of a
contributor that ends JOINED keeps a chance to send what the host asks of it; the CRC-24 it knows of the burst is a free
value (R67). Log 190 (DESIGN CHOICE). -/
def Dev.instEnd (s : Dev) (i outcome crc : Nat) (bytes : List Nat) : Dev :=
  match s.inst i with
  | none => s
  | some x =>
    let h := x.header.getD 0
    let launch := ((s.instStop x).getD 0) + 1024 * s.slotT x.det x.slot
    let mayAck := decide (outcome ≤ 2) && hAck h && s.slotTx x.det x.slot
    let all := s.fbit (Reg.BDT_CJNT x.det x.slot) Reg.BDT_CJNT_RPTALL_f
    let mayJoin := outcome == 9 && all && hAck h && s.slotTx x.det x.slot
    let (fr, s) := if mayJoin then s.free else (0, s)
    let crc := if mayJoin then fr % 2 ^ 24 else crc
    let cutoff := launch - 1000000
    let late := (mayAck || mayJoin) && decide (cutoff < s.nowNs)
    let rseq := s.brx.rseq
    let s := if reported outcome all then s.report i x outcome (if mayAck then cutoff else 0) (late && mayAck)
        (if mayJoin then 0 else crc) bytes else s
    let a : Ack := { rseq := rseq, det := x.det, slot := x.slot, launch := launch, freq := x.freq, crc := crc, rep := bits h 5 3,
                     auto := !mayJoin, burst := none }
    let s := if (mayAck || mayJoin) && !late then s.onBrx fun b => { b with acks := b.acks ++ [a] } else s
    let s := if outcome = 6 then s.count (Reg.BDT_NOSYNC_LO x.det) 1
      else if outcome = 7 then s.count (Reg.BDT_PREEMPT_LO x.det) 1 else s
    ((s.setInst i none).nfMark x.det x.slot).setClaim x.order
      { start := s.instStart x, stop := s.instStop x, outcome := some outcome
        rebuild := if outcome ≤ 2 then some (s.rebuildOf x bytes) else none }

/-- Every instance of a carrier slot ends ABORTED (R159). -/
def Dev.slotAbort (s : Dev) (det slot : Nat) : Dev :=
  (s.slotInsts det slot).foldl (fun s e => s.instEnd e.1 11 0 []) s

/-- Every instance of a detector ends ABORTED. -/
def Dev.detAbort (s : Dev) (det : Nat) : Dev := (List.range 16).foldl (fun s c => s.slotAbort det c) s

/-- Clearing BDT_CCFG.EN (R159). -/
def Dev.carrierDisable (s : Dev) (det slot : Nat) : Dev :=
  (s.slotAbort det slot).fset (Reg.BDT_CCFG det slot) Reg.BDT_CCFG_EN_f false

/-! ### Crossings (R137 to R144) -/

/-- Whether a detector searches a carrier: in service, its domain ON, the carrier enabled, a noise floor on every antenna
(R139). -/
def Dev.searches (s : Dev) (det slot : Nat) : Bool :=
  let c := s.rget (Reg.BDT_CCFG det slot)
  s.fbit (Reg.BDT_CTL det) Reg.BDT_CTL_EN_f && s.unitOn (bdtUnit det) && !s.fenced (bdtUnit det) &&
  getF c Reg.BDT_CCFG_EN_f == 1 &&
  (List.range (getF c Reg.BDT_CCFG_AM1_f + 1)).all fun a =>
    s.fbit (Reg.DFE_RXNF (getF c Reg.BDT_CCFG_DFE_f) (getF c Reg.BDT_CCFG_STREAM_f + a)) Reg.DFE_RXNF_VALID_f

/-- Whether a crossing is a duplicate of an instance (R141). Log 81 (DEDUCED). -/
def Dev.duplicate (s : Dev) (x : Inst) (tau : Nat) (f : Int) (lam : Nat) : Bool :=
  let t := s.slotT x.det x.slot
  !x.synced && decide (4 * (f - x.freqU).natAbs ≤ 1000000 * s.slotRs x.det x.slot) &&
  ((List.range 4).any fun k => decide (((tau : Int) - (x.tau + 16 * k * t)).natAbs ≤ t)) &&
  decide (lam * fxOne ≤ x.lam * fxGain 24)

/-- The noise floor of each antenna of a slot, in units of 2^-20 of a squared C12 unit (R122, R138). -/
def Dev.slotNoise (s : Dev) (det slot : Nat) : List Nat :=
  (List.range (s.slotAnts det slot)).map fun a => ((SMap.get s.dfe.nf nfReset (s.slotStream det slot a)).est).getD 0

/-- A new instance: it takes the crossing's time, frequency and statistic, its preamble power and band noise are measured and its gain
is fixed now (R121, R142). Log 82 (DESIGN CHOICE), 186 (DEDUCED). -/
def Dev.instNew (s : Dev) (det slot tau k0 : Nat) (fi : Int) (lam : Nat) (rx : List (List Cpx)) : Inst × Dev :=
  let t := s.slotT det slot
  let dfe := s.fget (Reg.BDT_CCFG det slot) Reg.BDT_CCFG_DFE_f
  let tgt : Int := -(4 * s.fget (Reg.DFE_IAGC dfe) Reg.DFE_IAGC_TGTI_f)
  let noise := s.slotNoise det slot
  let band := noise.map (bandNoise t)
  let (fr, s) := s.freeN (2 + noise.length)
  let ppre := dbLevel (preamblePow t k0 rx fi tau) (fr.getD 0 0)
  let ninst := dbLevel (band.foldl (· + ·) 0 / band.length) (fr.getD 1 0)
  let f := gridFreq t fi + Config.preFreq k0 tau rx
  ({ det := det, slot := slot, cross := tau, tau := tau, freq := (f + 500000) / 1000000, freqU := f, lam := lam, ppre := ppre
     ninst := ninst, gain := clampI (-48) 192 (tgt - ppre), noise := noise
     noiseDb := band.zipIdx.map fun e => dbLevel e.1 (fr.getD (2 + e.2) 0)
     amps := (List.range noise.length).map fun a => Config.preAmp k0 tau (rx.getD a [])
     order := s.brx.claims, stage := .search, cand := 0, syncErr := 0, header := none, strong := []
     counted := 0, sic := none, pilots := [], drift := 0, loops := { at_ := tau, phase := 0, step := 0, timing := 0 }
     syms := [], marks := [], erased := 0, shipped := 0, anchor := none, anchorInst := 0, contribs := [], accept := false
     partner := none }, s)

/-- Instance i is claimed. Log 81 (DEDUCED), 82 (DESIGN CHOICE). -/
def Dev.instClaim (s : Dev) (i : Nat) (x : Inst) : Dev :=
  let s := s.count (Reg.BDT_DET_LO x.det) 1
  ((s.setInst i (some x)).setClaim x.order { start := s.instStart x, stop := none, outcome := none, rebuild := none }).onBrx
    fun b => { b with claims := b.claims + 1 }

/-- Of two instances, the one claimed first: at the earlier crossing time, then of the lower number (R143). -/
def oldest (es : List (Nat × Inst)) : Option (Nat × Inst) :=
  es.foldl (fun o e => match o with
    | none => some e
    | some p => if e.2.cross < p.2.cross ∨ (e.2.cross = p.2.cross ∧ e.1 < p.1) then some e else some p) none

/-- The pool is full: pre-emption, or the crossing is dropped (R143). Log 81 (DEDUCED). -/
def Dev.crossFull (s : Dev) (det slot : Nat) (es : List (Nat × Inst)) (x : Inst) : Dev :=
  match oldest (es.filter fun e => !e.2.synced) with
  | some e =>
    if e.2.lam < x.lam then
      let s := s.instEnd e.1 7 0 []
      s.instClaim e.1 x
    else (s.count (Reg.BDT_DROP_LO det) 1).raise 0x503 (det * 16 + slot)
  | none => (s.count (Reg.BDT_DROP_LO det) 1).raise 0x503 (det * 16 + slot)

/-- The symbol time to which an instance's next sync-check result refers: the end of its next candidate's sync word (R144, R145). -/
def Dev.syncDue (s : Dev) (x : Inst) : Nat := x.tau + (16 * x.cand + 32) * s.slotT x.det x.slot

/-- The sync results of a detector that come before time `t` are in (R144); `upTo` says that a result of time `t` is one of them. -/
def Dev.syncsDone (s : Dev) (det t : Nat) (upTo : Bool) : Bool :=
  (List.range 128).all fun k => match s.inst (det * 128 + k) with
    | some x => x.synced || (if upTo then decide (t < s.syncDue x) else decide (t ≤ s.syncDue x))
    | none => true

/-- Whether (tau, fi) is a hypothesis that a detector searches on a slot (R137). -/
def Dev.hypothesis (s : Dev) (det slot tau : Nat) (fi : Int) : Bool :=
  let t := s.slotT det slot
  tau % (t / 2) == 0 && decide (64 * t ≤ tau) && decide (fi.natAbs ≤ gridMax t)

/-- The detection statistic of a hypothesis of a slot (R138). Where an antenna's noise floor is 0 the spec states none: a free value.
Log 184 (DEDUCED). -/
def Dev.lambda (s : Dev) (det slot tau k0 : Nat) (fi : Int) (rx : List (List Cpx)) : Nat :=
  let noise := s.slotNoise det slot
  if noise.contains 0 then Config.free s.fresh else statistic (s.slotT det slot) k0 rx noise fi tau

/-- CROSSING: the hypothesis with preamble end `tau` (ns) and frequency number `fi` of carrier `slot` of detector `det` has the largest
statistic within its span of T / 2 and reaches the threshold (R137 to R143). It is handled in the order of symbol times, after
the sync results that are due by then (R144). Log 81 (DEDUCED). -/
def Dev.crossing (s : Dev) (det slot tau : Nat) (fi : Int) (k0 : Nat) (rx : List (List Cpx)) : Dev :=
  let lam := s.lambda det slot tau k0 fi rx
  let most := 2 * gridMax (s.slotT det slot) + 1
  if s.searches det slot && s.hypothesis det slot tau fi && decide (SMap.get s.brx.reached 0 det ≤ tau) &&
      s.syncsDone det tau true && decide (fxGain (s.fget (Reg.BDT_CPOOL det slot) Reg.BDT_CPOOL_THR_f) ≤ lam) &&
      (List.range most).all fun j => decide (s.lambda det slot tau k0 ((j : Int) - (most / 2 : Nat)) rx ≤ lam) then
    let s := s.onBrx fun b => { b with reached := SMap.set b.reached 0 det tau }
    let es := s.slotInsts det slot
    if es.any fun e => s.duplicate e.2 tau (gridFreq (s.slotT det slot) fi) lam then s
    else
      let p := s.fget (Reg.BDT_CPOOL det slot) Reg.BDT_CPOOL_IPOOL_f
      let pool := if p = 0 then 128 else p
      let (x, s) := s.instNew det slot tau k0 fi lam rx
      match (List.range 128).find? fun k => (s.inst (det * 128 + k)).isNone with
      | some k =>
        if es.length < pool then s.instClaim (det * 128 + k) x else s.crossFull det slot es x
      | none => s.crossFull det slot es x
  else s

/-! ### Sync check and partners (R145, R152) -/

/-- Whether two instances of a carrier overlap in band and in span (R152). -/
def Dev.instOverlap (s : Dev) (x y : Inst) : Bool :=
  let t := s.slotT x.det x.slot
  let rs := s.slotRs x.det x.slot
  let before (a b : Inst) : Bool := match s.instStop a with
    | some e => decide (e + 2 * t + 2 * t ≤ s.instStart b)
    | none => false
  decide (100 * (x.freq - y.freq).natAbs < 135 * rs) && !(before x y) && !(before y x)

/-- Whether `x` is the stronger of two partners. -/
def stronger (x y : Inst) : Bool := decide (x.ppre > y.ppre) || (x.ppre == y.ppre && decide (x.order < y.order))

/-- Record `p` (instance number, claim) as a stronger partner of instance i; at most four, the first raises BRX_CAPTURE. -/
def Dev.addStrong (s : Dev) (i : Nat) (p : Nat × Inst) : Dev :=
  match s.inst i with
  | none => s
  | some x =>
    if x.strong.length ≥ 4 ∨ x.strong.any (fun q => q.2 == p.2.order) then s
    else
      let first := x.strong == []
      let open_ := x.stage == InstStage.search || x.stage == InstStage.track
      let s := s.setInst i (some { x with strong := x.strong ++ [(p.1, p.2.order)]
                                          counted := if open_ then x.counted + 1 else x.counted })
      if first then s.raise 0x501 i else s

/-- The notice of a joint carrier to every other member of its group (R161, R472). -/
def Dev.joinNotice (s : Dev) (i : Nat) (x : Inst) : Dev :=
  let g := s.fget (Reg.BDT_CJNT x.det x.slot) Reg.BDT_CJNT_GROUP_f
  let stop := x.tau + 32 * s.slotT x.det x.slot
  let ws := [word (g * 4096 + i)] ++ timeWords stop ++ [wordI x.freq, word (BitVec.ofInt 12 (2 * (x.ppre - x.ninst))).toNat]
  (List.range 8).foldl (fun s m =>
    let r := Reg.BRX_JGRP g m
    let d := s.fget r Reg.BRX_JGRP_DEVICE_f
    if s.fbit r Reg.BRX_JGRP_VALID_f && d != s.devnum then s.sendTo (bdtUnit x.det) 0x40 d 0x7F 0 ws else s) s

/-- Reference time of an instance's phase in nanoseconds: the first preamble symbol of its crossing. -/
def Dev.instRef (s : Dev) (x : Inst) : Nat := x.cross - 64 * s.slotT x.det x.slot

/-- The combining weight of an antenna with a noise floor, for maximum ratio. Log 186 (DEDUCED). -/
def antWeight (n : Nat) : Nat := 2 ^ 60 / Nat.max 1 n

/-- Antennas' values of one symbol combined by maximum ratio with the amplitudes of the preamble; `k` is the symbol's number in the
burst. Log 186 (DEDUCED). -/
def Inst.combine (x : Inst) (k : Nat) (ys : List (Option Cpx)) : Cpx :=
  ys.zipIdx.foldl (fun z e => match e.1 with
    | some y =>
      let c := cMulConj (unmap k 0 y) (x.amps.getD e.2 (0, 0))
      let w : Int := antWeight (x.noise.getD e.2 0)
      cAdd z (c.1 * w, c.2 * w)
    | none => z) (0, 0)

/-- Antennas' values at a symbol instant (ps) with a phase (10^-12 turn) removed (R121, R149). -/
def Dev.instSymbol (s : Dev) (x : Inst) (k0 : Nat) (rx : List (List Cpx)) (t ph : Int) : List (Option Cpx) :=
  (List.range x.noise.length).map fun a =>
    symbolAt (s.slotT x.det x.slot) k0 (rx.getD a []) x.freqU (s.instRef x) x.gain t (ph / 1000)

/-- Bit errors of the sync word at the next candidate: 32 symbols, coherent, combined, hard decisions; a value of 0 counts as bit 0
(R145). Log 186 (DEDUCED). -/
def Dev.syncErrors (s : Dev) (x : Inst) (k0 : Nat) (rx : List (List Cpx)) : Nat :=
  let t := s.slotT x.det x.slot
  let want := bitsOf 32 (s.syncWord (Reg.BDT_USYNC_LO x.det x.slot))
  ((List.range 32).filter fun j =>
    let k := 64 + 16 * x.cand + j
    let z := x.combine k (s.instSymbol x k0 rx (((x.tau - 64 * t + k * t : Nat) : Int) * 1000) 0)
    (if z.1 < 0 then 1 else 0) != want.getD j 0).length

/-- An instance passes its sync check at its present candidate: it becomes a partner of every unfinished instance of the carrier that
it overlaps (R145, R152). -/
def Dev.syncPass (s : Dev) (i : Nat) (x : Inst) (errs : Nat) : Dev :=
  let t := s.slotT x.det x.slot
  let tau := x.tau + 16 * x.cand * t
  let x := { x with tau := tau, stage := .track, syncErr := errs
                    loops := { at_ := tau + 32 * t, phase := 0, step := 0, timing := 0 } }
  let s := (s.setInst i (some x)).setClaim x.order { start := s.instStart x, stop := none, outcome := none, rebuild := none }
  let s := (s.slotInsts x.det x.slot).foldl (fun s e =>
    if e.1 != i && s.instOverlap x e.2 then
      (if stronger x e.2 then s.addStrong e.1 (i, x) else s.addStrong i e)
    else s) s
  if s.fbit (Reg.BDT_CJNT x.det x.slot) Reg.BDT_CJNT_JEN_f then s.joinNotice i x else s

/-- Check the candidates of an instance in order for as far as the samples reach (R145). A result is handled after those of earlier
symbol times (R144). -/
def Dev.syncFrom (s : Dev) (i k0 : Nat) (rx : List (List Cpx)) (fuel : Nat) : Dev :=
  match fuel, s.inst i with
  | fuel + 1, some x =>
    let due := s.syncDue x
    if x.synced || decide ((k0 + (rx.headD []).length) * 2500 < due) || !(s.syncsDone x.det due false) then s
    else
      let tol := Nat.min 6 (s.fget (Reg.BDT_CCFG x.det x.slot) Reg.BDT_CCFG_TOL_f)
      let errs := s.syncErrors x k0 rx
      let s := s.onBrx fun b => { b with reached := SMap.set b.reached 0 x.det (Nat.max (SMap.get b.reached 0 x.det) due) }
      if errs ≤ tol then s.syncPass i x errs
      else if x.cand = 3 then s.instEnd i 6 0 []
      else (s.setInst i (some { x with cand := x.cand + 1 })).syncFrom i k0 rx fuel
  | _, _ => s

/-- SYNC_CHECK: the candidates of instance i that the samples reach are checked (R145). Log 83 (DEDUCED). -/
def Dev.syncCheck (s : Dev) (i k0 : Nat) (rx : List (List Cpx)) : Dev := s.syncFrom i k0 rx 4

/-! ### The SIC record (R156) -/

/-- Blocks of the SIC store in use. -/
def Dev.sicUsed (s : Dev) : List Nat :=
  s.brx.insts.flatMap fun e => match e.2 with | some x => x.sic.getD [] | none => []

/-- Blocks that records may take. -/
def Dev.sicOpen (s : Dev) : List Nat :=
  let used := s.sicUsed
  (List.range (s.fget Reg.BRX_SICSIZE Reg.BRX_SICSIZE_BLOCKS_f)).filter fun b => !used.contains b

/-- Free blocks of the SIC store. -/
def Dev.sicFree (s : Dev) : Nat := s.sicOpen.length

/-- Blocks of a record (R156). -/
def sicBlocks (d a : Nat) : Nat :=
  let sy := d + (d + 15) / 16 + 1
  (16 + sy * a + (sy * a + 23) / 24 + 1023) / 1024

/-- A symbol in memory or in a JSAMPLE bead: 0x80_0800 where erased (R472). -/
def symWord (y : Option Cpx) : Word := match y with | some z => c12 z.1 z.2 | none => 0x800800

/-- Write word j of a record that lies in blocks `bs`. Log 88 (DESIGN CHOICE). -/
def Dev.sicPut (s : Dev) (bs : List Nat) (j : Nat) (w : Word) : Dev :=
  (s.memWrite (s.getAddr Reg.BRX_SICBASE_LO + bs.getD (j / 1024) 0 * 1024 + j % 1024) w allLanes).2

/-- Write an instance's symbols from number `n` on, and the erasure bitmap, into its record: symbol by symbol, its antennas in order;
bit b of bitmap word w for value 24 w + b (R156). Log 88 (DESIGN CHOICE). -/
def Dev.sicWrite (s : Dev) (x : Inst) (n : Nat) : Dev :=
  match x.sic with
  | none => s
  | some bs =>
    let a := x.noise.length
    let at_ (j : Nat) : Option Cpx := (x.syms.getD (j / a) []).getD (j % a) none
    let size := (s.sectLen x).getD 0 * a
    let s := (List.range (x.syms.length * a - n * a)).foldl (fun s j => s.sicPut bs (16 + n * a + j) (symWord (at_ (n * a + j)))) s
    (List.range ((size + 23) / 24)).foldl (fun s w =>
      s.sicPut bs (16 + size + w) (word ((List.range 24).foldl (fun v b =>
        v + bit (decide (24 * w + b < x.syms.length * a) && (at_ (24 * w + b)).isNone) * 2 ^ b) 0))) s

/-- A record is allocated in the lowest free blocks; the content of its 16 header words is not stated: free values (R156).
Log 88 (DESIGN CHOICE). -/
def Dev.sicNew (s : Dev) (x : Inst) : Dev :=
  let (fr, s) := s.freeN 16
  ((List.range 16).foldl (fun s j => s.sicPut (x.sic.getD []) j (word (fr.getD j 0))) s).sicWrite x 0

/-! ### Header, pilots, closing pilot (R146 to R150, R153, R154, R156, R162) -/

/-- The branches of an instance's own antennas. -/
def Inst.own (x : Inst) : List Branch :=
  (List.range x.noise.length).map fun a =>
    { weight := antWeight (x.noise.getD a 0), syms := x.syms.map fun y => y.getD a none }

/-- The symbols of a contributor's antenna. -/
def wordSym (w : Word) : Option Cpx := if w = 0x800800 then none else some (c12I w, c12Q w)

/-- The branches of a joint reception: the anchor's own antennas and the contributors' (R163). Log 186 (DEDUCED). -/
def Inst.branches (x : Inst) (n : Nat) : List Branch :=
  x.own ++ x.contribs.flatMap fun c => c.ants.filterMap fun e => e.2.map fun a =>
    let b : Branch := { weight := 0, syms := a.2.map wordSym }
    { b with weight := Config.contribWeight a.1 (cPow (b.amp n)) }

/-- HEADER_DECODE: an instance that has received the HR copies of its header combines and decodes them, removes whitening and applies
R56; an accepted header with REP factor 1 or 2 takes a record (R55, R56, R146, R156). Log 83 (DEDUCED). -/
def Dev.headerDecode (s : Dev) (i : Nat) : Dev :=
  match s.inst i with
  | none => s
  | some x =>
    let hr := s.slotHr x.det x.slot
    let vs := softSyms x.syms.length x.own
    if x.stage == InstStage.track && x.header == none && decide (90 * hr ≤ vs.length) then
      let soft := sumCopies 90 ((List.range hr).map fun c => (vs.drop (90 * c)).take 90)
      let f0 := s.fresh
      let s := { s with fresh := s.fresh + 64 * 30 }
      let b := ofBits (whiten ((vitTerm true soft 24 fun j => Config.free (f0 + j)).take 24))
      let h := b / 256
      if crc8 h = b % 256 ∧ headerOk h = true then
        let x := { x with header := some h }
        let need := sicBlocks (hD h hr) x.noise.length
        let wants := decide (hRep h ≤ 2) && s.fbit Reg.BRX_SICSIZE Reg.BRX_SICSIZE_EN_f
        let fits := decide (need ≤ s.sicFree)
        let x := if wants && fits then { x with sic := some (s.sicOpen.take need) } else x
        let s := (s.setInst i (some x)).setClaim x.order
          { start := s.instStart x, stop := s.instStop x, outcome := none, rebuild := none }
        if wants && fits then s.sicNew x
        else if wants then (s.count Reg.BRX_SICFAIL_LO 1).raise 0x504 i else s
      else s.instEnd i 5 0 []
    else s

/-- The pilots that R148 averages. -/
def Dev.lossN (s : Dev) : Nat := Nat.max 8 (s.fget Reg.BRX_LOOP Reg.BRX_LOOP_LOSSN_f)

/-- The microsecond count of a shared time in nanoseconds (R71). -/
def usOfNs (t : Nat) : Nat := usOfPair (pairOfNs (t % (2 ^ 24 * 1000000000)))

/-- A contributor ships the symbols that it has not shipped, antenna by antenna in order, at most 60 in a bead, with the antenna's noise
(R162, R472). -/
def Dev.shipSamples (s : Dev) (i : Nat) (x : Inst) : Dev :=
  match x.anchor with
  | some dev =>
    if dev = s.devnum then s
    else
      let fresh := x.syms.drop x.shipped
      let s := (List.range x.noise.length).foldl (fun s a =>
        (List.range ((fresh.length + 59) / 60)).foldl (fun s c =>
          let part := (fresh.drop (60 * c)).take 60
          let first := x.shipped + 60 * c
          s.sendTo (bdtUnit x.det) 0x41 dev (bdtUnit (x.anchorInst / 128)) 0
            ([word (x.anchorInst * 4096 + i), word (a * 2 ^ 20 + (BitVec.ofInt 12 (x.noiseDb.getD a 0)).toNat),
              word ((part.length - 1) * 2 ^ 18 + first),
              word (usOfNs (s.instStart x + (96 + first) * s.slotT x.det x.slot))] ++
             part.map fun y => symWord (y.getD a none))) s) s
      s.setInst i (some { x with shipped := x.syms.length })
  | none => s

/-- An instance receives symbol j of its data section: the symbol's phase is that of the loop; the timing loop takes its error from it
(R147, R149). Log 187 (DEDUCED). -/
def Dev.symbolIn (s : Dev) (k0 : Nat) (rx : List (List Cpx)) (x : Inst) (j : Nat) : Inst :=
  let t := s.slotT x.det x.slot
  let due := s.instStart x + (96 + j) * t
  let at_ : Int := (due : Int) * 1000 + x.loops.timing
  let ph := x.loops.phase + x.loops.step
  let ys := s.instSymbol x k0 rx at_ ph
  let seen := ys.any (·.isSome)
  let m (a : Nat) (d : Int) : Cpx := matched t k0 (rx.getD a []) x.freqU (s.instRef x) (at_ + d)
  let e := Config.timingErr ((List.range x.noise.length).map fun a => (m a (-(500 * t : Nat)), m a 0, m a (500 * t : Nat)))
  let tb := timingGain (s.fget Reg.BRX_LOOP Reg.BRX_LOOP_TBW_f)
  { x with
    syms := x.syms ++ [ys], marks := x.marks ++ [(ph, x.loops.timing)]
    erased := if ys.all (·.isSome) then x.erased else x.erased + 1
    loops := { x.loops with at_ := due + t, phase := ph
                            timing := if seen then x.loops.timing + e * tb * t / 10 ^ 9 else x.loops.timing } }

/-- The pilot at index j, just received, drives the phase loop unless all its contributions are erased (R147 to R149). The drift is the
loop's frequency over the time it has run. Log 187 (DEDUCED). -/
def Dev.pilotIn (s : Dev) (x : Inst) (j : Nat) : Inst :=
  let ys := x.syms.getD j []
  if ys.any (·.isSome) then
    let e := argN (x.combine (96 + j) ys)
    let (kp, ki, d) := phaseGains (s.fget Reg.BRX_LOOP Reg.BRX_LOOP_FBW_f) Config.loopZeta
    let step := x.loops.step + 1000 * e * ki / (17 * d * d : Nat)
    let t := s.slotT x.det x.slot
    { x with
      pilots := (x.pilots ++ [e.natAbs]).drop (x.pilots.length + 1 - s.lossN)
      drift := if j = 0 then 0 else 10000000 * step / (j * t * t : Nat)
      loops := { x.loops with phase := x.loops.phase + e * kp / (d : Nat), step := step } }
  else x

/-- PILOT_UPDATE: an instance receives the data symbols up to its next pilot and that pilot; a mean absolute pilot error above 45 degrees
ends it (R147 to R149). A contributor ships them (R162). Log 83 (DEDUCED), 187 (DEDUCED). -/
def Dev.pilotUpdate (s : Dev) (i k0 : Nat) (rx : List (List Cpx)) : Dev :=
  match s.inst i with
  | none => s
  | some x =>
    let n0 := x.syms.length
    let left := match s.sectLen x with | some n => n - n0 | none => 17
    let n := if n0 = 0 then 1 else Nat.min 17 left
    if x.stage == InstStage.track && n != 0 then
      let x := (List.range n).foldl (fun x j => s.symbolIn k0 rx x (n0 + j)) x
      let x := s.pilotIn x (n0 + n - 1)
      let s := ((s.setInst i (some x)).sicWrite x n0).shipSamples i x
      if x.pilots.length ≥ s.lossN ∧ x.pilots.foldl (· + ·) 0 > 125000000 * x.pilots.length then s.instEnd i 8 0 [] else s
    else s

/-- The soft values of a payload: its copies that `keep` names, from the symbols of the branches, de-interleaved and added (R150). -/
def Dev.payloadSoft (s : Dev) (x : Inst) (keep : Nat → Bool) : List Int :=
  let h := x.header.getD 0
  let n := (s.sectLen x).getD 0
  let vs := softSyms n (x.branches n)
  sumCopies (hNc h) (((List.range (hRep h)).filter keep).map fun c =>
    (vs.drop (90 * s.slotHr x.det x.slot + c * hNc h)).take (hNc h))

/-- Where an instance's soft values and decoded bits lie. Log 86 (DESIGN CHOICE). -/
def instIn (i : Nat) : Nat := 0x40000000 + instBuf i
def instOut (i : Nat) : Nat := instIn i + 3200

/-- Submit a trellis decoder job for instance i (R150, R196): TERMINATED, S12, NBIT = 8 LEN + 24, with its deadline; its soft values are
written first. Log 86 (DESIGN CHOICE). -/
def Dev.submitDecode (s : Dev) (i : Nat) (x : Inst) (stage : InstStage) (fromNs : Nat) (vs : List Int) : Dev :=
  let h := x.header.getD 0
  let dl := fromNs + 500000 * Nat.max 1 (s.fget Reg.BRX_TIMES Reg.BRX_TIMES_DECDL_f)
  let q := s.fget (Reg.BDT_CTL x.det) Reg.BDT_CTL_TRLQ_f
  let w0 := bit (hRate3 h) * 2 ^ 21 + 2 ^ 20 + (8 * hLen h + 24)
  let s := (s.memWriteN (instIn i) (packS12 vs)).2
  let s := s.setInst i (some { x with stage := stage })
  s.send (mkBead (head0 2 0x10 true false false) s.devnum (0x100 + q) 0 s.devnum (bdtUnit x.det) 0 (tagOf (usOfNs dl) s.us)
    [word w0, word (instIn i), word (instIn i / 2 ^ 24), word (instOut i), word (instOut i / 2 ^ 24)])

/-- Burst symbol of data symbol d. -/
def symOf (d : Nat) : Nat := 96 + d + d / 16 + 1

/-- Whether a payload copy is overlapped by the span of a claim (R153). -/
def Dev.copyHit (s : Dev) (x : Inst) (c copy : Nat) : Bool :=
  match SMap.get s.brx.hist none c with
  | none => false
  | some p =>
    let h := x.header.getD 0
    let t := s.slotT x.det x.slot
    let d0 := 90 * s.slotHr x.det x.slot + copy * hNc h
    let a := s.instStart x + symOf d0 * t
    let b := s.instStart x + (symOf (d0 + hNc h - 1) + 1) * t
    decide (p.start < b + 2 * t) && (match p.stop with | some e => decide (a < e + 2 * t) | none => true)

/-- The decode that an instance makes first (R154). PARTNER is the first stronger partner that excludes a copy (R165).
Log 87 (DEDUCED). -/
def Dev.firstDecode (s : Dev) (i : Nat) (x : Inst) : Dev :=
  let h := x.header.getD 0
  let stop := (s.instStop x).getD 0
  let ps := x.strong.take x.counted
  if ps = [] ∨ hRep h < 4 then s.submitDecode i x .all stop (s.payloadSoft x fun _ => true)
  else
    let keep (c : Nat) : Bool := !(ps.any fun p => s.copyHit x p.2 c)
    let cs := List.range (hRep h)
    let x := { x with partner := (ps.find? fun p => cs.any fun c => s.copyHit x p.2 c).map (·.1) }
    if cs.any keep then s.submitDecode i x .keep stop (s.payloadSoft x keep) else (s.setInst i (some x)).instEnd i 3 0 []

/-- CLOSING_PILOT: an instance has received its whole data section (R150, R154, R162, R163). -/
def Dev.closingPilot (s : Dev) (i : Nat) : Dev :=
  match s.inst i with
  | none => s
  | some x =>
    if x.stage == InstStage.track && s.sectLen x == some x.syms.length then
      let s := s.reachNs ((s.instStop x).getD 0)
      if x.accept then s.instEnd i 9 0 []
      else if x.anchor == some s.devnum && x.contribs != [] then s.setInst i (some { x with stage := .joint })
      else s.firstDecode i x
    else s

/-! ### Results and partners (R150, R154, R155, R157) -/

/-- Whether a claim has ended, and whether with its payload. -/
def Dev.claimOutcome (s : Dev) (o : Nat) : Option Nat := (SMap.get s.brx.hist none o).bind (·.outcome)

/-- Sample n of a decoded burst on antenna a, rebuilt from its symbols with its final estimates, in 1 / fxOne of a C12 unit at its own
gain (R155). Log 187 (DEDUCED). -/
def Rebuild.sample (r : Rebuild) (T a n : Nat) : Cpx :=
  let at_ : Int := (n * 2500000 : Nat)
  let near := ((n * 2500 : Nat) - (r.start : Int)) / T
  let z := (List.range 10).foldl (fun z (d : Nat) =>
    let k := near - 4 + d
    if 0 ≤ k ∧ k < r.stream.length then
      let g := rrc (at_ - (((r.start + k.toNat * T : Nat) : Int) * 1000 + r.loops.timing)).natAbs (T * 1000)
      let v := if r.stream.getD k.toNat 0 = 0 then g else -g
      cAdd z (if k % 2 = 0 then (v, 0) else (0, v))
    else z) (0, 0)
  let amp := r.amps.getD a (0, 0)
  let w := cMulConj z (amp.1, -amp.2)
  let dt : Int := (n * 2500 : Nat) - (r.loops.at_ : Int)
  let ph := r.loops.phase + r.loops.step * dt / T + r.drift * dt * dt / 20000000
  cTurn w (-(r.freq * ((n * 2500 : Nat) - (r.ref : Int)) + 1000 * ph)) (10 ^ 15)

/-- What a decoded burst adds to symbol j of antenna a of an instance's record (R155). Log 187 (DEDUCED). -/
def Dev.partnerAt (s : Dev) (x : Inst) (r : Rebuild) (j a : Nat) : Cpx :=
  let t := s.slotT x.det x.slot
  let (ph, tm) := x.marks.getD j (0, 0)
  let at_ : Int := ((s.instStart x + (96 + j) * t : Nat) : Int) * 1000 + tm
  let n0 := (at_ / 2500000).toNat - 4 * overSamp t
  let xs := (List.range (8 * overSamp t + 2)).map fun d => r.sample t a (n0 + d)
  let v := cTurn (matched t n0 xs x.freqU (s.instRef x) at_) (ph / 1000) nturn
  let g := fxGain (x.gain - r.gain)
  (roundDiv (v.1 * g) (fxOne ^ 3), roundDiv (v.2 * g) (fxOne ^ 3))

/-- The record with a partner subtracted; erased symbols stay erased (R155). -/
def Dev.subtractOne (s : Dev) (x : Inst) (r : Rebuild) : Inst :=
  { x with syms := x.syms.zipIdx.map fun e => e.1.zipIdx.map fun y => y.1.map fun v =>
      let p := s.partnerAt x r e.2 y.2
      (clampI (-2047) 2047 (v.1 - p.1), clampI (-2047) 2047 (v.2 - p.2)) }

/-- A waiting instance subtracts the partners that have ended with their payload from its record and decodes it, or is lost
(R154, R155). Log 87 (DEDUCED). -/
def Dev.subtract (s : Dev) (i : Nat) (x : Inst) : Dev :=
  let ps := (x.strong.take x.counted).filter fun p => match s.claimOutcome p.2 with | some o => decide (o ≤ 2) | none => false
  let x := { x with partner := ps.head?.map (·.1) }
  if ps = [] then (s.setInst i (some x)).instEnd i 3 0 []
  else
    let x := ps.foldl (fun x p => match (SMap.get s.brx.hist none p.2).bind (·.rebuild) with
      | some r => s.subtractOne x r
      | none => x) x
    let s := (s.setInst i (some x)).sicWrite x 0
    s.submitDecode i x .record s.nowNs (s.payloadSoft x fun _ => true)

/-- Whether every stronger partner of a waiting instance has ended. -/
def Dev.partnersEnded (s : Dev) (x : Inst) : Bool :=
  (x.strong.take x.counted).all fun p => (s.claimOutcome p.2).isSome

/-- Whether a lower-numbered instance that waits on a partner of `x` could go on (R157). -/
def Dev.waitsBefore (s : Dev) (i : Nat) (x : Inst) : Bool :=
  (s.slotInsts x.det x.slot).any fun e => decide (e.1 < i) && e.2.stage == InstStage.wait && s.partnersEnded e.2 &&
    e.2.strong.any fun p => x.strong.contains p

/-- PARTNER_ENDED: a waiting instance whose stronger partners have all ended goes on, those of lower number first (R157). -/
def Dev.partnerEnded (s : Dev) (i : Nat) : Dev :=
  match s.inst i with
  | some x => if x.stage == InstStage.wait && s.partnersEnded x && !(s.waitsBefore i x) then s.subtract i x else s
  | none => s

/-- SICHOLD_EXPIRE: the partner wait, SICHOLD after the closing pilot, has passed (R154). -/
def Dev.sicHold (s : Dev) (i : Nat) : Dev :=
  match s.inst i with
  | some x =>
    if x.stage == InstStage.wait then
      (s.reachNs ((s.instStop x).getD 0 + 10000000 * s.fget Reg.BRX_TIMES Reg.BRX_TIMES_SICHOLD_f)).subtract i x
    else s
  | none => s

/-- A decode of instance i has yielded its bits, with whitening, or has failed (R58, R154). Log 83 (DEDUCED), 87 (DEDUCED). -/
def Dev.decodeDone (s : Dev) (i : Nat) (x : Inst) (bs : Option (List Nat)) : Dev :=
  let n := 8 * hLen (x.header.getD 0)
  let b := whiten ((bs.getD []) ++ List.replicate (n + 24 - (bs.getD []).length) 0)
  let crc := ofBits ((b.drop n).take 24)
  let pass := bs.isSome && crc24b (b.take n) == crc
  let bytes := bytesOf (b.take n)
  match x.stage with
  | .all =>
    if pass then s.instEnd i 0 crc bytes
    else if x.counted = 0 then s.instEnd i 4 crc []
    else if x.sic = none then s.instEnd i 3 crc []
    else
      let x := { x with stage := .wait }
      let s := s.setInst i (some x)
      if s.partnersEnded x then s.subtract i x else s
  | .keep => if pass then s.instEnd i 2 crc bytes else s.instEnd i 3 crc []
  | .record => if pass then s.instEnd i 1 crc bytes else s.instEnd i 3 crc []
  | _ => s

/-- INSTANCE_DECODE_RESULT: the completion of an instance's trellis job; a job that is done has written the bits that are read now
(R150, R154). Log 86 (DESIGN CHOICE). -/
def Dev.decodeResult (s : Dev) (i : Nat) (b : Bead) : Dev :=
  match s.inst i with
  | none => s.arrive b true fun s => s
  | some x =>
    s.arrive b (b.op == 0x10 && b.rsp) fun s =>
      match bits (b.pay 0) 23 22 with
      | 0 =>
        let (bs, s) := s.bitsRead (instOut i) (8 * hLen (x.header.getD 0) + 24)
        s.decodeDone i x bs
      | 2 => s.instEnd i 10 0 []
      | _ => s.decodeDone i x none

/-! ### Joint reception (R161 to R163, R472) -/

/-- JNOTICE_RX: a notice of another member is recorded. -/
def Dev.jnoticeRx (s : Dev) (b : Bead) : Dev :=
  s.arrive b (b.op == 0x40) fun s =>
    let n : JNotice := { group := bits (b.pay 0) 17 12, dev := b.sdev, inst := bits (b.pay 0) 11 0
                         time := time3 (word (b.pay 1)) (word (b.pay 2)) (word (b.pay 3)), freq := (word (b.pay 4)).toInt
                         snr := sx 12 (bits (b.pay 5) 11 0) }
    s.onBrx fun x => { x with notices := x.notices ++ [n] }

/-- Whether a notice matches an instance (R161). -/
def Dev.noticeMatch (s : Dev) (x : Inst) (n : JNotice) : Bool :=
  let stop := x.tau + 32 * s.slotT x.det x.slot
  let d := sdiff 24 n.time.1 (stop / 1000000000) * 1000000000 + ((n.time.2 : Int) - (stop % 1000000000 : Nat))
  n.group == s.fget (Reg.BDT_CJNT x.det x.slot) Reg.BDT_CJNT_GROUP_f &&
  decide (d.natAbs ≤ 1000 * s.fget Reg.BRX_JCFG Reg.BRX_JCFG_TTOL_f) &&
  decide (8 * (n.freq - x.freq).natAbs ≤ s.slotRs x.det x.slot)

/-- JOINT_ELECTION: at the sync end plus JNTWIN the anchor is the device with the highest SNR, then the lowest number; a member that
elects another ships what it has received (R161, R162). -/
def Dev.jointElect (s : Dev) (i : Nat) : Dev :=
  match s.inst i with
  | none => s
  | some x =>
    if x.synced && x.anchor == none && s.fbit (Reg.BDT_CJNT x.det x.slot) Reg.BDT_CJNT_JEN_f then
      let win := Nat.max 1 (s.fget Reg.BRX_JCFG Reg.BRX_JCFG_JNTWIN_f)
      let s := s.reachNs (x.tau + 32 * s.slotT x.det x.slot + 500000 * win)
      let ns := s.brx.notices.filter (s.noticeMatch x)
      let best := ns.foldl (fun (a : Int × Nat × Nat) n =>
        if n.snr > a.1 ∨ (n.snr = a.1 ∧ n.dev < a.2.1) then (n.snr, n.dev, n.inst) else a)
        (2 * (x.ppre - x.ninst), s.devnum, i)
      let cs := if best.2.1 = s.devnum then ns.map fun n => ({ dev := n.dev, inst := n.inst, ants := [] } : Contrib) else []
      let x := { x with anchor := some best.2.1, anchorInst := best.2.2, contribs := cs }
      let s := s.setInst i (some x)
      if x.stage == InstStage.track then s.shipSamples i x else s
    else s

/-- JSAMPLE_RX: the anchor takes a contributor's symbols, each antenna's in order of index, and accepts at its first (R162).
Log 89 (DEDUCED). -/
def Dev.jsampleRx (s : Dev) (b : Bead) : Dev :=
  s.arrive b (b.op == 0x41) fun s =>
    let i := bits (b.pay 0) 23 12
    let other := bits (b.pay 0) 11 0
    match s.inst i with
    | none => s
    | some x =>
      if x.anchor == some s.devnum then
        let ant := bits (b.pay 1) 23 20
        let n := bits (b.pay 2) 23 18 + 1
        let at_ := bits (b.pay 2) 17 0
        let old := (x.contribs.find? fun c => c.dev == b.sdev).getD { dev := b.sdev, inst := other, ants := [] }
        let have_ := ((SMap.get old.ants none ant).map (·.2)).getD []
        let ws := if at_ = have_.length then have_ ++ (b.payload.drop 4).take n else have_
        let c := { old with ants := SMap.set old.ants none ant (some (sx 12 (bits (b.pay 1) 11 0), ws)) }
        let s := s.setInst i (some { x with contribs := (x.contribs.filter fun e => e.dev != b.sdev) ++ [c] })
        if old.ants = [] then s.sendTo b.dunit 0x42 b.sdev (bdtUnit (other / 128)) 0 [word (i * 4096 + other)] else s
      else s

/-- JACCEPT_RX: a contributor receives the anchor's accept. Log 89 (DEDUCED). -/
def Dev.jacceptRx (s : Dev) (b : Bead) : Dev :=
  s.arrive b (b.op == 0x42) fun s =>
    let i := bits (b.pay 0) 11 0
    match s.inst i with
    | some x => if x.anchor == some b.sdev then s.setInst i (some { x with accept := true }) else s
    | none => s

/-- JOINT_WAIT_EXPIRE: JNTLAT after its closing pilot the anchor combines what it has; an incomplete contribution is left out (R163).
Log 89 (DEDUCED). -/
def Dev.jointExpire (s : Dev) (i : Nat) : Dev :=
  match s.inst i with
  | none => s
  | some x =>
    if x.stage == InstStage.joint then
      let n := (s.sectLen x).getD 0
      let s := s.reachNs ((s.instStop x).getD 0 + 500000 * s.fget Reg.BRX_JCFG Reg.BRX_JCFG_JNTLAT_f)
      let whole := x.contribs.filter fun c => c.ants != [] && c.ants.all fun a => match a.2 with
        | some e => decide (n ≤ e.2.length)
        | none => false
      let s := if whole.length < x.contribs.length then s.raise 0x505 i else s
      let x := { x with contribs := whole }
      (s.setInst i (some x)).firstDecode i x
    else s

/-! ### Acknowledgments (R62 to R66) -/

/-- The header of an acknowledgment (R64, R65). A RATE or REP that R55 calls invalid is sent as the host gives it.
Log 191 (DESIGN CHOICE). -/
def ackHeader (h rate rep more : Nat) : Nat := (3 + h) * 256 + rate % 4 * 64 + rep % 8 * 8 + more % 2 * 2

/-- Symbols of a scheduled acknowledgment. -/
def Dev.ackLen (s : Dev) (a : Ack) : Nat :=
  match a.burst with | some (h, _) => burstLen h (s.slotHr a.det a.slot) | none => 0

/-- End of a scheduled acknowledgment in nanoseconds. -/
def Dev.ackStop (s : Dev) (a : Ack) : Nat := a.launch + s.ackLen a * s.slotT a.det a.slot

/-- Whether two acknowledgments of one carrier overlap in time. -/
def Dev.ackMeets (s : Dev) (a b : Ack) : Bool :=
  a.det == b.det && a.slot == b.slot && decide (a.launch < s.ackStop b) && decide (b.launch < s.ackStop a)

/-- Of two acknowledgments, the one that is not sent: the later launch, then the higher report number (R66). -/
def ackLoser (a b : Ack) : Ack := if a.launch > b.launch ∨ (a.launch = b.launch ∧ a.rseq > b.rseq) then a else b

/-- An acknowledgment is dropped and reported with its reason. Log 92 (DESIGN CHOICE). -/
def Dev.ackDrop (s : Dev) (a : Ack) (collide : Bool) : Dev :=
  (s.onBrx fun b => { b with acks := b.acks.filter fun x => x.rseq != a.rseq }).emit (.ackDropped a.rseq collide)

/-- The scheduled acknowledgments of a carrier that overlap one in time. -/
def Dev.ackOthers (s : Dev) (a : Ack) : List Ack :=
  s.brx.acks.filter fun x => x.burst.isSome && x.rseq != a.rseq && s.ackMeets x a

/-- Settle an acknowledgment against each scheduled one that it meets in time and band: of two only one is sent (R66). -/
def Dev.ackCollide (s : Dev) (a : Ack) (fuel : Nat) : Dev :=
  match fuel with
  | 0 => s
  | fuel + 1 =>
    match (s.ackOthers a).find? fun x => decide (100 * (x.freq - a.freq).natAbs < 135 * s.slotRs a.det a.slot) with
    | none => s
    | some x =>
      let l := ackLoser x a
      if l.rseq = a.rseq then s.ackDrop a true else (s.ackDrop x true).ackCollide a fuel

/-- Whether more than eight acknowledgments of a carrier would be sent at once while `a` is (R66). -/
def Dev.ackCrowd (s : Dev) (a : Ack) : Bool :=
  let others := s.ackOthers a
  (a :: others).any fun x =>
    decide (a.launch ≤ x.launch) && decide (x.launch < s.ackStop a) &&
      decide (8 ≤ (others.filter fun y => decide (y.launch ≤ x.launch) && decide (x.launch < s.ackStop y)).length)

/-- Schedule an acknowledgment; of those that collide, and beyond eight at once, one is dropped (R66). -/
def Dev.ackSchedule (s : Dev) (a : Ack) : Dev :=
  let s := s.onBrx fun b => { b with acks := b.acks.map fun x => if x.rseq = a.rseq then a else x }
  let s := s.ackCollide a s.brx.acks.length
  if (s.brx.acks.any fun x => x.rseq == a.rseq) && s.ackCrowd a then s.ackDrop ((s.ackOthers a).foldl ackLoser a) false else s

/-- The burst that could be acknowledged with report number `rseq`. -/
def Dev.ackOf (s : Dev) (rseq : Nat) : Option Ack := s.brx.acks.find? fun a => a.rseq == rseq

/-- Payload of an acknowledgment: the burst's CRC-24, then the host's bytes (R64). -/
def ackBytes (crc : Nat) (bytes : List Nat) : List Nat := [crc / 65536 % 256, crc / 256 % 256, crc % 256] ++ bytes.map (· % 256)

/-- A late host bead: MISSED completion and DEADLINE_MISS (R43). The spec names no unit field here: it is a free value.
Log 91 (DESIGN CHOICE). -/
def Dev.hostLate (s : Dev) (b : Bead) : Dev :=
  let (r, s) := s.free
  (s.answer b false [statusWord 2 false 0]).raise 0x102 (r % 4096)

/-- ACK_REQUEST_BEAD: a host request for the burst of report `rseq`, naming device `dev` as the sender (R65, R67). After the cut-off R43
applies to it, whatever has been scheduled. A request that names another device stops this one's own acknowledgment. A second
request in time changes nothing. One that matches no burst waiting here is answered as a late one.
Log 191 (DESIGN CHOICE), 201 (DEDUCED). -/
def Dev.ackRequest (s : Dev) (b : Bead) (rseq dev rate rep more : Nat) (bytes : List Nat) : Dev :=
  let s := s.take b
  if dev = s.devnum then
    match s.ackOf rseq with
    | some a =>
      if a.launch - 1000000 < s.nowNs then s.hostLate b
      else if a.burst.isSome then s
      else
        let data := bytes.take 252
        s.ackSchedule { a with burst := some (ackHeader data.length rate rep more, ackBytes a.crc data) }
    | none => s.hostLate b
  else s.onBrx fun x => { x with acks := x.acks.map fun a => if a.rseq = rseq then { a with auto := false } else a }

/-- ACK_CUTOFF: without a request, an automatic acknowledgment is scheduled or nothing is sent (R65, R158). -/
def Dev.ackCutoff (s : Dev) (rseq : Nat) : Dev :=
  match s.ackOf rseq with
  | none => s
  | some a =>
    if a.burst.isSome || decide (s.nowNs < a.launch - 1000000) then s
    else if s.fbit (Reg.BDT_CCFG a.det a.slot) Reg.BDT_CCFG_AUTOACK_f && a.auto then
      s.ackSchedule { a with burst := some (ackHeader 0 0 a.rep 0, ackBytes a.crc []) }
    else s.onBrx fun x => { x with acks := x.acks.filter fun y => y.rseq != rseq }

/-- ACK_LAUNCH: a scheduled acknowledgment is transmitted at its launch time; never while TIME_VALID is clear (R63, R159).
Log 92 (DESIGN CHOICE). -/
def Dev.ackLaunch (s : Dev) (rseq : Nat) : Dev :=
  match s.ackOf rseq with
  | none => s
  | some a =>
    match a.burst with
    | none => s
    | some (h, bytes) =>
      if s.nowNs < a.launch then s
      else
        let sync := s.syncWord (Reg.BDT_ASYNC_LO a.det a.slot)
        let s := s.onBrx fun x => { x with acks := x.acks.filter fun y => y.rseq != rseq }
        if s.timeValid then s.emit (.ackBurst rseq a.freq (burstBits h (s.slotHr a.det a.slot) sync bytes)) else s

/-! ### Random-access detectors (R167 to R170) -/

/-- Whether a RAD descriptor is valid. Log 93 (PRESUMED). -/
def radValid (ws : List Word) : Bool :=
  let w (i : Nat) : Nat := (ws.getD i 0).toNat
  let kind := bits (w 0) 23 21
  let nsc := bits (w 2) 16 11
  let maxd := bits (w 5) 11 7
  decide (10 ≤ ws.length) && kind != 7 && decide (bits (w 1) 14 6 ≤ 503) && decide (1 ≤ maxd) && decide (maxd ≤ 16) &&
  (if kind ≤ 2 then nsc == 12 || nsc == 24 || nsc == 36 || nsc == 48 else decide (bits (w 3) 23 14 ≤ 837))

/-- Hypotheses of a job: the initial subcarriers of NPRACH, 64 preambles of PRACH (R168). Log 93 (PRESUMED). -/
def radHyps (ws : List Word) : Nat :=
  if bits (ws.getD 0 0).toNat 23 21 ≤ 2 then bits (ws.getD 2 0).toNat 16 11 else 64

/-- Read the antennas' rings of a job: A runs of INLEN words, INSTRIDE apart (R167). -/
def Dev.radRead (s : Dev) (base len stride a : Nat) (n : Nat) (io : Port := memPort) : Option (List Word) × Dev :=
  match n with
  | 0 => (some [], s)
  | n + 1 =>
    match s.wordsRead (base + a * stride) len io with
    | (none, s) => (none, s)
    | (some ws, s) =>
      match s.radRead base len stride (a + 1) n io with
      | (none, s) => (none, s)
      | (some t, s) => (some (ws ++ t), s)

/-- Insert a hypothesis (number, energy, timing) by falling energy. Log 93 (PRESUMED). -/
def insertDet (x : Nat × Nat × Int) (ds : List (Nat × Nat × Int)) : List (Nat × Nat × Int) :=
  match ds with
  | [] => [x]
  | d :: t => if x.2.1 > d.2.1 then x :: d :: t else d :: insertDet x t

/-- Whether 10 log10(e / n) reaches a threshold in 0.125 dB (R168). -/
def overThr (e n thr : Nat) : Bool := decide (n * fxGain thr ≤ e * fxOne)

/-- The largest step k of 0.125 dB at which e reaches 10^(k / 80) n, from -400 on. -/
def ratioFloor (e n : Nat) : Int :=
  ((((List.range 1200).map fun (i : Nat) => (800 : Int) - (i : Int)).find? fun k => decide (n * fxGain k ≤ e * fxOne))).getD (-400)

/-- RAD_JOB_END: the job of detector `n` reads its input, correlates, and reports what it detects (R168 to R170). N is the mean energy of
all hypotheses but the MAXDET + 4 largest; where none is left or it is 0, it is a free value. Levels between two steps take
either. Log 93 (PRESUMED). -/
def Dev.radEnd (s : Dev) (n : Nat) (io : Port := memPort) : Dev :=
  let u := 0xCC + n
  match (s.jobsOf u).head? with
  | none => s
  | some j =>
    let ws := j.bead.drop 4
    let w (i : Nat) : Nat := (ws.getD i 0).toNat
    if !(radValid ws) then s.jobFail u j 1
    else
      match s.radRead (descAddr ws 6) (w 8) (w 9) 0 (bits (w 0) 20 15 + 1) io with
      | (none, s) => s.jobFail u j 2
      | (some ins, s) =>
        let c := bits (w 1) 23 15
        let maxd := bits (w 5) 11 7
        let cfg := s.rget Reg.RAD_FACFG
        let ofs := s.fget (Reg.RAD_OFS c) Reg.RAD_OFS_OFS_f
        let thr := bits (w 5) 23 12 + ofs
        let res := Config.radSearch ws ins
        let hyps := ((List.range (radHyps ws)).map fun h => (h, res.getD h (0, 0))).foldl (fun ds h => insertDet h ds) []
        let rest := (hyps.drop (maxd + 4)).map (·.2.1)
        let (fr, s) := s.freeN (2 + 2 * maxd)
        let mean := rest.foldl (· + ·) 0 / rest.length
        let noise := if mean = 0 then Nat.max 1 (fr.getD 0 0) else mean
        let found := hyps.filter fun h => overThr h.2.1 noise thr
        let capped := decide (maxd < found.length)
        let dets := found.take maxd
        let s := if capped then
            (s.fput (Reg.RAD_OFS c) Reg.RAD_OFS_OFS_f
              (Nat.max ofs (Nat.min (ofs + getF cfg Reg.RAD_FACFG_UP_f) (getF cfg Reg.RAD_FACFG_OFSMAX_f)))).raise 0x502 c
          else if 2 * found.length < maxd then s.fput (Reg.RAD_OFS c) Reg.RAD_OFS_OFS_f (ofs - getF cfg Reg.RAD_FACFG_DOWN_f)
          else s
        let body := dets.zipIdx.flatMap fun e =>
          [word (e.1.1 % 256 * 2 ^ 16), wordI e.1.2.2,
           word ((BitVec.ofInt 12 (dbLevel e.1.2.1 (fr.getD (2 + 2 * e.2) 0))).toNat * 4096 +
             (BitVec.ofInt 12 (ratioFloor e.1.2.1 noise + (fr.getD (3 + 2 * e.2) 0 % 2 : Nat))).toNat)]
        s.jobEnd u j 0 (dets.length * 2 ^ 16 + bit capped * 2 ^ 15)
          (word ((BitVec.ofInt 12 (dbLevel noise (fr.getD 1 0))).toNat * 4096 + thr % 4096) :: body)

end Sys2Proof.Machine
end

