-- ==== Sys2Proof/Machine/Dfe.lean ====
section
/-! DEFINITION. The digital front end: JESD204C links, gain loop, transmit segments, fronthaul intake and output, one-way
delay measurement, noise floor (R101 to R126). -/

namespace Sys2Proof.Machine

/-! ### Streams (R101 to R105) -/

/-- The DFE units after reset. Log 9 (DESIGN CHOICE). -/
def dfeReset : Dfe :=
  { jup := [], jdown := [], jsys := [], gain := [], zeros := [], taken := [], raw := [], recAt := [], seg := [], sent := [], txSeq := [], nf := [],
    meas := [], measTag := 0 }

/-- Update the DFE units. -/
def Dev.onDfe (s : Dev) (f : Dfe → Dfe) : Dev := { s with dfe := f s.dfe }

/-- The unit number of DFE_u. -/
def dfeUnit (u : Nat) : Nat := 0xD4 + u

/-- Samples per millisecond of a kind (R102). -/
def samplesPerMs (kind : Nat) : Nat :=
  match kind with
  | 0 => 1920 | 1 => 1920 | 2 => 3840 | 3 => 7680 | _ => 400

/-- Resource elements per symbol of a kind (R118): 1, 6, 15 or 25 PRB of 12. -/
def resPerSymbol (kind : Nat) : Nat :=
  match kind with
  | 0 => 12 | 1 => 72 | 2 => 180 | _ => 300

/-- CAU per antenna of a kind (R27). -/
def cauOf (kind : Nat) : Nat :=
  match kind with
  | 1 => 6 | 2 => 15 | 3 => 25 | _ => 1

/-- Whether a unit runs its streams. -/
def Dev.dfeOn (s : Dev) (u : Nat) : Bool :=
  s.fbit (Reg.DFE_CTL u) Reg.DFE_CTL_EN_f && s.unitOn (dfeUnit u) && !s.fenced (dfeUnit u)

/-- A field of a receive stream's DFE_RXCFG. -/
def Dev.rxf (s : Dev) (u i : Nat) (f : Fld) : Nat := s.fget (Reg.DFE_RXCFG u i) f

/-- Whether a ring length is one of R135: 1 to 16. -/
def lenOk (n : Nat) : Bool := decide (1 ≤ n) && decide (n ≤ 16)

/-- Whether a receive stream runs: a stream with an invalid SRC, KIND or LEN does not. Log 195 (DESIGN CHOICE). -/
def Dev.rxOn (s : Dev) (u i : Nat) : Bool :=
  s.dfeOn u && s.rxf u i Reg.DFE_RXCFG_EN_f == 1 && decide (s.rxf u i Reg.DFE_RXCFG_SRC_f ≤ 3) &&
    decide (s.rxf u i Reg.DFE_RXCFG_KIND_f ≤ 4) && lenOk (s.fget (Reg.DFE_RXLEN u i) Reg.DFE_RXLEN_LEN_f)

/-- Whether a transmit stream runs: a stream with an invalid SINK, KIND or LEN does not. Log 195 (DESIGN CHOICE). -/
def Dev.txOn (s : Dev) (u t : Nat) : Bool :=
  s.dfeOn u && s.fbit (Reg.DFE_TXCFG u t) Reg.DFE_TXCFG_EN_f && decide (s.fget (Reg.DFE_TXCFG u t) Reg.DFE_TXCFG_SINK_f ≤ 2) &&
    decide (s.fget (Reg.DFE_TXCFG u t) Reg.DFE_TXCFG_KIND_f ≤ 4) && lenOk (s.fget (Reg.DFE_TXLEN u t) Reg.DFE_TXLEN_LEN_f)

/-- Every receive stream, as (unit, stream). -/
def rxStreams : List (Nat × Nat) := (List.range 8).flatMap fun u => (List.range 256).map fun i => (u, i)

/-- Every transmit stream, as (unit, stream). -/
def txStreams : List (Nat × Nat) := (List.range 8).flatMap fun u => (List.range 128).map fun t => (u, t)

/-- Of carriers in the order of their records the one to which place `n` belongs, each taking `f` places. -/
def carrierAt (f : Carrier → Nat) (cs : List Carrier) (n : Nat) : Option Carrier :=
  match cs with
  | [] => none
  | c :: t => if n < f c then some c else carrierAt f t (n - f c)

/-- The carrier of a receive stream: enabled streams of its kind, in the order of unit and number, belong to the carriers of that kind
in the order of their records. A section type 3 stream goes with the stream before it. Log 71 (DESIGN CHOICE). -/
def Dev.rxCarrier (s : Dev) (u i : Nat) : Option Carrier :=
  let kind := s.rxf u i Reg.DFE_RXCFG_KIND_f
  let before := rxStreams.filter fun e => decide (e.1 * 256 + e.2 ≤ u * 256 + i) && s.rxf e.1 e.2 Reg.DFE_RXCFG_EN_f == 1 &&
    s.rxf e.1 e.2 Reg.DFE_RXCFG_KIND_f == kind && s.rxf e.1 e.2 Reg.DFE_RXCFG_SRC_f != 3
  carrierAt (·.rxa) (s.carriers.filter fun c => c.kind == kind) (before.length - 1)

/-- The carrier of a transmit stream, and the number of its antenna (R40). Log 71 (DESIGN CHOICE). -/
def Dev.txCarrier (s : Dev) (u t : Nat) : Option Carrier :=
  let kind := s.fget (Reg.DFE_TXCFG u t) Reg.DFE_TXCFG_KIND_f
  let before := txStreams.filter fun e => decide (e.1 * 256 + e.2 ≤ u * 256 + t) &&
    s.fbit (Reg.DFE_TXCFG e.1 e.2) Reg.DFE_TXCFG_EN_f && s.fget (Reg.DFE_TXCFG e.1 e.2) Reg.DFE_TXCFG_KIND_f == kind
  carrierAt (·.txa) (s.carriers.filter fun c => c.kind == kind) (before.length - 1)

/-- A carrier of which the host has set nothing. -/
def cellReset : Cell := { params := none, paramsNext := none, coex := none, coexNext := none }

/-- What the host has set for a carrier. -/
def Dev.cell (s : Dev) (c : Nat) : Cell := SMap.get s.brx.cells cellReset c

/-- What is in force at a time: what takes over once its time has come, else what was before. -/
def inForce {α : Type} (now : Option α) (next : Option (Nat × α)) (t : Nat) : Option α :=
  match next with
  | some (f, x) => if f ≤ t then some x else now
  | none => now

/-- The cell parameters of a carrier in force now (R31, R42). -/
def Dev.cellParams (s : Dev) (c : Nat) : Option CellParams := inForce (s.cell c).params (s.cell c).paramsNext s.nowNs

/-- The coexistence map of a carrier in force at a time (R38). -/
def Dev.coexAt (s : Dev) (c t : Nat) : Option Coex := inForce (s.cell c).coex (s.cell c).coexNext t

/-- The frame origin of a carrier in nanoseconds (R31); 0 while the host has set none. Log 71 (DESIGN CHOICE). -/
def Dev.frameOrigin (s : Dev) (c : Option Carrier) : Nat := ((c.bind fun c => s.cellParams c.num).map (·.origin)).getD 0

/-- The time origin of a receive stream in nanoseconds (R105). -/
def Dev.rxOrigin (s : Dev) (u i : Nat) : Nat :=
  if s.rxf u i Reg.DFE_RXCFG_KIND_f = 4 then 0 else s.frameOrigin (s.rxCarrier u i)

/-- The time origin of a transmit stream. -/
def Dev.txOrigin (s : Dev) (u t : Nat) : Nat :=
  if s.fget (Reg.DFE_TXCFG u t) Reg.DFE_TXCFG_KIND_f = 4 then 0 else s.frameOrigin (s.txCarrier u t)

/-- A number of Ts in nanoseconds. -/
def nsOfTs (n : Nat) : Nat := n * 100000 / 3072

/-- How much earlier than the downlink's the uplink boundaries of a receive stream lie, in nanoseconds (R33). Log 192 (DEDUCED). -/
def Dev.rxAdvance (s : Dev) (u i : Nat) : Nat :=
  nsOfTs ((((s.rxCarrier u i).bind fun c => s.cellParams c.num).map (·.advance)).getD 0)

/-- Ring length in milliseconds or subframes. -/
def Dev.rxLen (s : Dev) (u i : Nat) : Nat := s.fget (Reg.DFE_RXLEN u i) Reg.DFE_RXLEN_LEN_f

/-- Positions of a receive ring: samples, or resource elements (R105, R118). -/
def Dev.rxRing (s : Dev) (u i : Nat) : Nat :=
  let kind := s.rxf u i Reg.DFE_RXCFG_KIND_f
  s.rxLen u i * (if s.rxf u i Reg.DFE_RXCFG_SRC_f = 2 then 14 * resPerSymbol kind else samplesPerMs kind)

/-- Words of one position: one for C12, two for C24. -/
def Dev.rxWidth (s : Dev) (u i : Nat) : Nat := s.rxf u i Reg.DFE_RXCFG_FMT_f + 1

/-- Write the sample of ring position `k`, counted without end (R105). Log 70 (DESIGN CHOICE). -/
def Dev.rxPut (s : Dev) (u i k : Nat) (ws : List Word) : Dev :=
  (s.memWriteN (s.getAddr (Reg.DFE_RXBASE_LO u i) + k % s.rxRing u i * s.rxWidth u i) ws).2

/-- Write a zero sample. -/
def Dev.rxZero (s : Dev) (u i k : Nat) : Dev := s.rxPut u i k (List.replicate (s.rxWidth u i) 0)

/-- A sample in 1 / fxOne of a C24 unit with gain g, as stored (R104): the component and whether it saturated. -/
def gainStoreF (c24 : Bool) (g v : Int) : Int × Bool :=
  if c24 then satW 24 (roundDiv (v * fxGain g) (fxOne * fxOne)) else satW 12 (roundDiv (v * fxGain g) (fxOne * fxOne * 4096))

/-- The stored components of a sample (R104), in their format. -/
def Dev.rxScaled (s : Dev) (u i : Nat) (g : Int) (v : Cpx) : Cpx × Bool :=
  let c24 := s.rxf u i Reg.DFE_RXCFG_FMT_f == 1
  let a := gainStoreF c24 g v.1
  let b := gainStoreF c24 g v.2
  ((a.1, b.1), a.2 || b.2)

/-- Write stored components at a ring position. -/
def Dev.rxStore (s : Dev) (u i k : Nat) (y : Cpx) : Dev :=
  s.rxPut u i k (sampleWords (s.rxf u i Reg.DFE_RXCFG_FMT_f == 1) y)

/-- A sample as an exact value in 1 / fxOne. -/
def cpxF (v : Cpx) : Cpx := (v.1 * fxOne, v.2 * fxOne)

/-- The gain that DFE_RXGAIN holds. -/
def Dev.rxGain (s : Dev) (u i : Nat) : Int := sx 12 (s.fget (Reg.DFE_RXGAIN u i) Reg.DFE_RXGAIN_G_f)

/-- Whether a stream runs the subframe boundaries of R120: JESD204C, NB-IoT or LTE-M. -/
def Dev.rxLoops (s : Dev) (u i : Nat) : Bool :=
  s.rxf u i Reg.DFE_RXCFG_SRC_f == 0 && decide (s.rxf u i Reg.DFE_RXCFG_KIND_f < 4)

/-- The gain of a stream without gain loop at a time (ns): a written gain from the boundary on that followed its write (R120, R121). -/
def Dev.rxGainAt (s : Dev) (u i t : Nat) : Int :=
  match SMap.get s.dfe.gain none (u * 256 + i) with
  | some (g, from_) => if !(s.rxLoops u i) && decide (from_ ≤ t) then g else s.rxGain u i
  | none => s.rxGain u i

/-! ### JESD204C links (R108 to R110) -/

/-- Whether link k is up. -/
def Dev.jup (s : Dev) (k : Nat) : Bool := SMap.get s.dfe.jup false k

/-- Link delay of a link in nanoseconds (R109). -/
def Dev.jdly (s : Dev) (k : Nat) : Nat := s.fget (Reg.DFE_JDLY k) Reg.DFE_JDLY_DLY_f

/-- Converter rate of a link in 3.84 Msample/s (R135). -/
def Dev.jrate (s : Dev) (k : Nat) : Nat :=
  let r := s.fget (Reg.DFE_JRATE k) Reg.DFE_JRATE_KRATE_f
  if r = 0 then 128 else r

/-- Zero samples for the antenna times from `a` to before `b` (ns) into a stream fed by a link (R110). -/
def Dev.zeroFill (s : Dev) (u i a b : Nat) : Dev :=
  let o := s.rxOrigin u i
  let n := samplesPerMs (s.rxf u i Reg.DFE_RXCFG_KIND_f)
  let k0 := ((a - o) * n + 999999) / 1000000
  let k1 := ((b - o) * n + 999999) / 1000000
  let from' := Nat.max k0 (k1 - s.rxRing u i)
  let s := (List.range (k1 - from')).foldl (fun s j => s.rxZero u i (from' + j)) s
  if k0 < k1 then
    s.onDfe fun d => { d with zeros := SMap.set d.zeros [] (u * 256 + i) (SMap.get d.zeros [] (u * 256 + i) ++ [(k0, k1)]) }
  else s

/-- Zero samples into every stream of a receive link, with DFE_JLINK_ERR (R110). Log 79 (DEDUCED). -/
def Dev.linkZero (s : Dev) (k a b : Nat) : Dev :=
  let s := rxStreams.foldl (fun s e =>
    if s.rxOn e.1 e.2 && s.rxf e.1 e.2 Reg.DFE_RXCFG_SRC_f == 0 && s.rxf e.1 e.2 Reg.DFE_RXCFG_CHAN_f / 8 == k then
      s.zeroFill e.1 e.2 a b else s) s
  s.raise 0x512 k

/-- Whether a link in service receives. Log 69 (DESIGN CHOICE). -/
def Dev.linkRx (s : Dev) (k : Nat) : Bool := !(s.fbit (Reg.DFE_JCFG k) Reg.DFE_JCFG_DIR_f)

/-- CRC-12 of a multiblock's bits (R108; the code is that of JESD204C). Log 193 (PRESUMED). -/
def crc12 (bs : List Nat) : Nat := crcBits 12 0x30F 0 bs

/-- JESD_LINK_ERROR: link k goes down at time `a`; or, with `mb`, an extended multiblock released from `a` to before `b` (ns) has come:
the bits and the received CRC-12 of each of its multiblocks, of which one does not match (R108, R110). A sample's antenna time
is its release less the link delay (R109). Log 79 (DEDUCED). -/
def Dev.jesdError (s : Dev) (k : Nat) (mb : Option (List (List Nat × Nat))) (a b : Nat) : Dev :=
  if k < 4 ∧ s.fbit (Reg.DFE_JCFG k) Reg.DFE_JCFG_EN_f then
    match mb with
    | none =>
      let s := s.onDfe fun d => { d with jup := SMap.set d.jup false k false, jdown := SMap.set d.jdown 0 k (a - s.jdly k) }
      if s.linkRx k then s.raise 0x512 k else s
    | some ms =>
      if ms.all fun m => crc12 m.1 == m.2 then s
      else
        let s := s.fset (Reg.DFE_JSTAT k) Reg.DFE_JSTAT_CRCERR_f true
        if s.linkRx k then s.linkZero k (a - s.jdly k) (b - s.jdly k) else s
  else s

/-- JESD_LINK_UP: a link that was down carries data again, released from time `t` (ns) on; the zero-fill of its streams ends (R110).
Log 79 (DEDUCED). -/
def Dev.jesdUp (s : Dev) (k t : Nat) : Dev :=
  if k < 4 ∧ s.fbit (Reg.DFE_JCFG k) Reg.DFE_JCFG_EN_f ∧ ¬ s.jup k then
    let from' := SMap.get s.dfe.jdown 0 k
    let s := s.onDfe fun d => { d with jup := SMap.set d.jup false k true }
    if s.linkRx k && decide (from' < t - s.jdly k) then s.linkZero k from' (t - s.jdly k) else s
  else s

/-- SYSREF_EDGE: the first SYSREF of a link, at converter sample `n`, fixes its release point; a later one that is not a whole number of
extended multiblocks (128 E L / M samples) away sets ALIGNERR (R108). -/
def Dev.sysref (s : Dev) (k n : Nat) : Dev :=
  if k < 4 ∧ s.fbit (Reg.DFE_JCFG k) Reg.DFE_JCFG_EN_f then
    let c := s.rget (Reg.DFE_JCFG k)
    match SMap.get s.dfe.jsys none k with
    | none => s.onDfe fun d => { d with jsys := SMap.set d.jsys none k (some (n, true)) }
    | some (first, _) =>
      let ok := ((n : Int) - first).natAbs * (getF c Reg.DFE_JCFG_MM1_f + 1) %
        (128 * (getF c Reg.DFE_JCFG_EM1_f + 1) * (getF c Reg.DFE_JCFG_LM1_f + 1)) == 0
      let s := s.onDfe fun d => { d with jsys := SMap.set d.jsys none k (some (first, ok)) }
      if ok then s else s.fset (Reg.DFE_JSTAT k) Reg.DFE_JSTAT_ALIGNERR_f true
  else s

/-! ### The receive chain (R102 to R104, R108, R109) -/

/-- A converter sample in C24 units: its unused low bits count 0 (R104, R108). -/
def convIn (n : Nat) (x : Int) : Int := sx 16 (BitVec.ofInt 16 x).toNat / 2 ^ (16 - n) * 2 ^ (16 - n) * 256

/-- Times of the receive chain in units in which converter and stream samples are whole, 10^-6 ms / (3,840 KRATE × samples per ms). -/
def chainUnit (kr per : Nat) : Nat := 3840 * kr * per

/-- Sample `k` of a stream fed by JESD204C, counted from its origin, before gain, in 1 / fxOne of a C24 unit: the converter samples
of its channel, the first of `xs` being number `n0` by its release time counted from shared time 0, labelled with the link
delay, turned by the NCO and filtered to the stream's rate (R104, R105, R109, R120). Log 188 (DESIGN CHOICE). -/
def Dev.chainOut (s : Dev) (u i n0 : Nat) (xs : List Cpx) (k : Nat) : Cpx :=
  let kind := s.rxf u i Reg.DFE_RXCFG_KIND_f
  let link := s.rxf u i Reg.DFE_RXCFG_CHAN_f / 8
  let kr := s.jrate link
  let per := samplesPerMs kind
  let unit := chainUnit kr per
  let bits_ := s.fget (Reg.DFE_JCFG link) Reg.DFE_JCFG_NM1_f + 1
  let freq := (s.rget (Reg.DFE_RXNCO u i)).toInt
  let turn := 32000000 * unit
  let to' : Int := (s.rxOrigin u i * unit + k * 1000000 * 3840 * kr : Nat)
  xs.zipIdx.foldl (fun z e =>
    let at_ : Int := ((n0 + e.2) * 1000000 * per : Nat) - (s.jdly link * unit : Nat)
    if (at_ - to').natAbs ≤ Config.chanSpan kind kr then
      let h := Config.chanTap kind kr (at_ - to')
      let v := cTurn (cpxF (convIn bits_ e.1.1, convIn bits_ e.1.2)) (freq * at_ + (Config.ncoPhase (u * 512 + i) * turn / 2 ^ 24 : Nat)) turn
      cAdd z (v.1 * h / fxOne, v.2 * h / fxOne)
    else z) (0, 0)

/-- Whether position `k` of a stream has been filled with zeros (R110). -/
def Dev.isZeroed (s : Dev) (u i k : Nat) : Bool :=
  (SMap.get s.dfe.zeros [] (u * 256 + i)).any fun z => decide (z.1 ≤ k) && decide (k < z.2)

/-- The first position of a stream from which its link gives no samples; none while it is up. -/
def Dev.downFrom (s : Dev) (u i : Nat) : Option Nat :=
  let link := s.rxf u i Reg.DFE_RXCFG_CHAN_f / 8
  if s.jup link then none
  else some (((SMap.get s.dfe.jdown 0 link - s.rxOrigin u i) * samplesPerMs (s.rxf u i Reg.DFE_RXCFG_KIND_f) + 999999) / 1000000)

/-- Stored components of a sample in C24 units. -/
def c24Of (c24 : Bool) (y : Cpx) : Cpx := if c24 then y else (y.1 * 4096, y.2 * 4096)

/-- Write the `n` samples of a JESD204C stream from number `k0` on, with gain g; zeros stay, and come where the link is down. The
stored samples, how many were clipped, and whether one was filled with zero (R104, R105, R110). -/
def Dev.chainStore (s : Dev) (u i n0 : Nat) (xs : List Cpx) (k0 n : Nat) (g : Int) : List Cpx × Nat × Bool × Dev :=
  let c24 := s.rxf u i Reg.DFE_RXCFG_FMT_f == 1
  let gone (s : Dev) (k : Nat) : Bool := s.isZeroed u i k || (match s.downFrom u i with | some f => decide (f ≤ k) | none => false)
  (List.range n).foldl (fun (r : List Cpx × Nat × Bool × Dev) j =>
    let (ys, clip, zero, s) := r
    let k := k0 + j
    if gone s k then (ys ++ [(0, 0)], clip, true, s.rxZero u i k)
    else
      let y := s.rxScaled u i g (s.chainOut u i n0 xs k)
      (ys ++ [c24Of c24 y.1], clip + bit y.2, zero, s.rxStore u i k y.1)) ([], 0, false, s)

/-! ### Gain loop (R104, R106, R120) -/

/-- The gain of the next subframe by the loop of R120: `p` the power of the last one in 0.25 dB steps of dBFS, none when all its
samples are zero; `clip` whether more than 0.1 % of it was clipped. Log 76 (DEDUCED). -/
def loopGain (agc : Word) (g : Int) (p : Option Int) (clip : Bool) : Int :=
  let step : Int := getF agc Reg.DFE_RXAGC_STEP_f
  let dead : Int := getF agc Reg.DFE_RXAGC_DEAD_f
  let next := match p with
    | none => g
    | some p =>
      let d := -(4 * getF agc Reg.DFE_RXAGC_TGT_f : Nat) - p
      if getF agc Reg.DFE_RXAGC_FREEZE_f = 1 then g
      else if clip then g - step
      else if d.natAbs ≤ dead then g
      else g + clampI (-step) step d
  clampI (-48) 192 next

/-- SUBFRAME_GAIN_STEP: subframe n of a JESD204C stream of an NB-IoT carrier or LTE-M cell begins. `xs` are the samples of its converter
pair, the first being number `n0`. The samples of subframe n - 1 go through the receive chain into the ring with that
subframe's gain; P(n - 1) is their mean power; the gain of subframe n is set and logged (R104 to R106, R110, R120).
Log 69 (DESIGN CHOICE), 70 (DESIGN CHOICE), 77 (DESIGN CHOICE). -/
def Dev.gainStep (s : Dev) (u i n n0 : Nat) (xs : List Cpx) : Dev :=
  let kind := s.rxf u i Reg.DFE_RXCFG_KIND_f
  if s.rxOn u i ∧ s.rxLoops u i then
    let s := s.reachNs (s.rxOrigin u i + n * 1000000)
    let key := u * 256 + i
    let per := samplesPerMs kind
    let g := s.rxGain u i
    let (ys, clipped, held, s) := s.chainStore u i n0 xs ((n - 1) * per) per g
    let s := if held && !(s.jup (s.rxf u i Reg.DFE_RXCFG_CHAN_f / 8)) then s.raise 0x512 (s.rxf u i Reg.DFE_RXCFG_CHAN_f / 8) else s
    let (fr, s) := s.free
    let agc := s.rget (Reg.DFE_RXAGC u i)
    let p := if ys.all fun y => y == (0, 0) then none else some (dbLevel (meanPow ys) fr)
    let next := match SMap.get s.dfe.gain none key with
      | some (w, _) => clampI (-48) 192 w
      | none =>
        if getF agc Reg.DFE_RXAGC_MODE_f = 1 ∨ held then g else loopGain agc g p (decide (1000 * clipped > per))
    let s := s.onDfe fun d => { d with
      gain := SMap.set d.gain none key none
      zeros := SMap.set d.zeros [] key ((SMap.get d.zeros [] key).filter fun z => decide (n * per < z.2)) }
    let s := s.fput (Reg.DFE_RXGAIN u i) Reg.DFE_RXGAIN_G_f (BitVec.ofInt 12 next).toNat
    let log := s.getAddr (Reg.DFE_RXBASE_LO u i) + s.rxRing u i * s.rxWidth u i + n % s.rxLen u i
    (s.memWrite log (word (n % 4096 * 4096 + (BitVec.ofInt 12 next).toNat)) allLanes).2
  else s

/-- A write of DFE_RXGAIN takes effect at the next subframe or millisecond boundary of the stream (R120, R135).
Log 76 (DEDUCED). -/
def Dev.rxGainWrite (s : Dev) (u i : Nat) (w : Word) : Dev :=
  let g := clampI (-48) 192 (sx 12 (getF w Reg.DFE_RXGAIN_G_f))
  let key := u * 256 + i
  let now := s.rxGainAt u i s.nowNs
  let o := s.rxOrigin u i
  let from_ := o + ((s.nowNs - o) / 1000000 + 1) * 1000000
  (s.fput (Reg.DFE_RXGAIN u i) Reg.DFE_RXGAIN_G_f (BitVec.ofInt 12 now).toNat).onDfe fun d =>
    { d with gain := SMap.set d.gain none key (some (g, from_)) }

/-! ### Transmit segments (R123 to R126) -/

/-- Sample words of a transmit segment. -/
def Dev.txWords (s : Dev) (u t : Nat) : Nat :=
  let c := s.rget (Reg.DFE_TXCFG u t)
  let kind := getF c Reg.DFE_TXCFG_KIND_f
  (if getF c Reg.DFE_TXCFG_SINK_f = 2 then 14 * resPerSymbol kind else samplesPerMs kind) * (getF c Reg.DFE_TXCFG_FMT_f + 1)

/-- The read time of segment n in ns (R124). -/
def Dev.txReadAt (s : Dev) (u t n : Nat) : Int :=
  let c := s.rget (Reg.DFE_TXCFG u t)
  let start : Int := s.txOrigin u t + n * 1000000
  if getF c Reg.DFE_TXCFG_SINK_f = 0 then
    start - s.fget (Reg.DFE_JDLY (getF c Reg.DFE_TXCFG_CHAN_f / 8)) Reg.DFE_JDLY_DLY_f - 6000
  else start - 1000 * s.fget Reg.DFE_FHCFG Reg.DFE_FHCFG_FHADV_f - 20000

/-- The samples of words of a segment in C24 units. -/
def wordsSamples (c24 : Bool) (ws : List Word) : List Cpx :=
  if c24 then (List.range (ws.length / 2)).map fun j => ((ws.getD (2 * j) 0).toInt, (ws.getD (2 * j + 1) 0).toInt)
  else ws.map fun w => (c12I w * 4096, c12Q w * 4096)

/-- Transmit streams of a converter channel that run. -/
def Dev.chanStreams (s : Dev) (ch : Nat) : List (Nat × Nat) :=
  txStreams.filter fun e => s.txOn e.1 e.2 && s.fget (Reg.DFE_TXCFG e.1 e.2) Reg.DFE_TXCFG_SINK_f == 0 &&
    s.fget (Reg.DFE_TXCFG e.1 e.2) Reg.DFE_TXCFG_CHAN_f == ch

/-- The part of a stream in what its converter channel sends: its newest segment with the one before. -/
def Dev.txPart (s : Dev) (u t : Nat) : Option TxPart :=
  match SMap.get s.dfe.seg [] (u * 256 + t) with
  | [] => none
  | (n, ok, ws) :: old =>
    let c := s.rget (Reg.DFE_TXCFG u t)
    let c24 := getF c Reg.DFE_TXCFG_FMT_f == 1
    let per := samplesPerMs (getF c Reg.DFE_TXCFG_KIND_f)
    let vs (ok : Bool) (ws : List Word) : List Cpx := if ok then wordsSamples c24 ws else List.replicate per (0, 0)
    let prev := match old with
      | (m, ok, ws) :: _ => if m + 1 = n then vs ok ws else []
      | [] => []
    some { start := s.txOrigin u t + n * 1000000, kind := getF c Reg.DFE_TXCFG_KIND_f, att := getF c Reg.DFE_TXCFG_ATT_f
           freq := (s.rget (Reg.DFE_TXNCO u t)).toInt, phase := Config.ncoPhase (u * 512 + 256 + t), before := prev.length
           vs := prev ++ vs ok ws }

/-- A part's value at converter sample `j`, counted from shared time 0 at the antenna reference point, in 1 / fxOne of a C24 unit: the
stream's samples interpolated, attenuated and turned by its NCO (R125). Log 188 (DESIGN CHOICE). -/
def TxPart.value (p : TxPart) (kr j : Nat) : Cpx :=
  let per := samplesPerMs p.kind
  let unit := chainUnit kr per
  let turn := 32000000 * unit
  let at_ : Int := (j * 1000000 * per : Nat)
  let z := p.vs.zipIdx.foldl (fun z e =>
    let o : Int := (p.start * unit : Nat) + ((e.2 : Int) - p.before) * (1000000 * 3840 * kr : Nat)
    if (at_ - o).natAbs ≤ Config.sendSpan p.kind kr then
      let h := Config.sendTap p.kind kr (at_ - o)
      cAdd z (e.1.1 * h, e.1.2 * h)
    else z) (0, 0)
  let g := fxGain (-(p.att : Int))
  cTurn (z.1 * g / fxOne, z.2 * g / fxOne) (-(p.freq * at_ + (p.phase * turn / 2 ^ 24 : Nat))) turn

/-- The sum of components in fixed point, saturated to 24 bits and sent as a 16-bit value (R125). -/
def txValue (x : Int) : Int :=
  let v := clampI (-(2 ^ 23) * fxOne) ((2 ^ 23 - 1) * fxOne) x
  clampI (-32768) 32767 (roundDiv v (256 * fxOne))

/-- Converter sample `j` of a channel of resolution `n`: the sum of its parts, saturated and rounded, unused low bits 0 (R108, R125). -/
def chanSample (parts : List TxPart) (kr n j : Nat) : Int × Int :=
  let z := (parts.map fun p => p.value kr j).foldl cAdd (0, 0)
  let cut (x : Int) : Int := x / 2 ^ (16 - n) * 2 ^ (16 - n)
  (cut (txValue z.1), cut (txValue z.2))

/-- A converter channel sends what its streams have read by now: from where it stopped to the first end of a newest segment. Its samples
are those of `chanSample`; each reaches the link's frame boundary at its antenna time less the link delay. While the link is
down they are discarded (R109, R110, R125). -/
def Dev.jesdSend (s : Dev) (ch : Nat) : Dev :=
  let parts := (s.chanStreams ch).filterMap fun e => s.txPart e.1 e.2
  let link := ch / 8
  match parts with
  | [] => s
  | p :: t =>
    let until_ := t.foldl (fun a q => Nat.min a (q.start + 1000000)) (p.start + 1000000)
    let from_ := Nat.max (SMap.get s.dfe.sent 0 ch) (until_ - 1000000)
    if from_ < until_ then
      let s := s.onDfe fun d => { d with sent := SMap.set d.sent 0 ch until_ }
      if s.fbit (Reg.DFE_JCFG link) Reg.DFE_JCFG_EN_f && !(s.linkRx link) && s.jup link then
        s.emit (.convert link (ch % 8) (from_ - s.jdly link) (until_ - s.jdly link) parts)
      else s
    else s

/-- Keep a segment that has been read: the newest and the one before it. -/
def Dev.segHold (s : Dev) (key n : Nat) (ok : Bool) (ws : List Word) : Dev :=
  s.onDfe fun d => { d with seg := SMap.set d.seg [] key ((n, ok, ws) :: (SMap.get d.seg [] key).take 1) }

/-- TX_SEGMENT_READ: the DFE reads segment n of a transmit stream at its read time: samples when the tag is U of the segment's
start, else zeros with DFE_TX_UNDERRUN; the tag is then written as U XOR 0x80_0000 (R124). While TIME_VALID is clear the
stream sends zeros and counts none (R126). A JESD204C channel sends what its streams have read. Log 78 (DESIGN CHOICE). -/
def Dev.txSegment (s : Dev) (u t n : Nat) : Dev :=
  if s.txOn u t ∧ s.txReadAt u t n ≤ s.nowNs then
    let key := u * 256 + t
    let c := s.rget (Reg.DFE_TXCFG u t)
    let len := s.fget (Reg.DFE_TXLEN u t) Reg.DFE_TXLEN_LEN_f
    let words := s.txWords u t
    let base := s.getAddr (Reg.DFE_TXBASE_LO u t) + n % len * (1 + words)
    let us := (s.txOrigin u t / 1000 + n * 1000) % 2 ^ 24
    let s :=
      if s.timeValid then
        let (tag, s) := s.memRead base
        let s :=
          if tag = some (word us) then
            let (ws, ok, s) := s.memReadN (base + 1) words
            if ok then s.segHold key n true ws else s.segHold key n true (ws ++ List.replicate (words - ws.length) 0)
          else ((s.count (Reg.DFE_TXUND_LO u) 1).raise 0x510 key).segHold key n false []
        (s.memWrite base (word (us ^^^ 0x800000)) allLanes).2
      else s.segHold key n false []
    if getF c Reg.DFE_TXCFG_SINK_f = 0 then s.jesdSend (getF c Reg.DFE_TXCFG_CHAN_f) else s
  else s

/-! ### Fronthaul transmit (R112, R117, R125) -/

/-- The samples of a read segment of a stream in C24 units, from position `k` on; zeros when it is sent as zeros. -/
def Dev.segSamples (s : Dev) (u t n k m : Nat) : List Cpx :=
  let c24 := s.fget (Reg.DFE_TXCFG u t) Reg.DFE_TXCFG_FMT_f == 1
  match (SMap.get s.dfe.seg [] (u * 256 + t)).find? fun e => e.1 == n with
  | some (_, true, ws) => (List.range m).map fun j => (wordsSamples c24 ws).getD (k + j) (0, 0)
  | _ => List.replicate m (0, 0)

/-- The streams that share the flow of stream t of unit u (R125). -/
def Dev.flowMates (s : Dev) (u t : Nat) : List (Nat × Nat) :=
  let sink (e : Nat × Nat) : Nat := s.fget (Reg.DFE_TXCFG e.1 e.2) Reg.DFE_TXCFG_SINK_f
  let flow (e : Nat × Nat) : Nat := s.fget (Reg.DFE_TXLEN e.1 e.2) Reg.DFE_TXLEN_FLOWID_f
  txStreams.filter fun e => s.txOn e.1 e.2 && sink e == sink (u, t) && flow e == flow (u, t)

/-- Resource elements of a stream that its coexistence map reserves are empty (R38): of the symbol l of subframe `n` at `at_` ns. The
map reserves the control region, the CRS of the host cell, and what is not a valid subframe but carries no NPSS, NSSS or
NPBCH. Log 194 (PRESUMED). -/
def coexReserved (m : Coex) (n l k : Nat) : Bool :=
  let odd := l / 7
  let crs (p v : Nat) : Bool := decide (p < m.crs) && k % 6 == (v + m.pci) % 6
  let v := m.valid.getD (n % Nat.max 1 m.valid.length) true
  let sync := n % 10 == 0 || n % 10 == 5 || n % 20 == 9
  decide (l < m.ctrl) || (!v && !sync) ||
  (l % 7 == 0 && (crs 0 0 || crs 1 3)) || (l % 7 == 4 && (crs 0 3 || crs 1 0)) ||
  (l % 7 == 1 && (crs 2 (3 * odd) || crs 3 (3 + 3 * odd)))

/-- Whether position `k` of symbol `l` of subframe `n` of a transmit stream stays empty for the host LTE cell (R38).
Log 194 (PRESUMED). -/
def Dev.coexEmpty (s : Dev) (u t n l k : Nat) : Bool :=
  match s.txCarrier u t with
  | some c => match s.cellParams c.num, s.coexAt c.num (s.txOrigin u t + n * 1000000) with
    | some p, some m => c.kind == 0 && decide (2 ≤ p.mode) && coexReserved m n l k
    | _, _ => false
  | none => false

/-- The values a flow sends for positions k to k + m - 1 of millisecond n: the sum of its streams after NCO, for time-domain samples,
and attenuation; zeros while TIME_VALID is clear (R125, R126). Log 80 (DESIGN CHOICE), 188 (DESIGN CHOICE). -/
def Dev.flowValues (s : Dev) (u t n k m : Nat) : List (Int × Int) :=
  let time := s.fget (Reg.DFE_TXCFG u t) Reg.DFE_TXCFG_SINK_f == 1
  let parts := (s.flowMates u t).map fun e => (e, fxGain (-(s.fget (Reg.DFE_TXCFG e.1 e.2) Reg.DFE_TXCFG_ATT_f : Nat)),
    s.segSamples e.1 e.2 n k m)
  (List.range m).map fun j =>
    let z := parts.foldl (fun z p =>
      let v := p.2.2.getD j (0, 0)
      let v : Cpx := (v.1 * p.2.1, v.2 * p.2.1)
      let freq := (s.rget (Reg.DFE_TXNCO p.1.1 p.1.2)).toInt
      let ns : Int := (s.txOrigin p.1.1 p.1.2 + n * 1000000 + (k + j) * 2500 : Nat)
      let v := if time then
          cTurn v (-(freq * ns + (Config.ncoPhase (p.1.1 * 512 + 256 + p.1.2) * 32000000 / 2 ^ 24 : Nat))) 32000000
        else if s.coexEmpty p.1.1 p.1.2 n (k / m) j then (0, 0) else v
      cAdd z v) (0, 0)
    if s.timeValid then (txValue z.1, txValue z.2) else (0, 0)

/-- A 16-bit value as two octets. -/
def oct16 (x : Int) : List Nat := octets 2 (BitVec.ofInt 16 x).toNat

/-- Bits of a value, most significant first, for packed mantissas. -/
def packMant (w : Nat) (ms : List Int) : List Nat :=
  let bs := ms.flatMap fun m => bitsOf w (BitVec.ofInt w m).toNat
  (List.range ((bs.length + 7) / 8)).map fun i => ofBits (((bs.drop (8 * i)).take 8) ++ List.replicate (8 - (bs.drop (8 * i)).length) 0)

/-- r × 2^-e rounded to the nearest integer, ties away from zero. -/
def mantOf (e : Nat) (r : Int) : Int := roundDiv r (2 ^ e)

/-- Whether a value fits in w bits. -/
def fitsBits (w : Nat) (m : Int) : Bool := decide (-(2 ^ (w - 1)) ≤ m) && decide (m < 2 ^ (w - 1))

/-- The exponent of a PRB: the smallest, 0 to 15, at which every component fits (R117). Log 72 (PRESUMED). -/
def bfpExp (w : Nat) (rs : List Int) : Nat :=
  ((List.range 16).find? fun e => rs.all fun r => fitsBits w (mantOf e r)).getD 15

/-- One PRB on the wire in the stream's compression (R116, R117). Log 72 (PRESUMED). -/
def prbOctets (comp : Nat) (rs : List Int) : List Nat :=
  let w := if comp % 16 = 0 then 16 else comp % 16
  if comp / 16 % 16 = 1 then
    let e := bfpExp w rs
    e :: packMant w (rs.map (mantOf e))
  else packMant 16 rs

/-- Split a list into runs of `n`; `m` bounds their number. -/
def chunks {α : Type} (n m : Nat) (l : List α) : List (List α) :=
  (List.range m).map fun i => (l.drop (n * i)).take n

/-- Send a fronthaul frame through the port of flow entry 128 u + t at a launch time (R417). -/
def Dev.fhSend (s : Dev) (u t : Nat) (body : List Nat) (lt : Nat × Nat) : Dev :=
  let f := u * 128 + t
  let c := s.rget (Reg.BRG_FLOW f)
  if getF c Reg.BRG_FLOW_VALID_f = 1 then
    let l := octets 6 (s.macAt (Reg.BRG_FLOW_DA_LO f)) ++ octets 6 s.beadMac ++ [0xAE, 0xFE] ++ body
    let l := if getF c Reg.BRG_FLOW_TAG_f = 1 then addTag l (getF c Reg.BRG_FLOW_PCP_f) 0 (getF c Reg.BRG_FLOW_VID_f) else l
    s.storeFrame { frameNew 0 0 0 16 s.time s.timeValid with raw := true, lt := some lt } l
      (s.classOf 16 (getF c Reg.BRG_FLOW_PCP_f)) [getF c Reg.BRG_FLOW_PORT_f]
  else s

/-- A time in ns as a launch time. -/
def ltOf (ns : Int) : Nat × Nat := ((ns / 1000000000 % 2 ^ 24).toNat, (ns % 1000000000).toNat)

/-- The start of symbol l of a subframe in ns after the subframe's start (TS 36.211, normal cyclic prefix). Log 73 (PRESUMED). -/
def symbolStart (l : Nat) : Nat :=
  500000 * (l / 7) + (if l % 7 = 0 then 0 else (2208 + 2192 * (l % 7 - 1)) * 100000 / 3072)

/-- The start of symbol l of a section type 3 message in ns after its subframe's start: symbols of 8,448 Ts at 3.75 kHz, of 24,576 Ts at
the 1.25 kHz of filter index 1 (TS 36.211). Log 73 (PRESUMED). -/
def symbolStart3 (filter l : Nat) : Nat := nsOfTs ((if filter = 1 then 24576 else 8448) * l)

/-- udCompHdr of a compression: iqWidth above udCompMeth. -/
def compOctet (comp : Nat) : Nat := comp % 16 * 16 + comp / 16 % 16

/-- FH_TX_MESSAGE: message k of millisecond n of a fronthaul transmit stream goes to the bridge, launched at its first sample or
symbol time minus FHADV: 80 samples (k = 0 to 4) for SBA, symbol k (0 to 13) for O-RAN section type 1. Streams of one flow are
summed into one message, which the first of them sends (R112, R117, R125). Log 72 (PRESUMED). -/
def Dev.fhTx (s : Dev) (u t n k : Nat) : Dev :=
  let c := s.rget (Reg.DFE_TXCFG u t)
  let flow := s.fget (Reg.DFE_TXLEN u t) Reg.DFE_TXLEN_FLOWID_f
  let adv : Int := 1000 * s.fget Reg.DFE_FHCFG Reg.DFE_FHCFG_FHADV_f
  let start : Int := s.txOrigin u t + n * 1000000
  if !(s.txOn u t) || (s.flowMates u t).head? != some (u, t) then s
  else if getF c Reg.DFE_TXCFG_SINK_f = 1 ∧ k < 5 then
    let vs := s.flowValues u t n (80 * k) 80
    let m := n * 5 + k
    s.fhSend u t ([0x10, 0] ++ octets 2 324 ++ octets 2 flow ++ octets 2 (m % 65536) ++
      vs.flatMap fun v => oct16 v.1 ++ oct16 v.2) (ltOf (start + 200000 * k - adv))
  else if getF c Reg.DFE_TXCFG_SINK_f = 2 ∧ k < 14 then
    let nre := resPerSymbol (getF c Reg.DFE_TXCFG_KIND_f)
    let vs := s.flowValues u t n (k * nre) nre
    let key := u * 256 + t
    let seq := SMap.get s.dfe.txSeq 0 key
    let (sec, s) := s.free
    let comp := Config.udComp key
    let prbs := (chunks 12 (nre / 12) vs).flatMap fun p => prbOctets comp (p.flatMap fun v => [v.1, v.2])
    let app := [0x90, n / 10 % 256, n % 10 * 16, k]
    let sect := octets 4 (sec % 4096 * 2 ^ 20 + nre / 12) ++ [compOctet comp, 0]
    let body := octets 2 flow ++ octets 2 (seq * 256 % 65536 + 128) ++ app ++ sect ++ prbs
    let s := s.onDfe fun d => { d with txSeq := SMap.set d.txSeq 0 key ((seq + 1) % 256) }
    s.fhSend u t ([0x10, 0] ++ octets 2 body.length ++ body) (ltOf (start + symbolStart k - adv))
  else s

/-! ### Fronthaul intake (R111 to R119) -/

/-- A fronthaul frame leaves the list the bridge holds for the DFE units. Log 132 (DEDUCED). -/
def Dev.fhTake (s : Dev) (f : FhFrame) : Dev := s.onBrg fun b => { b with fh := b.fh.erase f }

/-- A frame that no stream takes (R111, R417). Log 132 (DEDUCED). -/
def Dev.fhDrop (s : Dev) : Dev := s.pcount (Reg.BRG_ECPRIDROP_LO 16)

/-- A message dropped by a stream (R113, R116): LATECNT counts it up to 1,023; a late one raises DFE_INTAKE_LATE.
Log 74 (DEDUCED). -/
def Dev.rxLate (s : Dev) (u i : Nat) : Dev :=
  let n := s.fget (Reg.DFE_RXNF u i) Reg.DFE_RXNF_LATECNT_f
  (s.fput (Reg.DFE_RXNF u i) Reg.DFE_RXNF_LATECNT_f (Nat.min 1023 (n + 1))).raise 0x511 (u * 256 + i)

/-- The receive streams of a source and flow. -/
def Dev.flowStreams (s : Dev) (src flow : Nat) : List (Nat × Nat) :=
  rxStreams.filter fun e => s.rxOn e.1 e.2 && s.rxf e.1 e.2 Reg.DFE_RXCFG_SRC_f == src &&
    s.fget (Reg.DFE_RXLEN e.1 e.2) Reg.DFE_RXLEN_FLOWID_f == flow

/-- Whether a sample of time t (ns) that arrives at `now` is accepted (R113). Log 74 (DEDUCED). -/
def Dev.inWindow (s : Dev) (t now : Int) : Bool :=
  decide (now - t ≤ 10000 * s.fget Reg.DFE_FHCFG Reg.DFE_FHCFG_FHWIN_f) && decide (t - now ≤ 1000000)

/-- Ring positions of a stream that an accepted message has written. -/
def Dev.mark (s : Dev) (u i : Nat) (ks : List Nat) : Dev :=
  s.onDfe fun d =>
    let old := SMap.get d.taken [] (u * 256 + i)
    { d with taken := SMap.set d.taken [] (u * 256 + i) (old ++ ks.filter fun k => !old.contains k) }

/-- The 200 µs period nearest a time with a SEQ_ID (R112). -/
def nearestPeriod (now seq : Nat) : Nat :=
  let m := now / 200000
  let c := m / 65536 * 65536 + seq
  if c > m + 32768 then c - 65536 else if c + 32768 < m then c + 65536 else c

/-- Sample k of an SBA stream from eCPRI, after the channel filter, in 1 / fxOne of a C24 unit (R102, R120).
Log 188 (DESIGN CHOICE). -/
def sbaOut (raw : SMap Cpx) (k : Nat) : Cpx :=
  (List.range (2 * Config.sbaSpan + 1)).foldl (fun z (d : Nat) =>
    let o : Int := (d : Int) - Config.sbaSpan
    if (k : Int) + o < 0 then z
    else
      let x := SMap.get raw (0, 0) ((k : Int) + o).toNat
      cAdd z (x.1 * Config.sbaTap o, x.2 * Config.sbaTap o)) (0, 0)

/-- An SBA time-domain message reaches a stream: its 80 samples, scaled, pass the channel filter; those that the filter carries to
positions already written are written again (R102, R104, R112, R113, R121).
Log 74 (DEDUCED), 80 (DESIGN CHOICE), 188 (DESIGN CHOICE). -/
def Dev.sbaMessage (s : Dev) (u i now : Nat) (l : List Nat) : Dev :=
  let m := nearestPeriod now (be (slice l 6 2))
  let ks := ((List.range 80).filter fun (j : Nat) => s.inWindow (m * 200000 + j * 2500 : Nat) now).map (m * 80 + ·)
  if ks = [] then s.rxLate u i
  else
    let key := u * 256 + i
    let v (k o : Nat) : Int := sx 16 (be (slice l (8 + 4 * (k - m * 80) + o) 2)) * 256
    let raw := ks.foldl (fun (r : SMap Cpx) k => SMap.set r (0, 0) k (v k 0, v k 2)) (SMap.get s.dfe.raw [] key)
    let raw := SMap.drop raw fun k => decide (k + s.rxRing u i < m * 80)
    let s := (s.onDfe fun d => { d with raw := SMap.set d.raw [] key raw }).mark u i ks
    let near := (SMap.get s.dfe.taken [] key).filter fun k => decide (m * 80 ≤ k + Config.sbaSpan) && decide (k < m * 80 + 80 + Config.sbaSpan)
    near.foldl (fun s k => s.rxStore u i k (s.rxScaled u i (s.rxGainAt u i (k * 2500)) (sbaOut raw k)).1) s

/-- Whether a frame keeps eCPRI revision 1 without concatenation (R111). Log 73 (PRESUMED). -/
def ecpriOk (f : FhFrame) : Bool := f.octets.getD 0 0 / 16 == 1 && f.octets.getD 0 0 % 2 == 0

/-- A receive time in whole ns. -/
def nsOfTime (t : Nat) : Nat := t / nsUnit

/-- ECPRI_MESSAGE_RX: an eCPRI frame with a time-domain message reaches the DFE units; one too short for its 80 samples is dropped
(R111 to R113). Log 73 (PRESUMED), 132 (DEDUCED). -/
def Dev.ecpriRx (s : Dev) (f : FhFrame) : Dev :=
  let s := s.fhTake f
  if ecpriOk f ∧ f.octets.getD 1 0 = 0 ∧ 328 ≤ f.octets.length then
    match s.flowStreams 1 (be (slice f.octets 4 2)) with
    | [] => s.fhDrop
    | es => es.foldl (fun s e => s.sbaMessage e.1 e.2 (nsOfTime f.time) f.octets) s
  else s.fhDrop

/-- The time of position k of a fronthaul-fed ring in ns: its sample, or its symbol at the uplink boundaries (R33, R105, R118). -/
def Dev.rxTime (s : Dev) (u i k : Nat) : Int :=
  let re := resPerSymbol (s.rxf u i Reg.DFE_RXCFG_KIND_f)
  if s.rxf u i Reg.DFE_RXCFG_SRC_f = 1 then (k * 2500 : Nat)
  else (s.rxOrigin u i + k / (14 * re) * 1000000 + symbolStart (k / re % 14) : Nat) - (s.rxAdvance u i : Int)

/-- FH_ZERO_FILL: at FHWIN after their times, positions k to k + n - 1 of a fronthaul-fed ring that no message has written become
zero (R113). -/
def Dev.fhZero (s : Dev) (u i k n : Nat) : Dev :=
  let src := s.rxf u i Reg.DFE_RXCFG_SRC_f
  let due := s.rxTime u i (k + n - 1) + (10000 * s.fget Reg.DFE_FHCFG Reg.DFE_FHCFG_FHWIN_f : Nat)
  if s.rxOn u i ∧ (src = 1 ∨ src = 2) ∧ due ≤ s.nowNs then
    let have' := SMap.get s.dfe.taken [] (u * 256 + i)
    let s := (List.range n).foldl (fun s j => if have'.contains (k + j) then s else s.rxZero u i (k + j)) s
    s.onDfe fun d => { d with taken := SMap.set d.taken [] (u * 256 + i) (have'.filter fun x => !(decide (k ≤ x) && decide (x < k + n))) }
  else s

/-! ### O-RAN U-plane (R116 to R119) -/

/-- A signed number of `w` bits at bit `o` of octets. -/
def bitField (l : List Nat) (o w : Nat) : Int :=
  sx w (ofBits ((List.range w).map fun i => l.getD ((o + i) / 8) 0 / 2 ^ (7 - (o + i) % 8) % 2))

/-- Octets of a PRB in a compression (R116). -/
def prbLen (comp : Nat) : Nat :=
  let w := if comp % 16 = 0 then 16 else comp % 16
  if comp / 16 = 1 then 1 + 3 * w else 48

/-- A PRB of the wire. Log 72 (PRESUMED). -/
def prbOf (comp : Nat) (l : List Nat) : Prb :=
  let w := if comp % 16 = 0 then 16 else comp % 16
  if comp / 16 = 1 then { exp := l.getD 0 0 % 16, mants := (List.range 24).map fun i => bitField (l.drop 1) (i * w) w }
  else { exp := 0, mants := (List.range 24).map fun i => bitField l (i * 16) 16 }

/-- The sections of a message: 4 octets of header, udCompHdr and a reserved octet, PRBs; a count of 0 stands for all `all_` of the
carrier. Log 73 (PRESUMED). -/
def sectsOf (all_ : Nat) (l : List Nat) (fuel : Nat) : List Sect :=
  match fuel with
  | 0 => []
  | fuel + 1 =>
    if l.length < 6 then []
    else
      let h := be (slice l 0 4)
      let c := l.getD 4 0
      let comp := c % 16 * 16 + c / 16
      let n := if bits h 7 0 = 0 then all_ else bits h 7 0
      let body := l.drop 6
      let size := prbLen comp
      { comp := comp, prb := bits h 17 8, every := 1 + bits h 19 19
        prbs := (List.range (Nat.min n (body.length / size))).map fun i => prbOf comp (slice body (i * size) size) } ::
      sectsOf all_ (body.drop (n * size)) fuel

/-- The U-plane content of a frame (R116): message type 0, uplink, payloadVersion 1. Log 73 (PRESUMED). -/
def uplaneOf (all_ : Nat) (l : List Nat) : UPlane :=
  let a := l.getD 8 0
  { eaxc := be (slice l 4 2), ok := l.getD 1 0 == 0 && a / 128 % 2 == 0 && a / 16 % 8 == 1, filter := a % 16
    frame := l.getD 9 0, sub := l.getD 10 0 / 16, sym := l.getD 11 0 % 64, sects := sectsOf all_ (l.drop 12) l.length }

/-- The subframe nearest a time whose frame and subframe numbers a message gives, counted from a stream's origin. -/
def nearestSub (o now : Nat) (m : UPlane) : Nat :=
  let n := (now - o) / 1000000
  let x := m.frame * 10 + m.sub
  let c := n / 2560 * 2560 + x % 2560
  if c > n + 1280 then c - 2560 else if c + 1280 < n then c + 2560 else c

/-- The values of a PRB in C24 units: v = 2^8 × r with r = m × 2^e in 16 bits (R117). -/
def Prb.values (p : Prb) : List Cpx :=
  let r (i : Nat) : Int := sx 16 (BitVec.ofInt 16 (p.mants.getD i 0 * 2 ^ p.exp)).toNat * 256
  (List.range 12).map fun i => (r (2 * i), r (2 * i + 1))

/-- The resource elements of a section with their numbers in the symbol, up to `re`. -/
def Sect.values (x : Sect) (re : Nat) : List (Nat × Cpx) :=
  (x.prbs.zipIdx.flatMap fun p => p.1.values.zipIdx.map fun v => (12 * (x.prb + x.every * p.2) + v.2, v.1)).filter
    fun e => decide (e.1 < re)

/-- Whether a stream drops a message: one that is no supported U-plane message, carries a section extension, or another compression
than the stream's (R116). Log 73 (PRESUMED). -/
def Dev.uplaneBad (s : Dev) (u i : Nat) (m : UPlane) (ext : Bool) : Bool :=
  !m.ok || ext || m.sects.any (fun x => x.comp != Config.udComp (u * 256 + i)) ||
    (if s.rxf u i Reg.DFE_RXCFG_SRC_f = 2 then m.filter != 0 else m.filter != 0 && m.filter != 1 && m.filter != 4)

/-- A U-plane message reaches a stream of section type 1: into the ring by symbol (R113, R116, R118). -/
def Dev.uplane1 (s : Dev) (u i now : Nat) (m : UPlane) (ext : Bool) : Dev :=
  let re := resPerSymbol (s.rxf u i Reg.DFE_RXCFG_KIND_f)
  let sub := nearestSub (s.rxOrigin u i) now m
  let k0 := (sub * 14 + m.sym) * re
  let at' := s.rxTime u i k0
  if s.uplaneBad u i m ext ∨ ¬ s.inWindow at' now ∨ 13 < m.sym then s.rxLate u i
  else
    let vs := m.sects.flatMap fun x => x.values re
    let g := s.rxGainAt u i at'.toNat
    let s := vs.foldl (fun s e => s.rxStore u i (k0 + e.1) (s.rxScaled u i g (cpxF e.2)).1) s
    s.mark u i (vs.map (k0 + ·.1))

/-- ORAN_UPLANE_RX: an O-RAN section type 1 U-plane message; `ext` says that it carries a section extension (R116 to R118). -/
def Dev.oranRx (s : Dev) (f : FhFrame) (ext : Bool) : Dev :=
  let s := s.fhTake f
  if ecpriOk f then
    match s.flowStreams 2 (be (slice f.octets 4 2)) with
    | [] => s.fhDrop
    | es => es.foldl (fun s e =>
        s.uplane1 e.1 e.2 (nsOfTime f.time) (uplaneOf (resPerSymbol (s.rxf e.1 e.2 Reg.DFE_RXCFG_KIND_f) / 12) f.octets) ext) s
  else s.fhDrop

/-- Write one record of a section type 3 stream: count U of the symbol's start, startPrbu and the number of resource elements, the
elements; it wraps to the ring base where it would cross the end (R119). -/
def Dev.record3 (s : Dev) (u i at' : Nat) (g : Int) (x : Sect) : Dev :=
  let key := u * 256 + i
  let vs := x.prbs.flatMap Prb.values
  let ring := s.rxLen u i * 7680
  let rec' := [word (usOfNs at'), word (x.prb * 4096 + vs.length)] ++
    vs.flatMap fun v => sampleWords (s.rxf u i Reg.DFE_RXCFG_FMT_f == 1) (s.rxScaled u i g (cpxF v)).1
  let p := SMap.get s.dfe.recAt 0 key
  let p := if p + rec'.length ≤ ring then p else 0
  let s := (s.memWriteN (s.getAddr (Reg.DFE_RXBASE_LO u i) + p) rec').2
  s.onDfe fun d => { d with recAt := SMap.set d.recAt 0 key ((p + rec'.length) % ring) }

/-- A section type 3 message reaches a stream: one record for each section, in arrival order (R113, R116, R119). -/
def Dev.uplane3 (s : Dev) (u i now : Nat) (m : UPlane) (ext : Bool) : Dev :=
  let o := s.rxOrigin u i
  let at' : Int := (o + nearestSub o now m * 1000000 + symbolStart3 m.filter m.sym : Nat) - (s.rxAdvance u i : Int)
  if s.uplaneBad u i m ext ∨ ¬ s.inWindow at' now then s.rxLate u i
  else m.sects.foldl (fun s x => s.record3 u i at'.toNat (s.rxGainAt u i at'.toNat) x) s

/-- ORAN_SECTION3_RX: an O-RAN section type 3 U-plane message; `ext` says that it carries a section extension (R116, R119). -/
def Dev.oran3Rx (s : Dev) (f : FhFrame) (ext : Bool) : Dev :=
  let s := s.fhTake f
  if ecpriOk f then
    match s.flowStreams 3 (be (slice f.octets 4 2)) with
    | [] => s.fhDrop
    | es => es.foldl (fun s e => s.uplane3 e.1 e.2 (nsOfTime f.time) (uplaneOf 4 f.octets) ext) s
  else s.fhDrop

/-! ### One-way delay measurement (R114, R115) -/

/-- A timestamp of eCPRI: six octets of seconds, four of nanoseconds. -/
def ecpriTime (t : Nat) : List Nat := octets 6 (secOf t) ++ octets 4 (nsOf t)

/-- The octets of a type 5 message after the EtherType: measurement, action, timestamp, compensation value 0.
Log 72 (PRESUMED), 73 (PRESUMED). -/
def delayMsg (id action : Nat) (ts : List Nat) : List Nat :=
  [0x10, 5] ++ octets 2 20 ++ [id, action] ++ ts ++ octets 8 0

/-- ECPRI_DELAY_REQUEST: a type 5 Request is answered at once with a Response that carries its receive time (R114). -/
def Dev.delayRequest (s : Dev) (f : FhFrame) : Dev :=
  let s := s.fhTake f
  if ecpriOk f ∧ f.octets.getD 1 0 = 5 ∧ f.octets.getD 5 0 = 0 ∧ f.port < 16 then
    let l := octets 6 f.sa ++ octets 6 s.beadMac ++ [0xAE, 0xFE] ++ delayMsg (f.octets.getD 4 0) 2 (ecpriTime f.time)
    s.storeFrame { frameNew 0 0 0 16 s.time s.timeValid with raw := true } l (s.classOf 16 0) [f.port]
  else s.fhDrop

/-- The TXFRAME bead with TSREQ that carries a measurement's message to the bridge. -/
def Dev.measFrame (s : Dev) (u port tag : Nat) (l : List Nat) : Dev :=
  s.send (mkBead (head0 2 0x28 false false false) s.devnum 0x820 0 s.devnum (dfeUnit u) 0 tag
    ([word (2 ^ 22 + 2 ^ 21 + port * 2 ^ 15 + s.classOf 16 0 * 2 ^ 12), 0, 0, 0, word l.length] ++ octWords l))

/-- The result bead of a measurement (R115). A time that the peer's message gives carries no TIME_VALID: its TV is reported as 1.
Log 75 (DEDUCED). -/
def Dev.measResult (s : Dev) (u : Nat) (b : Bead) (outcome : Nat) (t1 t2 : Option (Nat × Bool)) (delay : Int) : Dev :=
  let tw (t : Option (Nat × Bool)) : List Word := match t with
    | some (t, tv) => [word (secOf t), word (nsOf t), word (nsOf t / 2 ^ 24), word (bit tv * 2 ^ 23 + fracOf t)]
    | none => [0, 0, 0, 0]
  let d := (BitVec.ofInt 72 delay).toNat
  s.sendTo (dfeUnit u) 0x18 b.sdev b.sunit 0
    ([word (outcome * 2 ^ 22 + bits (b.pay 0) 7 0)] ++ tw t1 ++ tw t2 ++ [word d, word (d / 2 ^ 24), word (d / 2 ^ 48)])

/-- DELAY_MEASURE_REQUEST: a DATA bead to a DFE unit starts a measurement, or gets the result INVALID. The timestamp of a Request is
that of its egress, which the bridge puts in as it sends it (R114, R115). -/
def Dev.measStart (s : Dev) (b : Bead) : Dev :=
  if 0xD4 ≤ b.dunit ∧ b.dunit ≤ 0xDB then
    s.arrive b (b.op == 0x20) fun s =>
      let u := b.dunit - 0xD4
      let w := b.pay 0
      let action := bits w 23 22
      let port := bits w 21 17
      if action > 1 ∨ port > 15 then s.measResult u b 2 none none 0
      else
        let l := octets 6 (b.pay 1 + b.pay 2 * 2 ^ 24) ++ octets 6 s.beadMac ++ [0xAE, 0xFE] ++
          delayMsg (bits w 7 0) (if action = 0 then 0 else 3) (octets 10 0)
        let l := if bits (b.pay 3) 23 23 = 1 then addTag l (bits (b.pay 3) 15 13) 0 (bits (b.pay 3) 11 0) else l
        let tag := s.dfe.measTag
        let s := s.onDfe fun d => { d with
          measTag := (d.measTag + 1) % 2 ^ 15
          meas := d.meas ++ [{ unit := u, bead := b, tag := tag, since := s.elapsed, peer := none }] }
        s.measFrame u port tag l
  else s

/-- The transmit report that has come back for a measurement. Log 75 (DEDUCED). -/
def Dev.measReport (s : Dev) (m : DelayMeas) : Option Bead :=
  s.net.find? fun b => b.dunit == dfeUnit m.unit && b.op == 0x28 && b.rsp && b.tag == m.tag

/-- The time a transmit report gives, with the upper seconds of the present. -/
def Dev.reportTime (s : Dev) (b : Bead) : Nat × Bool :=
  let t := time3 (b.payload.getD 1 0) (b.payload.getD 2 0) (b.payload.getD 3 0)
  let sec := ((secOf s.time : Int) + sdiff 24 t.1 (secOf s.time)).toNat
  ((timeOf sec t.2 + bits (b.pay 4) 15 0 * 2 ^ 24) % timeMod, bits (b.pay 4) 23 23 == 1)

/-- The measurement has ended. -/
def Dev.measDone (s : Dev) (m : DelayMeas) : Dev :=
  let s := s.onDfe fun d => { d with meas := d.meas.erase m }
  match s.measReport m with
  | some r => s.take r
  | none => s

/-- A time in units of 2^-16 ns. -/
def units16 (t : Nat) : Int := (t / 2 ^ 24 : Nat)

/-- A Request's measurement whose answer and transmit report have both come ends DONE (R115). -/
def Dev.measSettle (s : Dev) (m : DelayMeas) : Dev :=
  match m.peer, s.measReport m with
  | some (peer, comp, _), some r =>
    let t1 := s.reportTime r
    (s.measDone m).measResult m.unit m.bead 0 (some t1) (some (peer, true)) (units16 peer - comp - units16 t1.1)
  | _, _ => s

/-- Every measurement that waited only for its transmit report ends. -/
def Dev.measSettles (s : Dev) : Dev := s.dfe.meas.foldl (fun s m => s.measSettle m) s

/-- DELAY_MEASURE_ANSWER: the peer's message completes a measurement: its Response for a Request, once the transmit report is there
too; its Request for a Remote Request (R115). It is matched by MEASID and source address. Log 75 (DEDUCED). -/
def Dev.measAnswer (s : Dev) (f : FhFrame) : Dev :=
  let s := s.fhTake f
  let id := f.octets.getD 4 0
  let action := f.octets.getD 5 0
  let hit := s.dfe.meas.find? fun m => m.peer.isNone &&
    bits (m.bead.pay 0) 7 0 == id && m.bead.pay 1 + m.bead.pay 2 * 2 ^ 24 == f.sa &&
      (if bits (m.bead.pay 0) 23 22 = 0 then action == 2 else action == 0)
  let peer := timeOf (be (slice f.octets 6 6)) (be (slice f.octets 12 4))
  let comp := sx 64 (be (slice f.octets 16 8))
  match (if ecpriOk f ∧ f.octets.getD 1 0 = 5 then hit else none) with
  | none => s.fhDrop
  | some m =>
    if bits (m.bead.pay 0) 23 22 = 0 then
      let m' := { m with peer := some (peer, comp, f.time, f.tv) }
      (s.onDfe fun d => { d with meas := d.meas.map fun x => if x = m then m' else x }).measSettle m'
    else
      (s.measDone m).measResult m.unit m.bead 0 (some (peer, true)) (some (f.time, f.tv))
        (units16 f.time - (units16 peer + comp))

/-- DELAY_MEASURE_TIMEOUT: no matching message has come within TMO (R115). A result carries the times that are known. -/
def Dev.measTimeout (s : Dev) (tag : Nat) : Dev :=
  match s.dfe.meas.find? fun m => m.tag == tag with
  | none => s
  | some m =>
    if m.peer.isSome then s.measSettle m
    else
      let tmo := bits (m.bead.pay 4) 15 0
      let s := s.pass (m.since + (if tmo = 0 then 100 else tmo) * 100000 * nsUnit)
      let t1 := if bits (m.bead.pay 0) 23 22 = 0 then (s.measReport m).map s.reportTime else none
      (s.measDone m).measResult m.unit m.bead 1 t1 none 0

/-! ### Noise floor (R122) -/

/-- The noise-floor record of a stream. -/
def Dev.nfOf (s : Dev) (k : Nat) : NoiseFloor := SMap.get s.dfe.nf nfReset k

/-- Store a noise-floor record. -/
def Dev.setNf (s : Dev) (k : Nat) (x : NoiseFloor) : Dev := s.onDfe fun d => { d with nf := SMap.set d.nf nfReset k x }

/-- Whether an instance on the carrier of a stream has been active before time `t` (ns): claimed at a crossing before it and not
ended. -/
def Dev.instOn (s : Dev) (u i t : Nat) : Bool :=
  s.brx.insts.any fun e => match e.2 with
    | some x =>
      let c := s.rget (Reg.BDT_CCFG x.det x.slot)
      getF c Reg.BDT_CCFG_DFE_f == u && decide (getF c Reg.BDT_CCFG_STREAM_f ≤ i) &&
        decide (i ≤ getF c Reg.BDT_CCFG_STREAM_f + getF c Reg.BDT_CCFG_AM1_f) && decide (x.cross < t)
    | none => false

/-- The samples of a block in the ring, in C24 units; none on a bus error. -/
def Dev.blockRead (s : Dev) (u i n : Nat) : Option (List Cpx) × Dev :=
  let as := (List.range 400).map fun j => s.getAddr (Reg.DFE_RXBASE_LO u i) + (n * 400 + j) % s.rxRing u i * s.rxWidth u i
  s.samplesRead as (s.rxf u i Reg.DFE_RXCFG_FMT_f == 1)

/-- NF_BLOCK_END: the 1 ms block `n` of shared time of an SBA receive stream ends. A stream fed by JESD204C has by then written its
samples, from those of its converter pair (`xs`, the first being number `n0`), at its gain (R104, R105, R121). A qualifying
block moves the estimate by the mean power of its samples; the level is the step of 0.25 dB below or above (R122).
Log 69 (DESIGN CHOICE), 70 (DESIGN CHOICE), 77 (DESIGN CHOICE). -/
def Dev.nfBlock (s : Dev) (u i n n0 : Nat) (xs : List Cpx) : Dev :=
  let k := u * 256 + i
  let cfg := s.rget Reg.DFE_NFCFG
  if s.rxOn u i ∧ s.rxf u i Reg.DFE_RXCFG_KIND_f = 4 ∧ (s.nfOf k).block ≤ n then
    let s := s.reachNs ((n + 1) * 1000000)
    let s := if s.rxf u i Reg.DFE_RXCFG_SRC_f = 0 then (s.chainStore u i n0 xs (n * 400) 400 (s.rxGainAt u i (n * 1000000))).2.2.2 else s
    let (block, s) := s.blockRead u i n
    let x := { s.nfOf k with block := n + 1 }
    let s := s.setNf k x
    let idle := ms (Nat.max 1 (getF cfg Reg.DFE_NFCFG_IDLE_MIN_f))
    let since := s.elapsed - (s.time - (n + 1) * 1000000 * nsUnit)
    match block with
    | none => s
    | some ys =>
      if s.instOn u i ((n + 1) * 1000000) = false ∧ x.idleFrom + idle ≤ since then
        let p := meanPow ys
        let est := match x.est with
          | none => p
          | some e => ((e : Int) + ((p : Int) - e) / (2 ^ getF cfg Reg.DFE_NFCFG_NFA_f : Nat)).toNat
        let (f, s) := s.free
        let s := s.setNf k { x with est := some est, lastOk := s.elapsed }
        let r := Reg.DFE_RXNF u i
        ((s.fset r Reg.DFE_RXNF_VALID_f true).fset r Reg.DFE_RXNF_STALE_f false).fput r Reg.DFE_RXNF_NF_f
          (BitVec.ofInt 12 (dbLevel est f)).toNat
      else s
  else s

/-- NF_STALE_TIMEOUT: no block has qualified for the stale time (R122). -/
def Dev.nfStale (s : Dev) (u i : Nat) : Dev :=
  let r := Reg.DFE_RXNF u i
  if s.rxOn u i ∧ s.rxf u i Reg.DFE_RXCFG_KIND_f = 4 ∧ ¬ s.fbit r Reg.DFE_RXNF_STALE_f then
    let t := (s.nfOf (u * 256 + i)).lastOk + ms (10 * s.fget Reg.DFE_NFCFG Reg.DFE_NFCFG_STALE_f)
    ((s.pass t).fset r Reg.DFE_RXNF_STALE_f true).raise 0x513 (u * 256 + i)
  else s

/-- The streams of a unit start now, for the noise floor. -/
def Dev.nfStart (s : Dev) (u : Nat) : Dev :=
  (List.range 256).foldl (fun s i =>
    if s.rxOn u i && s.rxf u i Reg.DFE_RXCFG_KIND_f == 4 then
      s.setNf (u * 256 + i) { idleFrom := s.elapsed, lastOk := s.elapsed, block := 0, est := none } else s) s

/-! ### Live fields and resets -/

/-- A write of DFE_RXNF: bit 12 set clears LATECNT. -/
def Dev.rxnfWrite (s : Dev) (u i : Nat) (w : Word) : Dev :=
  if bits w.toNat 12 12 = 1 then s.fput (Reg.DFE_RXNF u i) Reg.DFE_RXNF_LATECNT_f 0 else s

/-- RXCAU and TXCAU in DFE_CTL_n (R27, R102): a section type 3 stream counts 0. -/
def Dev.dfeCtlLive (s : Dev) (u : Nat) : Nat :=
  let rx := (List.range 256).foldl (fun n i =>
    if s.rxf u i Reg.DFE_RXCFG_EN_f = 1 ∧ s.rxf u i Reg.DFE_RXCFG_SRC_f ≠ 3 then n + cauOf (s.rxf u i Reg.DFE_RXCFG_KIND_f) else n) 0
  let tx := (List.range 128).foldl (fun n t =>
    if s.fbit (Reg.DFE_TXCFG u t) Reg.DFE_TXCFG_EN_f then n + cauOf (s.fget (Reg.DFE_TXCFG u t) Reg.DFE_TXCFG_KIND_f) else n) 0
  rx * 4096 + tx

/-- The state of DFE unit u beside its registers goes; the links stay. -/
def Dev.dfeDrop (s : Dev) (u : Nat) : Dev :=
  let p (k : Nat) : Bool := k / 256 == u
  s.onDfe fun d => { d with
    gain := SMap.drop d.gain p, zeros := SMap.drop d.zeros p, taken := SMap.drop d.taken p, raw := SMap.drop d.raw p, recAt := SMap.drop d.recAt p
    seg := SMap.drop d.seg p, txSeq := SMap.drop d.txSeq p, nf := SMap.drop d.nf p
    meas := d.meas.filter fun m => m.unit != u }

end Sys2Proof.Machine
end

