-- ==== Sys2Proof/Machine/Dma.lean ====
section
/-! DEFINITION. DMA channels without the accesses of their beats: descriptors and start checks, states, arbitration of issue
slots, drain, notices, STOP, time-outs and resets (R300 to R323). The accesses stand in Machine/DmaData.lean. -/

namespace Sys2Proof.Machine

/-- A channel that has nothing in progress. Log 9 (DESIGN CHOICE). -/
def dmaIdle : DmaCh :=
  { rj := 0, wj := 0, bidx := 0, reads := [], got := [], writes := [], beads := [], bad := none, endAs := none,
    noChain := false, early := false, img := 0 }

/-- A channel of an engine. -/
def Dev.dmaCh (s : Dev) (e c : Nat) : DmaCh := SMap.get s.dma.chans dmaIdle (e * 64 + c)

/-- Store a channel. -/
def Dev.setDma (s : Dev) (e c : Nat) (x : DmaCh) : Dev :=
  { s with dma := { s.dma with chans := SMap.set s.dma.chans dmaIdle (e * 64 + c) x } }

/-- Update a channel. -/
def Dev.onDma (s : Dev) (e c : Nat) (f : DmaCh → DmaCh) : Dev := s.setDma e c (f (s.dmaCh e c))

/-- DMA_STATUS.STATE. -/
def Dev.dmaState (s : Dev) (e c : Nat) : Nat := s.fget (Reg.DMA_STATUS e c) Reg.DMA_STATUS_STATE_f

/-- Store STATE. -/
def Dev.setDmaState (s : Dev) (e c st : Nat) : Dev := s.fput (Reg.DMA_STATUS e c) Reg.DMA_STATUS_STATE_f st

/-- Whether a channel is in LOAD, RUN or DRAINING. -/
def Dev.dmaActive (s : Dev) (e c : Nat) : Bool := s.dmaState e c == 1 || s.dmaState e c == 2 || s.dmaState e c == 3

/-- A bit of a channel's DMA_CTL. -/
def Dev.dmaBit (s : Dev) (e c : Nat) (f : Fld) : Bool := s.fbit (Reg.DMA_CTL e c) f

/-! ### Owners and grants (R300, R301, R304) -/

/-- The owner of a channel as a requester. -/
def Dev.dmaOwner (s : Dev) (e c : Nat) : Option Req :=
  let w := s.rget (Reg.DMA_OWN e c)
  if getF w Reg.DMA_OWN_VALID_f = 0 then none
  else if getF w Reg.DMA_OWN_REM_f = 1 then some (.remote (getF w Reg.DMA_OWN_DEVICE_f) (getF w Reg.DMA_OWN_UNIT_f))
  else some (.local (getF w Reg.DMA_OWN_UNIT_f))

/-- Whether a requester may access a channel's registers (R300): its owner, the Abacist, the security island. -/
def Dev.dmaMay (s : Dev) (e c : Nat) (r : Req) : Bool :=
  s.dmaOwner e c == some r || r == .local 0x7F || r == .local 0x7E

/-- The core whose local memory 0x0000 to 0xFFFF denotes for a requester: 112 for the Abacist (R301). -/
def Req.core (r : Req) : Option Nat :=
  match r with
  | .local u => if u < 112 then some u else if u = 0x7F then some 112 else none
  | .remote _ _ => none

/-- The regions that grant an access to the DMA channels of a unit of this device (R345). Log 122 (DEDUCED). -/
def Dev.unitRegions (s : Dev) (u : Nat) (write : Bool) : List Region :=
  let kind := s.regions.filter fun r => if write then r.wr else r.rd
  if u < 112 then kind.filter fun r => bits r.rods (u / 8) (u / 8) == 1
  else if 0x840 ≤ u ∧ u ≤ 0x84F then
    kind.filter fun r => r.host && r.rods &&& s.fget (Reg.BRG_HOST_RODS (u - 0x840)) Reg.BRG_HOST_RODS_RODS_f != 0
  else []

/-- Whether the regions together cover words lo to hi; each turn goes on behind the furthest end reached. -/
def covered (rs : List Region) (n lo hi : Nat) : Bool :=
  match n with
  | 0 => decide (hi < lo)
  | n + 1 =>
    if hi < lo then true
    else
      let e := rs.foldl (fun e r => if r.base ≤ lo ∧ lo < r.base + r.len then Nat.max e (r.base + r.len) else e) lo
      if e ≤ lo then false else covered rs n e hi

/-- The range of R10 that holds an address. -/
def rangeOf (a : Nat) : Nat :=
  match placeOf a with
  | .own _ => 1 | .recMem _ => 2 | .lmem _ _ => 3 | .creg _ => 4 | .abuf _ => 5 | .nowhere => 0

/-- A core's own local memory, as a region that it needs no entry for (R345). -/
def ownRegion (u : Nat) : Region :=
  { owner := u, remote := false, rodlvl := true, rd := true, wr := true, tcode := 7, base := lmAddr u 0, len := 0x10000,
    host := false, rods := 0, slice := 15 }

/-- Whether every word from lo to hi lies in one range of R10 and is granted to the requester (R304). -/
def Dev.spanGranted (s : Dev) (r : Req) (lo hi : Nat) (write : Bool) : Bool :=
  rangeOf lo != 0 && rangeOf lo == rangeOf hi &&
  match r with
  | .local u =>
    if rangeOf lo = 1 then r.core.isSome
    else if u = 0x7F ∨ u = 0x7E then true
    else
      let own : List Region := if u < 112 then [ownRegion u] else []
      let rs := own ++ s.unitRegions u write
      covered rs rs.length lo hi
  | .remote _ _ => rangeOf lo != 1 &&
      s.regions.any fun x => x.remote && x.allows lo write && x.allows hi write

/-! ### Descriptors (R302, R303) -/

/-- A side of a descriptor: start byte position, line length, stride, lines, and the device when it is remote. -/
structure DmaSide where
  start : Nat
  llen : Nat
  stride : Int
  lines : Nat
  dev : Option Nat
  lane : Nat
  deriving DecidableEq, Repr

/-- The source side. -/
def Dev.dmaSrc (s : Dev) (e c : Nat) : DmaSide :=
  let h := s.rget (Reg.DMA_SRC_HI e c)
  let a := (s.rget (Reg.DMA_SRC_LO e c)).toNat + getF h Reg.DMA_SRC_HI_ADDR_f * 2 ^ 24
  { start := a * 3 + getF h Reg.DMA_SRC_HI_LANE_f, llen := (s.rget (Reg.DMA_SLEN e c)).toNat
    stride := sx 24 (s.rget (Reg.DMA_SSTRIDE e c)).toNat, lines := (s.rget (Reg.DMA_SLINES e c)).toNat
    dev := if getF h Reg.DMA_SRC_HI_REM_f = 1 then some (getF h Reg.DMA_SRC_HI_DEV_f) else none
    lane := getF h Reg.DMA_SRC_HI_LANE_f }

/-- The destination side. -/
def Dev.dmaDst (s : Dev) (e c : Nat) : DmaSide :=
  let h := s.rget (Reg.DMA_DST_HI e c)
  let a := (s.rget (Reg.DMA_DST_LO e c)).toNat + getF h Reg.DMA_DST_HI_ADDR_f * 2 ^ 24
  { start := a * 3 + getF h Reg.DMA_DST_HI_LANE_f, llen := (s.rget (Reg.DMA_DLEN e c)).toNat
    stride := sx 24 (s.rget (Reg.DMA_DSTRIDE e c)).toNat, lines := (s.rget (Reg.DMA_DLINES e c)).toNat
    dev := if getF h Reg.DMA_DST_HI_REM_f = 1 then some (getF h Reg.DMA_DST_HI_DEV_f) else none
    lane := getF h Reg.DMA_DST_HI_LANE_f }

/-- LEN of the descriptor in the registers. -/
def Dev.dmaLen (s : Dev) (e c : Nat) : Nat := (s.rget (Reg.DMA_LEN e c)).toNat

/-- The byte position of transfer byte j on a side (R302). -/
def DmaSide.byteAt (d : DmaSide) (j : Nat) : Nat :=
  ((d.start : Int) + (j / d.llen : Nat) * d.stride + (j % d.llen : Nat)).toNat

/-- The bytes of the beat that begins with transfer byte j: one line, one aligned block of 8 words (R305). Log 104 (DEDUCED). -/
def DmaSide.beat (d : DmaSide) (j : Nat) : Nat :=
  Nat.min (d.llen - j % d.llen) (24 - d.byteAt j % 24)

/-- Whether a descriptor is valid (R303). -/
def Dev.dmaValid (s : Dev) (e c : Nat) : Bool :=
  let a := s.dmaSrc e c
  let b := s.dmaDst e c
  let n := s.dmaLen e c
  decide (1 ≤ n) && decide (n ≤ 16777215) && a.llen != 0 && b.llen != 0 && a.llen * a.lines == n && b.llen * b.lines == n &&
  (b.lines == 1 || decide (b.llen ≤ b.stride.natAbs)) && !(a.dev.isSome && b.dev.isSome) && a.lane != 3 && b.lane != 3

/-- Whether a local side's span is granted to the owner (R304); a remote side is checked by its device. -/
def Dev.sideGranted (s : Dev) (r : Req) (d : DmaSide) (write : Bool) : Bool :=
  if d.dev.isSome then true
  else
    let last : Int := (d.start : Int) + (d.lines - 1 : Nat) * d.stride
    let lo : Int := if last < d.start then last else d.start
    let hi : Int := (if last < d.start then (d.start : Int) else last) + (d.llen - 1 : Nat)
    decide (0 ≤ lo) && decide (hi < 3 * 2 ^ 32) && s.spanGranted r (lo.toNat / 3) (hi.toNat / 3) write

/-! ### Notices and ends (R310 to R316) -/

/-- Send a notice when NOTIFY = 1 (R316). Log 106 (DEDUCED), 107 (DEDUCED). -/
def Dev.dmaNotice (s : Dev) (e c outcome err beat : Nat) : Dev :=
  if s.dmaBit e c Reg.DMA_CTL_NOTIFY_f then
    let d := s.rget (Reg.DMA_NOTIFY e c)
    s.sendTo (0x200 + e) 0x18 (getF d Reg.DMA_NOTIFY_DEVICE_f) (getF d Reg.DMA_NOTIFY_UNIT_f)
      (s.fget (Reg.DMA_CTL e c) Reg.DMA_CTL_ORDER_f)
      [word (outcome * 2 ^ 22 + err * 2 ^ 18 + e * 2 ^ 17 + c * 2 ^ 11), s.rget (Reg.DMA_SEQ e c), word beat,
       s.rget (Reg.DMA_RESIDUAL e c), s.rget (Reg.DMA_COUNT e c), word s.us]
  else s

/-- The channel ends in a state with ERR and BEAT, and nothing in progress. Log 107 (DEDUCED). -/
def Dev.dmaEnd (s : Dev) (e c st err beat : Nat) : Dev :=
  let s := (s.setDmaState e c st).fput (Reg.DMA_STATUS e c) Reg.DMA_STATUS_ERR_f err
  (s.rset (Reg.DMA_BEAT e c) (word beat)).setDma e c dmaIdle

/-- The channel ends in ERROR with a notice. Log 106 (DEDUCED). -/
def Dev.dmaError (s : Dev) (e c err beat : Nat) : Dev := (s.dmaEnd e c 5 err beat).dmaNotice e c 1 err beat

/-- The channel ends in ERROR under R310 or R312, which raises DMA_CH_ERR (R322). Log 106 (DEDUCED). -/
def Dev.dmaFail (s : Dev) (e c err beat : Nat) : Dev := (s.dmaError e c err beat).raise 0x421 (e * 64 + c)

/-- The start checks of R303 and R304; a descriptor that passes runs. -/
def Dev.dmaCheck (s : Dev) (e c : Nat) : Dev :=
  if !(s.dmaValid e c) then s.dmaError e c 1 0
  else
    let ok := match s.dmaOwner e c with
      | some r => s.sideGranted r (s.dmaSrc e c) false && s.sideGranted r (s.dmaDst e c) true
      | none => false
    if ok then (s.setDma e c dmaIdle).setDmaState e c 2 else s.dmaError e c 3 0

/-- A descriptor begins: COUNT = LEN, RESIDUAL, BEAT and ERR 0 (R308). -/
def Dev.dmaZero (s : Dev) (e c : Nat) : Dev :=
  let s := (s.rset (Reg.DMA_COUNT e c) (s.rget (Reg.DMA_LEN e c))).rset (Reg.DMA_RESIDUAL e c) 0
  ((s.rset (Reg.DMA_BEAT e c) 0).fput (Reg.DMA_STATUS e c) Reg.DMA_STATUS_ERR_f 0).setDma e c dmaIdle

/-- The channel reads the descriptor image at NEXT (R308, R315). Log 108 (DEDUCED). -/
def Dev.dmaLoad (s : Dev) (e c : Nat) : Dev := (s.dmaZero e c).setDmaState e c 1

/-- The channel runs the descriptor in its registers. -/
def Dev.dmaRun (s : Dev) (e c : Nat) : Dev := (s.dmaZero e c).dmaCheck e c

/-- Nothing of the channel's descriptor is outstanding. -/
def DmaCh.quiet (x : DmaCh) : Bool := x.reads == [] && x.writes == [] && x.beads == []

/-- A late error (R311). Log 107 (DEDUCED). -/
def Dev.dmaLate (s : Dev) (e c err beat : Nat) : Dev :=
  let s :=
    if s.fbit (Reg.DMA_LATE e c) Reg.DMA_LATE_VALID_f then s.fset (Reg.DMA_LATE e c) Reg.DMA_LATE_MORE_f true
    else
      let s := (s.rset (Reg.DMA_LATESEQ e c) (s.rget (Reg.DMA_SEQ e c))).rset (Reg.DMA_LATEBEAT e c) (word beat)
      (s.rset (Reg.DMA_LATERES e c) (s.rget (Reg.DMA_RESIDUAL e c))).fset (Reg.DMA_LATE e c) Reg.DMA_LATE_VALID_f true
  ((s.raise 0x420 (e * 64 + c)).dmaEnd e c 5 err beat).dmaNotice e c 2 err beat

/-- When the last response of a stopped or drained descriptor has returned, the channel ends (R309 to R315). Log 105 (DEDUCED). -/
def Dev.dmaSettle (s : Dev) (e c : Nat) : Dev :=
  let x := s.dmaCh e c
  let barrier := s.dmaBit e c Reg.DMA_CTL_BARRIER_f
  if !x.quiet then s
  else if s.dmaState e c = 2 then
    match x.endAs with
    | some 6 =>
      let beat := (x.bad.map (·.1)).getD 0
      (s.dmaEnd e c 6 0 beat).dmaNotice e c 3 0 beat
    | some _ => match x.bad with
      | some (b, err) => s.dmaFail e c err b
      | none => s
    | none => s
  else if s.dmaState e c = 3 then
    match x.bad with
    | some (b, err) => if barrier then s.dmaFail e c err b else s.dmaLate e c err b
    | none =>
      let s := if x.early then s else s.dmaNotice e c 0 0 0
      if s.dmaBit e c Reg.DMA_CTL_CHAIN_f && !x.noChain then s.dmaLoad e c else s.dmaEnd e c 4 0 0
  else s

/-- The beat that holds transfer byte j, counted on from beat `idx` that begins with byte `k` (R305); `n` bounds it.
Log 104 (DEDUCED). -/
def beatOf (d : DmaSide) (n idx k j : Nat) : Nat :=
  match n with
  | 0 => idx
  | n + 1 => if j < k + d.beat k then idx else beatOf d n (idx + 1) (k + d.beat k) j

/-- An error of beat b: the lowest beat index decides ERR and BEAT; in RUN the channel issues no more (R312). Log 105 (DEDUCED). -/
def Dev.dmaBad (s : Dev) (e c b err : Nat) : Dev :=
  let run := s.dmaState e c == 2
  s.onDma e c fun x => { x with
    bad := match x.bad with
      | some (b0, e0) => if b < b0 then some (b, err) else some (b0, e0)
      | none => some (b, err)
    endAs := if run && x.endAs.isNone then some 5 else x.endAs }

/-- A failing read: the first write beat that needed byte j (R312). After a STOP took effect it changes nothing.
Log 111 (DESIGN CHOICE). -/
def Dev.dmaReadBad (s : Dev) (e c j err : Nat) : Dev :=
  let x := s.dmaCh e c
  if x.endAs = some 6 then s
  else s.dmaBad e c (beatOf (s.dmaDst e c) (j + 1 - x.wj) x.bidx x.wj j) err

/-- A failing write beat adds its bytes to RESIDUAL. -/
def Dev.dmaWriteBad (s : Dev) (e c : Nat) (b : DmaBeat) (err : Nat) : Dev :=
  let s := s.rset (Reg.DMA_RESIDUAL e c) (word ((s.rget (Reg.DMA_RESIDUAL e c)).toNat + b.data.length))
  s.dmaBad e c b.idx err

/-- A confirmed write beat. -/
def Dev.dmaConfirm (s : Dev) (e : Nat) (b : DmaBeat) : Dev := s.count (Reg.DMA_BYTES_LO e) b.data.length

/-! ### Registers (R300, R308, R313) -/

/-- STOP (R313). Log 105 (DEDUCED). -/
def Dev.dmaStop (s : Dev) (e c : Nat) : Dev :=
  match s.dmaState e c with
  | 1 => (s.dmaEnd e c 6 0 0).dmaNotice e c 3 0 0
  | 2 => if (s.dmaCh e c).endAs.isNone then (s.onDma e c fun x => { x with endAs := some 6 }).dmaSettle e c else s
  | 3 => s.onDma e c fun x => { x with noChain := true }
  | _ => s

/-- Whether START takes effect in the present state (R308). -/
def Dev.dmaStartable (s : Dev) (e c : Nat) : Bool :=
  (s.dmaState e c == 0 || s.dmaState e c == 4 || s.dmaState e c == 5 || s.dmaState e c == 6) &&
    s.fbit (Reg.DMA_ECTL e) Reg.DMA_ECTL_EN_f && (s.dmaOwner e c).isSome

/-- A permitted write of DMA_CTL: descriptor fields, STOP, START and LOAD (R308, R313). -/
def Dev.dmaCtl (s : Dev) (e c : Nat) (w : Word) : Dev :=
  let active := s.dmaActive e c
  let start := getF w Reg.DMA_CTL_START_f == 1 && s.dmaStartable e c
  let s := if active then s else s.storeRw (Reg.DMA_CTL e c) w
  let s := if getF w Reg.DMA_CTL_STOP_f = 1 then s.dmaStop e c else s
  if start then (if getF w Reg.DMA_CTL_LOAD_f = 1 then s.dmaLoad e c else s.dmaRun e c) else s

/-- A write of DMA_CTL by a requester; any but the owner, the Abacist and the security island gets a bus error (R300).
Log 112 (DEDUCED). -/
def Dev.dmaCtlWrite (s : Dev) (r : Req) (e c : Nat) (w : Word) : Dev :=
  if s.dmaMay e c r then s.dmaCtl e c w else s.emit (.busError r (0x30000000 + Reg.DMA_CTL e c))

/-! ### Issue slots (R317, R321) -/

/-- The address of the next descriptor image. -/
def Dev.dmaNext (s : Dev) (e c : Nat) : Nat := s.getAddr (Reg.DMA_NEXT_LO e c)

/-- The read beats of the descriptor image at NEXT: one for each aligned block of 8 words. Log 104 (DEDUCED). -/
def Dev.dmaImgBeats (s : Dev) (e c : Nat) : Nat := (s.dmaNext e c + 15) / 8 - s.dmaNext e c / 8 + 1

/-- Whether a channel has a read beat to issue: of its image in LOAD, of its source in RUN (R321). -/
def Dev.dmaCanRead (s : Dev) (e c : Nat) : Bool :=
  let x := s.dmaCh e c
  (s.dmaState e c == 1 && decide (x.img < s.dmaImgBeats e c)) ||
  (s.dmaState e c == 2 && x.endAs.isNone && decide (x.rj < s.dmaLen e c) &&
    (if (s.dmaSrc e c).dev.isSome then decide (x.beads.length < 8) else decide (x.reads.length < 32)))

/-- Whether the bytes of transfer j to j + n - 1 have arrived. -/
def DmaCh.has (x : DmaCh) (j n : Nat) : Bool := (List.range n).all fun i => (SMap.get x.got none (j + i)).isSome

/-- The beats of one write bead from byte j (R317, R468): at most `n` beats of one line and 61 words. -/
def writeGroup (d : DmaSide) (n first idx j : Nat) : List (Nat × Nat × Nat) :=
  match n with
  | 0 => []
  | n + 1 =>
    let k := d.beat j
    if (d.byteAt j + k - 1) / 3 - first / 3 + 1 > 61 then []
    else if j % d.llen + k ≥ d.llen then [(idx, j, k)]
    else (idx, j, k) :: writeGroup d n first (idx + 1) (j + k)

/-- The beats that the next write slot of a channel takes. -/
def Dev.dmaNextWrite (s : Dev) (e c : Nat) : List (Nat × Nat × Nat) :=
  let x := s.dmaCh e c
  let d := s.dmaDst e c
  if d.dev.isSome then writeGroup d 8 (d.byteAt x.wj) x.bidx x.wj else [(x.bidx, x.wj, d.beat x.wj)]

/-- Whether a channel has a write beat to issue. -/
def Dev.dmaCanWrite (s : Dev) (e c : Nat) : Bool :=
  let x := s.dmaCh e c
  s.dmaState e c == 2 && x.endAs.isNone && decide (x.wj < s.dmaLen e c) &&
    (if (s.dmaDst e c).dev.isSome then decide (x.beads.length < 8) else decide (x.writes.length < 32)) &&
    (s.dmaNextWrite e c).all fun b => x.has b.2.1 b.2.2

/-- The channel that takes a slot: PRI = 1 first, then the next in ascending number after the one served last. -/
def Dev.dmaPick (s : Dev) (e : Nat) (write : Bool) : Option Nat :=
  let ready (c : Nat) : Bool := if write then s.dmaCanWrite e c else s.dmaCanRead e c
  let turn (pri : Nat) : Option Nat :=
    let last := match SMap.get s.dma.turns none (e * 4 + bit write * 2 + pri) with | some c => c + 1 | none => 0
    ((List.range 64).map fun i => (last + i) % 64).find? fun c =>
      ready c && s.fget (Reg.DMA_CTL e c) Reg.DMA_CTL_PRI_f == pri
  if s.fbit (Reg.DMA_ECTL e) Reg.DMA_ECTL_EN_f && s.unitOn (0x200 + e) then
    match turn 1 with | some c => some c | none => turn 0
  else none

/-- TAG and SEQ of the request bead with a number of a channel. Log 109 (DESIGN CHOICE). -/
def dmaTag (c n : Nat) : Nat := c * 512 + n % 512
def dmaSeq (n : Nat) : Nat := n / 512 % 16

/-- The number of a request bead that a response carries back. -/
def dmaNumber (b : Bead) : Nat := b.seq * 512 + b.tag % 512

/-- The number of a channel's next request bead, of 8,192, which no request bears that still lacks its response.
Log 109 (DESIGN CHOICE). -/
def Dev.dmaNumberNext (s : Dev) (e c : Nat) : Nat :=
  let n := SMap.get s.dma.next 0 (e * 64 + c)
  let used (k : Nat) : Bool := s.dma.dead.contains (e * 64 + c, k) || (s.dmaCh e c).beads.any fun b => b.tag == k
  (((List.range 8192).map fun i => (n + i) % 8192).find? fun k => !(used k)).getD n

/-- A request bead of a channel has left with a number. -/
def Dev.dmaNumbered (s : Dev) (e c n : Nat) : Dev :=
  { s with dma := { s.dma with next := SMap.set s.dma.next 0 (e * 64 + c) ((n + 1) % 8192) } }

/-- Issue a read beat, of the descriptor image in LOAD; for a remote source a read-request bead of up to 64 words of a line (R317,
R321). Log 104 (DEDUCED), 109 (DESIGN CHOICE). -/
def Dev.dmaIssueRead (s : Dev) (e c : Nat) : Dev :=
  let d := s.dmaSrc e c
  let x := s.dmaCh e c
  if s.dmaState e c = 1 then s.setDma e c { x with img := x.img + 1 }
  else match d.dev with
  | none => s.setDma e c { x with rj := x.rj + d.beat x.rj, reads := x.reads ++ [(x.rj, d.beat x.rj)] }
  | some dev =>
    let p := d.byteAt x.rj
    let n := Nat.min (d.llen - x.rj % d.llen) (192 - p % 3)
    let a := p / 3
    let k := s.dmaNumberNext e c
    let s := s.send (mkBead (head0 2 8 false false false) dev 0x231 (s.fget (Reg.DMA_CTL e c) Reg.DMA_CTL_ORDER_f) s.devnum
      (0x200 + e) (dmaSeq k) (dmaTag c k) [word a, word (a / 2 ^ 24), word ((p + n - 1) / 3 - a + 1)])
    (s.dmaNumbered e c k).setDma e c { x with
      rj := x.rj + n, beads := x.beads ++ [{ tag := k, sent := s.elapsed, rd := some (x.rj, n), beats := [] }] }

/-- The words a run of bytes covers, with the lane enables of each: (word address, data, lanes). Log 110 (DESIGN CHOICE). -/
def laneWords (pos : Nat) (data : List Nat) : List (Nat × Word × Nat) :=
  let first := pos / 3
  let n := (pos + data.length - 1) / 3 - first + 1
  (List.range n).map fun i =>
    let byte (l : Nat) : Option Nat :=
      let q := (first + i) * 3 + l
      if q < pos then none else data[q - pos]?
    (first + i, word ((List.range 3).foldl (fun v l => v + (byte l).getD 0 * 256 ^ l) 0),
      (List.range 3).foldl (fun v l => v + bit (byte l).isSome * 2 ^ l) 0)

/-- The bytes of a beat taken from what has arrived. -/
def DmaCh.take (x : DmaCh) (d : DmaSide) (b : Nat × Nat × Nat) : DmaBeat :=
  { idx := b.1, j := b.2.1, pos := d.byteAt b.2.1
    data := (List.range b.2.2).map fun i => (SMap.get x.got none (b.2.1 + i)).getD 0 }

/-- Issue a write beat, or for a remote destination a write bead (R309, R317): COUNT decreases; at 0 the channel drains.
Log 113 (DESIGN CHOICE). -/
def Dev.dmaIssueWrite (s : Dev) (e c : Nat) : Dev :=
  let d := s.dmaDst e c
  let x := s.dmaCh e c
  let bs : List DmaBeat := (s.dmaNextWrite e c).map fun b => x.take d b
  let n := (bs.map fun b => b.data.length).sum
  let s := s.rset (Reg.DMA_COUNT e c) (word ((s.rget (Reg.DMA_COUNT e c)).toNat - n))
  let x := { x with wj := x.wj + n, bidx := x.bidx + bs.length
                    got := SMap.drop x.got fun j => decide (x.wj ≤ j) && decide (j < x.wj + n) }
  let s : Dev := match d.dev with
    | none => s.setDma e c { x with writes := x.writes ++ bs }
    | some dev =>
      let pos := (bs.head?.map (·.pos)).getD 0
      let ws := laneWords pos (bs.flatMap (·.data))
      let lanes (o : Option (Nat × Word × Nat)) : Nat := (o.map (·.2.2)).getD 0
      let a := pos / 3
      let k := s.dmaNumberNext e c
      let h0 := head0 2 9 false false false ||| word (2 ^ 7)
      let s := s.send (mkBead h0 dev 0x231 (s.fget (Reg.DMA_CTL e c) Reg.DMA_CTL_ORDER_f) s.devnum (0x200 + e) (dmaSeq k)
        (dmaTag c k) ([word a, word (lanes ws.head? * 2 ^ 21 + lanes ws.getLast? * 2 ^ 18 + a / 2 ^ 24), word ws.length]
          ++ ws.map fun w => w.2.1))
      let q : DmaBead := { tag := k, sent := s.elapsed, rd := none, beats := bs }
      (s.dmaNumbered e c k).setDma e c { x with beads := x.beads ++ [q] }
  if (s.rget (Reg.DMA_COUNT e c)).toNat = 0 then
    let s := s.setDmaState e c 3
    if !(s.dmaBit e c Reg.DMA_CTL_BARRIER_f) && s.dmaBit e c Reg.DMA_CTL_NOTIFY_f then
      (s.dmaNotice e c 0 0 0).onDma e c fun x => { x with early := true }
    else s
  else s

/-- DMA_BEAT_ISSUE: a read or a write slot of an engine issues one beat of the channel whose turn it is (R321).
Log 4 (DESIGN CHOICE). -/
def Dev.dmaBeatIssue (s : Dev) (e : Nat) (write : Bool) : Dev :=
  match s.dmaPick e write with
  | none => s
  | some c =>
    let key := e * 4 + bit write * 2 + s.fget (Reg.DMA_CTL e c) Reg.DMA_CTL_PRI_f
    let s := { s with dma := { s.dma with turns := SMap.set s.dma.turns none key (some c) } }
    if write then s.dmaIssueWrite e c else s.dmaIssueRead e c

/-! ### Responses of other devices (R312, R317, R468) -/

/-- The response of a request that nothing waits for any more is discarded (R317, R320). -/
def Dev.dmaBury (s : Dev) (e c tag : Nat) : Dev :=
  { s with dma := { s.dma with dead := s.dma.dead.filter (· ≠ (e * 64 + c, tag)) } }

/-- Requests whose responses nothing waits for any more. -/
def Dev.dmaForget (s : Dev) (e c : Nat) (tags : List Nat) : Dev :=
  { s with dma := { s.dma with dead := s.dma.dead ++ tags.map fun t => (e * 64 + c, t) } }

/-- The request bead with a number that a channel awaits the response of. -/
def Dev.dmaBead (s : Dev) (e c tag : Nat) : Option DmaBead := (s.dmaCh e c).beads.find? fun b => b.tag == tag

/-- The bead awaits nothing more. -/
def Dev.dmaBeadDone (s : Dev) (e c tag : Nat) : Dev :=
  s.onDma e c fun x => { x with beads := x.beads.filter fun b => b.tag != tag }

/-- Bytes that have arrived, from transfer byte j on. -/
def Dev.dmaArrive (s : Dev) (e c j : Nat) (bs : List Nat) : Dev :=
  s.onDma e c fun x => { x with
    got := (List.range bs.length).foldl (fun (m : SMap (Option Nat)) i => SMap.set m none (j + i) (some (bs.getD i 0))) x.got }

/-- The response of another device to a request bead (R317): data or an error of a read, or the beat mask of a write.
Log 109 (DESIGN CHOICE). -/
def Dev.dmaRemote (s : Dev) (e c : Nat) (b : Bead) : Dev :=
  match s.dmaBead e c (dmaNumber b) with
  | none => s.dmaBury e c (dmaNumber b)
  | some q =>
    let s := s.dmaBeadDone e c (dmaNumber b)
    let s := match q.rd with
      | some (j, n) =>
        let lane := (s.dmaSrc e c).byteAt j % 3
        if b.err then
          let w := if b.len = 2 then b.pay 1 else 0
          s.dmaReadBad e c (j + (w * 3 - lane)) 4
        else
          s.dmaArrive e c j ((List.range n).map fun i => bits (b.pay ((lane + i) / 3)) ((lane + i) % 3 * 8 + 7) ((lane + i) % 3 * 8))
      | none =>
        q.beats.zipIdx.foldl (fun (s : Dev) (p : DmaBeat × Nat) =>
          if b.err || bits (b.pay 0) p.2 p.2 == 1 then s.dmaWriteBad e c p.1 5 else s.dmaConfirm e p.1) s
    s.dmaSettle e c

/-- DMA_REMOTE_TIMEOUT: a response has not come within RTMO; the bead's beats end with TIMEOUT (R317). -/
def Dev.dmaTimeout (s : Dev) (e c tag : Nat) : Dev :=
  match s.dmaBead e c tag with
  | none => s
  | some q =>
    let rtmo := Nat.max 1 (s.fget (Reg.DMA_ECFG e) Reg.DMA_ECFG_RTMO_f) * 10000 * nsUnit
    let s := ((s.pass (q.sent + rtmo)).dmaBeadDone e c tag).dmaForget e c [tag]
    let s := match q.rd with
      | some (j, _) => s.dmaReadBad e c j 6
      | none => q.beats.foldl (fun s b => s.dmaWriteBad e c b 6) s
    s.dmaSettle e c

/-! ### Resets and fencing (R320) -/

/-- Write lanes of a word of memory as the channel means its address: 0x0000 to 0xFFFF is its owner's local memory (R301). -/
def Dev.dmaMemWrite (s : Dev) (e c a : Nat) (d : Word) (lanes : Nat) : Bool × Dev :=
  if a < 0x10000 then
    let n := ((s.dmaOwner e c).bind Req.core).getD 112
    if s.lmServed n then s.lmStore n a d lanes else (false, s)
  else s.memWrite a d lanes

/-- The bytes of a beat that an end cuts off: each holds its old or its new value (R312); a control register takes a whole word or
nothing (R11). Log 110 (DESIGN CHOICE), 177 (DESIGN CHOICE). -/
def Dev.dmaCut (s : Dev) (e c : Nat) (b : DmaBeat) : Dev :=
  (laneWords b.pos b.data).foldl (fun s w =>
    let (f, s) := s.free
    match placeOf w.1 with
    | .creg o => if f % 2 = 1 ∧ w.2.2 = allLanes then s.storeRw o w.2.1 else s
    | _ => (s.dmaMemWrite e c w.1 w.2.1 (w.2.2 &&& f)).2) s

/-- End a channel in LOAD, RUN or DRAINING at once: its unconfirmed beats count as failing, and an ERROR notice ABORTED goes out.
Log 110 (DESIGN CHOICE), 177 (DESIGN CHOICE). -/
def Dev.dmaAbort (s : Dev) (e c : Nat) : Dev :=
  if s.dmaActive e c then
    let x := s.dmaCh e c
    let s := x.writes.foldl (fun s b => s.dmaCut e c b) s
    let s := (x.writes ++ x.beads.flatMap (·.beats)).foldl (fun s b => s.dmaWriteBad e c b 7) s
    let beat := ((s.dmaCh e c).bad.map (·.1)).getD 0
    (s.dmaForget e c (x.beads.map (·.tag))).dmaFail e c 7 beat
  else s

/-- A D reset of an engine (R320, R533). -/
def Dev.dmaDReset (s : Dev) (e : Nat) : Dev :=
  let s := (List.range 64).foldl (fun s c => s.dmaAbort e c) s
  s.resetRegs .D fun a => decide (0x60100 + e * 0x8000 ≤ a) && decide (a < 0x60900 + e * 0x8000)

/-- Fencing an engine: a D reset after which its channels are FENCED (R307, R320). -/
def Dev.dmaFence (s : Dev) (e : Nat) : Dev :=
  (List.range 64).foldl (fun s c => s.setDmaState e c 7) (s.dmaDReset e)

/-- Everything outstanding is discarded without notice, as in a W reset; responses that still come are discarded (R320). -/
def Dev.dmaDiscard (s : Dev) : Dev :=
  let dead := s.dma.chans.flatMap fun e => e.2.beads.map fun b => (e.1, b.tag)
  { s with dma := { s.dma with chans := [], turns := [], dead := s.dma.dead ++ dead } }

end Sys2Proof.Machine
end

