-- ==== Sys2Proof/Machine/LaneCode.lean ====
section
/-! DEFINITION. The fabric lane code and the cell (R426 to R431, R452): scrambling, stuffing, slots and markers as bit lists.
Bits are in sending order. -/

namespace Sys2Proof.Machine

/-! ### Scrambling (R426) -/

/-- The scrambler's state after a comma on lane index `i`. -/
def scrSeed (i : Nat) : Nat := 0x3FFFFFFFFFFFFFF ^^^ i

/-- The scrambler's next bit. -/
def scrBit (st : Nat) : Bool := st.testBit 38 != st.testBit 57

/-- The scrambler's next state. -/
def scrNext (st : Nat) : Nat := (st * 2 + bit (scrBit st)) % 2 ^ 58

/-- Scramble or descramble bits: the scrambler is additive, so one operation does both. -/
def scramble (st : Nat) : List Bool → List Bool
  | [] => []
  | d :: t => (d != scrBit st) :: scramble (scrNext st) t

/-! ### Stuffing (R427, R431) -/

/-- Insert the complement after every 12 equal bits; `last` and `run` are the run so far. -/
def stuff (last : Bool) (run : Nat) : List Bool → List Bool
  | [] => []
  | b :: t =>
    if run != 0 && b == last then
      if run + 1 = 12 then b :: (!b) :: stuff (!b) 1 t else b :: stuff b (run + 1) t
    else b :: stuff b 1 t

/-- Remove the bit after every 12 equal bits until `n` payload bits have come: the payload, the bits that follow, and whether a
removed bit was not the complement. -/
def unstuff (last : Bool) (run n : Nat) : List Bool → List Bool × List Bool × Bool
  | [] => ([], [], false)
  | b :: t =>
    if run = 12 then
      let (p, r, v) := unstuff b 1 n t
      (p, r, v || b == last)
    else
      match n with
      | 0 => ([], b :: t, false)
      | n + 1 =>
        let (p, r, v) := unstuff b (if run != 0 && b == last then run + 1 else 1) n t
        (b :: p, r, v)

/-- Whether fill alternates, starting with `b` (R429). -/
def fillOk (b : Bool) : List Bool → Bool
  | [] => true
  | x :: t => x == b && fillOk (!b) t

/-! ### Commas, fill, the fast-exit burst (R428, R429, R435) -/

/-- A comma with its guard bits: 0, 16 ones, 16 zeros, 1 (R428). -/
def comma : List Bool := false :: (List.replicate 16 true ++ List.replicate 16 false ++ [true])

/-- A marker comma with its guard bits: 1, 16 zeros, 16 ones, 0 (R428). -/
def markerComma : List Bool := comma.map (!·)

/-- `n` alternating bits that start with `b`. -/
def altern (b : Bool) : Nat → List Bool
  | 0 => []
  | n + 1 => b :: altern (!b) n

/-- The fast-exit burst: 256 UI of alternating bits, then four slots of a comma and 256 UI of alternating fill (R435). That fill
starts with the complement of the comma's guard. Log 138 (DESIGN CHOICE). -/
def exitBurst : List Bool := altern true 256 ++ (List.replicate 4 (comma ++ altern false 256)).flatten

/-- Whether line bits are a slot of the fast-exit burst: the receiver takes fill that starts with either bit. -/
def burstSlot (bs : List Bool) : Bool :=
  bs == comma ++ altern false 256 || bs == comma ++ altern true 256

/-! ### Slots (R429, R431) -/

/-- Payload bits in a slot. -/
def slotBits : Nat := 2048

/-- The scrambled and stuffed payload that a slot of lane index `i` carries after its comma. -/
def encodeSlot (i : Nat) (payload : List Bool) : List Bool := stuff false 0 (scramble (scrSeed i) payload)

/-- The scrambled payload with fill up to the length `long` of the lane that needed the most stuffed bits: the fill starts with the
complement of the last payload bit on the line (R429). -/
def filledSlot (i : Nat) (payload : List Bool) (long : Nat) : List Bool :=
  let e := encodeSlot i payload
  e ++ altern (!((scramble (scrSeed i) payload).getLastD false)) (long - e.length)

/-- The payload bits of a received slot; none when the slot is bad: a code violation, too few bits or fill that does not
alternate. -/
def decodeSlot (i : Nat) (bs : List Bool) : Option (List Bool) :=
  match unstuff false 0 slotBits bs with
  | (p, r, v) =>
    if v || p.length != slotBits || !(fillOk (!(p.getLastD false)) r) then none else some (scramble (scrSeed i) p)

/-- Whether a received slot has a code violation: a bit after 12 equal bits that is not the complement (R431). -/
def slotViolation (bs : List Bool) : Bool := (unstuff false 0 slotBits bs).2.2

/-! ### Words and cells (R452) -/

/-- The bits of a word, bit 23 first. -/
def wordBits (w : Word) : List Bool := (List.range 24).map fun i => w.toNat.testBit (23 - i)

/-- A number of a list of bits, most significant first. -/
def bitsNat (l : List Bool) : Nat := l.foldl (fun n b => n * 2 + bit b) 0

/-- Split bits into words. -/
def bitsWords (n : Nat) (l : List Bool) : List Word :=
  match n with
  | 0 => []
  | n + 1 => word (bitsNat (l.take 24)) :: bitsWords n (l.drop 24)

/-- The payload bits of a cell of 85 words. -/
def cellBits (ws : List Word) : List Bool := (ws.map wordBits).flatten ++ List.replicate 8 false

/-- A cell: its header, words 1 to 83 filled up with 0, and the CRC-24. -/
def cellWords (header : Word) (body : List Word) : List Word :=
  let ws := header :: (body ++ List.replicate (83 - body.length) 0)
  ws ++ [crc24 ws]

/-- Whether a cell's CRC is right. -/
def cellOk (ws : List Word) : Bool := ws.getD 84 0 == crc24 (ws.take 84)

/-! ### Markers (R430) -/

/-- A number as `n` bits, most significant first. -/
def natBits (n v : Nat) : List Bool := (List.range n).map fun i => v.testBit (n - 1 - i)

/-- The body of a marker: lane index, lanes of the port, global lane, rounds sent (R430). -/
def markerBody (i lanes l rounds : Nat) : List Bool :=
  let b := natBits 24 0x4C4D4B ++ natBits 2 i ++ natBits 2 (lanes - 1) ++ natBits 6 l ++ List.replicate 14 false ++ natBits 48 rounds ++
    List.replicate 1928 false
  b ++ natBits 24 (b.foldl (fun c x => crcBit c (bit x)) 0xFFFFFF)

/-- Bits [a, b] of a marker body as a number. -/
def bodyField (l : List Bool) (a b : Nat) : Nat := bitsNat ((l.drop a).take (b + 1 - a))

/-- Whether a marker body's CRC-24 is right: over bits 0 to 2,023. -/
def markerOk (l : List Bool) : Bool :=
  bodyField l 2024 2047 == (l.take 2024).foldl (fun c b => crcBit c (bit b)) 0xFFFFFF

end Sys2Proof.Machine
end

