-- ==== Sys2Proof/Machine/Lanes.lean ====
section
/-! DEFINITION. Serial lanes: what each serves, electrical idle, live status, eye scan (R421 to R425, R434, R438, R439). What
touches fabric ports is in Machine/LaneCmd.lean. -/

namespace Sys2Proof.Machine

/-! ### State -/

/-- A lane after reset: in electrical idle (R441). -/
def laneReset : Lane :=
  { idle := true, adapt := false, aligned := false, train := false, cdr := false, failed := false, mkdsk := false, rlane := 0,
    lostAt := none, exitFrom := none, fast := false, good := 0, bad := 0, burst := 0, next := none, mark := none }

/-- A quad after reset: its reference is present, at 100 MHz. Log 133 (PRESUMED). -/
def quadReset : Quad :=
  { refOk := true, fref := 100000000, eye := none, eyeHeld := false, eyeEnd := none, swap := none }

/-- The lanes after reset. Log 9 (DESIGN CHOICE). -/
def lanesReset : Lanes := { lanes := [], quads := [], subst := [] }

/-- A fabric port after reset. -/
def fportReset : FPort :=
  { up := false, failed := false, desk := false, mkWait := false, tx := 0, rx := 0, unacked := [], q := [], part := [],
    ackAt := 0, runs := 0, nak := false, nakDone := false, hdrAt := 0, rxData := 0, round := [], rounds := 0, offs := [],
    seen := [], stream := none, peer := none, linkIn := [], spreq := none, spack := false, gotAck := false, helloAt := 0,
    tsyncAt := 0, tseq := 0, tlast := none }

/-- The fabric after reset. Log 9 (DESIGN CHOICE). -/
def fabReset : Fabric :=
  { ports := [], held := [], lsdb := [], floods := [], bcastIn := [], flooded := [], epoch := none, fseq := 0, lsaAt := 0,
    numAt := 0, pin := none, assigned := [] }

/-- Lane `l` by its global number. -/
def Dev.lane (s : Dev) (l : Nat) : Lane := SMap.get s.lan.lanes laneReset l

/-- Update a lane. -/
def Dev.onLane (s : Dev) (l : Nat) (f : Lane → Lane) : Dev :=
  { s with lan := { s.lan with lanes := SMap.set s.lan.lanes laneReset l (f (s.lane l)) } }

/-- Quad `q`. -/
def Dev.quad (s : Dev) (q : Nat) : Quad := SMap.get s.lan.quads quadReset q

/-- Update a quad. -/
def Dev.onQuad (s : Dev) (q : Nat) (f : Quad → Quad) : Dev :=
  { s with lan := { s.lan with quads := SMap.set s.lan.quads quadReset q (f (s.quad q)) } }

/-- Fabric port `p`. -/
def Dev.fport (s : Dev) (p : Nat) : FPort := SMap.get s.fab.ports fportReset p

/-- Update the fabric. -/
def Dev.onFab (s : Dev) (f : Fabric → Fabric) : Dev := { s with fab := f s.fab }

/-- Update a fabric port. -/
def Dev.onFport (s : Dev) (p : Nat) (f : FPort → FPort) : Dev :=
  s.onFab fun x => { x with ports := SMap.set x.ports fportReset p (f (s.fport p)) }

/-! ### Ports and their lanes (R421, R422, R440) -/

/-- Lanes of fabric port `p`; LANES = 3 is invalid and gives none. -/
def Dev.fportLanesN (s : Dev) (p : Nat) : Nat :=
  match s.fget (Reg.FAB_PCFG p) Reg.FAB_PCFG_LANES_f with
  | 0 => 1 | 1 => 2 | 2 => 4 | _ => 0

/-- The global lanes of fabric port `p` in the order of their index; a spare stands for the lane it replaced. -/
def Dev.fportLanes (s : Dev) (p : Nat) : List Nat :=
  let base := s.fget (Reg.FAB_PCFG p) Reg.FAB_PCFG_QUAD_f * 4 + s.fget (Reg.FAB_PCFG p) Reg.FAB_PCFG_FIRST_f
  (List.range (s.fportLanesN p)).map fun i => SMap.get s.lan.subst (base + i) (base + i)

/-- Whether fabric port `p` is in service. -/
def Dev.fportEn (s : Dev) (p : Nat) : Bool :=
  s.fbit Reg.FAB_GCTL Reg.FAB_GCTL_EN_f && s.fbit (Reg.FAB_PCFG p) Reg.FAB_PCFG_EN_f

/-- The fabric port in service that lane `l` belongs to. -/
def Dev.fportOf (s : Dev) (l : Nat) : Option Nat :=
  (List.range 16).find? fun p => s.fportEn p && (s.fportLanes p).contains l

/-- What a lane's quad is used for: 0 OFF, 1 ETHERNET, 2 JESD, 3 FABRIC. Log 134 (DEDUCED). -/
def Dev.laneUse (s : Dev) (l : Nat) : Nat := s.fget (Reg.LAN_QCFG (l / 4)) Reg.LAN_QCFG_USE_f

/-- Line bits go out on a lane, inverted where its TXPOL is 1 (R423). -/
def Dev.laneSend (s : Dev) (l : Nat) (bs : List Bool) : Dev :=
  s.emit (.slot l (if s.fbit (Reg.LAN_LCFG (l / 4) (l % 4)) Reg.LAN_LCFG_TXPOL_f then bs.map (!·) else bs))

/-- Line bits received on a lane, inverted where its RXPOL is 1 (R423). -/
def Dev.laneBits (s : Dev) (l : Nat) (bs : List Bool) : List Bool :=
  if s.fbit (Reg.LAN_LCFG (l / 4) (l % 4)) Reg.LAN_LCFG_RXPOL_f then bs.map (!·) else bs

/-- The Ethernet port in service that lane `l` belongs to (R385). -/
def Dev.ethOf (s : Dev) (l : Nat) : Option Nat :=
  (List.range 16).find? fun p =>
    let c := s.rget (Reg.BRG_PCFG p)
    s.fbit Reg.BRG_GCTL Reg.BRG_GCTL_EN_f && getF c Reg.BRG_PCFG_EN_f == 1 && getF c Reg.BRG_PCFG_QUAD_f == l / 4 &&
      (s.portMode p == 6 || getF c Reg.BRG_PCFG_LANE_f == l % 4)

/-- Whether the lane is the spare of a replacement that is running (R440). -/
def Dev.laneSwapping (s : Dev) (l : Nat) : Bool :=
  (s.quad (l / 4)).swap.isSome && s.fget (Reg.LAN_SPARE (l / 4)) Reg.LAN_SPARE_SLANE_f == l % 4

/-- Whether a lane is in service: quad powered, lane enabled, and its port or link too. A JESD204C link's first lane stands in no
register, so its lanes follow LAN_LCFG.EN alone. Log 134 (DEDUCED). -/
def Dev.laneServed (s : Dev) (l : Nat) : Bool :=
  s.fbit (Reg.LAN_QCFG (l / 4)) Reg.LAN_QCFG_EN_f && s.fbit (Reg.LAN_LCFG (l / 4) (l % 4)) Reg.LAN_LCFG_EN_f &&
    match s.laneUse l with
    | 1 => (s.ethOf l).isSome
    | 2 => true
    | 3 => (s.fportOf l).isSome || s.laneSwapping l
    | _ => false

/-! ### PLLs and electrical idle (R424, R425, R434) -/

/-- Whether VCO = fref × (NINT + NFRAC × 2^-24) lies between 20.0 and 32.5 GHz, so that a PLL can lock (R424). -/
def vcoOk (fref nint nfrac : Nat) : Bool :=
  let v := fref * (nint * 2 ^ 24 + nfrac)
  decide (20000000000 * 2 ^ 24 ≤ v) && decide (v ≤ 32500000000 * 2 ^ 24)

/-- LAN_QSTAT.LOCKA. Log 133 (PRESUMED). -/
def Dev.lockA (s : Dev) (q : Nat) : Bool :=
  (s.quad q).refOk && s.fbit (Reg.LAN_QPLLA q) Reg.LAN_QPLLA_EN_f &&
    vcoOk (s.quad q).fref (s.fget (Reg.LAN_QPLLA q) Reg.LAN_QPLLA_NINT_f) (s.rget (Reg.LAN_QPLLA_FRAC q)).toNat

/-- LAN_QSTAT.LOCKB. Log 133 (PRESUMED). -/
def Dev.lockB (s : Dev) (q : Nat) : Bool :=
  (s.quad q).refOk && s.fbit (Reg.LAN_QPLLB q) Reg.LAN_QPLLB_EN_f &&
    vcoOk (s.quad q).fref (s.fget (Reg.LAN_QPLLB q) Reg.LAN_QPLLB_NINT_f) (s.rget (Reg.LAN_QPLLB_FRAC q)).toNat

/-- Whether the PLL that a lane selects is locked. -/
def Dev.laneLock (s : Dev) (l : Nat) : Bool :=
  if s.fbit (Reg.LAN_LCFG (l / 4) (l % 4)) Reg.LAN_LCFG_PLL_f then s.lockB (l / 4) else s.lockA (l / 4)

/-- Whether a lane is in electrical idle (R434). -/
def Dev.laneIdle (s : Dev) (l : Nat) : Bool :=
  s.fbit (Reg.LAN_LCTL (l / 4) (l % 4)) Reg.LAN_LCTL_EIDLE_f || !(s.laneLock l) || !(s.laneServed l) ||
    s.dom (158 + l / 4) != .on

/-! ### Live status -/

/-- LAN_QSTAT. -/
def Dev.qstatWord (s : Dev) (q : Nat) : Word :=
  word (bit (s.quad q).refOk * 2 ^ 23 + bit (s.lockA q) * 2 ^ 22 + bit (s.lockB q) * 2 ^ 21)

/-- LAN_LSTAT.STATE: 0 OFF, 1 IDLE, 2 TRAIN, 3 ALIGN, 4 UP, 5 FAILED. Log 134 (DEDUCED). -/
def Dev.laneState (s : Dev) (l : Nat) : Nat :=
  let x := s.lane l
  if !(s.laneServed l) then 0
  else if x.failed then 5
  else if s.laneIdle l then 1
  else if x.train then 2
  else match s.laneUse l with
    | 1 => if ((s.ethOf l).map fun p => (s.bport p).link) == some true then 4 else 3
    | 2 => if x.cdr then 4 else 3
    | _ => match s.fportOf l with
      | some p => if x.aligned && (s.fport p).desk then 4 else 3
      | none => 3

/-- LAN_LSTAT. -/
def Dev.lstatWord (s : Dev) (l : Nat) : Word :=
  let x := s.lane l
  word (s.laneState l * 2 ^ 21 + bit x.cdr * 2 ^ 20 + bit x.aligned * 2 ^ 19 + bit x.mkdsk * 2 ^ 18 + bit x.adapt * 2 ^ 17 +
    x.rlane % 64 * 2 ^ 11)

/-- LAN_SPARE with its live BUSY. -/
def Dev.spareWord (s : Dev) (q : Nat) : Word :=
  putF (s.rget (Reg.LAN_SPARE q)) Reg.LAN_SPARE_BUSY_f (bit (s.quad q).swap.isSome)

/-! ### Eye scan (R438, R439) -/

/-- Set LAN_EYE.STATE: 0 IDLE, 1 BUSY, 2 DONE, 3 ABORTED, 4 NOLINK. -/
def Dev.eyeState (s : Dev) (q st : Nat) : Dev := s.fput (Reg.LAN_EYE q) Reg.LAN_EYE_STATE_f st

/-- Whether a point of quad `q` may begin: none is BUSY and GAP has passed since the last. -/
def Dev.eyeFree (s : Dev) (q : Nat) : Bool :=
  (s.quad q).eye.isNone &&
    match (s.quad q).eyeEnd with
    | some t => decide (t + s.fget (Reg.LAN_EYECFG q) Reg.LAN_EYECFG_GAP_f * 1000 * nsUnit ≤ s.elapsed)
    | none => true

/-- A GO takes effect: on the lane that LANE names it starts a point; held while a point is BUSY, GAP runs or the lane retrains;
NOLINK on a lane in electrical idle or not locked. Log 136 (DEDUCED). -/
def Dev.eyeTry (s : Dev) (q : Nat) : Dev :=
  let l := q * 4 + s.fget (Reg.LAN_EYE q) Reg.LAN_EYE_LANE_f
  if !(s.eyeFree q) || (s.lane l).train then s.onQuad q fun x => { x with eyeHeld := true }
  else
    let s := s.onQuad q fun x => { x with eyeHeld := false }
    if s.laneIdle l || !(s.lane l).cdr then s.eyeState q 4
    else (s.onQuad q fun x => { x with eye := some (l, s.elapsed) }).eyeState q 1

/-- EYE_GO: a write of LAN_EYE. Log 136 (DEDUCED). -/
def Dev.eyeWrite (s : Dev) (q : Nat) (w : Word) : Dev :=
  let s := s.storeRw (Reg.LAN_EYE q) w
  if getF w Reg.LAN_EYE_GO_f = 1 then s.eyeTry q else s

/-- A held GO begins, if nothing holds it any more. Log 136 (DEDUCED). -/
def Dev.eyeResume (s : Dev) (q : Nat) : Dev := if (s.quad q).eyeHeld then s.eyeTry q else s

/-- The bits of one point: 2^DWELL, DWELL 10 to 30, other values acting as 30. -/
def Dev.eyeDwell (s : Dev) (q : Nat) : Nat :=
  let d := s.fget (Reg.LAN_EYECFG q) Reg.LAN_EYECFG_DWELL_f
  2 ^ (if 10 ≤ d ∧ d ≤ 30 then d else 30)

/-- EYE_POINT_END: the point ends after 2^DWELL bits or 1 ms, whichever is first, with `n` bits compared and `e` mismatches. -/
def Dev.eyeDone (s : Dev) (q n e : Nat) : Dev :=
  match (s.quad q).eye with
  | some (_, t) =>
    let s := if n < s.eyeDwell q then s.pass (t + 1000000 * nsUnit) else s
    let n := Nat.min n (s.eyeDwell q)
    let s := (s.put48 (Reg.LAN_EYEBITS_LO q) n).rset (Reg.LAN_EYEERR q) (word (Nat.min (Nat.min e n) (2 ^ 24 - 1)))
    let s := (s.onQuad q fun x => { x with eye := none, eyeEnd := some s.elapsed }).eyeState q 2
    s.eyeResume q
  | none => s

/-- EYE_GAP_END: GAP after the previous point has passed and a held GO begins. -/
def Dev.eyeGapEnd (s : Dev) (q : Nat) : Dev :=
  let x := s.quad q
  match x.eyeEnd with
  | some t =>
    if x.eyeHeld && x.eye.isNone then
      (s.pass (t + s.fget (Reg.LAN_EYECFG q) Reg.LAN_EYECFG_GAP_f * 1000 * nsUnit)).eyeResume q
    else s
  | none => s

/-- A point on lane `l` ends at once with STATE ABORTED (R439). -/
def Dev.eyeAbort (s : Dev) (l : Nat) : Dev :=
  let q := l / 4
  match (s.quad q).eye with
  | some (m, _) =>
    if m = l then (s.onQuad q fun x => { x with eye := none, eyeEnd := some s.elapsed }).eyeState q 3 else s
  | none => s

end Sys2Proof.Machine
end

