-- ==== Sys2Proof/Machine/Fabric.lean ====
section
/-! DEFINITION. The pool fabric: cells and their replay, bead versions, routing, flooding, link-state database, founder, device
numbers, ports going DOWN (R444 to R466, R469). -/

namespace Sys2Proof.Machine

/-! ### Serials (R455, R458) -/

/-- A serial in the layout of HELLO words 0 to 2. -/
def serialWords (n : Nat) : List Word := [word n, word (n / 2 ^ 24), word (n / 2 ^ 48 % 2 ^ 16)]

/-- The serial in three payload words from index `i`. -/
def serialAt (b : Bead) (i : Nat) : Nat := b.pay i + b.pay (i + 1) * 2 ^ 24 + b.pay (i + 2) % 2 ^ 16 * 2 ^ 48

/-- A serial held in three registers. -/
def Dev.serialReg (s : Dev) (a : Nat) : Nat :=
  (s.rget a).toNat + (s.rget (a + 1)).toNat * 2 ^ 24 + bits (s.rget (a + 2)).toNat 15 0 * 2 ^ 48

/-- Store a serial in three registers. -/
def Dev.serialPut (s : Dev) (a n : Nat) : Dev :=
  ((s.rset a (word n)).rset (a + 1) (word (n / 2 ^ 24))).rset (a + 2) (word (n / 2 ^ 48 % 2 ^ 16))

/-- The founder's serial. -/
def Dev.fser (s : Dev) : Nat := s.serialReg Reg.FAB_FSER0

/-- Whether the device has a number. -/
def Dev.numbered (s : Dev) : Bool := s.fbit Reg.FAB_GCTL Reg.FAB_GCTL_DEVVALID_f

/-- The word of NV, PIN and DEVNUM: a refused pin is still named. -/
def Dev.numWord (s : Dev) : Word :=
  word (bit s.numbered * 2 ^ 23 + bit s.fab.pin.isSome * 2 ^ 22 + (if s.numbered then s.devnum else s.fab.pin.getD 0))

/-! ### Cells (R452, R453) -/

/-- The highest link version in use is L2, which replays on NAK. -/
def Dev.linkL2 (s : Dev) (p : Nat) : Bool := s.fget (Reg.FAB_PSTAT p) Reg.FAB_PSTAT_LVER_f == 2

/-- Whether every lane of a port is aligned, without which it carries no cells (R454). -/
def Dev.allAligned (s : Dev) (p : Nat) : Bool :=
  (s.fportLanes p) != [] && (s.fportLanes p).all fun l => (s.lane l).aligned && !(s.laneIdle l)

/-- Make a cell: header with the current ACK and any NAK, CRC (R452, R453). The answer is its payload bits. -/
def Dev.cellMake (s : Dev) (p kind cseq first : Nat) (body : List Word) : List Bool × Dev :=
  let x := s.fport p
  let nak := x.nak && s.linkL2 p
  let h := word (kind * 2 ^ 22 + cseq % 128 * 2 ^ 15 + x.rx % 128 * 2 ^ 8 + bit nak * 2 ^ 7 + first % 128)
  let s := s.onFport p fun x => { x with nak := false, hdrAt := s.elapsed, rxData := 0 }
  (cellBits (cellWords h body), s.count (Reg.FAB_CELLTX_LO p) 1)

/-- Slots begin together: on each lane (its index, its number) the comma, the coded payload, and fill to the longest (R429). -/
def Dev.slotsOut (s : Dev) (com : List Bool) (cs : List ((Nat × Nat) × List Bool)) : Dev :=
  let long := cs.foldl (fun m c => Nat.max m (encodeSlot c.1.1 c.2).length) 0
  cs.foldl (fun s c => s.laneSend c.1.2 (com ++ filledSlot c.1.1 c.2 long)) s

/-- The lanes of a port with their index. -/
def Dev.indexed (s : Dev) (p : Nat) : List (Nat × Nat) := (s.fportLanes p).zipIdx.map fun e => (e.2, e.1)

/-- A round goes out on the lanes given; after every 16,384 rounds each lane of the port sends a marker slot (R429, R430). -/
def Dev.roundOut (s : Dev) (p : Nat) (cs : List ((Nat × Nat) × List Bool)) : Dev :=
  let s := (s.slotsOut comma cs).onFport p fun x => { x with round := [], rounds := (x.rounds + 1) % 2 ^ 48 }
  let r := (s.fport p).rounds
  if r % 16384 = 0 then
    s.slotsOut markerComma ((s.indexed p).map fun e => (e, markerBody e.1 (s.fportLanesN p) e.2 r))
  else s

/-- The next cell of a port: cell k goes on lane k mod n, and a round leaves when each lane has its cell (R429).
Log 138 (DESIGN CHOICE). -/
def Dev.cellNext (s : Dev) (p kind cseq first : Nat) (body : List Word) : Dev :=
  let (c, s) := s.cellMake p kind cseq first body
  let r := (s.fport p).round ++ [c]
  if s.fportLanesN p ≤ r.length then s.roundOut p ((s.indexed p).zip r) else s.onFport p fun x => { x with round := r }

/-- IDLE cells complete the round that is being put together. Log 138 (DESIGN CHOICE). -/
def Dev.roundFill (s : Dev) (p fuel : Nat) : Dev :=
  match fuel with
  | 0 => s
  | fuel + 1 => if (s.fport p).round = [] then s else (s.cellNext p 1 0 0 []).roundFill p fuel

/-- One cell, in a round that IDLE cells complete. -/
def Dev.cellRound (s : Dev) (p kind cseq first : Nat) (body : List Word) : Dev :=
  (s.cellNext p kind cseq first body).roundFill p 3

/-- The words of a bead in order. -/
def beadAll (b : Bead) : List Word := b.h0 :: b.h1 :: b.h2 :: b.h3 :: (b.payload ++ [b.crc])

/-- A bead with another version and tag; its CRC is recomputed. -/
def reTag (b : Bead) (ver tag : Nat) : Bead :=
  Bead.seal { b with h0 := word (putBits b.h0.toNat 23 20 ver), h3 := word (putBits b.h3.toNat 14 0 tag) }

/-- A bead as a port with bead version 1 sends it (R448): none when its deadline lies outside the version 1 window. -/
def Dev.toV1 (s : Dev) (b : Bead) : Option Bead :=
  if b.ver = 1 then some b
  else if b.dlv then
    let k := tagKey 2 b.tag s.us
    let d := sdiff 24 k s.us
    if -16384 ≤ d ∧ d ≤ 16383 then some (reTag b 1 (k % 2 ^ 15)) else none
  else some (reTag b 1 b.tag)

/-- A bead as it is received on a port with bead version 1 (R448). -/
def Dev.fromV1 (s : Dev) (b : Bead) : Bead :=
  if b.ver = 1 then reTag b 2 (if b.dlv then tagOf (tagKey 1 b.tag s.us) s.us else b.tag) else b

/-- The next queued bead enters the port's word stream (R448, R452). Log 139 (DESIGN CHOICE). -/
def Dev.portPull (s : Dev) (p : Nat) : Dev :=
  match (s.fport p).q with
  | [] => s
  | b :: t =>
    let s := s.onFport p fun x => { x with q := t }
    let out := if s.fget (Reg.FAB_PSTAT p) Reg.FAB_PSTAT_BVER_f = 1 then s.toV1 b else some b
    match out with
    | some b =>
      let ws := (beadAll b).zipIdx.map fun (e : Word × Nat) => (e.1, e.2 == 0)
      s.onFport p fun x => { x with part := x.part ++ ws }
    | none => if b.request then s.answerErr b 6 else s

/-- Send one DATA cell from the words in part placed. Log 139 (DESIGN CHOICE). -/
def Dev.portCell (s : Dev) (p : Nat) : Dev :=
  let x := s.fport p
  let now := x.part.take 83
  let first := match now.findIdx? (·.2) with | some i => i + 1 | none => 0
  let body := now.map (·.1)
  let s := s.onFport p fun x => { x with
    part := x.part.drop 83
    unacked := x.unacked ++ [(x.tx, first, body)]
    ackAt := if x.unacked = [] then s.elapsed else x.ackAt
    tx := (x.tx + 1) % 128 }
  s.cellNext p 0 x.tx first body

/-- A port places what it has into cells, while fewer than 64 are unacknowledged (R453).
Log 138 (DESIGN CHOICE), 139 (DESIGN CHOICE). -/
def Dev.portPump (s : Dev) (p fuel : Nat) : Dev :=
  match fuel with
  | 0 => s.roundFill p 3
  | fuel + 1 =>
    let x := s.fport p
    if !x.up || !(s.allAligned p) || decide (64 ≤ x.unacked.length) then s.roundFill p 3
    else if x.part.length < 83 ∧ x.q ≠ [] then (s.portPull p).portPump p fuel
    else if x.part = [] then s.roundFill p 3
    else (s.portCell p).portPump p fuel

/-- Enough steps for everything a port holds. -/
def FPort.fuel (x : FPort) : Nat := x.q.length * 2 + x.part.length + 2

/-- Queue a bead at a port; class 3 goes ahead of queued beads of other classes (R463). -/
def Dev.portQueue (s : Dev) (p : Nat) (b : Bead) : Dev :=
  let s := s.onFport p fun x =>
    { x with q := if b.order = 3 then (x.q.filter (·.order == 3)) ++ b :: x.q.filter (·.order != 3) else x.q ++ [b] }
  s.portPump p (s.fport p).fuel

/-! ### Routing (R462 to R465) -/

/-- A bead that leaves the device by a port has HOPS one greater (R464). -/
def hop (b : Bead) : Bead := { b with h0 := word (putBits b.h0.toNat 3 0 (b.hops + 1)) }

/-- The usable slots of a route entry: the primary tier, or the alternate when no primary port is UP. Log 143 (DEDUCED). -/
def Dev.tier (s : Dev) (e : Word) : List (Nat × Nat) :=
  let slot (i : Nat) : Nat × Nat := (i, bits e.toNat (11 + 4 * i) (8 + 4 * i))
  let pick (alt : Nat) : List (Nat × Nat) := ((List.range 4).map slot).filter fun x =>
    bits e.toNat x.1 x.1 == 1 && bits e.toNat (4 + x.1) (4 + x.1) == alt && (s.fport x.2).up
  if pick 0 = [] then pick 1 else pick 0

/-- The XOR of the five 2-bit fields of a 10-bit value. -/
def fold5 (x : Nat) : Nat := (List.range 5).foldl (fun h i => h ^^^ bits x (2 * i + 1) (2 * i)) 0

/-- Cells queued at a port. Log 149 (DEDUCED). -/
def FPort.load (x : FPort) : Nat :=
  x.unacked.length + (x.part.length + (x.q.map fun b => b.payload.length + 5).foldl (· + ·) 0 + 82) / 83

/-- The port a bead leaves by, among its usable slots (R463). Log 149 (DEDUCED). -/
def Dev.slotFor (s : Dev) (b : Bead) (t : List (Nat × Nat)) : Option Nat :=
  let salt := s.fget Reg.FAB_RCFG Reg.FAB_RCFG_SALT_f
  if b.order = 2 then
    (t.foldl (fun (best : Option Nat) x =>
      match best with
      | none => some x.2
      | some y => if (s.fport x.2).load < (s.fport y).load then some x.2 else best) none)
  else
    let x := if b.order = 0 then b.sdev ^^^ b.sunit % 1024 ^^^ b.dunit % 1024 ^^^ salt else b.sdev ^^^ salt
    let h := fold5 x
    (List.range 4).findSome? fun i => (t.find? fun y => y.1 == (h + i) % 4).map (·.2)

/-- A bead goes to another device by its route entry, is held, or is dropped (R462 to R465). -/
def Dev.routeBead (s : Dev) (b : Bead) : Dev :=
  let d := b.ddev
  if b.hops = 15 then
    let s := s.count Reg.FAB_HOPDROP_LO 1
    if b.request then s.answerErr b 7 else s
  else if s.fab.held.any (·.1 == d) then
    s.onFab fun f => { f with held := f.held.map fun h => if h.1 = d then (h.1, h.2.1, h.2.2 ++ [b]) else h }
  else
    match s.slotFor b (s.tier (s.rget (Reg.FAB_RT d))) with
    | some p => s.portQueue p (hop b)
    | none =>
      let s := (s.count Reg.FAB_UNREACH_LO 1).raise 0x707 d
      if b.request then s.answerErr b 1 else s

/-- The ports an entry uses now. Log 143 (DEDUCED). -/
def Dev.usedPorts (s : Dev) (e : Word) : List Nat := ((s.tier e).map (·.2)).eraseDups

/-- ROUTE_WRITE: a write of FAB_RT_d; other ports hold new beads for the destination for SETTLE (R465). Log 182 (DESIGN CHOICE). -/
def Dev.routeWrite (s : Dev) (d : Nat) (w : Word) : Dev :=
  let old := s.usedPorts (s.rget (Reg.FAB_RT d))
  let s := s.rset (Reg.FAB_RT d) w
  let new := s.usedPorts w
  if (old.all new.contains) && (new.all old.contains) then s
  else
    let e := s.elapsed + s.fget Reg.FAB_RCFG Reg.FAB_RCFG_SETTLE_f * 10000 * nsUnit
    if s.fab.held.any (·.1 == d) then
      s.onFab fun f => { f with held := f.held.map fun h => if h.1 = d then (d, e, h.2.2) else h }
    else s.onFab fun f => { f with held := f.held ++ [(d, e, [])] }

/-- ROUTE_SETTLE_END: SETTLE has passed and the held beads leave by the new entry. -/
def Dev.settleDone (s : Dev) (d : Nat) : Dev :=
  match s.fab.held.find? (·.1 == d) with
  | some h =>
    let s := (s.pass h.2.1).onFab fun f => { f with held := f.held.filter (·.1 != d) }
    h.2.2.foldl (fun s b => s.routeBead b) s
  | none => s

/-! ### Flooding (R469) -/

/-- The ports that are UP. -/
def Dev.upPorts (s : Dev) : List Nat := (List.range 16).filter fun p => (s.fport p).up

/-- EPOCH, drawn at random once after a P or C reset. -/
def Dev.epoch (s : Dev) : Nat × Dev :=
  match s.fab.epoch with
  | some e => (e, s)
  | none =>
    let (r, s) := s.free
    (r % 256, s.onFab fun f => { f with epoch := some (r % 256) })

/-- Record the flood state of an origin. Log 144 (DEDUCED). -/
def Dev.floodRecord (s : Dev) (serial epoch fseq : Nat) : Dev :=
  s.onFab fun f => { f with floods := (f.floods.filter (·.1 != serial)) ++ [(serial, epoch, fseq)] }

/-- Send a flooded bead out of every UP port but one, with ORDER 3; with HOPS = 15 it is counted instead (R464, R469). -/
def Dev.floodOut (s : Dev) (b : Bead) (except_ : Option Nat) : Dev :=
  if b.hops = 15 then s.count Reg.FAB_HOPDROP_LO 1
  else
    let b := Bead.seal { b with h1 := word (putBits b.h1.toNat 1 0 3) }
    (s.upPorts.filter fun p => some p != except_).foldl (fun s p => s.portQueue p (hop b)) s

/-- Flood a bead of this device with the payload after the prefix; it takes effect here too. Log 144 (DEDUCED). -/
def Dev.flood (s : Dev) (op sunit : Nat) (rest : List Word) : Dev :=
  let (e, s) := s.epoch
  let q := s.fab.fseq
  let s := (s.onFab fun f => { f with fseq := (q + 1) % 2 ^ 24 }).floodRecord s.serial e q
  let ws := serialWords s.serial
  let pre := [ws.getD 0 0, ws.getD 1 0, word ((ws.getD 2 0).toNat + e * 2 ^ 16), word q]
  let b := mkBead (head0 2 op false false false ||| word (2 ^ 8)) 0 0x310 3 (if s.numbered then s.devnum else 0) sunit 0 0
    (pre ++ rest)
  s.floodOut b none

/-! ### Link-state database, founder (R459, R460) -/

/-- This device as an origin. Log 144 (DEDUCED). -/
def Dev.ownLsa (s : Dev) : Lsa :=
  { serial := s.serial, nv := s.numbered, pin := s.fab.pin.isSome
    num := if s.numbered then s.devnum else s.fab.pin.getD 0
    nbrs := s.upPorts.map fun p => s.serialReg (Reg.FAB_PEER0 p), at' := s.elapsed }

/-- Origins not refreshed for 3 s leave the database. -/
def Dev.lsaPrune (s : Dev) : Dev :=
  s.onFab fun f => { f with lsdb := f.lsdb.filter fun o => decide (s.elapsed < o.at' + 3 * secUnit) }

/-- Serials reachable from a set over links that both ends report UP. Log 145 (DEDUCED). -/
def reachSet (db : List Lsa) (fuel : Nat) (seen : List Nat) : List Nat :=
  match fuel with
  | 0 => seen
  | fuel + 1 =>
    let linked (a b : Lsa) : Bool := a.nbrs.contains b.serial && b.nbrs.contains a.serial
    let new := (db.filter fun o => !(seen.contains o.serial) &&
      db.any fun x => seen.contains x.serial && linked x o).map (·.serial)
    reachSet db fuel (seen ++ new)

/-- The database with this device in it, and the devices reachable from it. -/
def Dev.reachable (s : Dev) : List Lsa :=
  let db := s.ownLsa :: s.fab.lsdb
  let r := reachSet db db.length [s.serial]
  db.filter fun o => r.contains o.serial

/-- The lowest serial of a list of origins. -/
def lowest (l : List Lsa) (d : Nat) : Nat := l.foldl (fun m o => Nat.min m o.serial) d

/-- The founder is decided again; a change updates FAB_FSER and raises FAB_FOUNDER (R460). Log 145 (DEDUCED). -/
def Dev.founderDecide (s : Dev) : Dev :=
  let s := s.lsaPrune
  let f := lowest s.reachable s.serial
  let s := s.fset Reg.FAB_GCTL Reg.FAB_GCTL_FOUNDER_f (f == s.serial)
  if f = s.fser then s else (s.serialPut Reg.FAB_FSER0 f).raise 0x704 0

/-! ### Numbers (R461) -/

/-- The device that a pinned number goes to: the lowest serial that pins it. Log 145 (DEDUCED). -/
def pinOwner (db : List Lsa) (n : Nat) : Option Nat :=
  match (db.filter fun o => o.pin && o.num == n).map (·.serial) with
  | [] => none
  | x :: t => some (t.foldl Nat.min x)

/-- The unpinned device that keeps a number it holds. Log 145 (DEDUCED). -/
def holdOwner (db : List Lsa) (n : Nat) : Option Nat :=
  match (db.filter fun o => !o.pin && o.nv && o.num == n).map (·.serial) with
  | [] => none
  | x :: t => some (t.foldl Nat.min x)

/-- What rules 1 and 2 give a device: outer none = rule 3 applies, `some none` = its pin is refused. -/
def numKept (db : List Lsa) (o : Lsa) : Option (Option Nat) :=
  if o.pin then
    (if pinOwner db o.num = some o.serial then some (some o.num) else some none)
  else if o.nv && (pinOwner db o.num).isNone && holdOwner db o.num == some o.serial then some (some o.num)
  else none

/-- The device of a list with the lowest serial. -/
def minSerial (l : List Lsa) : Option Lsa :=
  l.foldl (fun (m : Option Lsa) o => match m with | none => some o | some x => if o.serial < x.serial then some o else m) none

/-- Rule 3: the others in ascending serial take the lowest numbers left. -/
def numRest (fuel : Nat) (db : List Lsa) (todo : List Lsa) (taken : List Nat) : List (Nat × Option Nat) :=
  match fuel with
  | 0 => []
  | fuel + 1 =>
    match minSerial todo with
    | none => []
    | some o =>
      match (List.range 1024).find? fun n => !(taken.contains n) && (pinOwner db n).isNone with
      | some n => (o.serial, some n) :: numRest fuel db (todo.erase o) (n :: taken)
      | none => []

/-- The numbers that R461 assigns. Log 145 (DEDUCED). -/
def assign (db : List Lsa) : List (Nat × Option Nat) :=
  let kept := db.filterMap fun o => (numKept db o).map fun r => (o.serial, r)
  let taken := kept.filterMap (·.2)
  kept ++ numRest db.length db (db.filter fun o => (numKept db o).isNone) taken

/-- This device takes what an assignment gives it. -/
def Dev.takeNumber (s : Dev) (a : Option Nat) : Dev :=
  match a with
  | some n =>
    if s.numbered && s.devnum == n then s
    else
      let old := s.numbered
      let s := s.fset Reg.FAB_GCTL Reg.FAB_GCTL_DEVVALID_f true
      let s := s.fput Reg.FAB_GCTL Reg.FAB_GCTL_DEVNUM_f n
      let s := s.fset Reg.FAB_GCTL Reg.FAB_GCTL_PINNED_f (s.fab.pin == some n)
      if old then s.raise 0x705 n else s
  | none =>
    match s.fab.pin with
    | some n =>
      if s.numbered then
        let s := s.fset Reg.FAB_GCTL Reg.FAB_GCTL_DEVVALID_f false
        let s := (s.fput Reg.FAB_GCTL Reg.FAB_GCTL_DEVNUM_f 0).fset Reg.FAB_GCTL Reg.FAB_GCTL_PINNED_f false
        s.raise 0x706 n
      else s
    | none => s

/-- The four words of a NUMBER record. Log 145 (DEDUCED). -/
def numRecord (e : Nat × Option Nat) : List Word :=
  serialWords e.1 ++ [match e.2 with | some n => word (2 ^ 23 + n % 1024) | none => 0]

/-- Cut a list into pieces of at most `n`. -/
def pieces {α : Type} (fuel n : Nat) (l : List α) : List (List α) :=
  match fuel with
  | 0 => []
  | fuel + 1 => if l.isEmpty then [] else l.take n :: pieces fuel n (l.drop n)

/-- The founder floods its assignment, 15 records to a bead, and takes its own. -/
def Dev.numberFlood (s : Dev) : Dev :=
  let a := assign s.reachable
  let s := s.onFab fun f => { f with assigned := a, numAt := s.elapsed }
  let s := (pieces a.length 15 a).foldl (fun s l => s.flood 0x39 0x310 (l.map numRecord).flatten) s
  match a.find? (·.1 == s.serial) with
  | some e => s.takeNumber e.2
  | none => s

/-- Whether this device is the founder. -/
def Dev.isFounder (s : Dev) : Bool := s.fbit Reg.FAB_GCTL Reg.FAB_GCTL_FOUNDER_f

/-- The founder floods when its assignment has changed. -/
def Dev.numberCheck (s : Dev) : Dev :=
  if s.isFounder && assign s.reachable != s.fab.assigned then s.numberFlood else s

/-- Flood the device's LSA and decide the founder (R459, R460). Log 144 (DEDUCED). -/
def Dev.lsaFlood (s : Dev) : Dev :=
  let n := s.upPorts
  let nbr (p : Nat) : List Word :=
    let k := s.serialReg (Reg.FAB_PEER0 p)
    [word k, word (k / 2 ^ 24),
      word (k / 2 ^ 48 % 2 ^ 16 * 2 ^ 8 + p * 16 + Nat.max 1 (s.fget (Reg.FAB_PCFG p) Reg.FAB_PCFG_COST_f))]
  let s := s.flood 0x38 0x310 (s.numWord :: word n.length :: (n.map nbr).flatten)
  (s.onFab fun f => { f with lsaAt := s.elapsed }).founderDecide

/-- A change of this device's links or number: LSA, founder and, at the founder, numbers. -/
def Dev.linksChanged (s : Dev) : Dev :=
  if s.fbit Reg.FAB_GCTL Reg.FAB_GCTL_EN_f then
    let n := (s.numbered, s.devnum)
    let s := s.lsaFlood.numberCheck
    if (s.numbered, s.devnum) = n then s else s.lsaFlood
  else s

/-! ### A port goes DOWN (R454, R466) -/

/-- A port that is UP goes DOWN: its unacknowledged cells are lost, its queued beads take other routes, FAB_LINK and
FAB_REROUTE are raised, an LSA is flooded. Beads in part placed in cells are lost. Log 142 (DEDUCED). -/
def Dev.fabDown (s : Dev) (p : Nat) : Dev :=
  let x := s.fport p
  if x.up then
    let s := (s.count (Reg.FAB_LOSTCELL_LO p) x.unacked.length).raise 0x703 p
    let s := s.onFport p fun _ => { fportReset with
      desk := x.desk, mkWait := x.mkWait, peer := x.peer, spreq := x.spreq, spack := x.spack, gotAck := x.gotAck
      rounds := x.rounds, offs := x.offs, seen := x.seen, helloAt := x.helloAt, tsyncAt := x.tsyncAt, tseq := x.tseq }
    let st := s.rget (Reg.FAB_PSTAT p)
    let s := s.rset (Reg.FAB_PSTAT p) (word (bits st.toNat 20 18 * 2 ^ 18))
    let s := s.serialPut (Reg.FAB_PEER0 p) 0
    let unhop (b : Bead) : Bead := { b with h0 := word (putBits b.h0.toNat 3 0 (b.hops - 1)) }
    let s := (x.q.filter fun b => !b.bcast).foldl (fun s b => s.routeBead (unhop b)) s
    (s.raise 0x701 p).linksChanged
  else s

/-! ### Beads that leave a unit (R451, R458, R463) -/

/-- The opcodes a unit takes as requests or notices (R450). Log 34 (DEDUCED), 103 (DEDUCED). -/
def unitTakes (u op : Nat) : Bool :=
  op == 0x18 || decide (0x400 ≤ u ∧ u < 0x800) || ((decide (u < 0x70) || u == 0x7F) && op != 0x01 && op != 0x02) ||
    (op == 0x20 && decide (0x840 ≤ u ∧ u ≤ 0x84F)) ||
    (u == 0x230 && (op == 1 || op == 2)) || (u == 0x231 && (op == 8 || op == 9)) ||
    (decide (0x100 ≤ u ∧ u ≤ 0x13F) && op == 0x10) || (u == 0x820 && op == 0x28) ||
    (decide (0xBC ≤ u ∧ u ≤ 0xCB) && (op == 0x41 || op == 0x42))

/-- A bead for this device: a reserved unit or an opcode the unit does not take ends it here; otherwise it waits for its unit
(R451). -/
def Dev.localBead (s : Dev) (b : Bead) : Dev :=
  if !(unitListed b.dunit) then (s.take b).badDest b 2
  else if !b.rsp && !(unitTakes b.dunit b.op) then (s.take b).badDest b 3
  else s

/-- BEAD_ROUTE: a bead that a unit has put on the network goes to its unit on this device or leaves through the fabric; a flooded
one receives this device's prefix. Log 151 (DESIGN CHOICE). -/
def Dev.beadRoute (s : Dev) (b : Bead) : Dev :=
  if !(s.net.contains b) then s
  else if !s.numbered && (b.bcast || b.ddev != s.devnum) && !([0x30, 0x31, 0x38, 0x39].contains b.op) then
    (s.take b).count Reg.FAB_UNREACH_LO 1
  else if b.bcast then
    let s := s.take b
    let (e, s) := s.epoch
    let q := s.fab.fseq
    let ws := serialWords s.serial
    let pre := [ws.getD 0 0, ws.getD 1 0, word ((ws.getD 2 0).toNat + e * 2 ^ 16), word q]
    let b := Bead.seal { b with payload := pre ++ b.payload.drop 4 }
    let s := (s.onFab fun f => { f with fseq := (q + 1) % 2 ^ 24, flooded := f.flooded ++ [b] }).floodRecord s.serial e q
    s.floodOut b none
  else if b.ddev = s.devnum then s.localBead b
  else (s.take b).routeBead b

end Sys2Proof.Machine
end

