-- ==== Sys2Proof/Machine/LaneCmd.lean ====
section
/-! DEFINITION. Events of lanes and quads: electrical idle taken, retrain, alignment, deskew, markers, reference and lock loss, fast
exit, spares (R424, R425, R430 to R441, R443). -/

namespace Sys2Proof.Machine

/-- The first global lane of a fabric port, which names it in LAN_DESKEW_FALLBACK. -/
def Dev.firstLane (s : Dev) (p : Nat) : Nat :=
  s.fget (Reg.FAB_PCFG p) Reg.FAB_PCFG_QUAD_f * 4 + s.fget (Reg.FAB_PCFG p) Reg.FAB_PCFG_FIRST_f

/-- A port's deskew is lost. -/
def Dev.undesk (s : Dev) (l : Nat) : Dev :=
  match s.fportOf l with
  | some p =>
    let s := s.onFport p fun x => { x with desk := false, mkWait := false, offs := [], seen := [] }
    (s.fportLanes p).foldl (fun s l => s.onLane l fun x => { x with mkdsk := false, mark := none }) s
  | none => s

/-- A lane is no longer aligned and searches for commas anew (R432). -/
def Dev.unalign (s : Dev) (l : Nat) : Dev :=
  let s := s.onLane l fun x => { x with good := 0, bad := 0, burst := 0, next := none }
  if (s.lane l).aligned then
    (s.onLane l fun x => { x with aligned := false, lostAt := some s.elapsed }).undesk l
  else s

/-- A lane enters electrical idle: lock and alignment are lost, adaptation state is kept (R434). -/
def Dev.laneQuiet (s : Dev) (l : Nat) : Dev :=
  ((s.eyeAbort l).unalign l).onLane l fun x => { x with idle := true, cdr := false, exitFrom := none, fast := false }

/-- A lane leaves electrical idle: a fabric transmitter first sends the fast-exit burst, and its port counts rounds anew (R430, R435). -/
def Dev.laneWake (s : Dev) (l : Nat) : Dev :=
  let s := s.onLane l fun x => { x with idle := false }
  let s := match s.fportOf l with
    | some p => s.onFport p fun x => { x with rounds := 0 }
    | none => s
  if s.laneUse l = 3 then s.laneSend l exitBurst else s

/-- After any change of lane, port or domain settings: lanes that R434 now holds idle enter electrical idle, the others leave it, and a
fabric port goes DOWN that is no longer in service or has a lane in electrical idle (R454). -/
def Dev.laneSettle (s : Dev) : Dev :=
  let s := (List.range 64).foldl (fun s l =>
    if s.laneIdle l then (if (s.lane l).idle then s else s.laneQuiet l)
    else if (s.lane l).idle then s.laneWake l else s) s
  (List.range 16).foldl (fun s p =>
    if (s.fport p).up && (!(s.fportEn p) || (s.fportLanes p).any fun l => s.laneIdle l) then s.fabDown p else s) s

/-! ### Adaptation (R435, R437) -/

/-- A full retrain begins: a point of the eye scan ends, alignment and adaptation state are lost. Log 135 (DEDUCED). -/
def Dev.retrain (s : Dev) (l : Nat) : Dev :=
  let s := (s.eyeAbort l).unalign l
  s.onLane l fun x => { x with train := true, adapt := false, cdr := false, failed := false, exitFrom := none, fast := false }

/-- Clear FAILED of every lane of the port that lane `l` belongs to. Log 135 (DEDUCED). -/
def Dev.unfail (s : Dev) (l : Nat) : Dev :=
  match s.fportOf l with
  | some p => (s.fportLanes p).foldl (fun s l => s.onLane l fun x => { x with failed := false }) s
  | none => s

/-- A D reset of a lane: electrical idle, adaptation state and counters lost (R441, R443). Log 38 (DEDUCED), 135 (DEDUCED). -/
def Dev.laneDReset (s : Dev) (l : Nat) : Dev :=
  let q := l / 4
  let s := (s.laneQuiet l).unfail l
  let up := s.fportOf l
  let s := s.resetRegs .D fun a => decide (Reg.LAN_LCFG q (l % 4) ≤ a) && decide (a < Reg.LAN_LCFG q (l % 4) + 8)
  let s := s.onLane l fun x => { laneReset with lostAt := x.lostAt }
  let s := match up with
    | some p => s.fabDown p
    | none => s
  s.laneSettle

/-- LANE_RETRAIN and LANE_RST: a write of LAN_LCTL. -/
def Dev.lctlWrite (s : Dev) (l : Nat) (w : Word) : Dev :=
  let s := (s.storeRw (Reg.LAN_LCTL (l / 4) (l % 4)) w).laneSettle
  let s := if getF w Reg.LAN_LCTL_RST_f = 1 then s.laneDReset l else s
  if getF w Reg.LAN_LCTL_RETRAIN_f = 1 then s.retrain l else s

/-! ### Spares (R440, R457) -/

/-- The spare of a quad. -/
def Dev.laneSpare (s : Dev) (q : Nat) : Nat := q * 4 + s.fget (Reg.LAN_SPARE q) Reg.LAN_SPARE_SLANE_f

/-- Whether quad `q` has a valid spare that no port uses. -/
def Dev.spareOk (s : Dev) (q : Nat) : Bool :=
  s.fget (Reg.LAN_QCFG q) Reg.LAN_QCFG_USE_f == 3 && s.fbit (Reg.LAN_SPARE q) Reg.LAN_SPARE_VALID_f &&
    (s.fportOf (s.laneSpare q)).isNone && (s.quad q).swap.isNone

/-- Start the replacement of lane `l`, which serves a port of 1 or 2 lanes: the spare retrains (R440 step 1). -/
def Dev.swapStart (s : Dev) (l : Nat) : Bool × Dev :=
  let q := l / 4
  match s.fportOf l with
  | some p =>
    if s.spareOk q && s.fportLanesN p != 4 then
      (true, ((s.onQuad q fun x => { x with swap := some (l, false) }).laneSettle).retrain (s.laneSpare q))
    else (false, s)
  | none => (false, s)

/-- Step 2 and 3 of R440, once the spare has trained and SPACK has been sent or received: the spare takes the failed lane's index. -/
def Dev.swapEnd (s : Dev) (q : Nat) : Dev :=
  match (s.quad q).swap with
  | some (l, true) =>
    match s.fportOf l with
    | some p =>
      if (s.fport p).spack || (s.fport p).gotAck then
        let base := (s.fportLanes p).findIdx (· == l) + s.firstLane p
        let sp := s.laneSpare q
        let s := (s.laneQuiet l).undesk l
        let s := { s with lan := { s.lan with subst := SMap.del s.lan.subst base } }
        let s := { s with lan := { s.lan with subst := SMap.ins s.lan.subst base sp } }
        let s := s.onQuad q fun x => { x with swap := none }
        let s := s.onFport p fun x => { x with spreq := none, spack := false, gotAck := false, desk := false, mkWait := false }
        let s := s.fset (Reg.LAN_SPARE q) Reg.LAN_SPARE_VALID_f false
        ((s.raise 0x605 q).fabDown p).laneSettle
      else s
    | none => s
  | _ => s

/-- A replacement that this device starts is asked of the partner in its HELLOs (R457). -/
def Dev.swapRequest (s : Dev) (l : Nat) : Dev :=
  match s.fportOf l with
  | some p =>
    match s.swapStart l with
    | (true, s) => s.onFport p fun x => { x with spreq := some ((s.fportLanes p).findIdx (· == l)), gotAck := false }
    | (false, s) => s
  | none => s

/-- SPARE_GO: a write of LAN_SPARE. -/
def Dev.spareWrite (s : Dev) (q : Nat) (w : Word) : Dev :=
  let s := s.storeRw (Reg.LAN_SPARE q) w
  if getF w Reg.LAN_SPARE_GO_f = 1 then s.swapRequest (q * 4 + s.fget (Reg.LAN_SPARE q) Reg.LAN_SPARE_FAILED_f) else s

/-- SPARE_AUTO: lane `l` has not realigned within 10 ms of losing alignment. -/
def Dev.spareAuto (s : Dev) (l : Nat) : Dev :=
  let x := s.lane l
  match x.lostAt with
  | some t =>
    if !x.aligned && s.fbit (Reg.LAN_SPARE (l / 4)) Reg.LAN_SPARE_AUTO_f && (s.fportOf l).isSome then
      (s.pass (t + 10000000 * nsUnit)).swapRequest l
    else s
  | none => s

/-- LANE_TRAIN_DONE: a training ends with valid adaptation state. Log 137 (DESIGN CHOICE). -/
def Dev.trainDone (s : Dev) (l : Nat) : Dev :=
  if (s.lane l).train then
    let q := l / 4
    let idle := s.laneIdle l
    let s := s.onLane l fun x => { x with train := false, adapt := true, cdr := !idle }
    let s := match (s.quad q).swap with
      | some (f, _) => if s.laneSpare q = l then (s.onQuad q fun x => { x with swap := some (f, true) }).swapEnd q else s
      | none => s
    s.eyeResume q
  else s

/-! ### Alignment and deskew (R432, R433) -/

/-- LANE_ALIGN: four consecutive commas, or two at the burst spacing on a fast exit (R432, R435). -/
def Dev.laneAlign (s : Dev) (l : Nat) : Dev :=
  let x := s.lane l
  if s.laneUse l = 3 ∧ ¬ s.laneIdle l ∧ ¬ x.train ∧ ¬ x.aligned ∧ (4 ≤ x.good ∨ (x.fast ∧ 2 ≤ x.burst)) then
    s.onLane l fun x => { x with aligned := true, cdr := true, good := 0, bad := 0, lostAt := none, exitFrom := none, fast := false }
  else s

/-- LANE_ALIGN_LOSS: four consecutive slots without a comma or with a code violation (R432). -/
def Dev.laneAlignLoss (s : Dev) (l : Nat) : Dev := if s.laneUse l = 3 ∧ 4 ≤ (s.lane l).bad then s.unalign l else s

/-- Arrivals less the earliest. -/
def offsetsFrom (l : List Nat) : List Nat := l.map (· - l.foldl Nat.min (l.headD 0))

/-- The port is deskewed, `mk` tells whether by markers, and keeps its lane offsets. -/
def Dev.deskewed (s : Dev) (p : Nat) (mk : Bool) (arrivals : List Nat) : Dev :=
  let s := s.onFport p fun x => { x with desk := true, mkWait := false, offs := offsetsFrom arrivals, seen := [] }
  (s.fportLanes p).foldl (fun s l => s.onLane l fun x => { x with mkdsk := mk, mark := none }) s

/-- FAILED: the port stays down (R433). -/
def Dev.deskFail (s : Dev) (p : Nat) : Dev :=
  let s := s.onFport p fun x => { x with desk := false, mkWait := false }
  let s := (s.fportLanes p).foldl (fun s l => s.onLane l fun x => { x with failed := true, mark := none }) s
  s.fabDown p

/-- The largest difference between numbers of a list. -/
def spreadOf (l : List Nat) : Nat := l.foldl Nat.max 0 - l.foldl Nat.min (l.headD 0)

/-- PORT_DESKEW: with every lane aligned, the commas of one round have arrived, in UI, on the lanes in the order of their index. -/
def Dev.portDeskew (s : Dev) (p : Nat) (arrivals : List Nat) : Dev :=
  let x := s.fport p
  if s.fportEn p && s.allAligned p && !x.desk && !x.mkWait && !((s.fportLanes p).any fun l => (s.lane l).failed) &&
      arrivals.length == s.fportLanesN p then
    if spreadOf arrivals ≤ 1041 then s.deskewed p false arrivals
    else (s.onFport p fun x => { x with mkWait := true }).raise 0x602 (s.firstLane p)
  else s

/-- The marker fall-back pairs the markers of one round once every lane has given its own. -/
def Dev.markPair (s : Dev) (p round : Nat) : Dev :=
  let ms := (s.fportLanes p).map fun l => (s.lane l).mark
  if ms.all fun m => (m.map (·.1)) == some round then
    let at_ := ms.filterMap fun m => m.map (·.2)
    if spreadOf at_ ≤ 8 * 2082 then s.deskewed p true at_ else s.deskFail p
  else s

/-- The arrival of a comma less the lane's kept offset, where the port is deskewed (R433). -/
def Dev.commaAt (s : Dev) (p l ui : Nat) : Nat := ui - (s.fport p).offs.getD ((s.fportLanes p).findIdx (· == l)) 0

/-- Whether a comma fits the kept offsets of its port: no comma of another lane in the same round lies elsewhere (R433). -/
def Dev.commaFits (s : Dev) (p l ui : Nat) : Bool :=
  let n := s.commaAt p l ui
  !(s.fport p).desk || (s.fport p).seen.all fun m => m == n || decide (1041 < (m - n) + (n - m))

/-- How a slot that arrives at `ui` stands for R432: its comma is missing or its slot has a code violation, or it fits. -/
def Dev.slotBad (s : Dev) (p l ui : Nat) (com bs : List Bool) : Bool :=
  let x := s.lane l
  bs.take 34 != com || !(x.next == none || x.next == some ui) || !(s.commaFits p l ui) || slotViolation (bs.drop 34)

/-- A slot on an aligned lane is noted: the next comma is expected where it ends, and bad slots in a row are counted (R432). -/
def Dev.slotNote (s : Dev) (p l ui : Nat) (bs : List Bool) (bad : Bool) : Dev :=
  let n := s.commaAt p l ui
  let s := s.onLane l fun x => { x with next := some (ui + bs.length), bad := if bad then x.bad + 1 else 0, burst := 0 }
  let s := if (s.fport p).desk && !bad then s.onFport p fun x => { x with seen := (n :: x.seen).take 64 } else s
  if bad then s.count (Reg.LAN_CODEERR_LO (l / 4) (l % 4)) 1 else s

/-- LANE_MARKER_RX: the line bits of a marker slot arrive on a lane, its comma at `ui`, in UI. A marker in a bad slot or with a bad
CRC-24 is ignored and counted (R431). Log 140 (DEDUCED). -/
def Dev.markerRx (s : Dev) (l ui : Nat) (slot : List Bool) : Dev :=
  match s.fportOf l with
  | none => s
  | some p =>
    let bs := s.laneBits l slot
    let idx := (s.fportLanes p).findIdx (· == l)
    if (s.lane l).aligned && !(s.laneIdle l) then
      let bad := s.slotBad p l ui markerComma bs
      let s := s.slotNote p l ui bs bad
      match (if bad then none else decodeSlot idx (bs.drop 34)) with
      | none => if bad then s else s.count (Reg.LAN_CODEERR_LO (l / 4) (l % 4)) 1
      | some body =>
        if !(markerOk body) then s.count (Reg.LAN_CODEERR_LO (l / 4) (l % 4)) 1
        else
          let round := bodyField body 48 95
          let s := s.onLane l fun x => { x with rlane := bodyField body 28 33 }
          if bodyField body 24 25 != idx || bodyField body 26 27 + 1 != s.fportLanesN p then s.deskFail p
          else if (s.fport p).mkWait then (s.onLane l fun x => { x with mark := some (round, ui) }).markPair p round
          else s
    else s.onLane l fun x => { x with next := some (ui + bs.length) }

/-! ### References, lock, signal (R425, R435, R436) -/

/-- QUAD_REF_LOSS: no edge for 400 ns, or a PLL in use leaves lock. -/
def Dev.refLost (s : Dev) (q : Nat) : Dev :=
  ((s.onQuad q fun x => { x with refOk := false }).laneSettle).raise 0x603 q

/-- QUAD_REF_RETURN: the reference returns at `hz` and the PLLs relock that can; lanes leave electrical idle, and one without valid
adaptation state retrains (R425, R437). Log 133 (PRESUMED). -/
def Dev.refBack (s : Dev) (q hz : Nat) : Dev :=
  let s := (s.onQuad q fun x => { x with refOk := true, fref := hz }).laneSettle
  (List.range 4).foldl (fun s i =>
    let l := q * 4 + i
    if !(s.laneIdle l) && !(s.lane l).adapt && !(s.lane l).train then s.retrain l else s) s

/-- LANE_LOCK_LOSS: a lane in service loses CDR or serialiser lock without electrical idle and relocks with the kept state.
Log 137 (DESIGN CHOICE). -/
def Dev.lockLoss (s : Dev) (l : Nat) : Dev :=
  if s.laneServed l && !(s.laneIdle l) then
    let s := ((s.eyeAbort l).unalign l).onLane l fun x => { x with cdr := true, exitFrom := some s.elapsed, fast := false }
    let s := if s.laneUse l = 3 then s.laneSend l exitBurst else s
    (s.count (Reg.LAN_RELOCK_LO (l / 4) (l % 4)) 1).raise 0x604 l
  else s

/-- LANE_SIGNAL_DETECT: a fabric receiver detects signal after idle; with valid state it tries a fast exit. -/
def Dev.signalDetect (s : Dev) (l : Nat) : Dev :=
  let x := s.lane l
  if s.laneUse l = 3 ∧ ¬ s.laneIdle l ∧ x.adapt ∧ ¬ x.aligned ∧ ¬ x.train then
    s.onLane l fun x => { x with cdr := true, exitFrom := some s.elapsed, fast := true }
  else s

/-- LANE_EXIT_TIMEOUT: not aligned within EXITTMO, the lane raises LAN_EIDLE_EXIT_FAIL and retrains. -/
def Dev.exitTimeout (s : Dev) (l : Nat) : Dev :=
  match (s.lane l).exitFrom with
  | some t =>
    let lim := Nat.max 1 (s.fget Reg.LAN_FCFG Reg.LAN_FCFG_EXITTMO_f) * 100 * nsUnit
    ((s.pass (t + lim)).raise 0x601 l).retrain l
  | none => s

end Sys2Proof.Machine
end

