-- ==== Sys2Proof/Machine/FabricCmd.lean ====
section
/-! DEFINITION. Events of the fabric: cells received, idle cells, replay, HELLO, flooded beads, numbers, TSYNC, pool commands
(R445 to R475). -/

namespace Sys2Proof.Machine

/-! ### Cells received (R431, R445, R446, R451 to R453) -/

/-- A bead of a list of words. Log 140 (DEDUCED). -/
def beadOf (ws : List Word) : Bead :=
  { h0 := ws.getD 0 0, h1 := ws.getD 1 0, h2 := ws.getD 2 0, h3 := ws.getD 3 0
    payload := (ws.drop 4).dropLast, crc := ws.getLastD 0 }

/-- Cut complete beads off a word stream; a word with VER = 0 where a header would begin is fill up to the end.
Log 140 (DEDUCED). -/
def cutBeads (fuel : Nat) (ws : List Word) : List Bead × List Word :=
  match fuel with
  | 0 => ([], ws)
  | fuel + 1 =>
    match ws with
    | [] => ([], [])
    | w :: _ =>
      if bits w.toNat 23 20 = 0 then ([], [])
      else
        let n := bits (ws.getD 2 0).toNat 1 0 * 32 + bits (ws.getD 3 0).toNat 23 19 + 5
        if ws.length < 4 ∨ ws.length < n then ([], ws)
        else
          let (bs, r) := cutBeads fuel (ws.drop n)
          (beadOf (ws.take n) :: bs, r)

/-- A bead that a port has received: dropped, delivered, kept for flooding or sent on. -/
def Dev.portBead (s : Dev) (p : Nat) (b : Bead) : Dev :=
  if b.len > 64 ∨ b.ver > 2 then s.count (Reg.FAB_BEADDROP_LO p) 1
  else
    let here := b.bcast || (s.numbered && b.ddev == s.devnum)
    if here && b.crc != beadCrc b then s.count (Reg.FAB_BEADDROP_LO p) 1
    else
      let b := if s.fget (Reg.FAB_PSTAT p) Reg.FAB_PSTAT_BVER_f = 1 then s.fromV1 b else b
      if b.bcast then s.onFab fun f => { f with bcastIn := f.bcastIn ++ [(p, b)] }
      else if here then (s.send b).localBead b
      else s.routeBead b

/-- A cell is discarded: the bead stream resumes at FIRST, and under L2 the next header carries NAK, once for each gap.
Log 140 (DEDUCED). -/
def Dev.cellBad (s : Dev) (p : Nat) : Dev :=
  s.onFport p fun x => { x with stream := none, nak := x.nak || !x.nakDone, nakDone := true }

/-- All unacknowledged cells are sent again; REPLAYMAX replays in a row without progress take the port DOWN (R453, R454).
Log 141 (DEDUCED). -/
def Dev.replay (s : Dev) (p : Nat) : Dev :=
  let x := s.fport p
  let s := s.count (Reg.FAB_REPLAY_LO p) 1
  let s := s.onFport p fun x => { x with runs := x.runs + 1, ackAt := s.elapsed }
  let s := (x.unacked.foldl (fun s c => s.cellNext p 0 c.1 c.2.1 c.2.2) s).roundFill p 3
  if Nat.max 1 (s.fget Reg.FAB_LCFG Reg.FAB_LCFG_REPLAYMAX_f) ≤ x.runs + 1 then s.fabDown p else s

/-- The partner's ACK passes cells it has received. -/
def Dev.ackIn (s : Dev) (p ack : Nat) : Dev :=
  let x := s.fport p
  match x.unacked with
  | [] => s
  | c :: _ =>
    let n := (ack + 128 - c.1) % 128
    if n = 0 ∨ n > x.unacked.length then s
    else
      let s := s.onFport p fun x => { x with unacked := x.unacked.drop n, ackAt := s.elapsed, runs := 0 }
      s.portPump p (s.fport p).fuel

/-- A DATA cell: accepted when its CSEQ is the one expected. -/
def Dev.dataIn (s : Dev) (p : Nat) (ws : List Word) : Dev :=
  let x := s.fport p
  let h := (ws.getD 0 0).toNat
  let s := s.onFport p fun x => { x with rxData := x.rxData + 1 }
  if bits h 21 15 != x.rx then s.cellBad p
  else
    let first := bits h 6 0
    let body := (ws.drop 1).take 83
    let str := match x.stream with
      | some part => some (part ++ body)
      | none => if first = 0 then none else some (body.drop (first - 1))
    let (bs, rest) := match str with | some l => cutBeads l.length l | none => ([], [])
    let s := s.onFport p fun x => { x with rx := (x.rx + 1) % 128, nakDone := false, stream := str.map fun _ => rest }
    bs.foldl (fun s b => s.portBead p b) s

/-- A good cell. Log 140 (DEDUCED). -/
def Dev.cellGood (s : Dev) (p : Nat) (ws : List Word) : Dev :=
  let h := (ws.getD 0 0).toNat
  let kind := bits h 23 22
  let s := s.count (Reg.FAB_CELLRX_LO p) 1
  if kind = 3 then (s.count (Reg.FAB_BADCELL_LO p) 1).cellBad p
  else
    let s := if (s.fport p).up then s.ackIn p (bits h 14 8) else s
    let s := if (s.fport p).up && bits h 7 7 == 1 && s.linkL2 p && (s.fport p).unacked != [] && s.allAligned p then s.replay p else s
    if kind = 0 then (if (s.fport p).up then s.dataIn p ws else s)
    else if kind = 2 then
      let n := bits (ws.getD 3 0).toNat 1 0 * 32 + bits (ws.getD 4 0).toNat 23 19 + 5
      let b := beadOf ((ws.drop 1).take n)
      if b.ok then s.onFport p fun x => { x with linkIn := x.linkIn ++ [(b, s.time, s.timeValid)] }
      else s.count (Reg.FAB_BEADDROP_LO p) 1
    else s

/-- A slot on a lane that searches: commas in a row, each where the slot before ended, and burst slots among them (R432, R435). -/
def Dev.slotSearch (s : Dev) (l ui : Nat) (bs : List Bool) : Dev :=
  s.onLane l fun x =>
    let here := x.next == some ui
    { x with
      good := if bs.take 34 == comma then (if here then x.good + 1 else 1) else 0
      burst := if burstSlot bs then (if here then x.burst + 1 else 1) else 0
      next := some (ui + bs.length) }

/-- CELL_RX: the line bits of a slot, from its comma to the next, arrive on a lane, its comma at `ui`, in UI (R431 to R433).
Log 140 (DEDUCED). -/
def Dev.cellRx (s : Dev) (l : Nat) (slot : List Bool) (ui : Nat) : Dev :=
  match s.fportOf l with
  | none => s
  | some p =>
    let bs := s.laneBits l slot
    if s.laneIdle l || (s.lane l).train then s
    else if !(s.lane l).aligned then s.slotSearch l ui bs
    else if decide (0 < (s.lane l).burst) && burstSlot bs then s.onLane l fun x => { x with next := some (ui + bs.length) }
    else
      let bad := s.slotBad p l ui comma bs
      let s := s.slotNote p l ui bs bad
      match (if bad then none else decodeSlot ((s.fportLanes p).findIdx (· == l)) (bs.drop 34)) with
      | none => (if bad then s else s.count (Reg.LAN_CODEERR_LO (l / 4) (l % 4)) 1).cellBad p
      | some d =>
        let ws := bitsWords 85 d
        if cellOk ws then s.cellGood p ws else (s.count (Reg.FAB_BADCELL_LO p) 1).cellBad p

/-- IDLE_CELL_TIMER: 8 DATA cells or 1 µs without an outgoing header. -/
def Dev.idleCell (s : Dev) (p : Nat) : Dev :=
  let x := s.fport p
  if x.up && s.allAligned p then
    (if 8 ≤ x.rxData then s else s.pass (x.hdrAt + 1000 * nsUnit)).cellRound p 1 0 0 []
  else s

/-- REPLAY_TIMEOUT. Log 141 (DEDUCED). -/
def Dev.replayTimeout (s : Dev) (p : Nat) : Dev :=
  let x := s.fport p
  if x.up && x.unacked != [] && s.allAligned p then
    (s.pass (x.ackAt + Nat.max 1 (s.fget Reg.FAB_LCFG Reg.FAB_LCFG_REPLAYTMO_f) * 100 * nsUnit)).replay p
  else s

/-- PORT_DOWN_TIMEOUT: a lane has been unaligned for DOWNTMO. Log 141 (DEDUCED). -/
def Dev.downTimeout (s : Dev) (p : Nat) : Dev :=
  match ((s.fportLanes p).filterMap fun l => if (s.lane l).aligned then none else (s.lane l).lostAt) with
  | [] => s
  | t :: ts =>
    if (s.fport p).up then
      (s.pass (ts.foldl Nat.min t + Nat.max 1 (s.fget Reg.FAB_LCFG Reg.FAB_LCFG_DOWNTMO_f) * 100 * nsUnit)).fabDown p
    else s

/-! ### HELLO (R455 to R457) -/

/-- The versions a device offers up to `n`, as a mask. -/
def offer (n : Nat) : Nat := 2 ^ Nat.min n 2 - 1

/-- The bead versions offered. -/
def Dev.bvOffer (s : Dev) : Nat := offer (s.fget Reg.FAB_RCFG Reg.FAB_RCFG_BVMAX_f)

/-- The link versions offered. -/
def Dev.lvOffer (s : Dev) : Nat := offer (s.fget Reg.FAB_RCFG Reg.FAB_RCFG_LVMAX_f)

/-- The HELLO of a port. -/
def Dev.helloBead (s : Dev) (p : Nat) : Bead :=
  let x := s.fport p
  let w4 := s.bvOffer * 2 ^ 16 + s.lvOffer * 2 ^ 8 + p * 16 + s.fget (Reg.FAB_PCFG p) Reg.FAB_PCFG_LANES_f * 4 +
    bit x.peer.isSome * 2
  let w8 := bit x.spreq.isSome * 2 ^ 23 + bit x.spack * 2 ^ 22 + x.spreq.getD 0 % 4 * 16
  mkBead (head0 1 0x30 false false false) 0 0 0 0 0 0 0
    (serialWords s.serial ++ [s.numWord, word w4] ++ serialWords (x.peer.getD 0) ++ [word w8])

/-- HELLO_TIMER: every 10 ms from a port that is UP, every 100 µs on each aligned lane of one that is not. -/
def Dev.helloTimer (s : Dev) (p : Nat) : Dev :=
  let x := s.fport p
  if s.fportEn p && !x.failed then
    let s := s.pass (x.helloAt + (if x.up then 10000000 else 100000) * nsUnit)
    let s := s.onFport p fun x => { x with helloAt := s.elapsed }
    let body := beadAll (s.helloBead p)
    if x.up then (if s.allAligned p then s.cellRound p 2 0 1 body else s)
    else
      let ls := (s.indexed p).filter fun e => (s.lane e.2).aligned && !(s.laneIdle e.2)
      let (cs, s) := ls.foldl (fun (r : List ((Nat × Nat) × List Bool) × Dev) e =>
        let (c, s) := r.2.cellMake p 2 0 1 body
        (r.1 ++ [(e, c)], s)) ([], s)
      if cs = [] then s else s.roundOut p cs
  else s

/-- A port is FAILED with a cause: 1 NOVER, 2 LANES, 3 LOOP. Log 142 (DEDUCED), 146 (DEDUCED). -/
def Dev.portFail (s : Dev) (p cause : Nat) : Dev :=
  let s := s.fabDown p
  (s.onFport p fun x => { x with failed := true }).fput (Reg.FAB_PSTAT p) Reg.FAB_PSTAT_CAUSE_f cause

/-- The highest version of a mask. -/
def topVer (m : Nat) : Nat := if m / 2 % 2 = 1 then 2 else m % 2

/-- A port becomes UP (R456). -/
def Dev.portUpNow (s : Dev) (p : Nat) (b : Bead) : Dev :=
  let w4 := b.pay 4
  let bv := topVer (bits w4 23 16 &&& s.bvOffer)
  let lv := topVer (bits w4 15 8 &&& s.lvOffer)
  let s := s.onFport p fun x => { fportReset with
    up := true, desk := x.desk, peer := x.peer, spreq := x.spreq, spack := x.spack, gotAck := x.gotAck, linkIn := x.linkIn
    rounds := x.rounds, offs := x.offs, seen := x.seen
    helloAt := s.elapsed, tsyncAt := s.elapsed, hdrAt := s.elapsed, ackAt := s.elapsed, tseq := x.tseq, stream := some [] }
  let s := s.serialPut (Reg.FAB_PEER0 p) (serialAt b 0)
  let s := s.rset (Reg.FAB_PSTAT p) (word (3 * 2 ^ 21 + bv * 2 ^ 16 + lv * 2 ^ 14 + bits w4 7 4 * 2 ^ 10 + bits (b.pay 3) 9 0))
  let s := if bv < topVer s.bvOffer ∨ lv < topVer s.lvOffer then s.raise 0x702 p else s
  (s.raise 0x703 p).linksChanged

/-- What a HELLO does on a port that is not UP (R456). Log 150 (DEDUCED). -/
def Dev.helloTry (s : Dev) (p : Nat) (b : Bead) : Dev :=
  let w4 := b.pay 4
  if bits w4 3 2 != s.fget (Reg.FAB_PCFG p) Reg.FAB_PCFG_LANES_f then s.portFail p 2
  else if bits w4 23 16 &&& s.bvOffer = 0 ∨ bits w4 15 8 &&& s.lvOffer = 0 then s.portFail p 1
  else if bits w4 1 1 == 1 && serialAt b 5 == s.serial && s.allAligned p && (s.fport p).desk then s.portUpNow p b
  else s

/-- The spare fields of a HELLO (R457). -/
def Dev.helloSpare (s : Dev) (p : Nat) (b : Bead) : Dev :=
  let w8 := b.pay 8
  let s := if bits w8 23 23 = 1 then
      match (s.fportLanes p)[bits w8 5 4]? with
      | some l =>
        if ((s.quad (l / 4)).swap.map (·.1)) == some l then s.onFport p fun x => { x with spack := true }
        else match s.swapStart l with
          | (true, s) => s.onFport p fun x => { x with spack := true }
          | (false, s) => s
      | none => s
    else s
  let s := if bits w8 22 22 = 1 ∧ (s.fport p).spreq.isSome then s.onFport p fun x => { x with gotAck := true } else s
  s.swapEnd (s.firstLane p / 4)

/-- HELLO_RX. Log 150 (DEDUCED). -/
def Dev.helloRx (s : Dev) (p : Nat) (b : Bead) : Dev :=
  match (s.fport p).linkIn.find? fun e => e.1 == b && b.op == 0x30 with
  | none => s
  | some e =>
    let s := s.onFport p fun x => { x with linkIn := x.linkIn.erase e }
    let k := serialAt b 0
    if !(s.fportEn p) || (s.fport p).failed then s
    else
      let s := if (s.fport p).up && k != s.serialReg (Reg.FAB_PEER0 p) then s.fabDown p else s
      if k = s.serial then s.portFail p 3
      else
        let s := s.onFport p fun x => { x with peer := some k }
        let s := if (s.fport p).up then s.fput (Reg.FAB_PSTAT p) Reg.FAB_PSTAT_PDEV_f (bits (b.pay 3) 9 0) else s
        let s := s.helloSpare p b
        if (s.fport p).up then s else s.helloTry p b

/-- A write of FAB_PCFG: clearing EN takes the port DOWN; writing EN ends FAILED (R454, R456). Log 146 (DEDUCED). -/
def Dev.fabPcfgWrite (s : Dev) (p : Nat) (w : Word) : Dev :=
  let lock := s.locked
  let s := s.storeRw (Reg.FAB_PCFG p) w
  let s := if lock then s
    else (s.onFport p fun x => { x with failed := false }).fput (Reg.FAB_PSTAT p) Reg.FAB_PSTAT_CAUSE_f 0
  s.laneSettle

/-- FAB_PSTAT.STATE: 0 OFF, 1 DOWN, 2 HELLO, 3 UP, 4 FAILED. -/
def Dev.pstatState (s : Dev) (p : Nat) : Nat :=
  let x := s.fport p
  if !(s.fportEn p) then 0 else if x.failed then 4 else if x.up then 3
  else if (s.fportLanes p).any fun l => (s.lane l).aligned then 2 else 1

/-- FAB_PSTAT. -/
def Dev.fabPstatWord (s : Dev) (p : Nat) : Word := putF (s.rget (Reg.FAB_PSTAT p)) Reg.FAB_PSTAT_STATE_f (s.pstatState p)

/-! ### Flooded beads (R469) -/

/-- The flood prefix of a bead: origin, EPOCH, FSEQ. Log 144 (DEDUCED). -/
def floodPrefix (b : Bead) : Nat × Nat × Nat := (serialAt b 0, bits (b.pay 2) 23 16, b.pay 3)

/-- Whether a flooded bead is accepted. -/
def Dev.floodNew (s : Dev) (b : Bead) : Bool :=
  let (k, e, q) := floodPrefix b
  match s.fab.floods.find? (·.1 == k) with
  | none => true
  | some r => r.2.1 != e || decide (0 < sdiff 24 q r.2.2)

/-- BCAST_RX: a flooded bead that came on port `p` is accepted by its prefix, delivered and forwarded. -/
def Dev.bcastRx (s : Dev) (p : Nat) (b : Bead) : Dev :=
  if s.fab.bcastIn.contains (p, b) then
    let s := s.onFab fun f => { f with bcastIn := f.bcastIn.erase (p, b) }
    if s.floodNew b then
      let (k, e, q) := floodPrefix b
      let s := (s.floodRecord k e q).onFab fun f => { f with flooded := f.flooded ++ [b] }
      s.floodOut b (some p)
    else s
  else s

/-- Take an accepted flooded bead with an opcode. -/
def Dev.takeFlooded (s : Dev) (b : Bead) (op : Nat) : Option Dev :=
  if b.op = op ∧ s.fab.flooded.contains b then some (s.onFab fun f => { f with flooded := f.flooded.erase b }) else none

/-- LSA_TIMER: 1 s after the last. -/
def Dev.lsaTimer (s : Dev) : Dev :=
  if s.fbit Reg.FAB_GCTL Reg.FAB_GCTL_EN_f then (s.pass (s.fab.lsaAt + secUnit)).linksChanged else s

/-- The origin that an LSA describes (R459). -/
def lsaOf (b : Bead) (now : Nat) : Lsa :=
  { serial := serialAt b 0, nv := bits (b.pay 4) 23 23 == 1, pin := bits (b.pay 4) 22 22 == 1, num := bits (b.pay 4) 9 0
    nbrs := (List.range (Nat.min 16 (bits (b.pay 5) 4 0))).map fun i =>
      b.pay (6 + 3 * i) + b.pay (7 + 3 * i) * 2 ^ 24 + bits (b.pay (8 + 3 * i)) 23 8 * 2 ^ 48
    at' := now }

/-- LSA_RX: an accepted LSA is delivered to the unit in FAB_LSUNIT and the founder is decided again. -/
def Dev.lsaRx (s : Dev) (b : Bead) : Dev :=
  match s.takeFlooded b 0x38 with
  | none => s
  | some s =>
    let u := s.fget Reg.FAB_LSUNIT Reg.FAB_LSUNIT_UNIT_f
    let o := lsaOf b s.elapsed
    let s := s.onFab fun f => { f with lsdb := (f.lsdb.filter (·.serial != o.serial)) ++ [o] }
    let h1 := word (s.devnum * 2 ^ 14 + u % 4096 * 4 + b.order)
    let s := s.send (Bead.seal { b with h0 := word (putBits b.h0.toNat 8 8 0), h1 := h1 })
    s.founderDecide.numberCheck

/-- NUMBER_TIMER: the founder floods NUMBER beads 1 s after the last. -/
def Dev.numberTimer (s : Dev) : Dev :=
  if s.isFounder then (s.pass (s.fab.numAt + secUnit)).numberFlood else s

/-- NUMBER_RX: a NUMBER bead of the device's own founder assigns or refuses its number (R461). -/
def Dev.numberRx (s : Dev) (b : Bead) : Dev :=
  match s.takeFlooded b 0x39 with
  | none => s
  | some s =>
    let recs := (List.range ((b.payload.length - 4) / 4)).map fun i => (serialAt b (4 + 4 * i), b.pay (7 + 4 * i))
    match recs.find? (·.1 == s.serial) with
    | some r =>
      if serialAt b 0 = s.fser then
        let n := (s.numbered, s.devnum)
        let s := s.takeNumber (if bits r.2 23 23 = 1 then some (bits r.2 9 0) else none)
        if (s.numbered, s.devnum) = n then s else s.linksChanged
      else s
    | none => s

/-! ### TSYNC (R470, R471); times in units of 2^-16 ns modulo 2^24 s -/

/-- The modulus of a time of R74 with a fraction. -/
def tsMod : Nat := 2 ^ 24 * 1000000000 * 2 ^ 16

/-- A time of the counter. -/
def tsOf (t : Int) : Nat := ((t / 2 ^ 24) % (tsMod : Int)).toNat

/-- The four words of a time. -/
def tsWords (t : Nat) (tv : Bool) : List Word :=
  let ns := t / 2 ^ 16 % 1000000000
  [word (t / 2 ^ 16 / 1000000000), word ns, word (ns / 2 ^ 24), word (bit tv * 2 ^ 23 + t % 2 ^ 16)]

/-- A time of four payload words from index `i`. -/
def tsAt (b : Bead) (i : Nat) : Nat × Bool :=
  ((b.pay i * 1000000000 + b.pay (i + 1) + bits (b.pay (i + 2)) 5 0 * 2 ^ 24) * 2 ^ 16 + bits (b.pay (i + 3)) 15 0,
   bits (b.pay (i + 3)) 23 23 == 1)

/-- The signed difference of two times. -/
def tsDiff (a b : Nat) : Int :=
  let d := (a + tsMod - b % tsMod) % tsMod
  if d ≥ tsMod / 2 then (d : Int) - tsMod else d

/-- A signed 16-bit delay register of 0.125 ns, in units of the counter. Log 147 (DESIGN CHOICE). -/
def Dev.dly (s : Dev) (a : Nat) : Int := sx 16 (bits (s.rget a).toNat 15 0) * (nsUnit / 8 : Nat)

/-- TSYNC_TIMER: PER ms after the last, on lane index 0, with the transmit time of its own reference plane; its version is that of the link
(R21). -/
def Dev.tsyncTimer (s : Dev) (p : Nat) : Dev :=
  let x := s.fport p
  if x.up && s.allAligned p && s.fbit (Reg.FAB_PCFG p) Reg.FAB_PCFG_TSEN_f then
    let s := s.pass (x.tsyncAt + Nat.max 1 (s.fget Reg.FAB_TCFG Reg.FAB_TCFG_PER_f) * 1000000 * nsUnit)
    let t3 := tsOf ((s.time : Int) + s.dly (Reg.FAB_TXDLY p))
    let rest := match x.tlast with
      | some (a, c) => tsWords a.1 a.2 ++ tsWords c.1 c.2
      | none => List.replicate 8 0
    let ver := if s.fget (Reg.FAB_PSTAT p) Reg.FAB_PSTAT_BVER_f = 1 then 1 else 2
    let b := mkBead (head0 ver 0x31 false false false) 0 0 0 0 0 0 0 (word x.tseq :: (tsWords t3 s.timeValid ++ rest))
    let s := s.onFport p fun x => { x with tsyncAt := s.elapsed, tseq := (x.tseq + 1) % 16 }
    s.cellRound p 2 0 1 (beadAll b)
  else s

/-- A quotient by 2^13 (half a difference in units of 0.0625 ns); where it is not whole the spec does not say which neighbour.
Log 147 (DESIGN CHOICE). -/
def Dev.half (s : Dev) (d : Int) : Int × Dev :=
  let f := d / 2 ^ 13
  if f * 2 ^ 13 = d then (f, s)
  else
    let (r, s) := s.free
    (f + (r % 2 : Nat), s)

/-- TSYNC_RX: the link delay and the partner's offset (R471). A delay outside [23:0] is not stated. Log 147 (DESIGN CHOICE). -/
def Dev.tsyncRx (s : Dev) (p : Nat) (b : Bead) : Dev :=
  match (s.fport p).linkIn.find? fun e => e.1 == b && b.op == 0x31 with
  | none => s
  | some e =>
    let t4 := tsOf ((e.2.1 : Int) - s.dly (Reg.FAB_RXDLY p))
    let t3 := tsAt b 1
    let t1 := tsAt b 5
    let t2 := tsAt b 9
    let s := s.onFport p fun x => { x with linkIn := x.linkIn.erase e, tlast := some (t3, (t4, e.2.2)) }
    let s := s.fput (Reg.FAB_TSTAT p) Reg.FAB_TSTAT_TSEQ_f (bits (b.pay 0) 3 0)
    if (b.payload.drop 5).all (· == 0) then s
    else
      let (d, s) := s.half (tsDiff t4 t1.1 - tsDiff t3.1 t2.1)
      let (o, s) := s.half (tsDiff t2.1 t1.1 - tsDiff t4 t3.1)
      let o := o - sx 16 (s.fget (Reg.FAB_ASYM p) Reg.FAB_ASYM_ASYM_f) * 2
      let (dv, s) := if 0 ≤ d ∧ d < 2 ^ 24 then (d.toNat, s) else s.free
      let s := (s.rset (Reg.FAB_TDLY p) (word dv)).rset (Reg.FAB_TOFS p) (wordI (clampI (-(2 ^ 23)) (2 ^ 23 - 1) o))
      let s := s.fset (Reg.FAB_TSTAT p) Reg.FAB_TSTAT_VALID_f true
      s.fset (Reg.FAB_TSTAT p) Reg.FAB_TSTAT_TV_f (e.2.2 && t1.2 && t2.2 && t3.2)

/-! ### Pool commands (R473, R474) -/

/-- The founder's number, where the device knows it. -/
def Dev.founderNum (s : Dev) : Option Nat :=
  if s.isFounder then (if s.numbered then some s.devnum else none)
  else ((s.fab.lsdb.find? (·.serial == s.fser)).filter (·.nv)).map (·.num)

/-- Whether a pool command may act here: from the founder's Abacist, from any with ANY = 1, or the device's own.
Log 148 (DEDUCED). -/
def Dev.poolMay (s : Dev) (b : Bead) : Bool :=
  serialAt b 0 == s.serial ||
    (b.sunit == 0x7F && (s.founderNum == some b.sdev || s.fbit Reg.FAB_PCMD Reg.FAB_PCMD_ANY_f))

/-- Whether a pool command names this device. Log 148 (DEDUCED). -/
def Dev.poolHere (s : Dev) (b : Bead) : Bool :=
  bits (b.pay 4) 19 19 == 1 || (s.numbered && bits (b.pay 4) 9 0 == s.devnum)

/-- A pool command with code `cmd` takes effect by `k`, or is denied and counted. Log 148 (DEDUCED). -/
def Dev.poolCmd (s : Dev) (b : Bead) (cmd : Nat) (k : Dev → Dev) : Dev :=
  if bits (b.pay 4) 23 20 = cmd then
    match s.takeFlooded b 0x3A with
    | none => s
    | some s =>
      if s.poolMay b then (if s.poolHere b then k s else s)
      else (s.count Reg.FAB_PCMDDENY_LO 1).raise 0x708 b.sdev
  else s

/-- POOLCMD_TALLY: TLY_AT is written as firmware would write it, ARM included (R473, R548). -/
def Dev.poolTally (s : Dev) (b : Bead) : Dev :=
  s.poolCmd b 0 fun s =>
    let s := (s.rset Reg.TLY_AT_S (word (b.pay 5))).rset Reg.TLY_AT_NSL (word (b.pay 6))
    s.tlyArmWrite (word (2 ^ 23 + bits (b.pay 7) 5 0))

end Sys2Proof.Machine
end

