-- ==== Sys2Proof/Machine/Pages.lean ====
section
/-! DEFINITION. The commands of reckoning memory: accesses and decodes, patrol scrub, re-encode, remap, flip test, flush,
initialisation (R275 to R297). -/

namespace Sys2Proof.Machine

/-- Reckoning memory before its initialisation has ended (R296): every page clean and 0, nothing in windows.
Log 9 (DESIGN CHOICE). -/
def rmReset : RMem :=
  { phys := [], store := [], wins := [], winData := [], winErr := [], clock := 0, waiting := [], initDone := false,
    ceLogAt := [], reenc := none, flushBusy := false, scrubHeld := none, scrubAt := 0, unread := [] }

/-- Update reckoning memory. -/
def Dev.onRm (s : Dev) (f : RMem → RMem) : Dev := { s with rm := f s.rm }

/-! ### Accesses (R275, R277) -/

/-- The accesses that wait for bank b, oldest first. -/
def Dev.memWaiting (s : Dev) (b : Nat) : List MemAccess := SMap.get s.rm.waiting [] b

/-- Store the accesses that wait for a bank. -/
def Dev.setWaiting (s : Dev) (b : Nat) (l : List MemAccess) : Dev :=
  s.onRm fun r => { r with waiting := SMap.set r.waiting [] b l }

/-- Serve an access and answer its requester. -/
def Dev.memServe (s : Dev) (a : MemAccess) : Dev :=
  if a.write then
    let (ok, s) := s.rmWrite a.word a.data a.lanes
    s.emit (.memResp a.req a.tag ok 0)
  else
    let (v, s) := s.rmRead a.word
    s.emit (.memResp a.req a.tag v.isSome (v.getD 0))

/-- Whether an access can be served from a window now. Log 4 (DESIGN CHOICE). -/
def Dev.memHit (s : Dev) (a : MemAccess) : Bool := s.rm.initDone && (s.winOf (a.word / 512)).isSome

/-- MEM_REQUEST: an access to word `o` of reckoning memory is served from a window, or waits for its bank's decoder (R275) or
for INITDONE (R296). A word beyond the memory names no page and changes nothing. -/
def Dev.memRequest (s : Dev) (a : MemAccess) : Dev :=
  if a.word / 512 < pages then
    let b := a.word / 512 % 32
    if s.memHit a then s.memServe a else s.setWaiting b (s.memWaiting b ++ [a])
  else s

/-- Serve the accesses at the front that a window holds; `l` bounds the recursion. -/
def Dev.memDrain (s : Dev) (b : Nat) (l : List MemAccess) : Dev :=
  match l with
  | [] => s.setWaiting b []
  | a :: t => if s.memHit a then (s.memServe a).memDrain b t else s.setWaiting b (a :: t)

/-- PAGE_DECODE_END: bank b's decoder ends with the page of its first waiting access, which is then served, and with it the
accesses behind it that windows hold (R274, R275). -/
def Dev.pageDecodeEnd (s : Dev) (b : Nat) : Dev :=
  if s.rm.initDone then
    match s.memWaiting b with
    | [] => s
    | a :: t => (s.memServe a).memDrain b t
  else s

/-- MEM_INIT_DONE: every page and spare is a clean code word of zeros and INITDONE is set (R296). -/
def Dev.memInitDone (s : Dev) : Dev := s.memInit

/-! ### Patrol scrub (R287, R288) -/

/-- The step interval: HOURS × 3,600 s / 3,072. Log 55 (DESIGN CHOICE). -/
def Dev.scrubInterval (s : Dev) : Nat :=
  Nat.max 1 (s.fget Reg.PGC_SCRUB_CTL Reg.PGC_SCRUB_CTL_HOURS_f) * (75 * secUnit / 64)

/-- Rewrite the stored copy of P from a window. -/
def Dev.rewriteFromWin (s : Dev) (P w tc ver : Nat) : Dev :=
  let (dbl, s) := s.winCheck P
  if dbl then (s.poisonPage P (s.place P) tc ver).memLog 8 P 0 0
  else
    let x := s.win (P % 32) w
    s.writePage P (s.place P) tc ver x.poison (s.winStoreData P x)

/-- Remap P when a decode at strength `tc` calls for it (R293). Log 54 (DEDUCED). -/
def Dev.autoRemap (s : Dev) (P tc : Nat) (d : Decode) : Dev := if s.wantsRemap P tc d then s.remap P false else s

/-- The scrubber's action at one page (R288). Log 47 (DESIGN CHOICE). -/
def Dev.scrubPage (s : Dev) (P : Nat) : Dev :=
  let r := Reg.PGC_REG (P / 256)
  let m := s.phys (s.place P)
  if s.fbit r Reg.PGC_REG_PASSFLAG_f && m.ver == s.fget r Reg.PGC_REG_REVER_f then s.count Reg.PGC_SCRUB_SKIP_LO 1
  else
    let w := s.winOf P
    let dirty := match w with | some w => (s.win (P % 32) w).dirty | none => false
    if dirty then s
    else
      let d := s.decode P
      let tc := s.strength P
      let s1 := s.noteDecode P 1 d
      match d with
      | .clean _ => s1
      | .corrected _ res =>
        let s1 := s1.writePage P (s.place P) tc (m.after res).ver (m.after res).poison (flipData (s.storedData (s.place P)) res)
        (s1.count Reg.PGC_SCRUB_FIX_LO 1).autoRemap P tc d
      | .uncorrectable =>
        let s1 := match w with
          | some w => s1.rewriteFromWin P w tc m.ver
          | none => s1.poisonPage P (s.place P) tc m.ver
        s1.autoRemap P tc d

/-- SCRUB_STEP: the step interval ends and the scrubber visits page-in-bank CURSOR of every bank (R287). -/
def Dev.scrubStep (s : Dev) : Dev :=
  if s.fbit Reg.PGC_SCRUB_CTL Reg.PGC_SCRUB_CTL_EN_f && s.rm.initDone && decide (s.pwr.mode ≤ 1) then
    let due := s.rm.scrubAt + s.scrubInterval
    let s := (s.pass due).onRm fun r => { r with scrubAt := due }
    let j := s.fget Reg.PGC_SCRUB_STAT Reg.PGC_SCRUB_STAT_CURSOR_f
    let s := (List.range 32).foldl (fun s b => s.scrubPage (j * 32 + b)) s
    if j ≥ 3071 then
      let s := s.fput Reg.PGC_SCRUB_STAT Reg.PGC_SCRUB_STAT_CURSOR_f 0
      let s := s.fput Reg.PGC_SCRUB_STAT Reg.PGC_SCRUB_STAT_PASS_f (s.fget Reg.PGC_SCRUB_STAT Reg.PGC_SCRUB_STAT_PASS_f + 1)
      (List.range 384).foldl (fun s r =>
        if s.fbit (Reg.PGC_REG r) Reg.PGC_REG_PASSFLAG_f then s.fset (Reg.PGC_REG r) Reg.PGC_REG_PASSFLAG_f false else s) s
    else s.fput Reg.PGC_SCRUB_STAT Reg.PGC_SCRUB_STAT_CURSOR_f (j + 1)
  else s

/-- SCRUB_CTL_WRITE: setting EN, or changing HOURS while EN = 1, restarts the step interval (R287). -/
def Dev.scrubCtlWrite (s : Dev) (w : Word) : Dev :=
  let was := s.fbit Reg.PGC_SCRUB_CTL Reg.PGC_SCRUB_CTL_EN_f
  let en := getF w Reg.PGC_SCRUB_CTL_EN_f == 1
  let hours := getF w Reg.PGC_SCRUB_CTL_HOURS_f
  let restart := en && (!was || hours != s.fget Reg.PGC_SCRUB_CTL Reg.PGC_SCRUB_CTL_HOURS_f)
  let s := (s.fset Reg.PGC_SCRUB_CTL Reg.PGC_SCRUB_CTL_EN_f en).fput Reg.PGC_SCRUB_CTL Reg.PGC_SCRUB_CTL_HOURS_f hours
  if restart then s.onRm fun r => { r with scrubAt := s.elapsed } else s

/-- The scrubber stops in RETAIN; the time spent there does not count (R287). Log 55 (DESIGN CHOICE). -/
def Dev.scrubHold (s : Dev) : Dev := s.onRm fun r => { r with scrubHeld := some s.elapsed }

/-- The scrubber goes on after RETAIN. Log 55 (DESIGN CHOICE). -/
def Dev.scrubGo (s : Dev) : Dev :=
  match s.rm.scrubHeld with
  | some t => s.onRm fun r => { r with scrubHeld := none, scrubAt := r.scrubAt + (s.elapsed - t) }
  | none => s

/-! ### Region re-encode (R289 to R291) -/

/-- REENCODE_CMD: a write of PGC_RECMD; GO starts a re-encode or sets ERR (R290). -/
def Dev.recmdWrite (s : Dev) (w : Word) : Dev :=
  let tn := getF w Reg.PGC_RECMD_TNEW_f
  let r := getF w Reg.PGC_RECMD_REGION_f
  let s := if getF w Reg.PGC_RECMD_ERR_f = 1 then s.fset Reg.PGC_RECMD Reg.PGC_RECMD_ERR_f false else s
  let s := (s.fput Reg.PGC_RECMD Reg.PGC_RECMD_TNEW_f tn).fput Reg.PGC_RECMD Reg.PGC_RECMD_REGION_f r
  if getF w Reg.PGC_RECMD_GO_f = 1 then
    if s.rm.reenc.isSome ∨ tn > 4 ∨ r > 383 then s.fset Reg.PGC_RECMD Reg.PGC_RECMD_ERR_f true
    else
      let a := Reg.PGC_REG r
      let s := (s.fset a Reg.PGC_REG_BUSY_f true).fset a Reg.PGC_REG_PASSFLAG_f true
      let s := (s.fput a Reg.PGC_REG_REVER_f (s.fget a Reg.PGC_REG_REVER_f + 1)).fput a Reg.PGC_REG_CURSOR_f 0
      (s.fput a Reg.PGC_REG_TNEW_f tn).onRm fun m => { m with reenc := some r }
  else s

/-- The held window copy of a page that the re-encoder has rewritten: clean, with the new VER. Log 54 (DEDUCED). -/
def Dev.winReencoded (s : Dev) (P ver : Nat) : Dev :=
  match s.winOf P with
  | some w =>
    let x := s.win (P % 32) w
    s.setWin (P % 32) w { x with dirty := false, mask := if x.dirty then 0 else x.mask, ver := ver }
  | none => s

/-- The rewriting of page P at strength `tn` with VER `ver` (R290 step 2), and the decode it made. Log 54 (DEDUCED). -/
def Dev.reencodeOne (s : Dev) (P tn ver : Nat) : Decode × Dev :=
  let pp := s.place P
  let m := s.phys pp
  match (s.winOf P).filter fun w => (s.win (P % 32) w).dirty with
  | some w => (.clean [], (s.rewriteFromWin P w tn ver).winReencoded P ver)
  | none =>
    let d := s.decode P
    let s1 := s.noteDecode P 2 d
    let s2 := match d with
      | .clean res => s1.writePage P pp tn ver (m.after res).poison (flipData (s.storedData pp) res)
      | .corrected _ res => s1.writePage P pp tn ver (m.after res).poison (flipData (s.storedData pp) res)
      | .uncorrectable => match s.winOf P with
        | some w => s1.rewriteFromWin P w tn ver
        | none => s1.poisonPage P pp tn ver
    (d, s2.winReencoded P ver)

/-- REENCODE_PAGE: the re-encoder rewrites page CURSOR of its region and advances CURSOR; the last page ends it (R290). It works on
memory that is initialised (R296). -/
def Dev.reencodePage (s : Dev) : Dev :=
  match s.rm.reenc.filter fun _ => s.rm.initDone with
  | none => s
  | some r =>
    let a := Reg.PGC_REG r
    let tc := s.fget a Reg.PGC_REG_TCUR_f
    let i := s.fget a Reg.PGC_REG_CURSOR_f
    let P := r * 256 + i
    let tn := s.fget a Reg.PGC_REG_TNEW_f
    let (d, s) := s.reencodeOne P tn (s.fget a Reg.PGC_REG_REVER_f)
    let s :=
      if i < 255 then s.fput a Reg.PGC_REG_CURSOR_f (i + 1)
      else
        let s := ((s.fput a Reg.PGC_REG_TCUR_f tn).fset a Reg.PGC_REG_BUSY_f false).fput a Reg.PGC_REG_CURSOR_f 0
        (s.onRm fun m => { m with reenc := none }).raise 0x205 r
    s.autoRemap P tc d

/-! ### Remap, flip test, flush (R292, R294, R295) -/

/-- REMAP_CMD: a write of PGC_REMAP (R292). Log 52 (DEDUCED). -/
def Dev.remapWrite (s : Dev) (w : Word) : Dev :=
  let P := getF w Reg.PGC_REMAP_PAGE_f
  let s := if getF w Reg.PGC_REMAP_ERR_f = 1 then s.fset Reg.PGC_REMAP Reg.PGC_REMAP_ERR_f false else s
  let s := s.fput Reg.PGC_REMAP Reg.PGC_REMAP_PAGE_f P
  if getF w Reg.PGC_REMAP_GO_f = 1 then
    if P < pages then s.memInit.remap P true else s.fset Reg.PGC_REMAP Reg.PGC_REMAP_ERR_f true
  else s

/-- FLIP_ARM: a write of PGC_FLIP_MASK (R294). -/
def Dev.flipMaskWrite (s : Dev) (w : Word) : Dev :=
  let s := if getF w Reg.PGC_FLIP_MASK_DONE_f = 1 then s.fset Reg.PGC_FLIP_MASK Reg.PGC_FLIP_MASK_DONE_f false else s
  let s := s.fput Reg.PGC_FLIP_MASK Reg.PGC_FLIP_MASK_ARM_f (getF w Reg.PGC_FLIP_MASK_ARM_f)
  s.fput Reg.PGC_FLIP_MASK Reg.PGC_FLIP_MASK_PAGE_f (getF w Reg.PGC_FLIP_MASK_PAGE_f)

/-- Write back, and with `drop` free, window w of bank b. -/
def Dev.flushWin (s : Dev) (drop : Bool) (b w : Nat) : Dev :=
  let s := s.writeBack b w
  if drop then s.winDrop b w else s

/-- FLUSH_CMD: a write of MEM_FLUSH (R295). Log 53 (DESIGN CHOICE). -/
def Dev.flushWrite (s : Dev) (w : Word) : Dev :=
  let P := getF w Reg.MEM_FLUSH_PAGE_f
  let drop := getF w Reg.MEM_FLUSH_DROP_f == 1
  let all := getF w Reg.MEM_FLUSH_ALL_f == 1
  let s := if getF w Reg.MEM_FLUSH_ERR_f = 1 then s.fset Reg.MEM_FLUSH Reg.MEM_FLUSH_ERR_f false else s
  let s := (s.fset Reg.MEM_FLUSH Reg.MEM_FLUSH_ALL_f all).fset Reg.MEM_FLUSH Reg.MEM_FLUSH_DROP_f drop
  let s := s.fput Reg.MEM_FLUSH Reg.MEM_FLUSH_PAGE_f P
  if getF w Reg.MEM_FLUSH_GO_f = 1 ∧ ¬ s.rm.flushBusy then
    if all then
      let s := (List.range 256).foldl (fun s k => if (s.win (k / 8) (k % 8)).dirty then s.flushWin drop (k / 8) (k % 8) else s) s
      s.onRm fun m => { m with flushBusy := true }
    else if P < pages then
      let s := match s.winOf P with | some w => s.flushWin drop (P % 32) w | none => s
      s.onRm fun m => { m with flushBusy := true }
    else s.fset Reg.MEM_FLUSH Reg.MEM_FLUSH_ERR_f true
  else s

/-- FLUSH_DONE: every write-back has its response (R295). Log 53 (DESIGN CHOICE). -/
def Dev.flushDone (s : Dev) : Dev := s.onRm fun m => { m with flushBusy := false }

/-- A write of PGC_LOGCTL: OVF clears by 1; advancing TAIL reads the records that it passes (R284). Log 49 (DEDUCED). -/
def Dev.logctlWrite (s : Dev) (w : Word) : Dev :=
  let s := if getF w Reg.PGC_LOGCTL_OVF_f = 1 then s.fset Reg.PGC_LOGCTL Reg.PGC_LOGCTL_OVF_f false else s
  let t := getF w Reg.PGC_LOGCTL_TAIL_f
  let old := s.fget Reg.PGC_LOGCTL Reg.PGC_LOGCTL_TAIL_f
  let read (h : Nat) : Bool := decide ((h + 64 - old) % 64 < (t + 64 - old) % 64)
  (s.fput Reg.PGC_LOGCTL Reg.PGC_LOGCTL_TAIL_f t).onRm fun m => { m with unread := m.unread.filter fun h => !(read h) }

/-! ### Live fields (R299) -/

/-- MEM_BANK_b as it reads. -/
def Dev.bankWord (s : Dev) (b : Nat) : Word :=
  let valid := (List.range 8).foldl (fun n w => n + bit (s.win b w).page.isSome * 2 ^ w) 0
  let dirty := (List.range 8).foldl (fun n w => n + bit (s.win b w).dirty * 2 ^ w) 0
  word (valid * 2 ^ 16 + dirty * 2 ^ 8 + (s.freeSpares b).length)

end Sys2Proof.Machine
end

