-- ==== Sys2Proof/Machine/QueueCmd.lean ====
section
/-! DEFINITION. The commands of queues: beads for a queue's unit and the Q reset (R330, R331, R336). -/

namespace Sys2Proof.Machine

/-- Whether a bead for queue n comes from its producer, and the queue is no inbox or deadline queue (R330). -/
def Dev.qProducer (s : Dev) (n : Nat) (b : Bead) : Bool :=
  let p := s.rget (Reg.QUE_PROD n)
  !(s.isInbox n) && !(s.isDlq n) && getF p Reg.QUE_PROD_VALID_f == 1 && b.sdev == s.devnum &&
    b.sunit == getF p Reg.QUE_PROD_UNIT_f

/-- QUEUE_BEAD_RX: a bead for a queue's unit is pushed whole; any that the queue does not accept is dropped whole and counted, whatever
its opcode (R330, R331). Log 103 (DEDUCED). -/
def Dev.queueBeadRx (s : Dev) (b : Bead) : Dev :=
  let n := b.dunit - 0x400
  if 0x400 ≤ b.dunit ∧ b.dunit < 0x800 then
    s.arrive b true fun s =>
      if s.qOn n && s.qProducer n b && (b.op == 0x20 || b.op == 0x18 || b.rsp) then
        match s.qPushWhole n b.payload with
        | (true, s) => s
        | (false, s) => s.qDrop n
      else s.qDrop n
  else s

/-- QUE_RESET: a Q reset of queue n (R336); launch lists that the queue feeds reach their head again (R76). Log 102 (DEDUCED). -/
def Dev.queReset (s : Dev) (n : Nat) : Dev := (s.qReset n).feedReset n

/-- A write of QUE_CTL_n. -/
def Dev.queCtlWrite (s : Dev) (n : Nat) (w : Word) : Dev :=
  if getF w Reg.QUE_CTL_RST_f = 1 then s.queReset n else s

end Sys2Proof.Machine
end

