-- ==== Sys2Proof/Machine/Units.lean ====
section
/-! DEFINITION. Unit resets and fences (R533, R551 to R554), and what a domain loses when it goes OFF (R479). -/

namespace Sys2Proof.Machine

/-! ### The registers of a unit -/

/-- The first register offset and the size of the block of a unit that a D reset may name, where it has one block.
Log 176 (DEDUCED). -/
def unitBlock (u : Nat) : Option (Nat × Nat) :=
  if u < 0x70 then some (Reg.RCK_CTL u, 0x10)
  else if u == 0x7F then some (Reg.RCK_CTL 112, 0x10)
  else if 0x80 ≤ u ∧ u ≤ 0x97 then some (Reg.SPC_CTL (u - 0x80), 0x10)
  else if 0x98 ≤ u ∧ u ≤ 0xA7 then some (Reg.TRL_CTL (u - 0x98), 0x10)
  else if 0xA8 ≤ u ∧ u ≤ 0xB3 then some (Reg.TRB_CTL (u - 0xA8), 0x10)
  else if 0xB4 ≤ u ∧ u ≤ 0xBB then some (Reg.ENC_CTL (u - 0xB4), 0x10)
  else if 0xBC ≤ u ∧ u ≤ 0xCB then some (Reg.BDT_CTL (u - 0xBC), 0x100)
  else if 0xCC ≤ u ∧ u ≤ 0xD3 then some (Reg.RAD_CTL (u - 0xCC), 0x10)
  else if 0xD4 ≤ u ∧ u ≤ 0xDB then some (Reg.DFE_CTL (u - 0xD4), 0x1000)
  else if 0xDC ≤ u ∧ u ≤ 0xE9 then some (Reg.CMX_CTL (u - 0xDC), 0x10)
  else none

/-- Whether a register belongs to the unit. -/
def inUnit (u a : Nat) : Bool :=
  match unitBlock u with
  | some (b, n) => decide (b ≤ a) && decide (a < b + n)
  | none => false

/-- Whether R533 lists a unit: a core, the Abacist, an accelerator, a DMA engine, a fabric port. Lanes have no unit
number. -/
def unitResets (u : Nat) : Bool := (unitBlock u).isSome || u == 0x200 || u == 0x201 || decide (0x300 ≤ u ∧ u ≤ 0x30F)

/-- Whether a unit can be fenced (R551). -/
def unitFences (u : Nat) : Bool := u != 0x7F && ((unitBlock u).isSome || u == 0x200 || u == 0x201)

/-! ### The state of a unit -/

/-- The core number of a unit. -/
def coreOfUnit (u : Nat) : Nat := if u == 0x7F then 112 else u

/-- A fenced unit holds FENCED (R551). -/
def Dev.fenceHold (s : Dev) (u : Nat) : Dev :=
  if u < 0x70 then s.onCore u fun c => { c with st := .fenced }
  else if 0xDC ≤ u ∧ u ≤ 0xE9 then s.setCmx (u - 0xDC) { s.cmxOf (u - 0xDC) with fenced := true }
  else if u == 0x200 ∨ u == 0x201 then (List.range 64).foldl (fun s c => s.setDmaState (u - 0x200) c 7) s
  else s

/-- The Abacist restarts at ENTRY, with its local memory kept (R533, R556). -/
def Dev.abacistRestart (s : Dev) : Dev :=
  let s := s.coreDReset 112
  let s := s.fset (Reg.RCK_CTL 112) Reg.RCK_CTL_RUN_f true
  s.onCore 112 fun c => { c with st := .run }

/-- A running job of a reset unit ends FAILED with status [20:16] = 0x1E and [15:0] = 0 (R533); a turbo decoder sends the result bead of
the job first (R188). -/
def Dev.jobsFail (s : Dev) (u : Nat) : Dev :=
  (s.jobsOf u).foldl (fun s j =>
    let s := if 0xA8 ≤ u ∧ u ≤ 0xB3 then s.trbResult u j (trbDesc (j.bead.drop 4)) false 0 false true 0 [] else s
    s.jobEnd u j 1 (0x1E * 2 ^ 16) []) s

/-- The effect of a D reset on a unit (R533). Log 176 (DEDUCED). -/
def Dev.unitDReset (s : Dev) (u : Nat) : Dev :=
  if u < 0x70 then
    let s := s.coreDReset u
    if s.fenced u then s.fenceHold u else s
  else if u == 0x7F then s.abacistRestart
  else if 0xDC ≤ u ∧ u ≤ 0xE9 then
    let s := (s.cmxDReset (u - 0xDC)).resetRegs .D (inUnit u)
    if s.fenced u then s.fenceHold u else s
  else if u == 0x200 ∨ u == 0x201 then
    let s := s.dmaDReset (u - 0x200)
    if s.fenced u then s.fenceHold u else s
  else if 0x300 ≤ u ∧ u ≤ 0x30F then s.fabDown (u - 0x300)
  else if 0xD4 ≤ u ∧ u ≤ 0xDB then (((s.jobsFail u).dfeDrop (u - 0xD4)).resetRegs .D (inUnit u)).nfStart (u - 0xD4)
  else if 0xBC ≤ u ∧ u ≤ 0xCB then (s.detAbort (u - 0xBC)).clearRegs (inUnit u)
  else if (unitBlock u).isSome then (s.jobsFail u).clearRegs (inUnit u)
  else s

/-- RST_CMD_UNIT: a D reset by command (R527, R533). A unit that is away or not listed is ignored with ERR, as is every request
outside RUN. -/
def Dev.rstUnit (s : Dev) (u : Nat) : Dev :=
  if s.pwr.mode = 0 ∧ unitResets u ∧ s.unitOn u then
    let s := s.unitDReset u
    if u == 0x7F then s.raise 0x003 0 else s
  else s.fset Reg.RST_STAT Reg.RST_STAT_ERR_f true

/-! ### Outstanding writes (R531 step 2) -/

/-- An abandoned write leaves its word with the old or the new value: a free choice; a part of a register word changes
nothing (R11). Log 177 (DESIGN CHOICE). -/
def Dev.abandonWrite (s : Dev) (st : PStore) : Dev :=
  let (v, s) := s.free
  if v % 2 = 0 then s
  else match placeOf st.addr with
    | .creg o => if st.lanes = allLanes then s.storeRw o st.data else s
    | _ => (s.memWrite st.addr st.data st.lanes).2

/-- Every outstanding posted store of a core is abandoned. Log 177 (DESIGN CHOICE). -/
def Dev.abandonStores (s : Dev) (n : Nat) : Dev :=
  let s := (s.core n).stores.foldl (fun s st => s.abandonWrite st) s
  s.onCore n fun c => { c with stores := [] }

/-! ### Fencing (R551 to R554) -/

/-- The unit's bit in the fence map. -/
def Dev.fenceMark (s : Dev) (u : Nat) : Dev :=
  let r := Reg.STC_FENCEMAP (fenceSlot u).1
  s.rset r (s.rget r ||| word (2 ^ (fenceSlot u).2))

/-- What a fence does to the unit's work (R552), with the D reset that goes with it. -/
def Dev.fenceWork (s : Dev) (u : Nat) : Dev :=
  if u < 0x70 then (s.abandonStores u).coreDReset u
  else if 0xDC ≤ u ∧ u ≤ 0xE9 then ((s.cmxFence (u - 0xDC)).cmxDReset (u - 0xDC)).resetRegs .D (inUnit u)
  else if u == 0x200 ∨ u == 0x201 then s.dmaFence (u - 0x200)
  else if 0xD4 ≤ u ∧ u ≤ 0xDB then ((s.jobsMigrate u).dfeDrop (u - 0xD4)).resetRegs .D (inUnit u)
  else if 0xBC ≤ u ∧ u ≤ 0xCB then (s.detAbort (u - 0xBC)).clearRegs (inUnit u)
  else (s.jobsMigrate u).clearRegs (inUnit u)

/-- A fence takes effect: UNIT_FENCED goes ahead of the events that follow from it (R540). In a domain that is retained or OFF the unit only holds FENCED; its D reset waits for the domain
(R551). Log 121 (DEDUCED), 178 (DEDUCED). -/
def Dev.fenceNow (s : Dev) (u : Nat) : Dev :=
  let s := (s.fenceMark u).raise 0x320 u
  let s1 := if s.unitOn u then s.fenceWork u
    else s.onPwr fun p => { p with resetAtOn := p.resetAtOn ++ [u] }
  s1.fenceHold u

/-- Whether the loader is in APPLY, which makes a fence wait (R359). -/
def Dev.stcApply (s : Dev) : Bool := s.fget Reg.STC_STAT Reg.STC_STAT_STATE_f == 3

/-! ### Domains that lose their state (R479) -/

/-- The register offsets of the blocks a domain holds beside its units' own: they return to their P values. -/
def domRegs (d a : Nat) : Bool :=
  if 158 ≤ d ∧ d ≤ 173 then decide (Reg.LAN_QCFG (d - 158) ≤ a) && decide (a < Reg.LAN_QCFG (d - 158) + 0x40)
  else if d = 203 then a / 0x10000 == 24
  else if d = 204 then a / 0x10000 == 9
  else if d = 205 ∨ d = 206 then decide (0x60100 + (d - 205) * 0x8000 ≤ a) && decide (a < 0x60900 + (d - 205) * 0x8000)
  else if d = 207 then a / 0x10000 == 7 || a / 0x10000 == 8 || a / 0x10000 == 11 || a / 0x10000 == 23
  else if d = 208 then a / 0x10000 == 26 || a / 0x10000 == 22
  else false

/-- A domain has gone OFF: what its units held is lost. -/
def Dev.domLost (s : Dev) (d : Nat) : Dev :=
  if d < 112 then s.coreOff d
  else if d < 126 then (s.cmxDReset (d - 112)).clearRegs (inUnit (0xDC + (d - 112)))
  else if 158 ≤ d ∧ d ≤ 173 then
    let q := d - 158
    let s := (List.range 4).foldl (fun s i => s.onLane (q * 4 + i) fun _ => laneReset) s
    (s.onQuad q fun x => { quadReset with refOk := x.refOk, fref := x.fref }).clearRegs (domRegs d)
  else if d = 203 then s.brgReset.clearRegs (domRegs d)
  else if d = 205 ∨ d = 206 then
    let e := d - 205
    { s.clearRegs (domRegs d) with dma := { s.dma with
        chans := SMap.drop s.dma.chans fun k => k / 64 == e
        turns := SMap.drop s.dma.turns fun k => k / 4 == e } }
  else (domUnits d).foldl (fun s u =>
    let s := { s with jobs := { s.jobs with running := SMap.drop s.jobs.running fun k => k == u } }
    let s := if 0xD4 ≤ u ∧ u ≤ 0xDB then s.dfeDrop (u - 0xD4) else s
    let s := if 0xBC ≤ u ∧ u ≤ 0xCB then
        s.onBrx fun b => { b with insts := b.insts.filter fun e => match e.2 with
          | some x => x.det != u - 0xBC
          | none => true } else s
    s.clearRegs (inUnit u)) s

/-- A domain comes ON: units fenced meanwhile take their D reset (R551), a core whose memory was lost has it zeroed (R479). -/
def Dev.domUp (s : Dev) (d : Nat) (lost : Bool) : Dev :=
  let us := s.pwr.resetAtOn.filter fun u => unitDomain u == some d
  let s := us.foldl (fun s u => s.unitDReset u) s
  let s := s.onPwr fun p => { p with resetAtOn := p.resetAtOn.filter fun u => !us.contains u }
  if lost && decide (d < 112) then s.onCore d fun c => { c with lmBusy := true } else s

/-- Move a domain to a state. -/
def Dev.moveDom (s : Dev) (d : Nat) (x : DomSt) : Dev :=
  let old := s.dom d
  let s := s.setDom d x
  if x == .off && old != .off then
    (domUnits d).foldl (fun s u => if s.fenced u then s.fenceHold u else s) (s.domLost d)
  else if x == .on && old != .on then s.domUp d (old == .off)
  else s

/-- Every domain takes the state that R480 gives it; lanes and ports follow. -/
def Dev.settleDomains (s : Dev) : Dev :=
  ((List.range 212).foldl (fun s d =>
    let x := (s.domRule d).2
    if s.dom d = x then s else s.moveDom d x) s).laneSettle

/-! ### The fence command (R551) -/

/-- STC_FENCE: a write of STC_FENCE with GO (R551); a domain whose units are then all fenced goes OFF (R480). Log 178 (DEDUCED). -/
def Dev.fenceWrite (s : Dev) (w : Word) : Dev :=
  let s := if getF w Reg.STC_FENCE_ERR_f = 1 then s.fset Reg.STC_FENCE Reg.STC_FENCE_ERR_f false else s
  let u := getF w Reg.STC_FENCE_UNIT_f
  let s := s.fput Reg.STC_FENCE Reg.STC_FENCE_UNIT_f u
  if getF w Reg.STC_FENCE_GO_f = 0 then s
  else if !(unitFences u) || s.fenced u || s.stc.fenceWait.contains u then s.fset Reg.STC_FENCE Reg.STC_FENCE_ERR_f true
  else if s.stcApply then { s with stc := { s.stc with fenceWait := s.stc.fenceWait ++ [u] } }
  else (s.fenceNow u).settleDomains

/-- The fences that waited for the end of APPLY take effect. Log 178 (DEDUCED). -/
def Dev.fencesGo (s : Dev) : Dev :=
  let us := s.stc.fenceWait
  if us = [] then s
  else (us.foldl (fun (d : Dev) u => d.fenceNow u) { s with stc := { s.stc with fenceWait := [] } }).settleDomains

end Sys2Proof.Machine
end

