-- ==== Sys2Proof/Machine/Island.lean ====
section
/-! DEFINITION. What the security island derives from OTP: lifecycle, key slots, anti-rollback counters, policy (R501 to R504,
R509), the manifest and its check (R340, R350, R351), identity (R514), zeroisation (R521), the island's state after a
reset. -/

namespace Sys2Proof.Machine

/-! ### OTP (R501) -/

/-- Update the island. -/
def Dev.onSec (s : Dev) (f : Sec → Sec) : Dev := { s with sec := f s.sec }

/-- Write a row, once. -/
def Dev.otpWrite (s : Dev) (r v : Nat) : Dev :=
  if s.otpWritten r then s else s.onSec fun x => { x with otp := SMap.set x.otp none r (some (v % 2 ^ 24)) }

/-- Write consecutive rows. -/
def Dev.otpWriteN (s : Dev) (r : Nat) (vs : List Nat) : Dev :=
  (vs.zipIdx).foldl (fun s (e : Nat × Nat) => s.otpWrite (r + e.2) e.1) s

/-- SUP_STAT.MGOOD and BGOOD, without which the island writes no OTP. -/
def Dev.supplyOk (s : Dev) : Bool := s.pwr.main.good && s.pwr.back.good

/-! ### Lifecycle (R503) -/

/-- Write the markers up to the given state. Log 172 (DEDUCED). -/
def Dev.lcWrite (s : Dev) (state : Nat) : Dev :=
  (List.range state).foldl (fun s r => if s.markerRow r = 0 then s.otpWrite r (0x5AC300 + r) else s) s

/-! ### Root key slots and anti-rollback counters (R506, R509) -/

/-- SEC_SLOT_k.PROG: the digests of slot k are written. -/
def Dev.slotProg (s : Dev) (k : Nat) : Bool := (List.range 32).all fun i => s.otpWritten (16 + 32 * k + i)

/-- SEC_SLOT_k.REV. -/
def Dev.slotRev (s : Dev) (k : Nat) : Bool := s.otpWritten (272 + k)

/-- A slot that may sign. -/
def Dev.slotLive (s : Dev) (k : Nat) : Bool := s.slotProg k && !s.slotRev k

/-- The digest words of a slot: Ed25519 first. -/
def Dev.slotDigest (s : Dev) (k : Nat) (ml : Bool) : List Nat := (List.range 16).map fun i => s.otpRow (16 + 32 * k + 16 * bit ml + i)

/-- The rows of counter k that are written. -/
def Dev.arbRows (s : Dev) (k : Nat) : List Nat := (List.range 6).filter fun i => s.otpWritten (291 + 6 * k + i)

/-- The value of anti-rollback counter k: the largest of its written rows; one that reads uncorrectable is ignored. -/
def Dev.arb_ (s : Dev) (k : Nat) : Nat :=
  (s.arbRows k).foldl (fun m i => if s.otpBad (291 + 6 * k + i) then m else Nat.max m (s.otpRow (291 + 6 * k + i))) 0

/-! ### Policy (R502) -/

/-- The lowest response permitted for every sensor, as SEC_TAMPCFG.RESP holds them; an uncorrectable policy row gives the
highest (R502, R523). -/
def Dev.tampFloor (s : Dev) : Nat :=
  if (List.range 29).any fun i => s.otpBad (483 + i) then 2 ^ 14 - 1 else s.policy 6 1429 % 2 ^ 14

/-! ### Bytes of words (R340) -/

/-- The bytes of words: lanes 0, 1 and 2 of each. -/
def wordBytes (ws : List Word) : List Nat := ws.flatMap fun w => [w.toNat % 256, w.toNat / 256 % 256, w.toNat / 65536]

/-- The first `n` bytes of words. -/
def bytesN (ws : List Word) (n : Nat) : List Nat := (wordBytes ws).take n

/-- Bytes packed in words, the last padded with zero bytes. -/
def bytesWords (bs : List Nat) : List Word :=
  (List.range ((bs.length + 2) / 3)).map fun i =>
    word (bs.getD (3 * i) 0 % 256 + bs.getD (3 * i + 1) 0 % 256 * 256 + bs.getD (3 * i + 2) 0 % 256 * 65536)

/-- Exactly `n` bytes. Log 162 (PRESUMED). -/
def fitBytes (n : Nat) (bs : List Nat) : List Nat := (bs ++ List.replicate n 0).take n

/-- SHA3-384 as 48 bytes. -/
def sha3 (bs : List Nat) : List Nat := fitBytes 48 (Config.sha3 bs)

/-- The bytes of an ASCII string. -/
def ascii (t : String) : List Nat := t.toList.map fun c => c.toNat

/-! ### The manifest (R350, R351) -/

/-- The length of a manifest in words. -/
def manifestLen : Nat := 1819

/-- A manifest by its parts. -/
structure Manifest where
  magic : Nat
  slot : Nat
  arb : Nat
  svn : Nat
  clear : Bool
  unsigned : Bool
  d : List Nat
  edKey : List Nat
  mlKey : List Nat
  edSig : List Nat
  mlSig : List Nat

/-- The parts of a manifest's words. Log 165 (DEDUCED). -/
def manifestOf (m : List Word) : Manifest :=
  let part (a b n : Nat) : List Nat := bytesN ((m.drop a).take (b + 1 - a)) n
  { magic := (m.getD 0 0).toNat
    slot := bits (m.getD 1 0).toNat 23 20
    arb := bits (m.getD 1 0).toNat 4 0
    svn := (m.getD 2 0).toNat
    clear := bits (m.getD 1 0).toNat 19 5 == 0 && ((m.drop 3).take 13).all fun w => w.toNat == 0
    unsigned := ((m.drop 3).take 13 ++ m.drop 32).all fun w => w.toNat == 0
    d := part 16 31 48
    edKey := part 32 42 32
    mlKey := part 43 693 1952
    edSig := part 694 715 64
    mlSig := part 716 1818 3309 }

/-- The digest that a manifest must hold for an image: words 0 to MOFS + 15. -/
def imageDigest (ws : List Word) (mofs : Nat) : List Nat := sha3 (wordBytes (ws.take (mofs + 16)))

/-- Whether the keys of a manifest are those of its slot. -/
def Dev.keyOk (s : Dev) (m : Manifest) (ml : Bool) : Bool :=
  bytesWords (sha3 (if ml then m.mlKey else m.edKey)) == (s.slotDigest m.slot ml).map word

/-- Whether a slot belongs to a signer class: 0 vendor, 1 owner, 2 either. -/
def slotClass (slot cls : Nat) : Bool :=
  match cls with
  | 0 => decide (slot < 4)
  | 1 => decide (4 ≤ slot) && decide (slot < 8)
  | _ => decide (slot < 8)

/-- The island's check of a signed image (R351): 0, or the CAUSE of R507 that names what fails. Both signatures are verified
in every case (R500); that shows nowhere else. -/
def Dev.verify (s : Dev) (ws : List Word) (mofs cls : Nat) : Nat :=
  let m := manifestOf ((ws.drop mofs).take manifestLen)
  if !(slotClass m.slot cls) || !(s.slotLive m.slot) then 2
  else if m.d != imageDigest ws mofs then 1
  else if !(s.keyOk m false) || !(Config.edVerify m.edKey m.d m.edSig) then 3
  else if !(s.keyOk m true) || !(Config.mlVerify m.mlKey m.d m.mlSig) then 4
  else if m.svn < s.arb_ m.arb then 14
  else 0

/-! ### Identity (R514) -/

/-- The unique device secret, 32 bytes; cut off in SCRAPPED. -/
def Dev.uds (s : Dev) : List Nat := fitBytes 32 (wordBytes ((List.range 11).map fun i => word (s.otpRow (280 + i))))

/-- The scopes unlocked. Log 183 (DESIGN CHOICE). -/
def Dev.scopes (s : Dev) : Nat := s.fget Reg.SEC_STAT Reg.SEC_STAT_DEBUG_f

/-- CDI_0, and CDI_1 and CDI_2 as far as their measurements exist. Log 169 (DEDUCED). -/
def Dev.derive (s : Dev) : Dev :=
  let c0 := sha3 (ascii "FL-CDI0" ++ s.uds ++ [s.lc] ++ [s.scopes])
  let cs := match s.sec.fw with
    | none => [c0]
    | some f =>
      let c1 := sha3 (ascii "FL-CDI1" ++ c0 ++ f.d ++ wordBytes [word f.svn])
      match s.sec.img with
      | none => [c0, c1]
      | some i => [c0, c1, sha3 (ascii "FL-CDI2" ++ c1 ++ i.d)]
  if s.sec.udsClosed || s.lc == 4 then s.onSec fun x => { x with cdi := [] } else s.onSec fun x => { x with cdi := cs }

/-- The Ed25519 seed of a layer. -/
def Dev.edSeed (s : Dev) (n : Nat) : List Nat := (sha3 (ascii "FL-ED" ++ s.sec.cdi.getD n [])).take 32

/-- The ML-DSA-65 seed of a layer. -/
def Dev.mlSeed (s : Dev) (n : Nat) : List Nat := (sha3 (ascii "FL-MLDSA" ++ s.sec.cdi.getD n [])).take 32

/-! ### Zeroisation (R521) -/

/-- Whether an STC verification runs. -/
def Dev.verifying (s : Dev) : Bool := s.fget Reg.STC_STAT Reg.STC_STAT_STATE_f == 1

/-- Keys, sessions, SAKs, derived secrets and debug unlocks are cleared, the UDS path closes, a verification in progress ends
(R521, R523). -/
def Dev.zeroKeys (s : Dev) : Dev :=
  let s := s.onSec fun x => { x with sessions := [], cdi := [], udsClosed := true, aborted := x.aborted || s.verifying }
  let s := s.onBrg fun b => { b with sas := [] }
  let s := s.fput Reg.SEC_STAT Reg.SEC_STAT_DEBUG_f 0
  s.fset Reg.SEC_STAT Reg.SEC_STAT_ZERO_f true

/-- Zeroisation with SEC_ZEROISED; an event that a C reset follows at once is held in the tail, since the arbiter is reset
(R543; DEDUCED). Log 171 (DEDUCED). -/
def Dev.zeroise (s : Dev) (reset : Bool) : Dev := if reset then s.zeroKeys.tailEvent 0x904 0 else s.zeroKeys.raise 0x904 0

/-- ATTEST and session requests end with CAUSE NOKEY after zeroisation and in SCRAPPED (R504, R521). -/
def Dev.noKey (s : Dev) : Bool := s.fbit Reg.SEC_STAT Reg.SEC_STAT_ZERO_f || s.lc == 4

/-! ### After a reset -/

/-- A new SEC_NONCE from the TRNG (R507). -/
def Dev.newNonce (s : Dev) : Dev :=
  let (v, s) := s.free
  s.onSec fun x => { x with nonce := v % 2 ^ 48 }

/-- The island after a P or C reset, OFF or a brown-out: OTP stays (R536). -/
def Sec.fresh (x : Sec) (bootsel nonce : Nat) : Sec :=
  { otp := x.otp, bad := x.bad, stage := 0, bootsel := bootsel, cand := 0, idx := 0, waitFrom := none, atEnd := false, wdtFrom := 0,
    reqAt := 0, nonce := nonce, udsClosed := false, aborted := false, sessions := [], waiting := [], fails := [], fw := none,
    img := none, slices := [], cdi := [] }

/-- The island of a device whose OTP has not been written: MANUFACTURE, serial 0. Log 9 (DESIGN CHOICE). -/
def secReset : Sec :=
  { otp := [], bad := [], stage := 0, bootsel := 3, cand := 0, idx := 0, waitFrom := none, atEnd := false, wdtFrom := 0,
    reqAt := 0, nonce := Config.free 0 % 2 ^ 48, udsClosed := false, aborted := false, sessions := [], waiting := [], fails := [],
    fw := none, img := none, slices := [], cdi := [] }

/-! ### Live words (R525) -/

/-- SEC_STAT as it reads. -/
def Dev.secStatWord (s : Dev) : Word :=
  word (s.lc * 2 ^ 21 + s.sec.stage * 2 ^ 18 + s.sec.cand * 2 ^ 16 + s.scopes * 2 ^ 13 + bit s.lcErr * 2 ^ 12 +
    bit (s.fbit Reg.SEC_STAT Reg.SEC_STAT_ZERO_f) * 2 ^ 11 + bit (s.verifying || s.sec.waiting != []) * 2 ^ 10)

/-- SEC_SLOT_k as it reads. -/
def Dev.slotWord (s : Dev) (k : Nat) : Word := word (bit (s.slotProg k) * 2 ^ 23 + bit (s.slotRev k) * 2 ^ 22)

/-- A write of SEC_TAMPCFG: a response below its floor is ignored (R523). -/
def Dev.tampCfgWrite (s : Dev) (w : Word) : Dev :=
  let a := Reg.SEC_TAMPCFG
  let v := (List.range 7).foldl (fun n i =>
    let x := bits w.toNat (2 * i + 1) (2 * i)
    if bits s.tampFloor (2 * i + 1) (2 * i) ≤ x then putBits n (2 * i + 1) (2 * i) x else n) (s.rget a).toNat
  s.rset a (word v)

end Sys2Proof.Machine
end

