-- ==== Sys2Proof/Machine/Reset.lean ====
section
/-! DEFINITION. Resets and what survives them (R526 to R538): the device after core reset release, P and C resets, OFF and
brown-out, the W reset, the Abacist watchdog (R557). -/

namespace Sys2Proof.Machine

/-! ### The device at its reset values -/

/-- Burst reception with no instance. Log 9 (DESIGN CHOICE). -/
def brxReset : Brx :=
  { insts := [], claims := 0, hist := [], reached := [], rseq := 0, notices := [], acks := [], cells := [], status := [] }

/-- The launcher with no list; held until TIME_VALID sets (R80). Log 9 (DESIGN CHOICE). -/
def lncReset : Launcher := { lists := [], held := true, begun := [] }

/-- The loader, idle. Log 9 (DESIGN CHOICE). -/
def stcReset : Stc :=
  { op := .none, fenceWait := [], order := [], owned := [], stopped := [], forced := false, drainAt := 0, openUnits := []
    wbusy := false }

/-- The Tally, idle. Log 9 (DESIGN CHOICE). -/
def tlyReset : Tally := { armed := false, copying := false, late := false, rearm := false, copyAt := 0, deferred := [] }

/-- Every item of the device at its reset value and every domain as at core reset release (R530 step 4), with reckoning
memory still to be initialised. Log 8 (DESIGN CHOICE), 9 (DESIGN CHOICE). -/
def devReset : Dev :=
  { fresh := 1, time := 0, elapsed := 0, regs := [], shadow := [], doms := [], net := [], evq := [], tail := []
    arb := { nextSeq := 0, lost := 0, lostNow := false }, evSeen := [], out := [], lm := [], lmErr := [], ab := [], abErr := [], rm := rmReset
    queues := [], cores := [], cmx := [], regions := [], pwr := pwrReset, tim := timReset, tly := tlyReset, lnc := lncReset
    jobs := { running := [], worst := [] }, carriers := [], brx := brxReset, dma := { chans := [], turns := [], next := [], dead := [] }
    brg := bridgeReset, dfe := dfeReset, lan := lanesReset, fab := fabReset, stc := stcReset, sec := secReset, awdt := (0, none) }

/-- The device right after reset: core reset release of a power-on reset (R530 step 4). RESET_CAUSE with class P and code 0 waits
for the arbiter (R535), and the reference's time-out runs (R530 step 7). Log 8 (DESIGN CHOICE). -/
def devBoot : Dev := { devReset with evq := [(0xA01, 0)], pwr := { pwrReset with oscFrom := some 0 } }

/-! ### The reset-cause record (R534) -/

/-- A new record: class (0 P, 1 C, 2 W, 3 OFF), cause code and source device. Log 159 (DEDUCED). -/
def Dev.resetRecord (s : Dev) (cls code src : Nat) : Dev :=
  let s := s.rset Reg.RST_PREV (s.rget Reg.RST_CAUSE)
  let s := s.rset Reg.RST_CAUSE (word (cls * 2 ^ 21 + code * 2 ^ 16 + src % 1024))
  ((s.rset Reg.RST_TIME_S (word (secOf s.time))).rset Reg.RST_TIME_NSL (word (nsOf s.time))).rset Reg.RST_TIME_NSH
    (word (nsOf s.time / 2 ^ 24))

/-- RESET_CAUSE, with the class and code of the record as unit field (R535). -/
def Dev.resetEvent (s : Dev) : Dev :=
  let c := s.rget Reg.RST_CAUSE
  s.raise 0xA01 (getF c Reg.RST_CAUSE_CLASS_f * 32 + getF c Reg.RST_CAUSE_CODE_f)

/-- RST_STAT.ERR: a request is ignored or discarded (R527). -/
def Dev.rstErr (s : Dev) : Dev := s.fset Reg.RST_STAT Reg.RST_STAT_ERR_f true

/-! ### P and C resets (R528 to R530) -/

/-- Every domain OFF, until power-up releases core reset. -/
def domsOff : SMap DomSt := ((List.range 212).filter fun d => domReset d != .off).map fun d => (d, .off)

/-- What the pins and the board keep through a reset: the quads' references. Log 160 (DEDUCED). -/
def Lanes.board (l : Lanes) : Lanes :=
  { lanesReset with quads := (l.quads.map fun e =>
      (e.1, { quadReset with refOk := e.2.refOk, fref := e.2.fref })).filter fun e => e.2 != quadReset }

/-- Power-up begins from step 2 of R530: supplies off, and enabled at once unless RESET_N is low. Log 158 (DEDUCED). -/
def Dev.powerUp (s : Dev) (source : WakeFrom) : Dev :=
  let s := s.onPwr fun p => { p with main := supOff, back := supOff, avs := none, avsNext := [], resend := false }
  if s.pwr.resetN then
    s.onPwr fun p => { p with wake := some { source := source, stage := .hold, t0 := s.elapsed, since := s.elapsed, tried := 0 } }
  else s.wakeStart source 0

/-- The device with everything but the named survivors at reset values and every domain OFF. Log 160 (DEDUCED). -/
def Dev.coldBase (s : Dev) (regs : SMap Word) (tail : List TailEvent) (nextSeq : Nat) : Dev :=
  let s0 := s.newNonce
  { devReset with
    fresh := s0.fresh, elapsed := s.elapsed, out := s.out, regs := regs, doms := domsOff, tail := tail
    rm := { rmReset with scrubAt := s.elapsed }
    arb := { nextSeq := nextSeq, lost := 0, lostNow := false }
    pwr := { pwrReset with resetN := s.pwr.resetN }
    tim := { timReset with refOk := s.tim.refOk }
    lan := s.lan.board
    sec := s.sec.fresh s.sec.bootsel s0.sec.nonce }

/-- A C reset: the cause is latched, every unit outside the island is reset, power-up runs (R526, R528, R536). -/
def Dev.coldReset (s : Dev) (code src : Nat) : Dev :=
  let s := (s.resetRecord 1 code src).count Reg.RST_CCNT_LO 1
  let s := s.coldBase (s.resetRegs .C fun _ => true).regs s.tail s.arb.nextSeq
  let s := s.rset Reg.SEC_TAMPCFG (word s.tampFloor)
  s.powerUp (.power code)

/-- VSTBY_RISE: VSTBY has stayed within its range for 2 ms; a P reset (R526, R530 step 1). -/
def Dev.vstbyRise (s : Dev) (resetNLow : Bool) : Dev :=
  let t := s.time
  let s := s.coldBase [] [] 0
  let s := (({ s with time := t }).resetRecord 0 0 0)
  let s := { s with time := 0 }
  let s := s.rset Reg.SEC_TAMPCFG (word s.tampFloor)
  let s := s.onTim fun x => { x with refOk := false }
  let s := s.onPwr fun p => { p with resetN := resetNLow }
  s.powerUp (.power 0)

/-- RESET_N_LOW: RESET_N has been low for 1 µs (R529). -/
def Dev.resetNLow (s : Dev) : Dev := (s.onPwr fun p => { p with resetN := true }).coldReset 1 0

/-- RESET_N_RELEASE: power-up goes on from step 2 (R529, R530). -/
def Dev.resetNRelease (s : Dev) : Dev :=
  let s := s.onPwr fun p => { p with resetN := false }
  match s.pwr.wake with
  | some w => if w.stage == WakeStage.hold then s.wakeStart w.source 0 else s
  | none => s

/-- Whether power-up runs, during which a C request is discarded (R527). -/
def Dev.powering (s : Dev) : Bool :=
  match s.pwr.wake with
  | some w => (match w.source with | .power _ => true | _ => false)
  | none => false

/-- POOLCMD_COLD_RESET: a C reset after forwarding (R473). -/
def Dev.poolCold (s : Dev) (b : Bead) : Dev := s.poolCmd b 1 fun s => s.coldReset 2 b.sdev

/-! ### OFF and brown-out (R479, R493, R536) -/

/-- Registers that OFF keeps: time base, supply logic, reset record, wake configuration and timeouts; the counters of resets are
lost as every 48-bit counter but SUP_SWCNT (R536). Log 159 (DEDUCED). -/
def offKeeps (a : Nat) : Bool :=
  a / 0x10000 == 10 || a / 0x10000 == 18 ||
    (a / 0x10000 == 28 && !(decide (Reg.RST_CCNT_LO ≤ a) && decide (a < Reg.RST_CCNT_LO + 4))) ||
    (decide (Reg.PWR_WAKECFG ≤ a) && decide (a ≤ Reg.PWR_SWITCHBACK_HOLD))

/-- Every domain outside the island is unpowered; the island keeps its state. Log 157 (DEDUCED), 159 (DEDUCED). -/
def Dev.devOff (s : Dev) : Dev :=
  let keep := s.regs.filter fun e => offKeeps e.1
  let p := s.pwr
  let b := s.coldBase keep s.tail s.arb.nextSeq
  { b with
    time := s.time
    tim := s.tim
    pwr := { pwrReset with
      mode := 3, held := true, main := supOff, back := supOff, wakeReq := p.wakeReq, resetN := p.resetN }
    regs := SMap.set b.regs (resetWord Reg.SEC_TAMPCFG) Reg.SEC_TAMPCFG (word b.tampFloor) }

/-- BROWNOUT: the connected core rail has been below 0.50 V for 1 µs (R493, R534). Log 159 (DEDUCED). -/
def Dev.brownout (s : Dev) : Dev :=
  if (s.sup s.selBack).en then
    let s := ((s.supFault Reg.SUP_FAULT_BROWNOUT_f).tailEvent 0x806 0).resetRecord 3 8 0
    s.devOff.wakeStart .brownout 0
  else s

/-! ### W reset (R531, R532) -/

/-- A bead in transit that no reset unit would take: for another device, for the island and the units that a W reset leaves, for
host endpoints. -/
def Dev.keepsBead (s : Dev) (b : Bead) : Bool :=
  (b.ddev != s.devnum && b.ddev != 0) || b.dunit == 0x7E || decide (0x220 ≤ b.dunit ∧ b.dunit ≤ 0x310) ||
    decide (0x840 ≤ b.dunit)

/-- RST_CMD_WARM: the W reset begins; launch lists stop and nothing issues (R531 step 1). -/
def Dev.warmStart (s : Dev) : Dev :=
  if s.pwr.mode ≠ 0 ∨ s.stc.wbusy then s.rstErr
  else
    let s := (List.range 64).foldl (fun s n => if s.listOn n then s.listStop n else s) s
    { s with stc := { s.stc with wbusy := true } }

/-- A W reset ends: the fence map is applied again, the Abacist restarts, WBUSY clears (R531 step 6, R554). -/
def Dev.warmFinish (s : Dev) : Dev :=
  let s := (List.range 0x202).foldl (fun s u => if s.fenced u then s.fenceHold u else s) s
  let s := { s with stc := { s.stc with wbusy := false, op := .none } }
  (s.abacistRestart.settleDomains).resetEvent

/-- The units in the scope of a W reset take their reset values (R531 step 3). Log 160 (DEDUCED). -/
def Dev.warmUnits (s : Dev) : Dev :=
  let s := s.resetRegs .W fun _ => true
  let cores := (List.range 113).foldl (fun (m : SMap Core) n =>
    SMap.set m coreDef n { coreDef with lmBusy := (s.core n).lmBusy }) []
  { s with
    cores := cores
    cmx := []
    queues := []
    jobs := { running := [], worst := s.jobs.worst }
    brx := { brxReset with rseq := s.brx.rseq }
    dma := s.dmaDiscard.dma
    dfe := { dfeReset with jup := s.dfe.jup, jdown := s.dfe.jdown, jsys := s.dfe.jsys }
    lnc := lncReset
    regions := []
    carriers := []
    net := s.net.filter fun b => s.keepsBead b }.brgWReset

/-- WARM_RESPONSES_COLLECTED: outstanding writes are abandoned, the cause is recorded, units are reset. With a retained image
the loader re-applies; without one the reset ends (R531, R532, R534). -/
def Dev.warmCollected (s : Dev) : Dev :=
  if s.stc.wbusy && s.stc.op != StcOp.warm then
    let s := (List.range 113).foldl (fun s n => s.abandonStores n) s
    let loaded := (List.range 15).any fun k => s.fbit (Reg.STC_RET k) Reg.STC_RET_VALID_f
    let s := ((s.resetRecord 2 10 0).count Reg.RST_WCNT_LO 1).warmUnits
    if loaded then
      let s := (s.fput Reg.STC_STAT Reg.STC_STAT_STATE_f 3).fset Reg.STC_STAT Reg.STC_STAT_LOCKED_f false
      { s with stc := { s.stc with op := .warm, forced := false, openUnits := [] } }
    else
      let st := s.fget Reg.STC_STAT Reg.STC_STAT_STATE_f
      let s := if st = 1 ∨ st = 2 ∨ st = 3 then s.fput Reg.STC_STAT Reg.STC_STAT_STATE_f 0 else s
      s.warmFinish
  else s

/-! ### Reset commands (R527) -/

/-- A write of RST_CMD: the request in CLASS. -/
def Dev.rstCmd (s : Dev) (w : Word) : Dev :=
  if getF w Reg.RST_CMD_GO_f = 0 then s
  else match getF w Reg.RST_CMD_CLASS_f with
    | 0 => s.warmStart
    | 1 => if s.powering then s.rstErr else s.coldReset 3 0
    | 2 => if s.stc.wbusy then s.rstErr else s.rstUnit (getF w Reg.RST_CMD_UNIT_f)
    | _ => s

/-! ### The Abacist watchdog (R557) -/

/-- Start the count from TMO. Log 96 (DESIGN CHOICE). -/
def Dev.awdtStart (s : Dev) : Dev := { s with awdt := (s.elapsed, if s.pwr.mode = 0 then none else some 0) }

/-- AWDT_KICK and every write of RST_AWDT: EN setting starts the count, KICK restarts it. -/
def Dev.awdtWrite (s : Dev) (w : Word) : Dev :=
  let was := s.fbit Reg.RST_AWDT Reg.RST_AWDT_EN_f
  let s := s.storeRw Reg.RST_AWDT w
  let s := if getF w Reg.RST_AWDT_EXP_f = 1 then s.fset Reg.RST_AWDT Reg.RST_AWDT_EXP_f false else s
  if (!was && getF w Reg.RST_AWDT_EN_f == 1) || getF w Reg.RST_AWDT_KICK_f == 1 then s.awdtStart else s

/-- The chip mode leaves RUN: the count pauses. Log 161 (DESIGN CHOICE). -/
def Dev.awdtPause (s : Dev) : Dev := match s.awdt.2 with
  | none => { s with awdt := (s.awdt.1, some (s.elapsed - s.awdt.1)) }
  | some _ => s

/-- The chip mode is RUN again: the count goes on. Log 161 (DESIGN CHOICE). -/
def Dev.awdtGo (s : Dev) : Dev := match s.awdt.2 with
  | some n => { s with awdt := (s.elapsed - n, none) }
  | none => s

/-- AWDT_EXPIRE: the count reaches 0; the Abacist restarts and EXP sets.
Log 5 (DESIGN CHOICE), 96 (DESIGN CHOICE), 161 (DESIGN CHOICE). -/
def Dev.awdtExpire (s : Dev) : Dev :=
  if s.fbit Reg.RST_AWDT Reg.RST_AWDT_EN_f && s.pwr.mode == 0 then
    let s := s.pass (s.awdt.1 + ms (Nat.max 1 (s.fget Reg.RST_AWDT Reg.RST_AWDT_TMO_f)))
    let s := (s.unitDReset 0x7F).fset Reg.RST_AWDT Reg.RST_AWDT_EXP_f true
    (s.raise 0x003 1).awdtStart
  else s

/-- RST_STAT as it reads. -/
def Dev.rstStatWord (s : Dev) : Word :=
  word (bit s.stc.wbusy * 2 ^ 23 + bit (s.fbit Reg.RST_STAT Reg.RST_STAT_ERR_f) * 2 ^ 22)

end Sys2Proof.Machine
end

