-- ==== Sys2Proof/Machine/Security.lean ====
section
/-! DEFINITION. The security island at work: signed commands (R505 to R509), attestation (R515), sessions (R516 to R518), MACsec
keys (R519), debug unlock (R520), tamper responses (R522, R523), the boot chain (R510 to R513). -/

namespace Sys2Proof.Machine

/-! ### Answers -/

/-- SEC_CMDSTAT: STATE and CAUSE. -/
def Dev.cmdStat (s : Dev) (state cause : Nat) : Dev :=
  (s.fput Reg.SEC_CMDSTAT Reg.SEC_CMDSTAT_STATE_f state).fput Reg.SEC_CMDSTAT Reg.SEC_CMDSTAT_CAUSE_f cause

/-- A SEC_CMD operation has ended with a CAUSE; 0 is success. -/
def Dev.cmdDone (s : Dev) (cause : Nat) : Dev := s.cmdStat (if cause = 0 then 2 else 3) cause

/-- The buffer of SEC_CMD. -/
def Dev.cmdBuf (s : Dev) : Nat := s.getAddr Reg.SEC_CMDBUF_LO

/-! ### Signed commands (R505 to R509) -/

/-- Who must sign a command in the present state: 0 vendor, 1 owner, 2 either, 3 unsigned; none where R506 refuses it.
Log 167 (DEDUCED). -/
def cmdSigner (kind arg lc : Nat) : Option Nat :=
  let slot := bits arg 2 0
  let cls (owner : Bool) : Nat := if owner then 1 else 0
  match kind, lc with
  | 1, 0 => if slot < 4 then some 3 else none
  | 1, 1 => if slot < 4 then none else some 0
  | 1, 2 => if slot < 4 then none else some 1
  | 2, 1 => some (cls (decide (4 ≤ slot)))
  | 2, 2 => some (cls (decide (4 ≤ slot)))
  | 2, 3 => if slot < 4 then some 0 else none
  | 3, 1 => some (cls (decide (16 ≤ bits arg 23 19)))
  | 3, 2 => some (cls (decide (16 ≤ bits arg 23 19)))
  | 3, 3 => if bits arg 23 19 < 16 then some 0 else none
  | 4, 0 => if slot = 1 then some 3 else none
  | 4, 1 => if slot = 2 then some 1 else none
  | 4, 2 => if slot = 3 then some 1 else none
  | 5, 0 => some 2
  | 5, 1 => some 2
  | 5, 2 => some 1
  | 5, 3 => some 0
  | 6, 0 => some 3
  | 6, 1 => some 0
  | 7, 0 => some 3
  | 7, 1 => some 2
  | 7, 2 => some 2
  | 7, 3 => some 0
  | _, _ => none

/-- The programmed, unrevoked slots of a class. -/
def Dev.liveSlots (s : Dev) (owner : Bool) : List Nat :=
  (List.range 8).filter fun k => s.slotLive k && (decide (4 ≤ k) == owner)

/-- The measured images that run or are retained. -/
def Dev.measured (s : Dev) : List Measure := s.sec.fw.toList ++ s.sec.img.toList ++ s.sec.slices

/-- The command-specific checks of R506 to R509: 0, or the CAUSE. Log 166 (DEDUCED). -/
def Dev.cmdCheck (s : Dev) (kind arg : Nat) (body : List Word) : Nat :=
  let slot := bits arg 2 0
  let ctr := bits arg 23 19
  let new := (body.getD 0 0).toNat
  match kind with
  | 1 => if (List.range 32).any fun i => s.otpWritten (16 + 32 * slot + i) then 10 else 0
  | 2 => if s.slotRev slot then 10
    else if (s.lc == 1 || s.lc == 2) && s.liveSlots (decide (4 ≤ slot)) == [slot] then 6 else 0
  | 3 => if new ≤ s.arb_ ctr || s.measured.any fun m => m.arb == ctr && decide (m.svn < new) then 14
    else if (s.arbRows ctr).length = 6 then 10 else 0
  | 4 => if (slot = 1 ∧ s.liveSlots false = []) ∨ (slot = 2 ∧ s.liveSlots true = []) then 6 else 0
  | 6 => if (List.range (body.length / 2)).any fun i => s.otpWritten (body.getD (2 * i) 0).toNat then 10 else 0
  | _ => 0

/-- Whether a kind writes OTP. -/
def cmdWrites (kind : Nat) : Bool := kind != 5

/-- A debug unlock (R520): ABACIST and ROD close sessions, zeroise every SAK and derive every layer anew.
Log 183 (DESIGN CHOICE). -/
def Dev.debugUnlock (s : Dev) (scopes : Nat) : Dev :=
  let core := scopes / 2 % 4 != 0
  let s := if core then (s.onSec fun x => { x with sessions := [] }).onBrg fun b => { b with sas := [] } else s
  let s := s.fput Reg.SEC_STAT Reg.SEC_STAT_DEBUG_f (s.scopes ||| scopes % 8)
  let s := if core then s.derive else s
  s.raise 0x905 (scopes % 8)

/-- The effect of a command that has passed every check; LIFECYCLE and SCRAP end in a C reset (R526). -/
def Dev.cmdAct (s : Dev) (kind arg : Nat) (body : List Word) : Dev :=
  let slot := bits arg 2 0
  let ctr := bits arg 23 19
  match kind with
  | 1 => s.otpWriteN (16 + 32 * slot) (body.map fun w => w.toNat)
  | 2 => s.otpWrite (272 + slot) Config.revoked
  | 3 => s.otpWrite (291 + 6 * ctr + (s.arbRows ctr).length) (body.getD 0 0).toNat
  | 4 => s.lcWrite slot
  | 5 => s.debugUnlock slot
  | 6 => (List.range (body.length / 2)).foldl
      (fun s i => s.otpWrite (body.getD (2 * i) 0).toNat (body.getD (2 * i + 1) 0).toNat) s
  | 7 => s.lcWrite 4
  | _ => s

/-- Whether a command's framing is right (R505): header, lengths, body of its kind, a manifest with SVN and ARB 0.
Log 166 (DEDUCED). -/
def cmdFramed (h : List Word) (ws : List Word) : Bool :=
  let w (i : Nat) : Nat := (h.getD i 0).toNat
  let kind := bits (w 2) 23 20
  let blen := bits (w 2) 11 0
  let m := manifestOf (ws.drop (16 + blen))
  w 0 == 0x534543 && bits (w 1) 23 16 == 1 && decide (1 ≤ kind) && decide (kind ≤ 7) &&
    w 3 == 16 + blen + manifestLen && w 4 == 16 + blen && w 5 == 0x9624A1 && m.magic == 0x4D4E46 && m.svn == 0 && m.arb == 0 &&
    ws.length == w 3 &&
    match kind with
    | 1 => blen == 32
    | 3 => decide (1 ≤ blen)
    | 6 => blen % 2 == 0 && (List.range (blen / 2)).all fun i =>
        let r := (ws.getD (16 + 2 * i) 0).toNat
        decide (483 ≤ r) && decide (r ≤ 511)
    | _ => true

/-- The check of a command in the order of R507, steps 4 to 8: 0, or the CAUSE. Log 165 (DEDUCED), 166 (DEDUCED), 167 (DEDUCED). -/
def Dev.cmdVerdict (s : Dev) (kind arg : Nat) (ws : List Word) (blen : Nat) : Nat :=
  let m := manifestOf (ws.drop (16 + blen))
  let body := (ws.drop 16).take blen
  let sig := cmdSigner kind arg s.lc
  let v := match sig with
    | some 3 => if !m.unsigned then 2 else if m.d != imageDigest ws (16 + blen) then 1 else 0
    | some c => s.verify ws (16 + blen) c
    | none => s.verify ws (16 + blen) 2
  if v ≠ 0 then v
  else if sig == none then 6
  else
    let c := s.cmdCheck kind arg body
    if c ≠ 0 then c else if cmdWrites kind && !s.supplyOk then 13 else 0

/-- A signature of a command or a session has failed: tamper sensor 6 counts them (R522). -/
def Dev.sigFail (s : Dev) (cause : Nat) : Dev :=
  if cause = 3 ∨ cause = 4 then s.onSec fun x => { x with fails := (s.elapsed :: x.fails).take 16 } else s

/-- SEC_CMD OP EXEC on the command image at `buf` (R507). Answers the KIND, the CAUSE and the device; a failed command raises
SEC_IMAGE_REJECT with unit 2. Log 166 (DEDUCED). -/
def Dev.secExec (s : Dev) (buf : Nat) : Nat × Nat × Dev :=
  let (h, _, s) := s.memReadN buf 16
  let blen := bits (h.getD 2 0).toNat 11 0
  let (ws, _, s) := s.memReadN buf (16 + blen + manifestLen)
  let w (i : Nat) : Nat := (h.getD i 0).toNat
  let kind := bits (w 2) 23 20
  let bad (c : Nat) (s : Dev) : Nat × Nat × Dev := (kind, c, s.raise 0x901 2)
  if !(cmdFramed h ws) then bad 9 s
  else if w 6 + w 7 * 2 ^ 24 + w 8 % 2 ^ 16 * 2 ^ 48 ≠ s.serial then bad 7 s
  else if w 9 + w 10 * 2 ^ 24 ≠ s.sec.nonce then bad 8 s
  else
    let c := s.cmdVerdict kind (w 11) ws blen
    let s := s.newNonce
    if c ≠ 0 then bad c (s.sigFail c) else (kind, 0, s.cmdAct kind (w 11) ((ws.drop 16).take blen))

/-- Whether a command that has succeeded ends in a C reset. -/
def cmdResets (kind cause : Nat) : Bool := cause == 0 && (kind == 4 || kind == 7)

/-! ### Attestation (R515) -/

/-- The keys of layer n and their signatures by the layer below. Log 169 (DEDUCED). -/
def Dev.layerKeys (s : Dev) (n : Nat) (measure : List Nat) : List Word :=
  let ed := fitBytes 32 (Config.edPub (s.edSeed n))
  let ml := fitBytes 1952 (Config.mlPub (s.mlSeed n))
  let msg := sha3 (ed ++ ml ++ measure)
  bytesWords ed ++ bytesWords ml ++ bytesWords (fitBytes 64 (Config.edSign (s.edSeed (n - 1)) msg)) ++
    bytesWords (fitBytes 3309 (Config.mlSign (s.mlSeed (n - 1)) msg))

/-- The signatures of layer 2 over bytes. -/
def Dev.layer2Sign (s : Dev) (msg : List Nat) : List Word :=
  bytesWords (fitBytes 64 (Config.edSign (s.edSeed 2) msg)) ++ bytesWords (fitBytes 3309 (Config.mlSign (s.mlSeed 2) msg))

/-- The report: its body, the layers' keys, and the layer 2 signatures over every word before them. Log 169 (DEDUCED). -/
def Dev.attestWords (s : Dev) (nonce : List Word) (f i : Measure) : List Word :=
  let sl := s.sec.slices
  let n := s.serial
  let body := [word 0x415452, word (s.lc * 2 ^ 21 + s.scopes * 2 ^ 18 + bit (s.fbit Reg.SEC_STAT Reg.SEC_STAT_ZERO_f) * 2 ^ 17 + sl.length),
      word n, word (n / 2 ^ 24), word (n / 2 ^ 48)] ++ nonce ++
    [word (secOf s.time), word (nsOf s.time), word (bit s.timeValid * 2 ^ 23 + nsOf s.time / 2 ^ 24)] ++
    bytesWords f.d ++ [word f.svn, word f.arb] ++ bytesWords i.d ++ [word i.id, word (i.id / 2 ^ 24)] ++
    sl.flatMap fun x => bytesWords x.d ++ [word x.rod]
  let all := body ++ s.layerKeys 1 (f.d ++ wordBytes [word f.svn]) ++ s.layerKeys 2 i.d
  all ++ s.layer2Sign (sha3 (wordBytes all))

/-- SEC_CMD OP ATTEST, or the same operation in a session: the report goes to the buffer, whose first words held the nonce. A bus
error of the buffer ends it with a CAUSE the spec does not give. Log 168 (DESIGN CHOICE). -/
def Dev.secAttest (s : Dev) (buf : Nat) : Nat × Dev :=
  match s.sec.fw, s.sec.img with
  | some f, some i =>
    if s.noKey || s.fget Reg.STC_STAT Reg.STC_STAT_STATE_f != 4 then (12, s)
    else
      let (nonce, ok, s) := s.memReadN buf 11
      let (c, s) := s.free
      if !ok then (c % 31 + 1, s)
      else
        let (ok, s) := s.memWriteN buf (s.attestWords nonce f i)
        (if ok then 0 else c % 31 + 1, s)
  | _, _ => (12, s)

/-- SEC_CMD OP FETCH: the structure image of the copy that gave the running firmware is read from flash into the buffer (R512, R513).
Log 164 (DESIGN CHOICE), 168 (DESIGN CHOICE). -/
def Dev.secFetch (s : Dev) (buf : Nat) (flash : List (Nat × List Nat)) : Nat × Dev :=
  let (c, s) := s.free
  match flashImage flash (if s.sec.cand = 1 then 3 else 2) with
  | none => (c % 31 + 1, s)
  | some ws =>
    let (ok, s) := s.memWriteN buf ws
    (if ok then 0 else c % 31 + 1, s)

/-! ### MACsec keys (R519) -/

/-- The SA that the words of a SAKINSTALL name. Log 163 (DESIGN CHOICE). -/
def saOf (ws : List Word) : Sa :=
  let f (i : Nat) : Nat := Config.sakField i ws
  { port := f 0 % 16, tx := f 1 % 2 == 1, chan := f 2 % 8, an := f 3 % 4, cipher := f 4 % 4, key := f 5 % 2 ^ 256, ssci := f 6 % 2 ^ 32
    salt := f 7 % 2 ^ 96, pn := f 8 % 2 ^ 64, used := f 9 % 2 == 1, warned := false }

/-- Install one SA. A transmit association in use replaces the port's former one. -/
def Dev.saInstall (s : Dev) (a : Sa) : Dev :=
  s.onBrg fun b =>
    let keep := b.sas.filter fun x => !(x.port == a.port && x.tx == a.tx && x.chan == a.chan && x.an == a.an)
    let keep := if a.tx && a.used then keep.map fun x => if x.port == a.port && x.tx then { x with used := false } else x else keep
    { b with sas := keep ++ [a] }

/-- SEC_CMD OP SAKINSTALL from the Abacist: the buffer is read, its key words are written as 0, the SA is installed.
Log 168 (DESIGN CHOICE). -/
def Dev.secSak (s : Dev) (buf : Nat) : Nat × Dev :=
  let n := Config.sakLen
  let (ws, ok, s) := s.memReadN buf n
  let (c, s) := s.free
  if !ok then (c % 31 + 1, s)
  else
    let s := (List.range n).foldl (fun s i => if Config.sakKeyWord i then (s.memWrite (buf + i) 0 allLanes).2 else s) s
    (0, s.saInstall (saOf ws))

/-! ### Host sessions (R516, R517) -/

/-- A session by its number. -/
def Dev.session (s : Dev) (n : Nat) : Option Session := s.sec.sessions.find? fun x => x.num == n

/-- Store a session. -/
def Dev.sessionPut (s : Dev) (x : Session) : Dev :=
  s.onSec fun k => { k with sessions := (k.sessions.filter fun y => y.num != x.num) ++ [x] }

/-- Close a session. -/
def Dev.sessionDrop (s : Dev) (n : Nat) : Dev := s.onSec fun k => { k with sessions := k.sessions.filter fun y => y.num != n }

/-- An operation of a session has ended with a CAUSE. Log 170 (DEDUCED). -/
def Dev.sessionEnd (s : Dev) (b : Bead) (n cause : Nat) (bytes : List Nat) : Dev := s.emit (.session b.sunit n cause bytes)

/-- OPEN: a key pair is generated; the encapsulation key, serial and SEC_NONCE with the layer 2 signatures go to the buffer.
Log 170 (DEDUCED). -/
def Dev.sessionOpen (s : Dev) (b : Bead) (buf : Nat) : Dev :=
  if s.noKey || s.sec.cdi.length < 3 then s.sessionEnd b 0 12 []
  else match (List.range 4).find? fun n => (s.session n).isNone with
    | none => s.sessionEnd b 0 11 []
    | some n =>
      let (vs, s) := s.freeN 64
      let dk := vs.map (· % 256)
      let ek := fitBytes 1184 (Config.kemPub dk)
      let lead := bytesWords ek ++ serialWords s.serial ++ [word s.sec.nonce, word (s.sec.nonce / 2 ^ 24)]
      let (_, s) := s.memWriteN buf (lead ++ s.layer2Sign (sha3 (wordBytes lead)))
      (s.sessionPut { num := n, host := b.sunit, dk := some dk, ek := ek, h2d := [], d2h := [], rx := none, tx := 0 }).sessionEnd b n 0 []

/-- ACCEPT: the dual signature over SHA3-384 of the encapsulation key and the ciphertext is verified by keys of an owner slot (a
vendor slot in RETURNED), and the session keys are derived. `keys` are the two public keys, `sigs` the two signatures.
Log 170 (DEDUCED). -/
def Dev.sessionAccept (s : Dev) (b : Bead) (n slot : Nat) (ct keys sigs : List Nat) : Dev :=
  match s.session n with
  | none => s.sessionEnd b n 12 []
  | some x =>
    match x.dk with
    | none => s.sessionEnd b n 9 []
    | some dk =>
      let m : Manifest := { magic := 0, slot := slot, arb := 0, svn := 0, clear := true, unsigned := false
                            d := sha3 (x.ek ++ ct), edKey := keys.take 32, mlKey := keys.drop 32, edSig := sigs.take 64, mlSig := sigs.drop 64 }
      if s.noKey then s.sessionEnd b n 12 []
      else if x.host != b.sunit || !(slotClass slot (if s.lc == 3 then 0 else 1)) || !(s.slotLive slot) then s.sessionEnd b n 2 []
      else if !(s.keyOk m false) || !(Config.edVerify m.edKey m.d m.edSig) then (s.sigFail 3).sessionEnd b n 3 []
      else if !(s.keyOk m true) || !(Config.mlVerify m.mlKey m.d m.mlSig) then (s.sigFail 4).sessionEnd b n 4 []
      else
        let k := Config.kemDecaps dk ct
        let key (l : String) : List Nat := (sha3 (ascii l ++ k ++ sha3 x.ek ++ sha3 ct)).take 32
        (s.sessionPut { x with dk := none, h2d := key "FL-H2D", d2h := key "FL-D2H" }).sessionEnd b n 0 []

/-- CLOSE by the host endpoint that opened the session. -/
def Dev.sessionClose (s : Dev) (b : Bead) (n : Nat) : Dev :=
  match s.session n with
  | some x => if x.host == b.sunit then (s.sessionDrop n).sessionEnd b n 0 [] else s.sessionEnd b n 12 []
  | none => s.sessionEnd b n 12 []

/-- The IV of a direction and counter. -/
def sessionIv (dir : Nat) (ctr : Nat) : List Nat := [dir, 0, 0, 0] ++ octets 8 ctr

/-- The island's answer in a session: a sealed bead with the next counter; at 2^48 - 1 the session closes. -/
def Dev.sessionReply (s : Dev) (b : Bead) (x : Session) (cause : Nat) : Dev :=
  let tx := x.tx + 1
  let sealed := Config.gcmSeal x.d2h (sessionIv 0x44 tx) (Config.sessionReply cause)
  let s := s.sendTo 0x7E 0x20 b.sdev b.sunit b.order
    ([word (x.num * 2 ^ 22), word tx, word (tx / 2 ^ 24)] ++ (bytesWords sealed).take 61)
  if tx ≥ 2 ^ 48 - 1 then s.sessionDrop x.num else s.sessionPut { x with tx := tx }

/-- An operation inside a session: a SEC_CMD operation on a buffer that the host names (R518); CLOSE, zeroisation and resets may
take the session with it. -/
def Dev.sessionOp (s : Dev) (plain : List Nat) : Nat × Bool × Dev :=
  let (op, buf) := Config.sessionOp plain
  match op with
  | 0 => match s.secExec buf with | (k, c, s) => (c, cmdResets k c, s)
  | 1 => match s.secAttest buf with | (c, s) => (c, false, s)
  | 2 => match s.secFetch buf (Config.flash s.fresh) with | (c, s) => (c, false, s)
  | 3 => (0, false, s.saInstall (saOf (bytesWords plain)))
  | _ => (9, false, s)

/-- SESSION_BEAD: a bead whose counter rises and whose tag verifies is served; any other is discarded with SEC_SESSION_FAIL
(R517). -/
def Dev.sessionBead (s : Dev) (b : Bead) : Dev :=
  let n := bits (b.pay 0) 23 22
  let ctr := b.pay 1 + b.pay 2 * 2 ^ 24
  let body := b.payload.drop 3
  let ct := body.take (body.length - 6)
  match s.session n with
  | none => s.raise 0x906 n
  | some x =>
    let fresh := match x.rx with | none => true | some r => decide (r < ctr)
    match Config.gcmOpen x.h2d (sessionIv 0x48 ctr) (wordBytes ct) (bytesN (body.drop ct.length) 16) with
    | none => s.raise 0x906 n
    | some plain =>
      if !fresh || x.dk.isSome || x.host != b.sunit || ct.length > 55 || body.length < 6 then s.raise 0x906 n
      else
        let x := { x with rx := some ctr }
        let (cause, reset, s) := (s.sessionPut x).sessionOp plain
        if reset then s.coldReset 7 0
        else match s.session n with
          | none => s
          | some x => if ctr = 2 ^ 48 - 1 then (s.sessionReply b x cause).sessionDrop n else s.sessionReply b x cause

/-! ### One at a time, four in wait (R523) -/

/-- Serve a request. -/
def Dev.secServe (s : Dev) (q : SecReq) : Dev :=
  match q with
  | .exec _ _ =>
    match s.secExec s.cmdBuf with
    | (k, c, s) => if cmdResets k c then (s.cmdDone c).coldReset 7 0 else s.cmdDone c
  | .attest _ => match s.secAttest s.cmdBuf with | (c, s) => s.cmdDone c
  | .fetch flash => match s.secFetch s.cmdBuf flash with | (c, s) => s.cmdDone c
  | .sak _ => match s.secSak s.cmdBuf with | (c, s) => s.cmdDone c
  | .opened b buf => s.sessionOpen b buf
  | .accept b n slot ct keys sigs => s.sessionAccept b n slot ct keys sigs
  | .close b n => s.sessionClose b n
  | .bead b => s.sessionBead b

/-- A request that cannot wait ends with CAUSE BUSY. -/
def Dev.secBusy (s : Dev) (q : SecReq) : Dev :=
  match q with
  | .opened b _ => s.sessionEnd b 0 11 []
  | .accept b n _ _ _ _ => s.sessionEnd b n 11 []
  | .close b n => s.sessionEnd b n 11 []
  | .bead b => s.sessionEnd b (bits (b.pay 0) 23 22) 11 []
  | _ => s.cmdStat 3 11

/-- A request arrives: behind an STC verification it waits, as at most four do, else it is served. -/
def Dev.secRequest (s : Dev) (q : SecReq) : Dev :=
  if s.verifying then
    if s.sec.waiting.length ≥ 4 then s.secBusy q
    else
      let s := s.onSec fun x => { x with waiting := x.waiting ++ [q] }
      match q with
      | .exec _ _ => s.cmdStat 1 0
      | .attest _ => s.cmdStat 1 0
      | .fetch _ => s.cmdStat 1 0
      | .sak _ => s.cmdStat 1 0
      | _ => s
  else s.secServe q

/-- The requests that waited for a verification are served in arrival order. -/
def Dev.secDrain (s : Dev) : Dev :=
  let qs := s.sec.waiting
  qs.foldl (fun s q => s.secServe q) (s.onSec fun x => { x with waiting := [] })

/-- A session bead or request to unit 0x07E leaves the network; a damaged or foreign one counts nothing here. -/
def Dev.secBead (s : Dev) (b : Bead) (q : SecReq) : Dev :=
  if b.dunit = 0x7E then s.arrive b (b.op == 0x20 && !b.rsp) fun s => s.secRequest q else s

/-- A write of SEC_CMD with GO: the operation named by OP. Log 164 (DESIGN CHOICE). -/
def Dev.secCmdWrite (s : Dev) (r : Req) (w : Word) : Dev :=
  let s := s.fput Reg.SEC_CMD Reg.SEC_CMD_OP_f (getF w Reg.SEC_CMD_OP_f)
  if getF w Reg.SEC_CMD_GO_f = 0 then s
  else match getF w Reg.SEC_CMD_OP_f with
    | 0 => s.secRequest (.exec 0 r)
    | 1 => s.secRequest (.attest r)
    | 2 => s.secRequest (.fetch (Config.flash s.fresh))
    | 3 => s.secRequest (.sak r)
    | _ => s

/-- The KIND in the buffer of SEC_CMD. -/
def Dev.cmdKind (s : Dev) : Nat :=
  let (w, _) := s.memRead (s.cmdBuf + 2)
  bits (w.getD 0).toNat 23 20

/-- SEC_CMD OP EXEC on a buffer whose KIND is `kind`. -/
def Dev.cmdRow (s : Dev) (kind : Nat) (r : Req) (w : Word) : Dev :=
  if getF w Reg.SEC_CMD_GO_f = 1 ∧ getF w Reg.SEC_CMD_OP_f = 0 ∧ s.cmdKind = kind then s.secCmdWrite r w else s

/-! ### Tamper (R522, R523) -/

/-- Whether a sensor may detect: sensor 6 after 16 signature failures within 1 s (R522). -/
def Dev.tamperDue (s : Dev) (sensor : Nat) : Bool :=
  decide (sensor < 6) || (sensor == 6 && s.sec.fails.length == 16 && decide (s.elapsed ≤ s.sec.fails.getLastD 0 + secUnit))

/-- TAMPER_DETECT: a sensor detects. The event precedes the response in SEC_TAMPCFG. Log 171 (DEDUCED), 172 (DEDUCED). -/
def Dev.tamper (s : Dev) (sensor : Nat) : Dev :=
  if s.tamperDue sensor then
    let s := if sensor = 6 then s.onSec fun x => { x with fails := [] } else s
    let a := Reg.SEC_TAMPSTAT
    let s := s.rset a (s.rget a ||| word (2 ^ sensor))
    let resp := bits (s.rget Reg.SEC_TAMPCFG).toNat (2 * sensor + 1) (2 * sensor)
    let s := if resp ≥ 2 then s.tailEvent 0x903 sensor else s.raise 0x903 sensor
    match resp with
    | 0 => s
    | 1 => s.zeroise false
    | 2 => (s.zeroise true).coldReset 5 0
    | _ =>
      let s := s.zeroise true
      (if s.supplyOk then s.lcWrite 4 else s).coldReset 5 0
  else s

end Sys2Proof.Machine
end

