-- ==== Sys2Proof/Machine/Boot.lean ====
section
/-! DEFINITION. The boot chain of the security island (R504, R510 to R513). -/

namespace Sys2Proof.Machine

/-! ### Candidates (R511) -/

/-- The staging region of firmware images: 0x12E0_0000 to 0x12FF_FFFF. -/
def staging : Nat := 0x12E00000

/-- The words of the staging region. -/
def stagingLen : Nat := 0x200000

/-- The candidate that the island tries: 0 flash A, 1 flash B, 2 host, 3 peer. -/
def Dev.candidate (s : Dev) : Option Nat := if s.sec.stage == 1 && !s.sec.atEnd && s.lc != 4 then s.bootOrder[s.sec.idx]? else none

/-- Whether an offset lies in a window of the bridge, the lanes or the fabric. Log 175 (DESIGN CHOICE). -/
def bootWindow (o : Nat) : Bool := o / 0x10000 == 24 || o / 0x10000 == 25 || o / 0x10000 == 26

/-- The island brings up the ports of a host or peer candidate (R512); their quads are ON while the candidate is in use, other boot
quads are not (R530 step 4). Log 175 (DESIGN CHOICE). -/
def Dev.bootPorts (s : Dev) : Dev :=
  let net := match s.bootUse with | some 2 => true | some 3 => true | _ => false
  let ws := if net then (Config.bootRegs (s.bootUse.getD 0) s.policyRows).filter fun e => bootWindow e.1 else []
  ((ws.foldl (fun s e => s.storeRw e.1 (word e.2)) s)).settleDomains

/-- Begin with the candidate at index `i` of the order; past its end the island waits 1 s. -/
def Dev.candidateTry (s : Dev) (i : Nat) : Dev :=
  let e := s.elapsed
  (if i < s.bootOrder.length then
    s.onSec fun x => { x with idx := i, atEnd := false, waitFrom := some e, reqAt := e }
  else s.onSec fun x => { x with atEnd := true, waitFrom := some e }).bootPorts

/-- Pass to the next candidate. Log 173 (DEDUCED). -/
def Dev.candidateNext (s : Dev) : Dev := s.candidateTry (s.sec.idx + 1)

/-- SEC_SELFTEST_END: the self-test passes, or `bad` names the engine that failed (R510 steps 1 and 2). In MANUFACTURE the TRNG
generates the unique device secret once. In SCRAPPED nothing starts. Log 169 (DEDUCED). -/
def Dev.selftestEnd (s : Dev) (bad : Option Nat) : Dev :=
  if s.sec.stage ≠ 0 then s
  else match bad with
    | some e => (s.onSec fun x => { x with stage := 4 }).raise 0x907 e
    | none =>
      let s := if s.lc == 0 && !s.otpWritten 280 && s.supplyOk then
          let (vs, s) := s.freeN 11
          s.otpWriteN 280 vs
        else s
      let s := (s.onSec fun x => { x with stage := 1 }).derive
      if s.lc = 4 then s
      else s.candidateTry (s.fget Reg.SEC_BOOTREC Reg.SEC_BOOTREC_START_f % s.bootOrder.length)

/-! ### Firmware images (R504, R513) -/

/-- The signers of Abacist firmware in the present lifecycle state. -/
def Dev.fwSigner (s : Dev) : Nat :=
  match s.lc with
  | 1 => 2
  | 2 => if s.policy 5 0 = 1 then 1 else 2
  | _ => 0

/-- The layout of a firmware image (R513): its NW, none when the header breaks it. -/
def fwLayout (ws : List Word) : Option Nat :=
  let w (i : Nat) : Nat := (ws.getD i 0).toNat
  let nw := w 8
  if w 0 == 0x414246 && bits (w 1) 23 16 == 1 && w 4 == 16 + nw && w 3 == w 4 + manifestLen && w 5 == 0x9624A1 &&
      decide (1 ≤ nw) && decide (nw ≤ 65536) && (List.range 7).all fun i => w (9 + i) == 0 then some nw else none

/-- The code words go into the Abacist's local memory and the Abacist runs at ENTRY (R510 step 4). -/
def Dev.fwStart (s : Dev) (ws : List Word) (nw : Nat) : Dev :=
  let m := manifestOf (ws.drop (16 + nw))
  let s := s.lmZero 112
  let s := (((ws.drop 16).take nw).zipIdx).foldl (fun s (e : Word × Nat) => s.lmWrite 112 e.2 e.1 allLanes) s
  let s := s.fput (Reg.RCK_CTL 112) Reg.RCK_CTL_ENTRY_f (bits (ws.getD 2 0).toNat 15 0)
  let id := (ws.getD 6 0).toNat + (ws.getD 7 0).toNat * 2 ^ 24
  let cand := (s.bootOrder.getD s.sec.idx 0) % 4
  let e := s.elapsed
  let s := s.onSec fun x => { x with
    stage := 2, cand := cand, wdtFrom := e, waitFrom := none, fw := some { d := m.d, svn := m.svn, arb := m.arb, id := id, rod := 0 } }
  s.derive.abacistRestart

/-- The island verifies the firmware image at a word offset of the staging region; a refused one raises SEC_IMAGE_REJECT with unit
0 and the next candidate is tried (R511). Log 173 (DEDUCED). -/
def Dev.fwVerify (s : Dev) (ofs : Nat) : Dev :=
  let (h, ok, s) := s.memReadN (staging + ofs) 16
  let refuse (s : Dev) : Dev := (s.raise 0x901 0).candidateNext
  match fwLayout h with
  | none => refuse s
  | some nw =>
    let n := 16 + nw + manifestLen
    if !ok || ofs + n > stagingLen then refuse s
    else
      let (ws, ok, s) := s.memReadN (staging + ofs) n
      let m := manifestOf (ws.drop (16 + nw))
      if ok && m.magic == 0x4D4E46 && m.clear && s.verify ws (16 + nw) s.fwSigner == 0 then s.fwStart ws nw else refuse s

/-- BOOT_IMAGE_FETCHED: a flash candidate is read from what flash holds, copy A or B, into the staging region and verified; where the
directory names none it is absent (R511, R512). Log 164 (DESIGN CHOICE), 173 (DEDUCED). -/
def Dev.bootFetched (s : Dev) (flash : List (Nat × List Nat)) : Dev :=
  if s.rm.initDone && (s.candidate == some 0 || s.candidate == some 1) then
    match flashImage flash (if s.candidate == some 1 then 1 else 0) with
    | none => s.candidateNext
    | some ws => ((s.memWriteN staging (ws.take stagingLen)).2).fwVerify 0
  else s

/-- Whether a host or peer image is awaited. -/
def Dev.bootNet (s : Dev) : Bool := s.candidate == some 2 || s.candidate == some 3

/-- HOSTWAIT_EXPIRE: no host or peer image came in time (R502, R511). -/
def Dev.hostwaitExpire (s : Dev) : Dev :=
  if s.bootNet then (s.pass (s.sec.waitFrom.getD 0 + ms (1000 * s.policy 4 5))).candidateNext else s

/-- BOOT_ORDER_RESTART: 1 s after the last candidate the island begins again from the first (R511). -/
def Dev.bootRestart (s : Dev) : Dev :=
  if s.sec.stage == 1 && s.sec.atEnd then (s.pass (s.sec.waitFrom.getD 0 + ms 1000)).candidateTry 0 else s

/-! ### Host and peer boot (R512) -/

/-- The payload of BOOTREQ: serial, lifecycle state, SEC_NONCE. -/
def Dev.bootreqWords (s : Dev) : List Word :=
  serialWords s.serial ++ [word s.lc, word s.sec.nonce, word (s.sec.nonce / 2 ^ 24)]

/-- The BOOTREQ bead; HOPS 0. -/
def Dev.bootreqBead (s : Dev) (dunit : Nat) : Bead :=
  mkBead (head0 2 0x20 false false false) 0 dunit 0 s.devnum 0x7E 0 0 s.bootreqWords

/-- The BOOTREQ bead frame to the broadcast address (R414). Log 175 (DESIGN CHOICE). -/
def Dev.bootreqFrame (s : Dev) : List Nat :=
  let ws := (s.bootreqBead 0x840).words
  pad60 (octets 6 (2 ^ 48 - 1) ++ octets 6 s.beadMac ++ [0x88, 0xB5, 0x46, 0x10] ++ octets 2 0 ++ octets 2 ws.length ++ ws.flatMap wordBe)

/-- BOOTREQ_TIMER: every 100 ms the island sends BOOTREQ: to the host port, or on every fabric port that is UP (R512).
Log 175 (DESIGN CHOICE). -/
def Dev.bootreq (s : Dev) : Dev :=
  if s.bootNet then
    let s := s.pass (s.sec.reqAt + ms 100)
    let e := s.elapsed
    let s := s.onSec fun x => { x with reqAt := e }
    if s.candidate == some 2 then s.emit (.frame (s.policy 9 0 % 16) s.bootreqFrame)
    else s.upPorts.foldl (fun s p => s.portQueue p (s.bootreqBead 0x7E)) s
  else s

/-- BOOTGO: a DATA bead to unit 0x07E whose word 0 names the image's word offset in the staging region; from a peer only with
HOPS 0 (R512). -/
def Dev.bootgo (s : Dev) (b : Bead) : Dev :=
  if b.dunit = 0x7E then
    s.arrive b (b.op == 0x20 && !b.rsp) fun s =>
      if s.candidate == some 2 || (s.candidate == some 3 && b.hops == 0) then s.fwVerify (b.pay 0 % stagingLen) else s
  else s

/-! ### The end of the boot (R510) -/

/-- SEC_BOOTOK: firmware has come up; STAGE becomes RUNNING and the boot-fail count clears. -/
def Dev.bootOk (s : Dev) (w : Word) : Dev :=
  if getF w Reg.SEC_BOOTOK_OK_f = 1 ∧ s.sec.stage = 2 then
    (s.onSec fun x => { x with stage := 3 }).fput Reg.SEC_BOOTREC Reg.SEC_BOOTREC_COUNT_f 0
  else s

/-- BOOT_WDT_EXPIRE: the count rises, at BFMAX it clears and the start candidate advances, SEC_BOOT_FAIL is raised and a C reset
follows (R510, R511). Log 4 (DESIGN CHOICE), 5 (DESIGN CHOICE), 171 (DEDUCED). -/
def Dev.bootWdt (s : Dev) : Dev :=
  if s.sec.stage = 2 then
    let s := s.pass (s.sec.wdtFrom + ms (1000 * s.policy 3 10))
    let n := s.fget Reg.SEC_BOOTREC Reg.SEC_BOOTREC_COUNT_f + 1
    let s := s.tailEvent 0x902 n
    let st := s.fget Reg.SEC_BOOTREC Reg.SEC_BOOTREC_START_f
    let s := if n ≥ s.policy 2 3 then
        (s.fput Reg.SEC_BOOTREC Reg.SEC_BOOTREC_COUNT_f 0).fput Reg.SEC_BOOTREC Reg.SEC_BOOTREC_START_f ((st + 1) % s.bootOrder.length)
      else s.fput Reg.SEC_BOOTREC Reg.SEC_BOOTREC_COUNT_f n
    s.coldReset 4 0
  else s

end Sys2Proof.Machine
end

