-- ==== Sys2Proof/Machine/PowerCmd.lean ====
section
/-! DEFINITION. Chip modes and group commands (R481, R484, R485), the end of a wake (R487, R489), brown-out's alarms (R494). -/

namespace Sys2Proof.Machine

/-! ### Quiescence (R484) -/

/-- The state R480 would give a domain under another chip mode. -/
def Dev.domUnder (s : Dev) (mode d : Nat) : DomSt := ((s.onPwr fun p => { p with mode := mode }).domRule d).2

/-- The domains that leave ON with a chip mode. -/
def Dev.leaving (s : Dev) (mode : Nat) : List Nat :=
  (List.range 212).filter fun d => s.dom d == .on && s.domUnder mode d != .on

/-- The domains of a group. Log 156 (DEDUCED). -/
def Dev.groupDoms (s : Dev) (g : Nat) : List Nat := (List.range 212).filter fun d => SMap.get s.pwr.grpOf none d == some g

/-- Whether a domain's units are quiescent: cores rest, CMX idle, no job runs, no DMA channel is active, no slice operation
applies. -/
def Dev.domQuiet (s : Dev) (d : Nat) : Bool :=
  if d < 112 then s.coreRests d
  else if d < 126 then (s.cmxOf (d - 112)).q == []
  else if d = 205 ∨ d = 206 then (List.range 64).all fun c => !(s.dmaActive (d - 205) c)
  else if d = 208 then !(s.stc.op == StcOp.slice && s.stcApply)
  else if d = 210 then s.coreRests 112
  else (domUnits d).all fun u => s.jobsOf u == []

/-- The first of some domains that is not quiescent. -/
def Dev.firstBusy (s : Dev) (ds : List Nat) : Option Nat := ds.find? fun d => !(s.domQuiet d)

/-! ### Mode entry (R484) -/

/-- The Abacist's WAITM completes. Log 155 (DEDUCED). -/
def Dev.waitmDone (s : Dev) : Dev :=
  if (s.core 112).hold = some .waitMode then s.onCore 112 fun c => { c with st := .run, hold := none } else s

/-- MODE_ENTRY: the Abacist waits in a WAITM with a new PWR_MODE. A wake request already present completes it at once for RETAIN
and OFF. -/
def Dev.modeEntry (s : Dev) : Dev :=
  let m := s.fget Reg.PWR_MODE Reg.PWR_MODE_MODE_f
  if (s.core 112).hold = some .waitMode ∧ s.pwr.entry = none then
    if m = s.pwr.mode then s.enterWait 112
    else if m ≥ 2 ∧ s.pwr.wakeReq then (s.onPwr fun p => { p with wakeReq := false }).waitmDone
    else
      let e := s.elapsed
      s.onPwr fun p => { p with entry := some m, entryAt := e }
  else s

/-- Every fabric port and bridge link goes down with the lanes of RETAIN (R418, R475). -/
def Dev.linksDown (s : Dev) : Dev :=
  let s := (List.range 16).foldl (fun s p => s.fabDown p) s
  (List.range 16).foldl (fun s p => if (s.bport p).link then s.portLink p false false false 0 else s) s

/-- RETAIN commits: pads are latched, every domain retains, the supplies go off, the island runs alone. Log 157 (DEDUCED). -/
def Dev.commitRetain (s : Dev) : Dev :=
  let s := ((s.linksDown.lncHold).scrubHold).awdtPause
  let s := (s.onPwr fun p => { p with mode := 2, entry := none, held := true }).settleDomains
  s.onPwr fun p => { p with main := supOff, back := supOff, avs := none, avsNext := [], resend := false }

/-- A wake request that came during entry is served as soon as entry ends (R486). -/
def Dev.wakePending (s : Dev) (source : WakeFrom) : Dev := if s.pwr.wakeReq then s.wakeStart source 0 else s

/-- The commit of a chip mode. Log 155 (DEDUCED). -/
def Dev.commitMode (s : Dev) (m : Nat) : Dev :=
  match m with
  | 0 => ((s.onPwr fun p => { p with mode := 0, entry := none }).settleDomains).awdtGo.waitmDone
  | 1 => ((s.awdtPause.onPwr fun p => { p with mode := 1, entry := none }).settleDomains).waitmDone
  | 2 => s.commitRetain.wakePending .retain
  | _ => s.devOff.wakePending .off

/-- MODE_COMMIT: every domain concerned is quiescent and the chip mode, or with `grp` the group command in progress, takes
effect (R481, R484, R485). Log 4 (DESIGN CHOICE), 155 (DEDUCED), 156 (DEDUCED). -/
def Dev.modeCommit (s : Dev) (grp : Bool) : Dev :=
  if grp then
    match s.pwr.grpBusy with
    | some (g, st) =>
      if (s.firstBusy (s.groupDoms g)).isSome then s
      else (s.onPwr fun p => { p with grpBusy := none, grpCmd := SMap.set p.grpCmd 1 g st }).settleDomains
    | none => s
  else match s.pwr.entry with
    | some m => if (s.firstBusy (s.leaving m)).isSome then s else s.commitMode m
    | none => s

/-- PWR_ENTRY_TMO. -/
def Dev.entryTmo (s : Dev) : Nat := Nat.max 1 (s.fget Reg.PWR_ENTRY_TMO Reg.PWR_ENTRY_TMO_TMO_f) * 1000 * nsUnit

/-- PWR_ENTRY_TIMEOUT: quiescence has not come; the entry aborts and the WAITM completes, or the group command ends with ERR. -/
def Dev.entryTimeout (s : Dev) (grp : Bool) : Dev :=
  if grp then
    match s.pwr.grpBusy with
    | some (g, _) =>
      match s.firstBusy (s.groupDoms g) with
      | some d =>
        let s := (s.pass (s.pwr.grpAt + s.entryTmo)).onPwr fun p => { p with grpBusy := none }
        (s.fset Reg.PWR_GRPCMD Reg.PWR_GRPCMD_ERR_f true).raise 0x807 d
      | none => s
    | none => s
  else match s.pwr.entry with
    | some m =>
      match s.firstBusy (s.leaving m) with
      | some d =>
        let s := (s.pass (s.pwr.entryAt + s.entryTmo)).onPwr fun p => { p with entry := none }
        ((s.fset Reg.PWR_MODE Reg.PWR_MODE_ABORT_f true).raise 0x807 d).waitmDone
      | none => s
    | none => s

/-! ### Group commands and pads (R481, R485) -/

/-- Domains that a group command may not name. -/
def grpRefuses (d : Nat) : Bool :=
  decide (126 ≤ d ∧ d ≤ 157) || d == 204 || d == 207 || d == 209 || d == 210 || d == 211

/-- PWR_GRPCMD: a write of PWR_GRPCMD. Log 156 (DEDUCED). -/
def Dev.grpCmdWrite (s : Dev) (w : Word) : Dev :=
  let s := if getF w Reg.PWR_GRPCMD_ERR_f = 1 then s.fset Reg.PWR_GRPCMD Reg.PWR_GRPCMD_ERR_f false else s
  let g := getF w Reg.PWR_GRPCMD_GROUP_f
  let st := getF w Reg.PWR_GRPCMD_STATE_f
  let s := (s.fput Reg.PWR_GRPCMD Reg.PWR_GRPCMD_STATE_f st).fput Reg.PWR_GRPCMD Reg.PWR_GRPCMD_GROUP_f g
  if getF w Reg.PWR_GRPCMD_GO_f = 0 then s
  else if s.pwr.grpBusy.isSome || (s.groupDoms g).any grpRefuses then s.fset Reg.PWR_GRPCMD Reg.PWR_GRPCMD_ERR_f true
  else if st = 0 ∨ st = 2 then
    let e := s.elapsed
    s.onPwr fun p => { p with grpBusy := some (g, st), grpAt := e }
  else (s.onPwr fun p => { p with grpCmd := SMap.set p.grpCmd 1 g 1 }).settleDomains

/-- PAD_RELEASE: a write of PWR_PAD_RELEASE. Log 157 (DEDUCED). -/
def Dev.padRelease (s : Dev) (w : Word) : Dev :=
  if getF w Reg.PWR_PAD_RELEASE_GO_f = 1 then s.onPwr fun p => { p with held := false } else s

/-! ### The end of a wake (R487, R489, R530) -/

/-- WAKE_OSC_TIMEOUT: REFOK is still 0 at t0 + PWR_WAKE_OSC_TMO; OSC_MISSING is raised and the wake goes on (R489, R530 step 7). -/
def Dev.oscTimeout (s : Dev) : Dev :=
  let tmo := ms (Nat.max 1 (s.fget Reg.PWR_WAKE_OSC_TMO Reg.PWR_WAKE_OSC_TMO_TMO_f))
  if s.tim.refOk then s
  else match s.pwr.wake with
    | some w =>
      if w.stage == .ready then
        ((s.pass (w.t0 + tmo)).onPwr fun p => { p with wake := some { w with stage := .checked } }).raise 0x803 0
      else s
    | none =>
      match s.pwr.oscFrom with
      | some t => ((s.pass (t + tmo)).onPwr fun p => { p with oscFrom := none }).raise 0x803 0
      | none => s

/-- Whether a wake may bring the domains up: the code has been sent, and the reference is there or has been given up; power-up does
not wait for it. -/
def Dev.wakeReady (s : Dev) (w : Wake) : Bool :=
  w.stage == .checked || (w.stage == .ready && (s.tim.refOk || match w.source with | .power _ => true | _ => false))

/-- The notices at the end of a wake: on the backup set, or without a good inactive set. -/
def Dev.wakeNotices (s : Dev) : Dev :=
  let s := if s.selBack then (s.supFault Reg.SUP_FAULT_SWITCHED_f).raise 0x801 4 else s
  if (s.sup (!s.selBack)).good then s else s.noBackup

/-- Core reset release: domains of R530 step 4 with the quads of a host or peer boot, mode RUN, BOOTSEL sampled, the reset cause recorded. -/
def Dev.coreRelease (s : Dev) (bootsel : Nat) : Dev :=
  let s := s.onPwr fun p => { p with wake := none, mode := 0 }
  let s := s.onSec fun x => { x with bootsel := bootsel % 4 }
  let e := s.elapsed
  ({ s with doms := [], awdt := (e, none) }).settleDomains.resetEvent

/-- WAKE_DOMAINS_UP: domains leave retention, or start; the mode becomes TGT, or RUN. Log 158 (DEDUCED), 173 (DEDUCED). -/
def Dev.domainsUp (s : Dev) (bootsel : Nat) : Dev :=
  match s.pwr.wake with
  | none => s
  | some w =>
    if s.wakeReady w then
      match w.source with
      | .retain =>
        let tgt := s.fget Reg.PWR_WAKECFG Reg.PWR_WAKECFG_TGT_f
        let s := (s.onPwr fun p => { p with wake := none, mode := tgt }).settleDomains
        let s := if tgt = 0 then s.awdtGo else s
        s.scrubGo.lncResume.waitmDone.wakeNotices.windowWake
      | .power _ =>
        let e := s.elapsed
        let s := { s with time := 0 }
        let s := if s.tim.refOk then s else s.onPwr fun p => { p with oscFrom := some e }
        (s.coreRelease bootsel).wakeNotices.windowWake
      | .off => ((s.resetRecord 3 9 0).coreRelease bootsel).wakeNotices.windowWake
      | .brownout => (s.coreRelease bootsel).wakeNotices.windowWake
    else s

/-! ### AVSBus (R494) -/

/-- AVS_ALERT: an AVSBus alert of a port. -/
def Dev.avsAlert (s : Dev) (back : Bool) : Dev := s.avsErr back

/-! ### Live words (R497) -/

/-- PWR_MODE as it reads. -/
def Dev.pwrModeWord (s : Dev) : Word := putF (s.rget Reg.PWR_MODE) Reg.PWR_MODE_CUR_f s.pwr.mode

/-- PWR_DOMSTAT_d as it reads. -/
def Dev.domstatWord (s : Dev) (d : Nat) : Word :=
  let st := match s.dom d with | .off => 0 | .on => 1 | .retain => 2
  let g := SMap.get s.pwr.grpOf none d
  word (st * 2 ^ 22 + (s.domRule d).1 * 2 ^ 20 + bit g.isSome * 2 ^ 6 + g.getD 0)

/-- SUP_STAT as it reads. -/
def Dev.supStatWord (s : Dev) : Word :=
  word (bit s.selBack * 2 ^ 23 + bit s.pwr.main.good * 2 ^ 22 + bit s.pwr.back.good * 2 ^ 21 + bit s.pwr.main.en * 2 ^ 20 +
    bit s.pwr.back.en * 2 ^ 19 + bit s.pwr.main.pg * 2 ^ 18 + bit s.pwr.back.pg * 2 ^ 17 + bit (s.goodHeld false) * 2 ^ 16)

end Sys2Proof.Machine
end

