-- ==== Sys2Proof/Machine/RegWrite.lean ====
section
/-! DEFINITION. Register accesses (R11 to R14, R100, R546): what a read returns, with the live fields of every block, and
what a write does. Every register with an effect of its own has one write operation, which its rows and the general write
share. -/

namespace Sys2Proof.Machine

/-! ### Where an offset lies (R11, R546) -/

/-- Offset of the shadow view (R546). Log 13 (DEDUCED). -/
def shadowBase : Nat := 0x8000000

/-- Whether an offset from 0x3000_0000 lies in an implemented window. -/
def implemented (o : Nat) : Bool := windows.contains (o / 0x10000)

/-- Whether an offset lies in the shadow view of an implemented window. Log 13 (DEDUCED). -/
def shadowed (o : Nat) : Bool := decide (shadowBase ≤ o) && implemented (o - shadowBase)

/-- The DMA channel whose 32 register words hold an offset. -/
def dmaChannelAt (o : Nat) : Option (Nat × Nat) :=
  let f := (o - 0x60000) % 0x8000
  if o / 0x10000 == 6 && decide (0x100 ≤ f) && decide (f < 0x900) then some ((o - 0x60000) / 0x8000, (f - 0x100) / 0x20)
  else none

/-- Whether a requester may access an offset at all: a channel's registers only from its owner, the Abacist and the island
(R300). Log 12 (DEDUCED). -/
def Dev.mayAccess (s : Dev) (r : Req) (o : Nat) : Bool :=
  match dmaChannelAt o with
  | some (e, c) => s.dmaMay e c r
  | none => true

/-- Whether a requester may write an offset (R300, R375, R527, R551; writes of the SEC window: the Abacist and the island).
Log 97 (DEDUCED). -/
def Dev.mayWrite (s : Dev) (r : Req) (o : Nat) : Bool :=
  s.mayAccess r o && (!(timGuarded o) || s.timMay r) &&
    (!(o / 0x10000 == 27 || o == Reg.RST_CMD || o == Reg.STC_FENCE) || r.trusted)

/-! ### The write by access type (R13, R100) -/

/-- A write of a register without an effect of its own: RW stores, RWL stores until locked, W1C clears, RO and WO ignore; a
counter's low word with bit 0 set clears the counter. -/
def Dev.regStore (s : Dev) (o : Nat) (w : Word) : Dev :=
  match regSpec o with
  | none => s
  | some r =>
    if r.fields.any fun f => f.acc == .cnt then (if w.toNat % 2 = 1 then s.cntClear o else s)
    else s.rset o (r.fields.foldl (fun v f =>
      if f.acc == .rw || (f.acc == .rwl && !(s.lockedAt o)) then putF v f.bits (getF w f.bits)
      else if f.acc == .w1c then v &&& ~~~(putF 0 f.bits (getF w f.bits))
      else v) (s.rget o))

/-! ### Writes with an effect of their own -/

/-- A request for a D reset by a register of the unit's own block: ignored with ERR in another chip mode than RUN or during
a W reset (R527). Log 38 (DEDUCED). -/
def Dev.dRequest (s : Dev) (k : Dev → Dev) : Dev :=
  if s.stc.wbusy || s.pwr.mode != 0 then s.rstErr else k s

/-- A write of RCK_CTL_n (R249). Log 37 (DEDUCED). -/
def Dev.rckCtlWrite (s : Dev) (n : Nat) (w : Word) : Dev :=
  let s := s.fput (Reg.RCK_CTL n) Reg.RCK_CTL_ENTRY_f
    (if s.lockedAt (Reg.RCK_CTL n) then s.fget (Reg.RCK_CTL n) Reg.RCK_CTL_ENTRY_f else getF w Reg.RCK_CTL_ENTRY_f)
  let s := s.coreRun n (getF w Reg.RCK_CTL_RUN_f == 1)
  if getF w Reg.RCK_CTL_RST_f = 1 then s.dRequest fun s => s.rstUnit (coreUnit n) else s

/-- A write of RCK_SOFT_n (R239). -/
def Dev.rckSoftWrite (s : Dev) (n : Nat) (w : Word) : Dev :=
  if getF w Reg.RCK_SOFT_SET_f = 1 then s.onCore n fun c => c.cbw 0x107 4 true else s

/-- A write of CMX_CTL_n (R250, R260): RST is ignored while the lock is held; FREL releases the lock. Log 39 (DEDUCED). -/
def Dev.cmxCtlWrite (s : Dev) (r : Nat) (w : Word) : Dev :=
  let s := s.storeRw (Reg.CMX_CTL r) w
  if getF w Reg.CMX_CTL_RST_f = 1 ∧ (s.cmxOf r).owner = none then s.dRequest fun s => s.rstUnit (0xDC + r)
  else if getF w Reg.CMX_CTL_FREL_f = 1 then (s.cmxRelease r).cmxWaiters r
  else s

/-- A write of LNC_CTL_n (R73, R80): MODE and FEEDQ, then EN. One that sets EN of a list no image has placed is ignored. -/
def Dev.lncCtlWrite (s : Dev) (n : Nat) (w : Word) : Dev :=
  if getF w Reg.LNC_CTL_EN_f = 1 ∧ (s.list n).placed = none then s
  else
    let en := s.listOn n
    let s := (s.storeRw (Reg.LNC_CTL n) w).fset (Reg.LNC_CTL n) Reg.LNC_CTL_EN_f en
    s.listEnWrite n (getF w Reg.LNC_CTL_EN_f == 1)

/-- A write of BDT_CCFG_n_c: clearing EN ends the carrier's instances (R159). -/
def Dev.ccfgWrite (s : Dev) (n c : Nat) (w : Word) : Dev :=
  let was := s.fbit (Reg.BDT_CCFG n c) Reg.BDT_CCFG_EN_f
  let s := s.storeRw (Reg.BDT_CCFG n c) w
  if was && !(s.fbit (Reg.BDT_CCFG n c) Reg.BDT_CCFG_EN_f) then s.slotAbort n c else s

/-- A write of LAN_LCTL_q_l: a D reset request of the lane follows R527. -/
def Dev.lanLctlWrite (s : Dev) (l : Nat) (w : Word) : Dev :=
  if getF w Reg.LAN_LCTL_RST_f = 1 ∧ (s.stc.wbusy ∨ s.pwr.mode ≠ 0) then
    (s.lctlWrite l (putF w Reg.LAN_LCTL_RST_f 0)).rstErr
  else s.lctlWrite l w

/-- A command to the loader is ignored (R359). -/
def Dev.stcErr (s : Dev) : Dev := s.fset Reg.STC_STAT Reg.STC_STAT_ERR_f true

/-- Put the loader in a state. -/
def Dev.stcState (s : Dev) (st : Nat) : Dev := s.fput Reg.STC_STAT Reg.STC_STAT_STATE_f st

/-- The loader's state. -/
def Dev.stcIs (s : Dev) (st : Nat) : Bool := s.fget Reg.STC_STAT Reg.STC_STAT_STATE_f == st

/-- Every unit takes its W-reset values, as the loader does from FAILED (R352); the Abacist, which gave the command, and the
beads under way stay. Log 118 (DEDUCED). -/
def Dev.unitsToW (s : Dev) : Dev :=
  let t := s.warmUnits
  { t with cores := SMap.set t.cores coreDef 112 (s.core 112), net := s.net }.rset (Reg.RCK_CTL 112) (s.rget (Reg.RCK_CTL 112))

/-- A write of STC_CMD (R352, R357, R359): FULL in EMPTY or FAILED, SLICE in LOADED; OP 2 and 3 are ignored. -/
def Dev.stcCmdWrite (s : Dev) (w : Word) : Dev :=
  if getF w Reg.STC_CMD_GO_f = 0 then s
  else match getF w Reg.STC_CMD_OP_f with
    | 0 =>
      if s.stc.wbusy then s.stcErr
      else if s.stcIs 0 || s.stcIs 5 then
        let s := if s.stcIs 5 then s.unitsToW else s
        let s := (s.stcState 1).fput Reg.STC_STAT Reg.STC_STAT_RESULT_f 0
        { s with stc := { s.stc with op := .full } }
      else s.stcErr
    | 1 =>
      if s.stcIs 4 && !s.stc.wbusy then
        let s := (s.stcState 1).fput Reg.STC_STAT Reg.STC_STAT_RESULT_f 0
        { s with stc := { s.stc with op := .slice } }
      else s.stcErr
    | _ => s

/-- The units of a slice of one kind: base 0x400 queues, 0x1000 DMA channels, 0x2000 launch lists. -/
def Dev.sliceOwned (s : Dev) (r base n : Nat) : List Nat :=
  ((SMap.get s.stc.owned [] r).filter fun k => decide (base ≤ k) && decide (k < base + n)).map (· - base)

/-- Whether every core of a rod is fenced. Log 121 (DEDUCED). -/
def Dev.rodFenced (s : Dev) (r : Nat) : Bool := (List.range 8).all fun i => s.fenced (r * 8 + i)

/-- The units of a slice stop (R357 step 4): RUN = 0 on the rod, a Q reset of its queues with EN cleared, DMA_OWN cleared, its
launch lists and REGION entries removed. Its RWL fields are open. -/
def Dev.sliceStop (s : Dev) (r : Nat) : Dev :=
  let s := (List.range 8).foldl (fun s i => s.coreRun (r * 8 + i) false) s
  let s := (s.sliceOwned r 0x400 0x400).foldl (fun s q => (s.queReset q).fset (Reg.QUE_CFG q) Reg.QUE_CFG_EN_f false) s
  let s := (s.sliceOwned r 0x1000 0x80).foldl (fun s k => s.rset (Reg.DMA_OWN (k / 64) (k % 64)) 0) s
  let s := (s.sliceOwned r 0x2000 0x40).foldl (fun s n => (s.listStop n).setList n listEmpty) s
  let us := SMap.get s.stc.owned [] r ++ (List.range 8).map (r * 8 + ·)
  { s with
    regions := s.regions.filter fun x => x.slice != r
    stc := { s.stc with owned := SMap.set s.stc.owned [] r [], openUnits := s.stc.openUnits ++ us } }

/-- Leave DRAIN for APPLY (R357): the units of slice OLD stop, with what a failed operation left of slice NEW (R359).
Log 120 (DEDUCED). -/
def Dev.drainEnd (s : Dev) : Dev :=
  let s := (s.stcState 3).fset Reg.STC_STAT Reg.STC_STAT_DRAINREQ_f false
  let s := { s with stc := { s.stc with forced := false, openUnits := [] } }
  (s.sliceStop (s.fget Reg.STC_SLICE Reg.STC_SLICE_OLD_f)).sliceStop (s.fget Reg.STC_SLICE Reg.STC_SLICE_NEW_f)

/-- A forced drain ends once the slice's channels have left LOAD, RUN and DRAINING (R358). Log 120 (DEDUCED). -/
def Dev.drainForced (s : Dev) : Dev :=
  let old := s.fget Reg.STC_SLICE Reg.STC_SLICE_OLD_f
  if s.stc.forced && s.stcIs 2 && (s.sliceOwned old 0x1000 0x80).all (fun k => !(s.dmaActive (k / 64) (k % 64))) then
    s.drainEnd
  else s

/-- A write of STC_DRAINACK: accepted from a core of rod OLD during DRAIN (R357). Log 120 (DEDUCED). -/
def Dev.drainackWrite (s : Dev) (r : Req) (w : Word) : Dev :=
  let old := s.fget Reg.STC_SLICE Reg.STC_SLICE_OLD_f
  let core := (List.range 8).any fun i => r == .local (old * 8 + i)
  if getF w Reg.STC_DRAINACK_ACK_f = 1 ∧ s.stcIs 2 ∧ ¬ s.stc.forced ∧ core then s.drainEnd else s

/-- A write in the RCK window. -/
def Dev.regRckWrite (s : Dev) (o : Nat) (w : Word) : Dev :=
  let n := (o - 0x10000) / 0x10
  if n < 113 then
    match o % 0x10 with
    | 0 => s.rckCtlWrite n w
    | 2 => s.rckSoftWrite n w
    | _ => s.regStore o w
  else s

/-- A write in the PGC window. -/
def Dev.regPgcWrite (s : Dev) (o : Nat) (w : Word) : Dev :=
  if o = Reg.PGC_SCRUB_CTL then s.scrubCtlWrite w
  else if o = Reg.PGC_RECMD then s.recmdWrite w
  else if o = Reg.PGC_REMAP then s.remapWrite w
  else if o = Reg.PGC_FLIP_MASK then s.flipMaskWrite w
  else if o = Reg.PGC_LOGCTL then s.logctlWrite w
  else s.regStore o w

/-- A write in the DMA window: descriptor registers are ignored in LOAD, RUN and DRAINING (R308). -/
def Dev.regDmaWrite (s : Dev) (r : Req) (o : Nat) (w : Word) : Dev :=
  match dmaChannelAt o with
  | none => s.regStore o w
  | some (e, c) =>
    let k := o - Reg.DMA_CTL e c
    if k = 0 then s.dmaCtlWrite r e c w
    else if k ≤ 15 && s.dmaActive e c then s
    else s.regStore o w

/-- A write in the LNC window. -/
def Dev.regLncWrite (s : Dev) (o : Nat) (w : Word) : Dev :=
  let n := (o - 0x70100) / 0x10
  if o = Reg.LNC_GCTL then s.lncGctlWrite w
  else if 0x70100 ≤ o ∧ n < 64 ∧ o % 0x10 = 0 then s.lncCtlWrite n w
  else s.regStore o w

/-- A write in the QUE window. -/
def Dev.regQueWrite (s : Dev) (o : Nat) (w : Word) : Dev :=
  let n := (o - 0x90100) / 0x10
  if 0x90100 ≤ o ∧ n < 1024 ∧ o % 0x10 = 7 then s.queCtlWrite n w else s.regStore o w

/-- A write in the TIM window. -/
def Dev.regTimWrite (s : Dev) (o : Nat) (w : Word) : Dev :=
  let k := (o - 0xA0100) / 8
  if o = Reg.TIM_CTL then s.timCtlWrite w
  else if o = Reg.TIM_INC_LO then s.incLoWrite w
  else if o = Reg.TIM_INC_HI then s.incCommit w
  else if o = Reg.TIM_REFCFG then s.refcfgWrite w
  else if o = Reg.TIM_CMD then s.timCmdWrite w
  else if o = Reg.TIM_PPSI_CFG then s.ppsiCfgWrite w
  else if o = Reg.TIM_PPSO_CFG then s.ppsoCfgWrite w
  else if 0xA0100 ≤ o ∧ k < 16 ∧ o % 8 = 3 then s.cmpCommit k w
  else s.regStore o w

/-- A write in the EVT window. -/
def Dev.regEvtWrite (s : Dev) (o : Nat) (w : Word) : Dev :=
  if o = Reg.EVT_CTL then s.evtCtlWrite w s.locked
  else if o = Reg.EVT_TAIL then s.evtTailWrite w
  else s.regStore o w

/-- A write in the DFE window. -/
def Dev.regDfeWrite (s : Dev) (o : Nat) (w : Word) : Dev :=
  let u := (o - 0xC0000) / 0x1000
  let f := (o - 0xC0000) % 0x1000
  if u < 8 ∧ 0x100 ≤ f ∧ f < 0x900 ∧ f % 8 = 6 then s.rxGainWrite u ((f - 0x100) / 8) w
  else if u < 8 ∧ 0x100 ≤ f ∧ f < 0x900 ∧ f % 8 = 7 then (s.regStore o w).rxnfWrite u ((f - 0x100) / 8) w
  else s.regStore o w

/-- A write in the BDT window. -/
def Dev.regBdtWrite (s : Dev) (o : Nat) (w : Word) : Dev :=
  let n := (o - 0xE0000) / 0x100
  let f := o % 0x100
  if n < 16 ∧ 0x10 ≤ f ∧ f < 0x90 ∧ f % 8 = 0 then s.ccfgWrite n ((f - 0x10) / 8) w else s.regStore o w

/-- A write in the PWR window. -/
def Dev.regPwrWrite (s : Dev) (o : Nat) (w : Word) : Dev :=
  if o = Reg.PWR_GRPCMD then s.grpCmdWrite w
  else if o = Reg.PWR_PAD_RELEASE then s.padRelease w
  else if o = Reg.PWR_SERVO_CTL then s.servoCtlWrite w
  else if o = Reg.PWR_VSET then s.vsetWrite w
  else if o = Reg.PWR_SLACK_POST then s.slackPost (getF w Reg.PWR_SLACK_POST_SAMPLE_f)
  else s.regStore o w

/-- A write in the STC window. -/
def Dev.regStcWrite (s : Dev) (r : Req) (o : Nat) (w : Word) : Dev :=
  if o = Reg.STC_CMD then s.stcCmdWrite w
  else if o = Reg.STC_FENCE then s.fenceWrite w
  else if o = Reg.STC_DRAINACK then s.drainackWrite r w
  else s.regStore o w

/-- A write in the BRG window: the administrative gate list is closed to writes while PEND = 1 (R394). -/
def Dev.regBrgWrite (s : Dev) (o : Nat) (w : Word) : Dev :=
  let p := (o - 0x181000) / 0x100
  let f := o % 0x100
  let pend (p : Nat) : Bool := s.fbit (Reg.BRG_GCLCTL p) Reg.BRG_GCLCTL_PEND_f
  if o = Reg.BRG_FDBCMD then s.fdbWrite w
  else if 0x181000 ≤ o ∧ p < 16 ∧ f = 0x30 then s.gclWrite p w
  else if 0x181000 ≤ o ∧ p < 16 ∧ 0x31 ≤ f ∧ f ≤ 0x35 then (if pend p then s else s.regStore o w)
  else if 0x181000 ≤ o ∧ p < 16 ∧ 0x10 ≤ f ∧ f < 0x30 ∧ f % 4 = 1 then (s.shaperRefill p).shpRateWrite p ((f - 0x10) / 4) w
  else if 0x181000 ≤ o ∧ p < 16 ∧ (f = 0x36 ∨ 0x10 ≤ f ∧ f < 0x30 ∧ f % 4 = 2) then (s.shaperRefill p).regStore o w
  else if 0x188000 ≤ o ∧ o < 0x18C000 then
    let p := (o - 0x188000) / 0x400
    let k := (o - 0x188000) % 0x400 / 0x200
    if pend p && k != s.gclOper p then s else s.regStore o w
  else if 0x181000 ≤ o ∧ p < 18 ∧ f = 0 then (s.regStore o w).laneSettle
  else s.regStore o w

/-- A write in the LAN window. -/
def Dev.regLanWrite (s : Dev) (o : Nat) (w : Word) : Dev :=
  let q := (o - 0x190100) / 0x40
  let f := (o - 0x190100) % 0x40
  if o < 0x190100 ∨ 16 ≤ q then s.regStore o w
  else if f = 0x30 then s.eyeWrite q w
  else if f = 6 then s.spareWrite q w
  else if 0x10 ≤ f ∧ f < 0x30 ∧ f % 8 = 1 then s.lanLctlWrite (q * 4 + (f - 0x10) / 8) w
  else (s.regStore o w).laneSettle

/-- A write in the FAB window. -/
def Dev.regFabWrite (s : Dev) (o : Nat) (w : Word) : Dev :=
  let p := (o - 0x1A0100) / 0x20
  if 0x1A0400 ≤ o ∧ o < 0x1A0800 then s.routeWrite (o - 0x1A0400) w
  else if 0x1A0100 ≤ o ∧ p < 16 ∧ o % 0x20 = 0 then (s.fabPcfgWrite p w).laneSettle
  else (s.regStore o w).laneSettle

/-- A write in the SEC window. -/
def Dev.regSecWrite (s : Dev) (r : Req) (o : Nat) (w : Word) : Dev :=
  if o = Reg.SEC_BOOTOK then s.bootOk w
  else if o = Reg.SEC_CMD then s.secCmdWrite r w
  else if o = Reg.SEC_TAMPCFG then s.tampCfgWrite w
  else s.regStore o w

/-- A write in the RST window. -/
def Dev.regRstWrite (s : Dev) (o : Nat) (w : Word) : Dev :=
  if o = Reg.RST_CMD then s.rstCmd w
  else if o = Reg.RST_AWDT then s.awdtWrite w
  else s.regStore o w

/-- A write of a whole register word that is permitted. Log 12 (DEDUCED). -/
def Dev.regPut (s : Dev) (r : Req) (o : Nat) (w : Word) : Dev :=
  match o / 0x10000 with
  | 1 => s.regRckWrite o w
  | 3 =>
    let n := (o - 0x30000) / 0x10
    if n < 14 ∧ o % 0x10 = 0 then s.cmxCtlWrite n w else s.regStore o w
  | 4 => s.regPgcWrite o w
  | 5 => if o = Reg.MEM_FLUSH then s.flushWrite w else s.regStore o w
  | 6 => s.regDmaWrite r o w
  | 7 => s.regLncWrite o w
  | 9 => s.regQueWrite o w
  | 10 => s.regTimWrite o w
  | 11 => s.regEvtWrite o w
  | 12 => s.regDfeWrite o w
  | 14 => s.regBdtWrite o w
  | 17 => s.regPwrWrite o w
  | 18 => if o = Reg.SUP_CTL then s.supCtlWrite w else s.regStore o w
  | 22 => s.regStcWrite r o w
  | 23 => if o = Reg.TLY_AT_NSH then s.tlyArmWrite w else s.regStore o w
  | 24 => s.regBrgWrite o w
  | 25 => s.regLanWrite o w
  | 26 => s.regFabWrite o w
  | 27 => s.regSecWrite r o w
  | 28 => s.regRstWrite o w
  | _ => s.regStore o w

/-- A write of an offset from 0x3000_0000 by a requester with byte lanes: whether it ends without a bus error, and the state
after it (R11). Log 13 (DEDUCED). -/
def Dev.regWrite (s : Dev) (r : Req) (o : Nat) (w : Word) (lanes : Nat) : Bool × Dev :=
  if !(implemented o || shadowed o) then (false, s)
  else if (regSpec (if shadowed o then o - shadowBase else o)).isNone then (s.mayAccess r o, s)
  else if lanes != allLanes then (false, s)
  else if shadowed o then (true, s)
  else if s.mayWrite r o then (true, s.regPut r o w)
  else (false, s)

/-! ### Reads -/

/-- RCK_STAT_n: PC is not stated while the core runs. Log 36 (DEDUCED). -/
def Dev.rckStatWord (s : Dev) (n : Nat) : Word × Dev :=
  let c := s.core n
  let on := s.unitOn (coreUnit n) || s.dom (if n = 112 then 210 else n) == .retain
  let st := if !on then 6 else match c.st with
    | .stopped => 0 | .run => 1 | .wait => 2 | .retain => 3 | .halted => 4 | .fenced => 5
  if st = 1 then
    let (v, s) := s.free
    (word (2 ^ 21 + v % 2 ^ 16), s)
  else (word (st * 2 ^ 21 + c.pc % 2 ^ 16), s)

/-- ROD_STAT_r: the rod enters RETAIN when its core 0 asks for it and other cores or the CMX still work (R244). -/
def Dev.rodStatWord (s : Dev) (r : Nat) : Word :=
  let waiting := (List.range 8).foldl (fun n i =>
    let c := s.core (r * 8 + i)
    n + bit (c.st == .wait || c.st == .retain || c.hold == some .waitDrain) * 2 ^ i) 0
  let st := match s.dom (112 + r) with
    | .off => 0
    | .retain => 2
    | .on => if (s.core (r * 8)).wantRod && (s.core (r * 8)).st == .wait then 3 else 1
  word (st * 2 ^ 22 + waiting)

/-- CMX_STAT_n. -/
def Dev.cmxStatWord (s : Dev) (r : Nat) : Word :=
  let x := s.cmxOf r
  let st := if s.dom (112 + r) == .off then 3 else if x.fenced then 2 else if x.q == [] then 0 else 1
  let waiters := x.waiters.foldl (fun n c => n + 2 ^ (c % 8)) 0
  word (st * 2 ^ 22 + bit x.owner.isSome * 2 ^ 21 + (x.owner.getD 0) % 8 * 2 ^ 18 +
    s.fget (Reg.CMX_STAT r) Reg.CMX_STAT_SAT_f * 2 ^ 17 + Nat.min 4 x.depth * 2 ^ 14 + waiters % 256)

/-- QUE_GSTAT. -/
def Dev.queGstatWord (s : Dev) : Word :=
  let on := (List.range 1024).filter fun n => s.fbit (Reg.QUE_CFG n) Reg.QUE_CFG_EN_f
  let l := on.filter fun n => s.fget (Reg.QUE_CFG n) Reg.QUE_CFG_CLASS_f == 2
  word (l.length * 2 ^ 17 + on.length)

/-- QUE_STAT_n. -/
def Dev.queStatWord (s : Dev) (n : Nat) : Word :=
  let q := s.queue n
  let st := if !(s.qOn n) then 0 else if q.discard then 2 else 1
  word (st * 2 ^ 22 + bit q.partway * 2 ^ 21 + s.fget (Reg.QUE_STAT n) Reg.QUE_STAT_RDCUT_f * 2 ^ 20 + q.depth % 2 ^ 18)

/-- TIM_CTL. -/
def Dev.timCtlWord (s : Dev) : Word :=
  let w := s.rget Reg.TIM_CTL
  let w := putF w Reg.TIM_CTL_REFOK_f (bit s.tim.refOk)
  let w := putF w Reg.TIM_CTL_FREERUN_f (bit !s.tim.refOk)
  let w := putF w Reg.TIM_CTL_SLEWING_f (bit (decide (s.tim.rem ≠ 0)))
  putF w Reg.TIM_CTL_ARMED_f (bit s.tim.armed.isSome)

/-- REM in whole nanoseconds, toward 0 (TIM_REM). Log 95 (DEDUCED). -/
def Dev.remNs (s : Dev) : Nat := (BitVec.ofInt 30 (s.tim.rem.tdiv nsUnit)).toNat

/-- BDT_CTL_n.INUSE or BDT_CSTAT_n_c.INUSE: instances in use. -/
def Dev.instsOf (s : Dev) (det : Nat) (slot : Option Nat) : Nat :=
  (s.brx.insts.filter fun e => match e.2 with
    | some x => x.det == det && (slot == none || slot == some x.slot)
    | none => false).length

/-- A read in the TIM window. -/
def Dev.regTimRead (s : Dev) (o : Nat) : Word :=
  if o = Reg.TIM_CTL then s.timCtlWord
  else if o = Reg.TIM_NOW_SL then word (secOf s.time)
  else if o = Reg.TIM_NOW_SH then word (secOf s.time / 2 ^ 24)
  else if o = Reg.TIM_NOW_NSL then word (nsOf s.time)
  else if o = Reg.TIM_NOW_NSH then
    putF (putF 0 Reg.TIM_NOW_NSH_TV_f (bit s.timeValid)) Reg.TIM_NOW_NSH_NS_f (nsOf s.time / 2 ^ 24)
  else if o = Reg.TIM_NOW_FR then putF 0 Reg.TIM_NOW_FR_FRAC_f (fracOf s.time)
  else if o = Reg.TIM_REM_LO then word s.remNs
  else if o = Reg.TIM_REM_HI then word (s.remNs / 2 ^ 24)
  else s.rget o

/-- A read in a window whose units show whether they work: SPC, TRL, TRB and ENC. TRB's ITER while a job runs is some number up to the
iterations the job may run (R184, R203). Log 202 (DESIGN CHOICE). -/
def Dev.jobStatWord (s : Dev) (u : Nat) (count iter : Bool) : Word × Dev :=
  let n := (s.jobsOf u).length
  if n = 0 then (0, s)
  else if count then (word (n % 8 * 2 ^ 21), s)
  else if iter then
    let (v, s) := s.free
    let most := match (s.jobsOf u).head? with | some j => trbCap j.cfg (trbDesc (j.bead.drop 4)).imax | none => 0
    (word (2 ^ 23 + v % (most + 1) * 2 ^ 19), s)
  else (word (2 ^ 23), s)

/-- A read in the DFE window. Log 76 (DEDUCED). -/
def Dev.regDfeRead (s : Dev) (o : Nat) : Word :=
  let u := (o - 0xC0000) / 0x1000
  let f := (o - 0xC0000) % 0x1000
  let k := (o - 0xCF000) / 0x10
  if u < 8 ∧ f = 0 then word ((s.rget o).toNat / 2 ^ 23 * 2 ^ 23 + s.dfeCtlLive u)
  else if 0xCF000 ≤ o ∧ k < 4 ∧ o % 0x10 = 3 then
    putF (putF (s.rget o) Reg.DFE_JSTAT_UP_f (bit (s.jup k))) Reg.DFE_JSTAT_SYSOK_f
      (bit ((SMap.get s.dfe.jsys none k).map (·.2) == some true))
  else if u < 8 ∧ 0x100 ≤ f ∧ f < 0x900 ∧ f % 8 = 6 ∧ !(s.rxLoops u ((f - 0x100) / 8)) then
    putF (s.rget o) Reg.DFE_RXGAIN_G_f (BitVec.ofInt 12 (s.rxGainAt u ((f - 0x100) / 8) s.nowNs)).toNat
  else if u < 8 ∧ 0x100 ≤ f ∧ f < 0x900 ∧ f % 8 = 5 ∧ (s.rxf u ((f - 0x100) / 8) Reg.DFE_RXCFG_SRC_f ≠ 0 ∨
      s.rxf u ((f - 0x100) / 8) Reg.DFE_RXCFG_KIND_f ≥ 4) then putF (s.rget o) Reg.DFE_RXAGC_MODE_f 1
  else s.rget o

/-- A read in the BRG window (R410, R411). -/
def Dev.regBrgRead (s : Dev) (o : Nat) : Word :=
  let p := (o - 0x181000) / 0x100
  let f := o % 0x100
  if 0x181000 ≤ o ∧ p < 18 ∧ f = 1 then s.pstatWord p
  else if 0x181000 ≤ o ∧ p < 16 ∧ f = 0 then putF (s.rget o) Reg.BRG_PCFG_PTPM_f (bit (s.ptpBc p))
  else if 0x181000 ≤ o ∧ p < 18 ∧ f = 0x38 then
    putF (s.rget o) Reg.BRG_MSEC_TXAN_f (((s.txSa p).map (·.an)).getD 0)
  else s.rget o

/-- A read in the LAN window. -/
def Dev.regLanRead (s : Dev) (o : Nat) : Word :=
  let q := (o - 0x190100) / 0x40
  let f := (o - 0x190100) % 0x40
  if o < 0x190100 ∨ 16 ≤ q then s.rget o
  else if f = 5 then s.qstatWord q
  else if f = 6 then s.spareWord q
  else if 0x10 ≤ f ∧ f < 0x30 ∧ f % 8 = 2 then s.lstatWord (q * 4 + (f - 0x10) / 8)
  else s.rget o

/-- A read in the FAB window. -/
def Dev.regFabRead (s : Dev) (o : Nat) : Word :=
  let p := (o - 0x1A0100) / 0x20
  if o = Reg.FAB_SERIAL0 then (serialWords s.serial).getD 0 0
  else if o = Reg.FAB_SERIAL1 then (serialWords s.serial).getD 1 0
  else if o = Reg.FAB_SERIAL2 then (serialWords s.serial).getD 2 0
  else if 0x1A0100 ≤ o ∧ p < 16 ∧ o % 0x20 = 1 then s.fabPstatWord p
  else s.rget o

/-- A read in the SEC window. -/
def Dev.regSecRead (s : Dev) (o : Nat) : Word :=
  let k := o - 0x1B0000
  if o = Reg.SEC_STAT then s.secStatWord
  else if o = Reg.SEC_NONCE_LO then word s.sec.nonce
  else if o = Reg.SEC_NONCE_HI then word (s.sec.nonce / 2 ^ 24)
  else if 0x10 ≤ k ∧ k < 0x18 then s.slotWord (k - 0x10)
  else if 0x20 ≤ k ∧ k < 0x40 then putF 0 Reg.SEC_ARB_VALUE_f (s.arb_ (k - 0x20))
  else if 0x40 ≤ k ∧ k < 0x60 then putF 0 Reg.SEC_ARBN_N_f (s.arbRows (k - 0x40)).length
  else if 0x80 ≤ k ∧ k < 0x89 then word (s.otpRow (7 + (k - 0x80)))
  else s.rget o

/-- A read in the windows of the power controller and the supplies. -/
def Dev.regPwrRead (s : Dev) (o : Nat) : Word :=
  let d := o - 0x110100
  if o = Reg.PWR_MODE then s.pwrModeWord
  else if o = Reg.PWR_PAD_RELEASE then putF 0 Reg.PWR_PAD_RELEASE_HELD_f (bit s.pwr.held)
  else if o = Reg.PWR_GRPCMD then putF (s.rget o) Reg.PWR_GRPCMD_BUSY_f (bit s.pwr.grpBusy.isSome)
  else if 0x110100 ≤ o ∧ d < 212 then s.domstatWord d
  else if o = Reg.SUP_STAT then s.supStatWord
  else if o = Reg.SUP_RETRY then putF (s.rget o) Reg.SUP_RETRY_WAIT_f s.retrySecs
  else if o = Reg.SUP_VRD_MAIN then putF 0 Reg.SUP_VRD_MAIN_MV_f s.pwr.mvMain
  else if o = Reg.SUP_VRD_BACK then putF 0 Reg.SUP_VRD_BACK_MV_f s.pwr.mvBack
  else s.rget o

/-- The word that a read of an implemented offset returns; WO fields read 0 because nothing stores them (R13, R14). While a reached
entry waits, LNC_STAT_n.NEXT is its index. Log 12 (DEDUCED), 36 (DEDUCED), 200 (DESIGN CHOICE). -/
def Dev.regGet (s : Dev) (o : Nat) : Word × Dev :=
  match o / 0x10000 with
  | 1 => if o % 0x10 = 1 ∧ (o - 0x10000) / 0x10 < 113 then s.rckStatWord ((o - 0x10000) / 0x10) else (s.rget o, s)
  | 2 => (if o % 0x10 = 0 ∧ (o - 0x20000) / 0x10 < 14 then s.rodStatWord ((o - 0x20000) / 0x10) else s.rget o, s)
  | 3 => (if o % 0x10 = 1 ∧ (o - 0x30000) / 0x10 < 14 then s.cmxStatWord ((o - 0x30000) / 0x10) else s.rget o, s)
  | 4 => (if o = Reg.PGC_RECMD then putF (s.rget o) Reg.PGC_RECMD_BUSY_f (bit s.rm.reenc.isSome) else s.rget o, s)
  | 5 =>
    let b := (o - 0x50100) / 0x10
    (if o = Reg.MEM_STAT then putF 0 Reg.MEM_STAT_INITDONE_f (bit s.rm.initDone)
     else if o = Reg.MEM_FLUSH then putF (s.rget o) Reg.MEM_FLUSH_BUSY_f (bit s.rm.flushBusy)
     else if 0x50100 ≤ o ∧ b < 32 ∧ o % 0x10 = 0 then s.bankWord b
     else s.rget o, s)
  | 6 =>
    (if o = Reg.DMA_ECTL 0 ∨ o = Reg.DMA_ECTL 1 then
      let e := (o - 0x60000) / 0x8000
      putF (s.rget o) Reg.DMA_ECTL_ACTIVE_f ((List.range 64).filter fun c => s.dmaActive e c).length
     else s.rget o, s)
  | 7 =>
    let n := (o - 0x70100) / 0x10
    (if o = Reg.LNC_GCTL then putF (s.rget o) Reg.LNC_GCTL_HELD_f (bit (s.lnc.held || s.lncCond))
     else if 0x70100 ≤ o ∧ n < 64 ∧ o % 0x10 = 1 then word (s.listState n * 2 ^ 22 + (s.list n).idx % 2 ^ 12)
     else s.rget o, s)
  | 8 =>
    let n := (o - 0x80100) / 0x10
    (if 0x80100 ≤ o ∧ n < 64 ∧ o % 0x10 = 1 then putF (s.rget o) Reg.DLQ_STAT_DEPTH_f (s.dlqDepth n) else s.rget o, s)
  | 9 =>
    let n := (o - 0x90100) / 0x10
    (if o = Reg.QUE_GSTAT then s.queGstatWord
     else if 0x90100 ≤ o ∧ n < 1024 ∧ o % 0x10 = 8 then s.queStatWord n
     else s.rget o, s)
  | 10 => (s.regTimRead o, s)
  | 11 => (if o = Reg.EVT_NEXTSEQ then word s.arb.nextSeq else s.rget o, s)
  | 12 => (s.regDfeRead o, s)
  | 13 =>
    let n := (o - 0xD0000) / 0x10
    if n < 24 ∧ o % 0x10 = 1 then s.jobStatWord (0x80 + n) true false else (s.rget o, s)
  | 14 =>
    let n := (o - 0xE0000) / 0x100
    let f := o % 0x100
    (if n < 16 ∧ f = 0 then putF (s.rget o) Reg.BDT_CTL_INUSE_f (s.instsOf n none)
     else if n < 16 ∧ 0x10 ≤ f ∧ f < 0x90 ∧ f % 8 = 7 then
       putF 0 Reg.BDT_CSTAT_INUSE_f (s.instsOf n (some ((f - 0x10) / 8)))
     else s.rget o, s)
  | 15 => (if o = Reg.BRX_SICFREE then putF 0 Reg.BRX_SICFREE_FREE_f s.sicFree else s.rget o, s)
  | 17 => (s.regPwrRead o, s)
  | 18 => (s.regPwrRead o, s)
  | 19 =>
    let n := (o - 0x130000) / 0x10
    if n < 16 ∧ o % 0x10 = 1 then s.jobStatWord (0x98 + n) false false else (s.rget o, s)
  | 20 =>
    let n := (o - 0x140000) / 0x10
    if n < 12 ∧ o % 0x10 = 1 then s.jobStatWord (0xA8 + n) false true else (s.rget o, s)
  | 21 =>
    let n := (o - 0x150000) / 0x10
    if n < 8 ∧ o % 0x10 = 1 then s.jobStatWord (0xB4 + n) false false else (s.rget o, s)
  | 22 => (if o = Reg.STC_FENCE then putF (s.rget o) Reg.STC_FENCE_BUSY_f (bit (s.stc.fenceWait != [])) else s.rget o, s)
  | 23 => (if o = Reg.TLY_STAT then putF (s.rget o) Reg.TLY_STAT_STATE_f s.tlyState else s.rget o, s)
  | 24 => (s.regBrgRead o, s)
  | 25 => (s.regLanRead o, s)
  | 26 => (s.regFabRead o, s)
  | 27 => (s.regSecRead o, s)
  | 28 => (if o = Reg.RST_STAT then s.rstStatWord else s.rget o, s)
  | _ => (s.rget o, s)

/-- A read of an offset from 0x3000_0000 by a requester; none when it ends in a bus error (R11, R300, R546). Log 13 (DEDUCED). -/
def Dev.regRead (s : Dev) (r : Req) (o : Nat) : Option Word × Dev :=
  if shadowed o then (some (SMap.get s.shadow 0 (o - shadowBase)), s)
  else if !(implemented o) then (none, s)
  else if s.mayAccess r o then
    let (w, s) := s.regGet o
    (some w, s)
  else (none, s)

end Sys2Proof.Machine
end

