-- ==== Sys2Proof/Machine/Bus.lean ====
section
/-! DEFINITION. An access by a requester to any local address (R10, R11): memories, buffers and control registers. -/

namespace Sys2Proof.Machine

/-- Read a word; none is a bus error. -/
def Dev.busRead (s : Dev) (r : Req) (a : Nat) : Option Word × Dev :=
  match placeOf a with
  | .creg o => s.regRead r o
  | _ => s.memRead a

/-- Write lanes of a word; false is a bus error. -/
def Dev.busWrite (s : Dev) (r : Req) (a : Nat) (d : Word) (lanes : Nat) : Bool × Dev :=
  match placeOf a with
  | .creg o => s.regWrite r o d lanes
  | _ => s.memWrite a d lanes

/-- Read consecutive words up to the first bus error. -/
def Dev.busReadN (s : Dev) (r : Req) (a n : Nat) : List Word × Bool × Dev :=
  match n with
  | 0 => ([], true, s)
  | n + 1 =>
    match s.busRead r a with
    | (none, s) => ([], false, s)
    | (some w, s) =>
      let (ws, ok, s) := s.busReadN r (a + 1) n
      (w :: ws, ok, s)

/-- The path of an accelerator to every local address its descriptors name: control registers are reached as any unit reaches them
(R10, R11). -/
def unitPort (u : Nat) : Port := { rd := fun s a => s.busRead (.local u) a, wr := fun s a d l => s.busWrite (.local u) a d l }

end Sys2Proof.Machine
end

