-- ==== Sys2Proof/Machine/RckMem.lean ====
section
/-! DEFINITION. The Reckoner's memory instructions and what completes them: loads and stores, vector memory access and VSTART,
posted stores, BSEND, QOP, the inbox (R220, R223 to R234). -/

namespace Sys2Proof.Machine

/-! ### One access -/

/-- A core as a requester. -/
def coreReq (n : Nat) : Req := .local (coreUnit n)

/-- Read a word for core n: local memory, or the bus. Log 25 (DEDUCED). -/
def Dev.coreRead (s : Dev) (n a : Nat) : Option Word × Dev :=
  match ownWord n a with
  | some x => s.lmRead n x
  | none => s.busRead (coreReq n) a

/-- Read the words of one element; the address that failed, if one did. -/
def Dev.coreReadN (s : Dev) (n a k : Nat) : List Word × Option Nat × Dev :=
  match k with
  | 0 => ([], none, s)
  | k + 1 =>
    match s.coreRead n a with
    | (none, s) => ([], some a, s)
    | (some w, s) =>
      let (ws, bad, s) := s.coreReadN n (a + 1) k
      (w :: ws, bad, s)

/-- A store of core n ends in an error (R230): MIP.STERR is set, and the first failing address since it was cleared is kept. -/
def Dev.storeErr (s : Dev) (n a : Nat) : Dev :=
  let s := s.onCore n fun c =>
    let c := if c.sterrSeen then c else (c.cw 0x10D (word a)).cw 0x10E (word (bits a 31 24))
    { c.cbw 0x107 1 true with sterrSeen := true }
  s.raise 0x304 (coreEvt n)

/-- Store lanes of a word in own local memory. Log 25 (DEDUCED). -/
def Dev.ownStore (s : Dev) (n x a : Nat) (d : Word) (lanes : Nat) : Dev :=
  match s.lmStore n x d lanes with
  | (true, s) => s
  | (false, s) => s.storeErr n a

/-- Post a store (R230). Log 30 (DEDUCED). -/
def Core.post (c : Core) (st : PStore) : Core := { c with stores := c.stores ++ [st] }

/-- The pointer update of U = 1, made when the instruction completes. -/
def Core.update (c : Core) (u : Option (Nat × Addr)) : Core :=
  match u with
  | some (p, a) => c.pw p a
  | none => c

/-! ### Scalar loads and stores (R219, R220, R228 to R230) -/

/-- The address and update of format M: p + OFF, or p and then p = p + OFF (R217). -/
def Core.mAddr (c : Core) (w : Word) : Nat × Option (Nat × Addr) :=
  let p := c.pr (iP w)
  let q := p + BitVec.ofInt 32 (iImm w)
  if ib w 8 8 = 1 then (p.toNat, some (iP w, q)) else (q.toNat, none)

/-- LDW. -/
def Dev.rckLdw (s : Dev) (n : Nat) (w : Word) : Dev :=
  s.issue n 1 w false fun s =>
    let (a, u) := (s.core n).mAddr w
    if s.grants n a false then
      match ownWord n a with
      | some x =>
        match s.lmRead n x with
        | (none, s) => s.trapAddr n 2 a
        | (some v, s) => s.onCore n fun c => ((c.gw (iD w) v).update u).done 1
      | none => s.onCore n fun c => { c with hold := some (.loadW (iD w) a u) }
    else s.trapAddr n 3 a

/-- Issue a store of lanes of a word: at once in own local memory, else posted; the 17th waits. -/
def Dev.storeNow (s : Dev) (n : Nat) (st : PStore) (u : Option (Nat × Addr)) : Dev :=
  if s.grants n st.addr true then
    match ownWord n st.addr with
    | some x => (s.ownStore n x st.addr st.data st.lanes).onCore n fun c => (c.update u).done c.len
    | none =>
      if (s.core n).stores.length < 16 then s.onCore n fun c => ((c.post st).update u).done c.len
      else s.onCore n fun c => { c with hold := some (.store st u) }
  else s.trapAddr n 3 st.addr

/-- STW. -/
def Dev.rckStw (s : Dev) (n : Nat) (w : Word) : Dev :=
  s.issue n 1 w false fun s =>
    let c := s.core n
    let (a, u) := c.mAddr w
    s.storeNow n { addr := a, data := c.gr (iD w), lanes := allLanes } u

/-- The byte position of LDB and STB: 3 × p + EXT. -/
def Core.bytePos (c : Core) (w e : Word) : Nat := 3 * (c.pr (iP w)).toNat + e.toNat

/-- A byte lane of a word as LDB writes it. -/
def byteVal (v : Word) (l : Nat) (sgn : Bool) : Word :=
  let b := bits v.toNat (8 * l + 7) (8 * l)
  if sgn then wordI (sx 8 b) else word b

/-- LDB. Log 28 (DEDUCED). -/
def Dev.rckLdb (s : Dev) (n : Nat) (w e : Word) : Dev :=
  s.issue n 2 w (ib w 8 8 == 1) fun s =>
    let pos := (s.core n).bytePos w e
    let a := pos / 3 % 2 ^ 32
    let sgn := ib w 7 7 == 1
    if s.grants n a false then
      match ownWord n a with
      | some x =>
        match s.lmRead n x with
        | (none, s) => s.trapAddr n 2 a
        | (some v, s) => s.onCore n fun c => (c.gw (iD w) (byteVal v (pos % 3) sgn)).done 2
      | none => s.onCore n fun c => { c with hold := some (.loadB (iD w) a (pos % 3) sgn) }
    else s.trapAddr n 3 a

/-- STB. Log 28 (DEDUCED). -/
def Dev.rckStb (s : Dev) (n : Nat) (w e : Word) : Dev :=
  s.issue n 2 w (ib w 8 8 == 0) fun s =>
    let c := s.core n
    let pos := c.bytePos w e
    s.storeNow n { addr := pos / 3 % 2 ^ 32, data := word ((c.gr (iD w)).toNat % 256 * 256 ^ (pos % 3))
                   lanes := 2 ^ (pos % 3) } none

/-! ### Vector memory (R223 to R225) -/

/-- Write the words of one loaded element. -/
def Core.loadElem (c : Core) (v : VMem) (i : Nat) (ws : List Word) : Core :=
  (ws.zipIdx).foldl (fun c (x : Word × Nat) => c.vw v.reg (i * v.wpe + x.2) x.1) c

/-- A vector memory instruction ends in an exception at element i (R224). Log 29 (DEDUCED). -/
def Dev.trapElem (s : Dev) (n i code a : Nat) : Dev := (s.onCore n fun c => c.cw 1 (word i)).trapAddr n code a

/-- A vector memory instruction completes: VSTART is 0, a short load writes words 8 to 15 as 0, U = 1 updates p. -/
def Dev.vmemDone (s : Dev) (n : Nat) (v : VMem) : Dev :=
  s.release n fun c =>
    let c := if v.load && v.short then (List.range 8).foldl (fun c i => c.vw v.reg (8 + i) 0) c else c
    (c.update v.upd).cw 1 0

/-- The elements `es` in order (R223): each is checked against the region table, then accessed; one outside local memory holds a
load for its response, a store until there is room. Log 29 (DEDUCED), 30 (DEDUCED). -/
def Dev.vmemGo (s : Dev) (n : Nat) (v : VMem) (es : List (Nat × Nat)) : Dev :=
  match es with
  | [] => s.vmemDone n v
  | (i, a) :: t =>
    let addr (k : Nat) : Nat := (a + k) % 2 ^ 32
    let ks := List.range v.wpe
    match ks.find? fun k => !(s.grants n (addr k) (!v.load)) with
    | some k => s.trapElem n i 3 (addr k)
    | none =>
      if v.load then
        if ks.all fun k => (ownWord n (addr k)).isSome then
          match s.coreReadN n a v.wpe with
          | (_, some bad, s) => s.trapElem n i 2 bad
          | (ws, none, s) => (s.onCore n fun c => c.loadElem v i ws).vmemGo n v t
        else s.onCore n fun c => { c with hold := some (.vmem { v with elems := es }) }
      else
        let need := (ks.filter fun k => (ownWord n (addr k)).isNone).length
        if (s.core n).stores.length + need ≤ 16 then
          let s := ks.foldl (fun s k =>
            let d := (s.core n).vr v.reg (i * v.wpe + k)
            match ownWord n (addr k) with
            | some x => s.ownStore n x (addr k) d allLanes
            | none => s.onCore n fun c => c.post { addr := addr k, data := d, lanes := allLanes }) s
          s.vmemGo n v t
        else s.onCore n fun c => { c with hold := some (.vmem { v with elems := es }) }

/-- Begin a vector memory instruction at element VSTART: `act` says which elements are active, `at_` where they lie.
Log 29 (DEDUCED). -/
def Dev.vmemStart (s : Dev) (n len : Nat) (w : Word) (load : Bool) (act : Core → Nat → Bool) (at_ : Core → Nat → Nat)
    (upd : Core → Option (Nat × Addr)) : Dev :=
  s.issue n len w (notAbacist n || (s.core n).et == 3) fun s =>
    let c := s.core n
    let es := (List.range (elemCount c.et c.long)).filter fun i => decide (c.vstart ≤ i) && act c i
    let v : VMem := { load := load, reg := iD w, wpe := elemWords c.et, elems := [], upd := upd c, short := !c.long }
    s.vmemGo n v (es.map fun i => (i, at_ c i))

/-- VLD and VST: consecutive words from the address of format M. -/
def Dev.rckVlin (s : Dev) (n : Nat) (w : Word) (load : Bool) : Dev :=
  s.vmemStart n 1 w load (fun _ _ => true) (fun c i => (((c.mAddr w).1 + i * elemWords c.et) % 2 ^ 32)) fun c => (c.mAddr w).2

/-- VLD. -/
def Dev.rckVld (s : Dev) (n : Nat) (w : Word) : Dev := s.rckVlin n w true

/-- VST. -/
def Dev.rckVst (s : Dev) (n : Nat) (w : Word) : Dev := s.rckVlin n w false

/-- VLDS and VSTS: element i at base + i × g_s; the base is p + EXT, or p with p = p + EXT after it. -/
def Dev.rckVstride (s : Dev) (n : Nat) (w e : Word) (load : Bool) : Dev :=
  let ptr (c : Core) : Addr := c.pr (iP w) + e.setWidth 32
  let u := ib w 3 3 == 1
  s.vmemStart n 2 w load (fun c i => c.act (iF w) i)
    (fun c i => ((if u then c.pr (iP w) else ptr c).toNat + i * (c.gr (iS w)).toNat) % 2 ^ 32)
    fun c => if u then some (iP w, ptr c) else none

/-- VLDS. Log 28 (DEDUCED). -/
def Dev.rckVlds (s : Dev) (n : Nat) (w e : Word) : Dev := s.rckVstride n w e true

/-- VSTS. Log 28 (DEDUCED). -/
def Dev.rckVsts (s : Dev) (n : Nat) (w e : Word) : Dev := s.rckVstride n w e false

/-- VGATH and VSCAT: element i at p + idx_i × 2^SCALE, idx_i the signed word i of v_b. -/
def Dev.rckVindex (s : Dev) (n : Nat) (w e : Word) (load : Bool) : Dev :=
  s.vmemStart n 2 w load (fun c i => c.act (iF w) i)
    (fun c i => ((((c.pr (iP w)).toNat : Int) + (c.vr (iS w) i).toInt * 2 ^ (ib e 1 0)) % 2 ^ 32).toNat) fun _ => none

/-- VGATH. -/
def Dev.rckVgath (s : Dev) (n : Nat) (w e : Word) : Dev := s.rckVindex n w e true

/-- VSCAT. -/
def Dev.rckVscat (s : Dev) (n : Nat) (w e : Word) : Dev := s.rckVindex n w e false

/-! ### Responses (R228, R230) -/

/-- Whether a store of the core to one of these words is outstanding: accesses to one address take effect in order.
Log 30 (DEDUCED). -/
def Core.storing (c : Core) (a n : Nat) : Bool := c.stores.any fun st => decide (a ≤ st.addr) && decide (st.addr < a + n)

/-- A scalar load's word has been read, or has failed. -/
def Dev.loaded (s : Dev) (n a : Nat) (f : Word → Core → Core) : Dev :=
  match s.busRead (coreReq n) a with
  | (none, s) => (s.trapAddr n 2 a).settle n
  | (some v, s) => (s.release n (f v)).settle n

/-- LOAD_RESPONSE: the response of the load that core n is held for returns (R228). A memory that is not ready keeps it waiting
(R296, R479). Log 31 (DESIGN CHOICE). -/
def Dev.loadResponse (s : Dev) (n : Nat) : Dev :=
  let c := s.core n
  match c.hold with
  | some (.loadW d a u) =>
    if s.memReady a && !(c.storing a 1) then s.loaded n a fun v c => (c.gw d v).update u else s
  | some (.loadB d a l sgn) =>
    if s.memReady a && !(c.storing a 1) then s.loaded n a fun v c => c.gw d (byteVal v l sgn) else s
  | some (.vmem v) =>
    match v.load, v.elems with
    | true, (i, a) :: t =>
      if s.memReady a && !(c.storing a v.wpe) then
        match s.coreReadN n a v.wpe with
        | (_, some bad, s) => (s.trapElem n i 2 bad).settle n
        | (ws, none, s) => ((s.onCore n fun c => c.loadElem v i ws).vmemGo n v t).settle n
      else s
    | _, _ => s
  | _ => s

/-- What a store's response lets core n go on with: a store that waited for room, a fence, a WAITM that drained.
Log 31 (DESIGN CHOICE). -/
def Dev.storeGoOn (s : Dev) (n : Nat) : Dev :=
  let c := s.core n
  match c.hold with
  | some (.store st u) => s.release n fun c => (c.post st).update u
  | some (.vmem v) => if v.load then s else s.vmemGo n v v.elems
  | some .fence => if c.stores = [] then s.release n id else s
  | some .waitDrain =>
    if c.stores ≠ [] then s
    else if n = 112 ∧ s.fget Reg.PWR_MODE Reg.PWR_MODE_MODE_f ≠ s.pwr.mode then
      s.onCore n fun c => { c with st := .wait, hold := some .waitMode }
    else s.enterWait n
  | _ => s

/-- STORE_RESPONSE: the write of posted store `i` of core n is done and its response returns (R230). Stores to one address take
effect in program order. Log 31 (DESIGN CHOICE). -/
def Dev.storeResponse (s : Dev) (n i : Nat) : Dev :=
  let c := s.core n
  match c.stores[i]? with
  | none => s
  | some st =>
    if s.memReady st.addr && !((c.stores.take i).any fun x => x.addr == st.addr) then
      let s := s.onCore n fun c => { c with stores := c.stores.eraseIdx i }
      let (ok, s) := s.busWrite (coreReq n) st.addr st.data st.lanes
      let s := if ok then s else s.storeErr n st.addr
      (s.storeGoOn n).settle n
    else s

/-! ### Beads and queues (R232 to R234) -/

/-- The bead of words in memory: header and payload, with source and check word set (R232). Log 33 (DEDUCED). -/
def Dev.beadFrom (s : Dev) (n : Nat) (ws : List Word) : Bead :=
  Bead.seal {
    h0 := ws.getD 0 0
    h1 := ws.getD 1 0
    h2 := word (s.devnum % 1024 * 2 ^ 14 + coreUnit n * 4 + bits (ws.getD 2 0).toNat 1 0)
    h3 := ws.getD 3 0
    payload := ws.drop 4
    crc := 0 }

/-- BSEND (R232). Log 33 (DEDUCED). -/
def Dev.rckBsend (s : Dev) (n : Nat) (w _e : Word) : Dev :=
  s.issue n 2 w (decide (((s.core n).gr (iS w)).toNat < 4) || decide (((s.core n).gr (iS w)).toNat > 68)) fun s =>
    let c := s.core n
    let a := (c.pr (iP w)).toNat
    let k := (c.gr (iS w)).toNat
    match ownWord n a with
    | none => s.trapAddr n 3 a
    | some x =>
      if x + k > 0x10000 then s.trapAddr n 3 (a + (0x10000 - x))
      else
        match s.lmReadN n x k with
        | (_, some bad, s) => s.trapAddr n 2 (a + (bad - x))
        | (ws, none, s) => (s.send (s.beadFrom n ws)).onCore n fun c => c.done 2

/-- The queue of a QOP. -/
def iQueue (e : Word) : Nat := ib e 9 0

/-- Whether the image names core n as producer of queue q (R233, R330); inboxes and deadline queues have no core producer.
Log 32 (DEDUCED). -/
def Dev.produces (s : Dev) (n q : Nat) : Bool :=
  s.fbit (Reg.QUE_PROD q) Reg.QUE_PROD_VALID_f && s.fget (Reg.QUE_PROD q) Reg.QUE_PROD_UNIT_f == coreUnit n &&
    !(s.isInbox q) && !(s.isDlq q)

/-- Whether the image names core n as consumer of queue q; a core consumes its inbox. Log 32 (DEDUCED). -/
def Dev.consumes (s : Dev) (n q : Nat) : Bool :=
  (s.fbit (Reg.QUE_CONS q) Reg.QUE_CONS_VALID_f && s.fget (Reg.QUE_CONS q) Reg.QUE_CONS_UNIT_f == coreUnit n) ||
    ((s.core n).bound && (s.core n).inbox == q)

/-- QPOP: the next word goes into g_d; the core waits while the queue is empty. Log 32 (DEDUCED). -/
def Dev.rckQpop (s : Dev) (n : Nat) (w e : Word) : Dev :=
  s.issue n 2 w (ib e 11 10 != 0) fun s =>
    let q := iQueue e
    if s.consumes n q then
      match s.qPop q with
      | some (v, s) => s.onCore n fun c => (c.gw (iD w) v).done 2
      | none => s.onCore n fun c => { c with hold := some (.qpop (iD w) q) }
    else s.trapAddr n 3 q

/-- QTRY: a word and a mask of ones, or a mask of zeros. Log 32 (DEDUCED). -/
def Dev.rckQtry (s : Dev) (n : Nat) (w e : Word) : Dev :=
  s.issue n 2 w (ib e 11 10 != 1) fun s =>
    let q := iQueue e
    if s.consumes n q then
      match s.qPop q with
      | some (v, s) => s.onCore n fun c => ((c.gw (iD w) v).kw (ib w 12 10) 0xFFFF).done 2
      | none => s.onCore n fun c => (c.kw (ib w 12 10) 0).done 2
    else s.trapAddr n 3 q

/-- QPUSH: pushes g_d; the core waits while the queue is full. Log 32 (DEDUCED). -/
def Dev.rckQpush (s : Dev) (n : Nat) (w e : Word) : Dev :=
  s.issue n 2 w (ib e 11 10 != 2) fun s =>
    let q := iQueue e
    if s.produces n q then
      match s.qPush q ((s.core n).gr (iD w)) with
      | (true, s) => s.onCore n fun c => c.done 2
      | (false, s) => s.onCore n fun c => { c with hold := some (.qpush (iD w) q) }
    else s.trapAddr n 3 q

/-- QPOP_RESUME: a word has come for a waiting QPOP. -/
def Dev.qpopResume (s : Dev) (n : Nat) : Dev :=
  match (s.core n).hold with
  | some (.qpop d q) =>
    match s.qPop q with
    | some (v, s) => (s.release n fun c => c.gw d v).settle n
    | none => s
  | _ => s

/-- QPUSH_RESUME: room has come for a waiting QPUSH. -/
def Dev.qpushResume (s : Dev) (n : Nat) : Dev :=
  match (s.core n).hold with
  | some (.qpush d q) =>
    match s.qPush q ((s.core n).gr d) with
    | (true, s) => (s.release n id).settle n
    | (false, _) => s
  | _ => s

/-- The core that a unit number names. -/
def unitCore (u : Nat) : Option Nat := if u < 112 then some u else if u = 0x7F then some 112 else none

/-- INBOX_BEAD: a bead for a core's unit goes into its inbox whole, or is dropped (R234, R331). Log 34 (DEDUCED), 35 (DEDUCED). -/
def Dev.inboxBead (s : Dev) (b : Bead) : Dev :=
  match unitCore b.dunit with
  | none => s
  | some n =>
    s.arrive b (b.rsp || (b.op != 0x01 && b.op != 0x02)) fun s =>
      let c := s.core n
      let drop := (s.count (Reg.RCK_INDROP_LO n) 1).raise 0x305 (coreEvt n)
      if c.bound && s.qOn c.inbox then
        match s.qPushWhole c.inbox ([b.h0, b.h1, b.h2, b.h3] ++ b.payload) with
        | (true, s) => s
        | (false, _) => drop
      else drop

end Sys2Proof.Machine
end

