-- ==== Sys2Proof/Machine/RckRun.lean ====
section
/-! DEFINITION. Which instruction one or two words spell (R217 to R220, R253), decoding ahead of a held instruction (R236, R261),
and the row of an instruction's command. -/

namespace Sys2Proof.Machine

/-- The instruction that two words spell, run by core `n`: L and the opcode in [23:18], then FN or KIND; a reserved one raises
ILLEGAL (R217 to R220, R253). -/
def Dev.rckRun (s : Dev) (n : Nat) (w e : Word) : Dev :=
  let bad := s.issue n (1 + ib w 23 23) w true id
  match ib w 23 18 with
  | 0 => s.rckAlu n w
  | 1 => s.rckAlux n w
  | 2 => s.rckAddi n w
  | 3 => s.rckAndi n w
  | 4 => s.rckShi n w
  | 5 => s.rckMovi n w
  | 6 => s.rckLdw n w
  | 7 => s.rckStw n w
  | 8 => s.rckPalu n w
  | 9 => s.rckPaddi n w
  | 10 => s.rckBr n w
  | 11 => s.rckJ n w
  | 12 => match iF w with | 0 => s.rckJr n w | 1 => s.rckJalr n w | _ => bad
  | 13 => match iF w with | 0 => s.rckCsrr n w | 1 => s.rckCsrw n w | 2 => s.rckCsrs n w | 3 => s.rckCsrc n w | 4 => s.rckEcall n w | 5 => s.rckEret n w | 6 => s.rckWaitm n w | _ => bad
  | 14 => match iF w with | 0 => s.rckFence n w | 1 => s.rckFence n w | 2 => s.rckFenceI n w | _ => bad
  | 15 => s.rckKop n w
  | 16 => s.rckVadd n w
  | 17 => s.rckVsub n w
  | 18 => s.rckVmul n w
  | 19 => s.rckVmulj n w
  | 20 => s.rckVmac n w
  | 21 => s.rckVmacj n w
  | 22 => s.rckVpow n w
  | 23 => s.rckVsel n w
  | 24 => s.rckVld n w
  | 25 => s.rckVst n w
  | 26 => s.rckVshi n w
  | 27 => s.rckVext n w
  | 28 => s.rckVcmp n w
  | 29 => s.rckVbc n w
  | 32 => s.rckLi n w e
  | 33 => s.rckLip n w e
  | 34 => s.rckBcc n w e
  | 35 => s.rckJmp n w e
  | 36 => match ib w 8 8 with | 0 => s.rckLdb n w e | 1 => s.rckStb n w e | _ => bad
  | 37 => s.rckVlds n w e
  | 38 => s.rckVsts n w e
  | 39 => s.rckVgath n w e
  | 40 => s.rckVscat n w e
  | 41 => s.rckVlog n w e
  | 42 => s.rckVarx n w e
  | 43 => s.rckVcvt n w e
  | 44 => match ib e 1 0 with | 0 => s.rckVexp n w e | 1 => s.rckVshlv n w e | 2 => s.rckVshrv n w e | _ => bad
  | 45 => s.rckVperm n w e
  | 46 => match ib e 1 0 with | 0 => s.rckAclr n w e | 1 => s.rckAred n w e | 2 => s.rckAmov n w e | _ => bad
  | 47 => match ib e 4 4 with | 0 => s.rckVget n w e | 1 => s.rckVput n w e | _ => bad
  | 48 => s.rckBsend n w e
  | 49 => match ib e 11 10 with | 0 => s.rckQpop n w e | 1 => s.rckQtry n w e | 2 => s.rckQpush n w e | _ => bad
  | 52 => match ib e 3 0 with | 0 => s.rckCmxAcq n w e | 1 => s.rckCmxAcqt n w e | 2 => s.rckCmxRel n w e | 3 => s.rckCmxSave n w e | 4 => s.rckCmxRestore n w e | 5 => s.rckCmxSync n w e | 6 => s.rckCmxLerr n w e | _ => bad
  | 53 => s.rckCmxPut n w e
  | 54 => s.rckCmxGet n w e
  | 55 => if ib e 23 20 ≤ 8 then s.rckCmxOp (ib e 23 20) n w e else bad
  | _ => bad

/-- Whether the decoder holds at an instruction until it has resolved: branches, jumps, ERET and the CMXCTL group (R236, R257).
Log 14 (DESIGN CHOICE). -/
def decoderStops (w : Word) : Bool :=
  [0x0A, 0x0B, 0x0C, 0x22, 0x23, 0x34].contains (ib w 23 18) || (ib w 23 18 == 0x0D && iF w == 5)

/-- Whether the decoder of core `n` runs ahead: the core is held in a memory access, a fence, a queue wait or a CMXGET, fewer than
two instructions are decoded ahead, and it does not hold at the last of them (R236, R261). Log 14 (DESIGN CHOICE). -/
def Dev.decodes (s : Dev) (n : Nat) : Bool :=
  let c := s.core n
  c.st == .run && decide (c.ahead.length < 2) &&
    (match c.hold with
      | some (.loadW ..) => true
      | some (.loadB ..) => true
      | some (.store ..) => true
      | some (.vmem _) => true
      | some .fence => true
      | some (.qpop ..) => true
      | some (.qpush ..) => true
      | some (.cmxGet _) => true
      | _ => false) &&
    (match c.ahead.getLast? with
      | some a => !(decoderStops a.w) && (a.cmx.isSome || n == 112 || (cmxDecode a.w a.e).isNone)
      | none => true)

/-- Decode an instruction ahead; a CMXPUT, CMXGET or CMXOP is offered to the CMX (R236, R261). -/
def Dev.decodeAhead (s : Dev) (n : Nat) (w e : Word) : Dev :=
  let s := s.onCore n fun c => { c with ahead := c.ahead ++ [⟨w, e, none⟩] }
  if n = 112 then s else s.offerAhead n

/-- Run what has been decoded ahead, in order, while the core issues: after a held instruction has completed. -/
def Dev.runAhead (s : Dev) (n : Nat) (fuel : Nat) : Dev :=
  match fuel with
  | 0 => s
  | fuel + 1 =>
    if s.issues n then
      match (s.core n).ahead with
      | [] => s
      | a :: t =>
        let next (s : Dev) : Dev := s.onCore n fun c => { c with ahead := t }
        (match a.cmx with
          | some (o, tag, rej) => s.issue n 2 a.w false fun s => (next s).cmxExec n a.w o tag rej
          | none => (next s).rckRun n a.w a.e).runAhead n fuel
    else s

/-- The cores of rod `r` run what they have decoded ahead. -/
def Dev.rodAhead (s : Dev) (r : Nat) : Dev := (List.range 8).foldl (fun s i => s.runAhead (r * 8 + i) 2) s

/-- A Reckoner row with its instruction words: what is decoded ahead runs first; a core that is held decodes this one ahead; `ok`
says that the words are the row's, any other words are reserved and raise ILLEGAL (R218, R236, R253). Log 16 (DEDUCED). -/
def Dev.rckRow (s : Dev) (n : Nat) (w e : Word) (ok : Bool) (body : Dev → Dev) : Dev :=
  let s := s.runAhead n 2
  if s.decodes n then (if ok then s.decodeAhead n w e else s)
  else if ok then body s else s.issue n (1 + ib w 23 23) w true id

end Sys2Proof.Machine
end

