-- ==== Sys2Proof/Machine/DmaData.lean ====
section
/-! DEFINITION. The accesses of DMA beats: source reads, write beats, descriptor images, and the responses of other devices
(R301, R306, R309 to R317). -/

namespace Sys2Proof.Machine

/-- Read a word for a requester: 0x0000 to 0xFFFF is the requester's own local memory (R301). -/
def Dev.reqRead (s : Dev) (r : Req) (a : Nat) : Option Word × Dev :=
  if a < 0x10000 then
    match r.core with
    | some n => if s.lmServed n then s.lmRead n a else (none, s)
    | none => (none, s)
  else s.busRead r a

/-- Write lanes of a word for a requester. -/
def Dev.reqWrite (s : Dev) (r : Req) (a : Nat) (d : Word) (lanes : Nat) : Bool × Dev :=
  if a < 0x10000 then
    match r.core with
    | some n => if s.lmServed n then s.lmStore n a d lanes else (false, s)
    | none => (false, s)
  else s.busWrite r a d lanes

/-- Whether a word can be served now: a local memory is ready when its zeroing has ended (R479). Log 31 (DESIGN CHOICE). -/
def Dev.reqReady (s : Dev) (r : Req) (a : Nat) : Bool :=
  if a < 0x10000 then !(s.core (r.core.getD 112)).lmBusy else s.memReady a

/-- Read a word as the channel means its address. -/
def Dev.dmaWordRead (s : Dev) (e c a : Nat) : Option Word × Dev :=
  match s.dmaOwner e c with
  | none => (none, s)
  | some r => s.reqRead r a

/-- Write lanes of a word as the channel means its address. -/
def Dev.dmaWordWrite (s : Dev) (e c a : Nat) (d : Word) (lanes : Nat) : Bool × Dev :=
  match s.dmaOwner e c with
  | none => (false, s)
  | some r => s.reqWrite r a d lanes

/-- Read `n` words; the words read and whether all could be. -/
def Dev.dmaWords (s : Dev) (e c a n : Nat) : List Word × Bool × Dev :=
  match n with
  | 0 => ([], true, s)
  | n + 1 =>
    match s.dmaWordRead e c a with
    | (none, s) => ([], false, s)
    | (some w, s) =>
      let (ws, ok, s) := s.dmaWords e c (a + 1) n
      (w :: ws, ok, s)

/-- Whether the channel's word can be served now. -/
def Dev.dmaReady (s : Dev) (e c a : Nat) : Bool :=
  match s.dmaOwner e c with
  | none => true
  | some r => s.reqReady r a

/-- The response of a local read beat that begins with transfer byte j: its bytes arrive, or its first failing word stops the
channel (R312). Log 111 (DESIGN CHOICE). -/
def Dev.dmaLocalRead (s : Dev) (e c j : Nat) : Dev :=
  let x := s.dmaCh e c
  match x.reads.find? fun q => q.1 == j with
  | none => s
  | some q =>
    let p := (s.dmaSrc e c).byteAt j
    let n := q.2
    if s.dmaReady e c (p / 3) then
      let s := s.onDma e c fun x => { x with reads := x.reads.erase q }
      let (ws, ok, s) := s.dmaWords e c (p / 3) ((p + n - 1) / 3 - p / 3 + 1)
      let s :=
        if ok then s.dmaArrive e c j ((List.range n).map fun i =>
          bits (ws.getD ((p % 3 + i) / 3) 0).toNat ((p + i) % 3 * 8 + 7) ((p + i) % 3 * 8))
        else s.dmaReadBad e c (j + (ws.length * 3 - p % 3)) 4
      s.dmaSettle e c
    else s

/-- A response of another device to a request bead of engine e; the TAG names the channel (R317). -/
def Dev.dmaRemoteRx (s : Dev) (e : Nat) (b : Bead) : Dev :=
  if b.dunit = 0x200 + e then
    s.arrive b (b.rsp && (b.op == 0x08 || b.op == 0x09)) fun s => s.dmaRemote e (b.tag / 512 % 64) b
  else s

/-- DMA_READ_RESPONSE: the response of a local read beat, or of another device. -/
def Dev.dmaReadResponse (s : Dev) (e c j : Nat) (remote : Option Bead) : Dev :=
  (match remote with
    | none => s.dmaLocalRead e c j
    | some b => s.dmaRemoteRx e b).drainForced

/-- Write the words of a beat; whether every write succeeded. -/
def Dev.dmaWriteAll (s : Dev) (e c : Nat) (ws : List (Nat × Word × Nat)) : Bool × Dev :=
  ws.foldl (fun (r : Bool × Dev) w =>
    let (ok, s) := r.2.dmaWordWrite e c w.1 w.2.1 w.2.2
    (r.1 && ok, s)) (true, s)

/-- Write the words of a failing beat: each byte holds its old or its new value (R312). Log 110 (DESIGN CHOICE). -/
def Dev.dmaWriteSome (s : Dev) (e c : Nat) (ws : List (Nat × Word × Nat)) : Dev :=
  ws.foldl (fun s w =>
    let (f, s) := s.free
    (s.dmaWordWrite e c w.1 w.2.1 (w.2.2 &&& f)).2) s

/-- The response of local write beat i: it confirms the beat, or records its error (R309, R310, R312). Log 113 (DESIGN CHOICE). -/
def Dev.dmaLocalWrite (s : Dev) (e c i : Nat) : Dev :=
  match (s.dmaCh e c).writes.find? fun b => b.idx == i with
  | none => s
  | some b =>
    if s.dmaReady e c (b.pos / 3) then
      let s := s.onDma e c fun x => { x with writes := x.writes.erase b }
      let ws := laneWords b.pos b.data
      let s := match s.dmaWriteAll e c ws with
        | (true, s) => s.dmaConfirm e b
        | (false, _) => (s.dmaWriteSome e c ws).dmaWriteBad e c b 5
      s.dmaSettle e c
    else s

/-- DMA_WRITE_RESPONSE: the response of a local write beat, or of another device. Log 113 (DESIGN CHOICE). -/
def Dev.dmaWriteResponse (s : Dev) (e c i : Nat) (remote : Option Bead) : Dev :=
  (match remote with
    | none => s.dmaLocalWrite e c i
    | some b => s.dmaRemoteRx e b).drainForced

/-- Load an image into the channel's registers (R314). Log 108 (DEDUCED). -/
def Dev.dmaImage (s : Dev) (e c : Nat) (ws : List Word) : Dev :=
  let r (k : Nat) : Nat := Reg.DMA_CTL e c + k
  let s := [1, 2, 3, 4, 5, 6, 7, 8, 9, 10, 11, 12, 14, 15].foldl (fun s k => s.storeRw (r k) (ws.getD k 0)) s
  let keep := putBits (s.rget (r 0)).toNat 15 10 (bits (ws.getD 0 0).toNat 15 10)
  s.storeRw (r 0) (word keep)

/-- DMA_DESC_LOADED: the image at NEXT has been read whole and its descriptor runs, or the load fails with DESCLOAD (R312,
R314); the channel has had its turns for the image's beats (R321). Log 108 (DEDUCED). -/
def Dev.dmaDescLoaded (s : Dev) (e c : Nat) : Dev :=
  if s.dmaState e c = 1 ∧ s.dmaImgBeats e c ≤ (s.dmaCh e c).img then
    let a := s.dmaNext e c
    if s.dmaReady e c a then
      let granted := match s.dmaOwner e c with
        | some r => s.spanGranted r a (a + 15) false
        | none => false
      let (ws, ok, s) := if granted then s.dmaWords e c a 16 else ([], false, s)
      (if ok && bits (ws.getD 0 0).toNat 23 16 == 0xD5 then (s.dmaImage e c ws).dmaRun e c
        else s.dmaFail e c 2 0).drainForced
    else s
  else s

/-- DMA_REMOTE_TIMEOUT, with the drain of a slice that waits for the channel. -/
def Dev.dmaRemoteTimeout (s : Dev) (e c tag : Nat) : Dev := (s.dmaTimeout e c tag).drainForced

end Sys2Proof.Machine
end

