-- ==== Sys2Proof/Machine/Servers.lean ====
section
/-! DEFINITION. The register and memory servers (R467, R468, R512, R518), host layer-1 items and carrier status beads (R37, R43). -/

namespace Sys2Proof.Machine

/-! ### The register server (R467) -/

/-- The source of a bead as a requester. Log 153 (DEDUCED). -/
def Dev.reqOf (s : Dev) (b : Bead) : Req := if b.sdev = s.devnum then .local b.sunit else .remote b.sdev b.sunit

/-- Whether every register word from `a` on belongs to a DMA channel that the source owns. -/
def Dev.ownsChannels (s : Dev) (r : Req) (a n : Nat) : Bool :=
  (List.range n).all fun i => match dmaChannelAt (a + i) with
    | some (e, c) => s.dmaOwner e c == some r
    | none => false

/-- Whether the server serves an access of `n` registers from `a` on. A host endpoint writes no SEC register (R518).
Log 152 (DESIGN CHOICE). -/
def Dev.regServed (s : Dev) (b : Bead) (a n : Nat) (write : Bool) : Bool :=
  match s.reqOf b with
  | .local u =>
    !(write && decide (0x840 ≤ u) && decide (u ≤ 0x84F) && (List.range n).any fun i => (a + i) / 0x10000 == 27)
  | .remote d u => (s.fbit Reg.FAB_GCTL Reg.FAB_GCTL_REMREG_f && u == 0x7F) || s.ownsChannels (.remote d u) a n

/-- A BUSERR response of LEN 2: the failing offset or index. -/
def Dev.answerBus (s : Dev) (b : Bead) (i : Nat) : Dev := s.answer b true [word (5 * 2 ^ 16), word i]

/-- Read registers in ascending order; the values up to the first bus error. -/
def Dev.regReadN (s : Dev) (r : Req) (a n : Nat) : List Word × Bool × Dev :=
  match n with
  | 0 => ([], true, s)
  | n + 1 =>
    match s.regRead r a with
    | (none, s) => ([], false, s)
    | (some w, s) =>
      let (ws, ok, s) := s.regReadN r (a + 1) n
      (w :: ws, ok, s)

/-- Write registers in ascending order; how many were written before the first bus error. -/
def Dev.regWriteN (s : Dev) (r : Req) (a : Nat) (ws : List Word) : Nat × Bool × Dev :=
  match ws with
  | [] => (0, true, s)
  | w :: t =>
    match s.regWrite r a w allLanes with
    | (false, s) => (0, false, s)
    | (true, s) =>
      let (n, ok, s) := s.regWriteN r (a + 1) t
      (n + 1, ok, s)

/-- REGRD. A count outside 1 to 63 is refused. Log 152 (DESIGN CHOICE). -/
def Dev.regrd (s : Dev) (b : Bead) : Dev :=
  if b.dunit = 0x230 then
    s.arrive b (b.op == 0x01 && !b.rsp) fun s =>
      let a := b.pay 0
      let n := bits (b.pay 1) 5 0
      if decide (b.len < 2) || n == 0 || !(s.regServed b a n false) then s.answerErr b 4
      else match s.regReadN (s.reqOf b) a n with
        | (ws, true, s) => s.answer b false ws
        | (ws, false, s) => s.answerBus b ws.length
  else s

/-- The response of a write: sent where the request has WACK = 1 (R444). Log 152 (DESIGN CHOICE). -/
def Dev.answerWrite (s : Dev) (b : Bead) (payload : List Word) : Dev := if b.wack then s.answer b false payload else s

/-- REGWR. A bead without a value is refused. Log 152 (DESIGN CHOICE). -/
def Dev.regwr (s : Dev) (b : Bead) : Dev :=
  if b.dunit = 0x230 then
    s.arrive b (b.op == 0x02 && !b.rsp) fun s =>
      let a := b.pay 0
      let ws := b.payload.drop 1
      if ws.length = 0 || !(s.regServed b a ws.length true) then s.answerErr b 4
      else match s.regWriteN (s.reqOf b) a ws with
        | (_, true, s) => s.answerWrite b []
        | (n, false, s) => s.answerBus b n
  else s

/-! ### The memory server (R468) -/

/-- Whether the server serves a range: not empty, and granted as R304 says. Log 152 (DESIGN CHOICE), 153 (DEDUCED). -/
def Dev.memServed (s : Dev) (b : Bead) (a n : Nat) (write : Bool) : Bool :=
  n != 0 && s.spanGranted (s.reqOf b) a (a + n - 1) write

/-- Read words for a requester; the words up to the first bus error. -/
def Dev.reqReadN (s : Dev) (r : Req) (a n : Nat) : List Word × Bool × Dev :=
  match n with
  | 0 => ([], true, s)
  | n + 1 =>
    match s.reqRead r a with
    | (none, s) => ([], false, s)
    | (some w, s) =>
      let (ws, ok, s) := s.reqReadN r (a + 1) n
      (w :: ws, ok, s)

/-- The address of MEMRD and MEMWR. Log 153 (DEDUCED). -/
def Bead.memAddr (b : Bead) : Nat := b.pay 0 + bits (b.pay 1) 7 0 * 2 ^ 24

/-- MEMRD. A count outside 1 to 64 is refused. -/
def Dev.memrd (s : Dev) (b : Bead) : Dev :=
  let a := b.memAddr
  if b.dunit = 0x231 ∧ s.reqReady (s.reqOf b) a then
    s.arrive b (b.op == 0x08 && !b.rsp) fun s =>
      let n := b.pay 2
      if decide (b.len < 3) || decide (n > 64) || !(s.memServed b a n false) then s.answerErr b 4
      else match s.reqReadN (s.reqOf b) a n with
        | (ws, true, s) => s.answer b false ws
        | (ws, false, s) => s.answerBus b ws.length
  else s

/-- The lane enables of word i of n. Log 152 (DESIGN CHOICE). -/
def Bead.memLanes (b : Bead) (i n : Nat) : Nat :=
  let f := if i = 0 then bits (b.pay 1) 23 21 else 7
  let l := if i + 1 = n then bits (b.pay 1) 20 18 else 7
  f &&& l

/-- Write the words of a MEMWR; the mask of the beats that failed. -/
def Dev.memBeats (s : Dev) (b : Bead) (a n : Nat) (k : Req → Dev → Nat → Word → Nat → Bool × Dev) : Nat × Dev :=
  (List.range n).foldl (fun (r : Nat × Dev) i =>
    let (ok, s) := k (r.2.reqOf b) r.2 (a + i) (b.payload.getD (3 + i) 0) (b.memLanes i n)
    (if ok then r.1 else r.1 ||| 2 ^ ((a + i) / 8 - a / 8), s)) (0, s)

/-- MEMWR to the memory server, or in STAGE ROM to unit 0x07E: from the host, or with HOPS 0 from a peer, into the staging region
(R512). Log 152 (DESIGN CHOICE). -/
def Dev.memwr (s : Dev) (b : Bead) : Dev :=
  let a := b.memAddr
  let n := b.pay 2
  let bad := decide (b.len < 4) || decide (n > 61) || b.len != 3 + n
  if b.dunit = 0x231 ∧ s.reqReady (s.reqOf b) a then
    s.arrive b (b.op == 0x09 && !b.rsp) fun s =>
      if bad || !(s.memServed b a n true) then s.answerErr b 4
      else
        let (m, s) := s.memBeats b a n fun r s a d l => s.reqWrite r a d l
        s.answerWrite b [word m]
  else if b.dunit = 0x7E ∧ s.memReady a then
    s.arrive b (b.op == 0x09 && !b.rsp) fun s =>
      let from_ := s.candidate == some 2 || (s.candidate == some 3 && b.hops == 0)
      if bad || !from_ || decide (a < staging) || decide (a + n > staging + stagingLen) then s.answerErr b 4
      else
        let (m, s) := s.memBeats b a n fun _ s a d l => s.memWrite a d l
        s.answerWrite b [word m]
  else s

/-! ### Host items and carrier status (R37, R43) -/

/-- The deadline tag of a host bead. -/
def Dev.hostKey (s : Dev) (b : Bead) : Word := word (tagKey b.ver b.tag s.us)

/-- A record of a carrier status bead: REASON, ITEM, RNTI and the bead's TAG word. Log 154 (DEDUCED). -/
def Dev.statusRec (s : Dev) (b : Bead) (h : HostItem) (reason : Nat) : Dev :=
  let w := reason * 2 ^ 20 + h.item % 16 * 2 ^ 16 + h.rnti % 2 ^ 16
  { s with brx := { s.brx with status := s.brx.status ++ [(h.carrier, h.sub, w, b.h3.toNat)] } }

/-- Why an NB-IoT carrier rejects a use: 1 for what R35 excludes, 2 for a value outside R34 or R40, 0 for no reason. What belongs to
LTE-M alone is no feature of NB-IoT. Log 198 (DESIGN CHOICE). -/
def Use.nbReason (u : Use) : Nat :=
  let limit (ok : Bool) : Nat := if ok then 0 else 2
  match u with
  | .tdd | .ntn | .multicast | .nprs | .groupWus | .pur | .multiTb => 1
  | .catM2 | .wideLte | .subPrb | .qam64 | .srs | .pucchRep _ | .pucch _ => 1
  | .dlRep n | .ctlRep n => limit (decide (n ≤ 2048))
  | .ulRep n | .raRep n => limit (decide (n ≤ 128))
  | .raFormat n => limit (decide (n ≤ 2))
  | .raLevels n => limit (decide (n ≤ 3))
  | .dlHarq n | .ulHarq n => limit (decide (n ≤ 2))
  | .tones n narrow => limit (n == 1 || (!narrow && [3, 6, 12].contains n))
  | .dlBits n => limit (n == 2 || n == 4)
  | .ulBits n k => limit ((n == 1 && k == 1) || n == 2 || (n == 4 && decide (1 < k)))
  | .ports n => limit (n == 1 || n == 2)

/-- Why an LTE-M cell rejects a use: 1 for what R41 excludes, 2 for a value outside R39 or R40, 0 for no reason. What belongs to NB-IoT
alone is no feature of LTE-M. Log 198 (DESIGN CHOICE). -/
def Use.lteReason (modeB : Bool) (u : Use) : Nat :=
  let limit (ok : Bool) : Nat := if ok then 0 else 2
  match u with
  | .tdd | .ntn | .catM2 | .wideLte | .subPrb | .qam64 | .srs => 1
  | .multicast | .nprs | .groupWus | .pur | .multiTb | .tones _ _ => 1
  | .dlRep n | .ulRep n => limit (decide (n ≤ 2048))
  | .ctlRep n => limit (decide (n ≤ 256))
  | .pucchRep n => limit (decide (n ≤ 32))
  | .raRep n => limit (decide (n ≤ 128))
  | .raFormat n => limit (decide (n ≤ 3))
  | .raLevels n => limit (decide (n ≤ 4))
  | .pucch n => limit ((if modeB then [1, 11] else [1, 2, 11, 12]).contains n)
  | .dlHarq n | .ulHarq n => limit (decide (n ≤ if modeB then 2 else 8))
  | .dlBits n => limit (n == 2 || (n == 4 && !modeB))
  | .ulBits n _ => limit (n == 2 || n == 4)
  | .ports n => limit (n == 1 || n == 2)

/-- Whether a coexistence map has the values R38 gives. -/
def Coex.valid_ (m : Coex) : Bool :=
  decide (1 ≤ m.ctrl) && decide (m.ctrl ≤ 3) && [1, 2, 4].contains m.crs && [10, 40].contains m.valid.length

/-- The REASON for which a carrier of a kind rejects an item, 0 for none (R36, R41): UNSUPPORTED before LIMIT.
Log 198 (DESIGN CHOICE). -/
def HostItem.reason (h : HostItem) (kind : Nat) : Nat :=
  let rs := h.uses.map (if kind = 0 then Use.nbReason else Use.lteReason h.modeB) ++
    h.params.toList.map (fun p => if p.ports = 1 ∨ p.ports = 2 then 0 else 2) ++
    h.coex.toList.map fun m => if m.valid_ then 0 else 2
  if rs.contains 1 then 1 else if rs.contains 2 then 2 else 0

/-- An item that sets cell parameters or a coexistence map: each takes over at the radio frame that the host names, counted from the frame
origin it brings or, without one, from that in force; the previous one applies until then (R38, R42). Log 197 (DEDUCED). -/
def Dev.cellSet (s : Dev) (h : HostItem) : Dev :=
  let x := s.cell h.carrier
  let now := s.cellParams h.carrier
  let origin := match h.params with
    | some p => p.origin
    | none => (now.map (·.origin)).getD 0
  let at_ := origin + h.frame * 10000000
  let x := match h.params with
    | some p => { x with params := now, paramsNext := some (at_, p) }
    | none => x
  let x := match h.coex with
    | some m => { x with coex := s.coexAt h.carrier s.nowNs, coexNext := some (at_, m) }
    | none => x
  { s with brx := { s.brx with cells := SMap.set s.brx.cells cellReset h.carrier x } }

/-- HOST_ITEM_BEAD: an item of R42. After its deadline tag it is discarded with MISSED and reported LATE (R43); one that R34, R35, R39
or R41 does not admit is not served and is reported (R36); else the serving rod takes it, and what it sets for the carrier is
set. Log 91 (DESIGN CHOICE), 154 (DEDUCED), 182 (DESIGN CHOICE), 197 (DEDUCED), 198 (DESIGN CHOICE). -/
def Dev.hostItem (s : Dev) (b : Bead) (h : HostItem) : Dev :=
  match unitCore b.dunit, s.carriers.find? fun c => c.num == h.carrier with
  | some n, some c =>
    if n / 8 = c.rod then
      let here := b.ok && b.dlv && !(s.unitAway b.dunit)
      let r := h.reason c.kind
      if here && s.keyPast (s.hostKey b) then ((s.take b).hostLate b).statusRec b h 3
      else if here && r != 0 then (s.take b).statusRec b h r
      else
        let s := s.inboxBead b
        if here && h.item == 5 then s.cellSet h else s
    else s
  | _, _ => s

/-- The status beads of one subframe: at most 30 records each, every one but the last with MORE. -/
def statusBeads (carrier u sfw : Nat) (rs : List (Nat × Nat)) (fuel : Nat) : List (List Word) :=
  match fuel with
  | 0 => []
  | fuel + 1 =>
    let now := rs.take 30
    let more := rs.drop 30
    let h := carrier * 2 ^ 15 + now.length * 2 ^ 9 + bit (more != []) * 2 ^ 8
    (word h :: word u :: word sfw :: now.flatMap fun r => [word r.1, word r.2]) ::
      (if more = [] then [] else statusBeads carrier u sfw more fuel)

/-- SFN, SUBFRAME and HSFN of subframe n from the frame origin: periods of 10.24 s and 10,485.76 s (R31, R37). -/
def subframeWord (n : Nat) : Nat := n / 10 % 1024 * 2 ^ 14 + n % 10 * 2 ^ 10 + n / 10240 % 1024

/-- CARRIER_STATUS_BEAD: after subframe n of a carrier with rejected or late items the serving rod reports them to the host (R37).
Log 154 (DEDUCED). -/
def Dev.carrierStatus (s : Dev) (carrier n : Nat) : Dev :=
  match s.carriers.find? fun c => c.num == carrier with
  | none => s
  | some c =>
    let mine := s.brx.status.filter fun r => r.1 == carrier && r.2.1 == n
    if mine = [] then s
    else
      let u := ((s.frameOrigin (some c) + n * 1000000) / 1000) % 2 ^ 24
      let s := { s with brx := { s.brx with status := s.brx.status.filter fun r => !(r.1 == carrier && r.2.1 == n) } }
      (statusBeads carrier u (subframeWord n) (mine.map fun r => (r.2.2.1, r.2.2.2)) mine.length).foldl
        (fun s ws => s.sendTo (c.rod * 8) 0x20 s.devnum (0x840 + c.hostep) 0 ws) s

end Sys2Proof.Machine
end

