-- ==== Sys2Proof/Machine/Image.lean ====
section
/-! DEFINITION. Structure images: their form (R340 to R350) and every structural check of the loader (R353), with the RESULT,
the labelled statement and the place that a rejection records (R354). -/

namespace Sys2Proof.Machine

/-! ### Form -/

/-- A section record (R342): index, type, slice, OPT, body and the number of body words its header announces. -/
structure ImgRec where
  idx : Nat
  typ : Nat
  slice : Nat
  opt : Bool
  body : List Word
  blen : Nat
  deriving DecidableEq, Repr

/-- A rejection (R354): RESULT, number of the violated statement, record index, word offset in the record. -/
structure Bad where
  result : Nat
  rule : Nat
  record : Nat
  ofs : Nat
  deriving DecidableEq, Repr

def imgKind (h : List Word) : Nat := bits (h.getD 2 0).toNat 23 22
def imgRod (h : List Word) : Nat := bits (h.getD 2 0).toNat 21 18
def imgRepl (h : List Word) : Nat := bits (h.getD 2 0).toNat 17 14
def imgNrec (h : List Word) : Nat := bits (h.getD 2 0).toNat 11 0
def imgLen (h : List Word) : Nat := (h.getD 3 0).toNat
def imgMofs (h : List Word) : Nat := (h.getD 4 0).toNat
/-- A 48-bit identifier, low word first. -/
def imgId (h : List Word) (i : Nat) : Nat := (h.getD i 0).toNat + (h.getD (i + 1) 0).toNat * 2 ^ 24
/-- The pinned device number (R341). -/
def imgPin (h : List Word) : Option Nat := if bits (h.getD 10 0).toNat 23 23 = 1 then some (bits (h.getD 10 0).toNat 9 0) else none

/-- The records in the words after the image header; the last may be cut short where the words end. -/
def recsFrom (fuel idx : Nat) (ws : List Word) : List ImgRec :=
  match fuel with
  | 0 => []
  | fuel + 1 =>
    match ws with
    | w0 :: w1 :: t =>
      { idx := idx, typ := bits w0.toNat 23 16, slice := bits w0.toNat 15 12, opt := bits w0.toNat 11 11 == 1
        body := t.take w1.toNat, blen := w1.toNat } :: recsFrom fuel (idx + 1) (t.drop w1.toNat)
    | _ => []

/-- The records of an image. -/
def imgRecs (ws : List Word) : List ImgRec := recsFrom (imgNrec ws) 0 (ws.drop 16)

/-- The records without the manifest. -/
def imgBody (ws : List Word) : List ImgRec := imgRecs (ws.take (imgMofs ws))

/-- A local address: low word, then bits [31:24] in [7:0] of the next. -/
def addr2 (lo hi : Word) : Nat := lo.toNat + bits hi.toNat 7 0 * 2 ^ 24

/-- The entries of a register-write list (R344): address offset and value. -/
def regList : List Word → List (Nat × Word)
  | a :: v :: t => (a.toNat, v) :: regList t
  | _ => []

/-- The REGION entries of a record (R345). Log 122 (DEDUCED). -/
def regionsOf (slice : Nat) : List Word → List Region
  | w0 :: w1 :: w2 :: w3 :: w4 :: w5 :: t =>
    { owner := bits w0.toNat 23 12, remote := bits w0.toNat 11 11 == 1, rodlvl := bits w0.toNat 10 10 == 1
      rd := bits w0.toNat 9 9 == 1, wr := bits w0.toNat 8 8 == 1, tcode := bits w0.toNat 2 0
      base := addr2 w1 w2, len := addr2 w3 w4, host := bits w5.toNat 23 23 == 1, rods := bits w5.toNat 13 0
      slice := slice } :: regionsOf slice t
  | _ => []

/-- A DATA entry (R346): base, FILL, count N, the words that follow. -/
structure ImgData where
  base : Nat
  fill : Bool
  n : Nat
  words : List Word
  deriving DecidableEq, Repr

/-- The DATA entries of a body. -/
def dataOf (fuel : Nat) (b : List Word) : List ImgData :=
  match fuel, b with
  | fuel + 1, w0 :: w1 :: w2 :: t =>
    let fill := bits w1.toNat 23 23 == 1
    let k := if fill then 1 else w2.toNat
    { base := addr2 w0 w1, fill := fill, n := w2.toNat, words := t.take k } :: dataOf fuel (t.drop k)
  | _, _ => []

/-- A program segment (R347): local address, length, words. -/
structure ImgSeg where
  at_ : Nat
  len : Nat
  words : List Word
  deriving DecidableEq, Repr

/-- Segments from a body and what is left of it. -/
def segsOf (n : Nat) (b : List Word) : List ImgSeg × List Word :=
  match n, b with
  | n + 1, a :: l :: t =>
    let (ss, r) := segsOf n (t.drop l.toNat)
    ({ at_ := bits a.toNat 15 0, len := l.toNat, words := t.take l.toNat } :: ss, r)
  | _, b => ([], b)

/-- A core's part of a ROD body: core of the rod, ROLE, ENTRY, inbox, announced segments, segments. -/
structure ImgCore where
  core : Nat
  role : Nat
  entry : Nat
  inbox : Nat
  nseg : Nat
  segs : List ImgSeg
  deriving DecidableEq, Repr

/-- The cores of a ROD body (R347) and what is left of it. -/
def coresOf (cores : List Nat) (b : List Word) : List ImgCore × List Word :=
  match cores, b with
  | c :: cs, w0 :: w1 :: w2 :: t =>
    let (ss, r) := segsOf w2.toNat t
    let (xs, r) := coresOf cs r
    ({ core := c, role := bits w0.toNat 23 22, entry := bits w0.toNat 15 0, inbox := bits w1.toNat 9 0,
       nseg := w2.toNat, segs := ss } :: xs, r)
  | _, b => ([], b)

/-- The cores that a ROD body names. -/
def rodCores (b : List Word) : List Nat :=
  (List.range 8).filter fun i => bits (b.getD 0 0).toNat (16 + i) (16 + i) == 1

/-- The core parts of a ROD body and what is left of it. -/
def rodBody (b : List Word) : List ImgCore × List Word := coresOf (rodCores b) (b.drop 1)

/-- The carrier records of a CARRIER body (R348). -/
def carriersOf (n : Nat) (b : List Word) : List Carrier :=
  match n, b with
  | n + 1, w0 :: w1 :: w2 :: w3 :: w4 :: t =>
    { num := bits w0.toNat 23 15, kind := bits w0.toNat 14 12, rod := bits w0.toNat 11 8
      lead := (if bits w0.toNat 7 4 = 0 then 4 else bits w0.toNat 7 4)
      rxa := bits w1.toNat 23 17, txa := bits w1.toNat 16 10, hostep := bits w1.toNat 3 0
      ports := w2.toNat + w3.toNat * 2 ^ 24 + bits w4.toNat 15 0 * 2 ^ 48 } :: carriersOf n t
  | _, _ => []

/-- How many carrier records a CARRIER body announces. -/
def carrierCount (b : List Word) : Nat := bits (b.getD 0 0).toNat 11 0

/-- The register-write list that a record holds, with the offset at which it begins. -/
def ImgRec.regs (r : ImgRec) : List (Nat × Word) × Nat :=
  if r.typ = 9 then (regList (r.body.drop (1 + 5 * carrierCount r.body)), 1 + 5 * carrierCount r.body)
  else if r.typ = 5 ∨ r.typ = 6 ∨ r.typ = 7 ∨ r.typ = 8 ∨ r.typ = 0xB then (regList r.body, 0)
  else ([], 0)

/-- A LAUNCH entry (R349): list, FED, FEEDQ, base, N, words. -/
structure ImgLaunch where
  list : Nat
  fed : Bool
  feedq : Nat
  base : Nat
  n : Nat
  words : List Word
  deriving DecidableEq, Repr

/-- The LAUNCH entries of a body. -/
def launchesOf (fuel : Nat) (b : List Word) : List ImgLaunch :=
  match fuel, b with
  | fuel + 1, w0 :: w1 :: w2 :: w3 :: t =>
    { list := bits w0.toNat 23 18, fed := bits w0.toNat 17 17 == 1, feedq := bits w0.toNat 9 0, base := addr2 w1 w2
      n := w3.toNat, words := t.take w3.toNat } :: launchesOf fuel (t.drop w3.toNat)
  | _, _ => []

/-- The POWER entries of a body (R343): group and domains. -/
def powersOf (fuel : Nat) (b : List Word) : List (Nat × List Nat) :=
  match fuel, b with
  | fuel + 1, w0 :: t =>
    let n := bits w0.toNat 15 8
    (bits w0.toNat 23 16, (t.take n).map fun w => bits w.toNat 7 0) :: powersOf fuel (t.drop n)
  | _, _ => []

/-- The queues, DMA channels and launch lists that a record configures (the keys of `Stc.owned`). -/
def ImgRec.keys (r : ImgRec) : List Nat :=
  if r.typ = 5 then ((r.regs.1.filter fun e => decide (Reg.QUE_CFG 0 ≤ e.1) && decide (e.1 < Reg.QUE_CFG 1024)).map
    fun e => 0x400 + (e.1 - Reg.QUE_CFG 0) / 0x10).eraseDups
  else if r.typ = 6 then (r.regs.1.filterMap fun e => (dmaChannelAt e.1).map fun k => 0x1000 + 64 * k.1 + k.2).eraseDups
  else if r.typ = 0xA then (launchesOf r.body.length r.body).map fun l => 0x2000 + l.list
  else []

/-- The units of rod `r`'s slice in an image: its cores, its CMX and what its records configure (R343). -/
def sliceKeys (rs : List ImgRec) (r : Nat) : List Nat :=
  let mine := rs.filter fun x => x.slice == r
  (mine.flatMap fun x => if x.typ = 0xC then (rodCores x.body).map (r * 8 + ·) ++ [0xDC + r] else []) ++
    (mine.flatMap ImgRec.keys).eraseDups

/-- The REGION entries of an image. -/
def imgRegions (rs : List ImgRec) : List Region :=
  rs.flatMap fun r => if r.typ = 3 then regionsOf r.slice r.body else []

/-! ### Checks of the form -/

/-- The first rejection of a list of checks. -/
def firstBad (l : List (Option Bad)) : Option Bad := l.findSome? id

/-- The offsets at which parts of the given lengths begin, from `o`. -/
def offsetsOf (o : Nat) : List Nat → List Nat
  | [] => []
  | n :: t => o :: offsetsOf (o + n) t

/-- A check: none when it holds. -/
def check (ok : Bool) (result rule record ofs : Nat) : Option Bad :=
  if ok then none else some { result := result, rule := rule, record := record, ofs := ofs }

/-- The image header (R341, R350, R361): `slice` when the command is SLICE. Log 114 (DEDUCED), 115 (DEDUCED). -/
def headerBad (h : List Word) (slice : Bool) : Option Bad :=
  firstBad [
    check ((h.getD 0 0).toNat == 0x47484D) 2 341 4095 0,
    check (bits (h.getD 1 0).toNat 23 16 == 1) 2 361 4095 1,
    check (decide (imgKind h ≤ 1)) 2 341 4095 2,
    check (imgKind h == bit slice) 2 (if slice then 357 else 352) 4095 2,
    check (if slice then decide (imgRod h ≤ 13) && decide (imgRepl h ≤ 13)
      else imgRod h == 0 && imgRepl h == 0 && imgId h 8 == 0) 2 341 4095 2,
    check (imgNrec h != 0) 2 341 4095 2,
    check (imgLen h == imgMofs h + manifestLen) 2 350 4095 3,
    check (decide (16 ≤ imgMofs h)) 2 341 4095 4,
    check ((h.getD 5 0).toNat == 0x9624A1) 2 361 4095 5]

/-- The types that a SLICE may carry (R343). -/
def sliceType (t : Nat) : Bool := [3, 4, 5, 6, 0xA, 0xB, 0xC].contains t

/-- Record headers (R342, R343, R361). Log 114 (DEDUCED), 115 (DEDUCED). -/
def recsBad (rs : List ImgRec) (h : List Word) (slice : Bool) : Option Bad :=
  let total := rs.foldl (fun n r => n + 2 + r.blen) 16
  let known (r : ImgRec) : Bool := decide (1 ≤ r.typ) && decide (r.typ ≤ 0xC)
  firstBad (
    [check (rs.length == imgNrec h && total == imgMofs h && rs.all fun r => r.body.length == r.blen) 2 342 4095 2] ++
    rs.map (fun r => firstBad [
      check (known r || r.opt) 2 361 r.idx 0,
      check (r.slice != 14) 2 342 r.idx 0,
      check (!slice || (r.slice == imgRod h && (sliceType r.typ || !(known r)))) 2 342 r.idx 0]) ++
    (rs.zip (rs.drop 1)).map (fun p => check (decide (p.1.typ ≤ p.2.typ)) 2 342 p.2.idx 0) ++
    (List.range 14).map (fun r =>
      let mine := rs.filter fun x => x.slice == r
      let n := (mine.filter fun x => x.typ == 0xC).length
      check (mine == [] || n == 1) 2 343 (((mine.head?).map (·.idx)).getD 4095) 0) ++
    rs.map fun r => check (r.typ != 0xC || r.slice != 15) 2 343 r.idx 0)

/-- Whether a section may write a register (R343). -/
def sectionMay (typ a : Nat) : Bool :=
  let b := a / 0x10000
  match typ with
  | 5 => b == 9
  | 6 =>
    (a == Reg.DMA_ECTL 0 || a == Reg.DMA_ECTL 1 || a == Reg.DMA_ECFG 0 || a == Reg.DMA_ECFG 1) ||
      (match dmaChannelAt a with | some (e, c) => a == Reg.DMA_OWN e c | none => false)
  | 7 => b == 25 || b == 24 || b == 26
  | 8 =>
    [13, 19, 20, 21, 16, 3, 8].contains b || (List.range 16).any fun n => a == Reg.BDT_CTL n
  | 9 => b == 12 || b == 14 || b == 15
  | 0xB => b != 22 && b != 27 && b != 28
  | _ => false

/-- Register-write lists (R344, R343). -/
def regsBad (r : ImgRec) (slice : Option (List Nat)) : Option Bad :=
  let (es, o) := r.regs
  let odd := if r.typ = 9 then decide (r.body.length < o) || (r.body.length - o) % 2 == 1
    else (r.typ == 5 || r.typ == 6 || r.typ == 7 || r.typ == 8 || r.typ == 0xB) && r.body.length % 2 == 1
  firstBad (check (!odd) 2 344 r.idx o :: es.zipIdx.map fun (e : (Nat × Word) × Nat) =>
    firstBad [
      check ((regSpec e.1.1).isSome && sectionMay r.typ e.1.1) 2 344 r.idx (o + 2 * e.2),
      check (match slice with
        | some ks => r.typ != 0xB || ks.any fun k => inSliceUnit e.1.1 k
        | none => true) 2 343 r.idx (o + 2 * e.2)])

/-- REGION entries (R345, R360) of one record. -/
def regionBad (r : ImgRec) (slice : Bool) : Option Bad :=
  if r.typ ≠ 3 then none
  else firstBad (check (r.body.length % 6 == 0) 2 345 r.idx 0 ::
    (regionsOf r.slice r.body).zipIdx.map fun (e : Region × Nat) =>
      let x := e.1
      let whole := decide (0x10000000 ≤ x.base) && x.base % 0x20000 == 0 && x.len % 0x20000 == 0 &&
        decide (x.base + x.len ≤ 0x13000000)
      firstBad [
        check (x.len != 0) 2 345 r.idx (6 * e.2 + 3),
        check (!slice || x.tcode == 7) 5 360 r.idx (6 * e.2),
        check (x.tcode == 7 || (decide (x.tcode ≤ 4) && whole)) 5 345 r.idx (6 * e.2)])

/-- Whether two regions share an address. Log 121 (DEDUCED). -/
def regionsMeet (a b : Region) : Bool := decide (a.base < b.base + b.len) && decide (b.base < a.base + a.len)

/-- DATA entries of one record (R346). -/
def dataBad (r : ImgRec) (regions : List Region) : Option Bad :=
  if r.typ ≠ 4 then none
  else
    let ds := dataOf r.body.length r.body
    let used := ds.foldl (fun n d => n + 3 + (if d.fill then 1 else d.n)) 0
    firstBad (check (used == r.body.length) 2 346 r.idx 0 ::
      (ds.zip (offsetsOf 0 (ds.map fun d => 3 + if d.fill then 1 else d.n))).map fun (e : ImgData × Nat) => firstBad [
        check (e.1.n != 0) 2 346 r.idx (e.2 + 2),
        check (regions.any fun x => decide (x.base ≤ e.1.base) && decide (e.1.base + e.1.n ≤ x.base + x.len)) 5 346 r.idx e.2])

/-- Whether segments share an address or leave local memory. -/
def segsBad : List ImgSeg → Bool
  | [] => false
  | a :: t => decide (a.at_ + a.len > 0x10000) ||
    (t.any fun b => decide (a.at_ < b.at_ + b.len) && decide (b.at_ < a.at_ + a.len)) || segsBad t

/-- A ROD body (R347). Log 115 (DEDUCED). -/
def rodBad (r : ImgRec) : Option Bad :=
  if r.typ ≠ 0xC then none
  else
    let (cs, rest) := rodBody r.body
    firstBad (
      [check (r.body.length != 0 && bits (r.body.getD 0 0).toNat 15 0 == 0) 2 347 r.idx 0,
       check (cs.length == (rodCores r.body).length && rest == [] &&
         cs.all fun c => c.segs.length == c.nseg && c.segs.all fun g => g.words.length == g.len) 2 347 r.idx 1] ++
      (cs.zip (offsetsOf 1 (cs.map fun c => 3 + c.segs.foldl (fun n g => n + 2 + g.len) 0))).map fun (e : ImgCore × Nat) =>
        firstBad [check (decide (e.1.role ≤ 1)) 2 347 r.idx e.2, check (!(segsBad e.1.segs)) 4 347 r.idx (e.2 + 3)])

/-- Carrier records (R348, R32, R26). -/
def carrierBad (r : ImgRec) : Option Bad :=
  if r.typ ≠ 9 then none
  else
    let n := carrierCount r.body
    firstBad (check (r.body.length != 0 && decide (1 + 5 * n ≤ r.body.length)) 2 348 r.idx 0 ::
      (List.range n).map fun i =>
        let w0 := (r.body.getD (1 + 5 * i) 0).toNat
        let w1 := (r.body.getD (2 + 5 * i) 0).toNat
        let o := 1 + 5 * i
        let kind := bits w0 14 12
        let lead := bits w0 7 4
        firstBad [
          check (decide (kind ≤ 4) && decide (bits w0 11 8 ≤ 13)) 2 348 r.idx o,
          check (if kind = 4 then lead == 0 else lead == 0 || (decide (2 ≤ lead) && decide (lead ≤ 8))) 2 348 r.idx o,
          check (bits w0 3 3 == 0) 5 32 r.idx o,
          check (decide (1 ≤ bits w1 23 17) && decide (bits w1 23 17 ≤ 64) && decide (bits w1 16 10 ≤ 64)) 3 348 r.idx (o + 1),
          check (kind != 4 || (decide (bits w1 23 17 ≤ 16) && decide (bits w1 16 10 ≤ 16))) 3 26 r.idx (o + 1)])

/-- The entries of a CYCLIC list (R73, R74): whether `count` entries fill the words exactly, each with its offset inside the
period. -/
def entriesOk (count per : Nat) (ws : List Word) : Bool :=
  match count, ws with
  | 0, ws => ws == []
  | count + 1, w0 :: w1 :: w2 :: w3 :: t =>
    let blen := bits w0.toNat 21 15
    bits w0.toNat 23 22 == 0 && decide (4 ≤ blen) && decide (blen ≤ 68) && decide (blen ≤ t.length) &&
      decide (nsOfPair (time3 w1 w2 w3) < per) && entriesOk count per (t.drop blen)
  | _, _ => false

/-- LAUNCH entries (R349). Log 115 (DEDUCED). -/
def launchBad (r : ImgRec) (regions : List Region) : Option Bad :=
  if r.typ ≠ 0xA then none
  else
    let ls := launchesOf r.body.length r.body
    let used := ls.foldl (fun n l => n + 4 + l.n) 0
    firstBad (check (used == r.body.length) 2 349 r.idx 0 ::
      (ls.zip (offsetsOf 0 (ls.map fun l => 4 + l.n))).map fun (e : ImgLaunch × Nat) =>
        let (l, o) := e
        let per := nsOfPair (headerPeriod l.words)
        firstBad [
          check (if l.fed then l.n == 0 else decide (12 ≤ l.n)) 2 349 r.idx (o + 3),
          check (regions.any fun x => x.owner == 0x210 && decide (x.base ≤ l.base) && decide (l.base < x.base + x.len)) 5 349
            r.idx (o + 1),
          check (l.fed || (bits (l.words.getD 0 0).toNat 11 0 != 0 && decide (10000 ≤ per) &&
            decide ((headerPeriod l.words).1 ≤ 1024))) 5 73 r.idx (o + 4),
          check (l.fed || entriesOk (bits (l.words.getD 0 0).toNat 11 0) per (l.words.drop 8)) 5 74 r.idx (o + 12)])

/-- POWER entries (R343, R481). Log 115 (DEDUCED). -/
def powerBad (rs : List ImgRec) : Option Bad :=
  let ps := (rs.filter fun r => r.typ == 2).flatMap fun r =>
    let xs := powersOf r.body.length r.body
    (xs.zip (offsetsOf 0 (xs.map fun p => 1 + p.2.length))).map fun e => ((r, e.2), e.1)
  let ds := ps.flatMap fun p => p.2.2.zipIdx.map fun d => ((p.1.1, p.1.2 + 1 + d.2), p.2.1, d.1)
  firstBad (
    (rs.filter fun r => r.typ == 2).map (fun r =>
      check ((powersOf r.body.length r.body).foldl (fun n p => n + 1 + p.2.length) 0 == r.body.length) 2 343 r.idx 0) ++
    ps.map (fun p => check (decide (p.2.1 < 64)) 2 343 p.1.1.idx p.1.2) ++
    ds.map fun d => firstBad [
      check (decide (d.2.2 < 212)) 5 478 d.1.1.idx d.1.2,
      check (ds.all fun e => e.2.2 != d.2.2 || e.2.1 == d.2.1) 4 481 d.1.1.idx d.1.2])

/-! ### Checks of what the register-write lists set -/

/-- Every register-write entry of an image. Log 114 (DEDUCED). -/
def imgWrites (rs : List ImgRec) : List (Nat × Word) := rs.flatMap fun r => r.regs.1

/-- The record and offset of the last entry that writes a register. -/
def placeIn (rs : List ImgRec) (a : Nat) : Nat × Nat :=
  rs.foldl (fun p r =>
    let (es, o) := r.regs
    es.zipIdx.foldl (fun p (e : (Nat × Word) × Nat) => if e.1.1 = a then (r.idx, o + 2 * e.2) else p) p) (4095, 0)

/-- A condition on the first `i + 1` of several entries, recorded at the first entry with which it fails. -/
def checkEach (places : List (Nat × Nat)) (ok : Nat → Bool) (result rule : Nat) : Option Bad :=
  firstBad (places.zipIdx.map fun (e : (Nat × Nat) × Nat) => check (ok (e.2 + 1)) result rule e.1.1 e.1.2)

/-- A check about a register, recorded at the entry that writes it. -/
def checkAt (rs : List ImgRec) (ok : Bool) (result rule a : Nat) : Option Bad :=
  if ok then none else check false result rule (placeIn rs a).1 (placeIn rs a).2

/-- The device's registers as the image sets them; for a slice, over the running device without slice OLD and without what a
failed operation left of slice NEW (R359). Log 116 (DEDUCED). -/
def Dev.imaged (s : Dev) (rs : List ImgRec) (old : Option Nat) (new : Nat) : Dev :=
  let s := match old with
    | none => { s with regs := [] }
    | some r => ((s.sliceStop r).sliceStop new).fset Reg.STC_STAT Reg.STC_STAT_LOCKED_f false
  (imgWrites rs).foldl (fun s e => s.storeRw e.1 e.2) s

/-- Queues in service in an image. -/
def Dev.queuesOn (s : Dev) : List Nat := (List.range 1024).filter fun n => s.fbit (Reg.QUE_CFG n) Reg.QUE_CFG_EN_f

/-- First word of a queue's space. -/
def Dev.queBase (s : Dev) (n : Nat) : Nat := s.fget (Reg.QUE_BASE n) Reg.QUE_BASE_BASE_f

/-- Queues (R324, R325, R329). -/
def Dev.queuesBad (s : Dev) (rs : List ImgRec) : Option Bad :=
  let on := s.queuesOn
  let cap (n : Nat) : Nat := (s.qcfg n).cap
  firstBad (
    on.map (fun n =>
      let c := s.qcfg n
      firstBad [
        checkAt rs (on.all fun m => m == n || !(overlaps (s.queBase n) (cap n) (s.queBase m) (cap m))) 4 324 (Reg.QUE_BASE n),
        checkAt rs (decide (s.queBase n + cap n ≤ 262144)) 3 324 (Reg.QUE_BASE n),
        checkAt rs (match c.cls with
          | 0 => decide (1 ≤ c.cap) && decide (c.cap ≤ 64)
          | 1 => decide (65 ≤ c.cap) && decide (c.cap ≤ 1023)
          | 2 => decide (1024 ≤ c.cap) && c.cap % 8 == 0
          | _ => false) 3 324 (Reg.QUE_CAP n),
        checkAt rs (s.fbit (Reg.QUE_PROD n) Reg.QUE_PROD_VALID_f && s.fbit (Reg.QUE_CONS n) Reg.QUE_CONS_VALID_f) 5 324
          (Reg.QUE_CFG n),
        checkAt rs (c.valid && (c.imode != 0 || c.ilen != 0)) 5 329 (Reg.QUE_CFG n)]) ++
    [checkAt rs (decide ((on.filter fun n => (s.qcfg n).cls == 2).length ≤ 64)) 3 324 Reg.QUE_GSTAT])

/-- The control register, EN and DLQ fields of an accelerator unit that takes jobs. Log 116 (DEDUCED). -/
def bindReg (u : Nat) : Option (Nat × Fld × Fld) :=
  if 0x80 ≤ u ∧ u ≤ 0x97 then some (Reg.SPC_CTL (u - 0x80), Reg.SPC_CTL_EN_f, Reg.SPC_CTL_DLQ_f)
  else if 0x98 ≤ u ∧ u ≤ 0xA7 then some (Reg.TRL_CTL (u - 0x98), Reg.TRL_CTL_EN_f, Reg.TRL_CTL_DLQ_f)
  else if 0xA8 ≤ u ∧ u ≤ 0xB3 then some (Reg.TRB_CTL (u - 0xA8), Reg.TRB_CTL_EN_f, Reg.TRB_CTL_DLQ_f)
  else if 0xB4 ≤ u ∧ u ≤ 0xBB then some (Reg.ENC_CTL (u - 0xB4), Reg.ENC_CTL_EN_f, Reg.ENC_CTL_DLQ_f)
  else if 0xCC ≤ u ∧ u ≤ 0xD3 then some (Reg.RAD_CTL (u - 0xCC), Reg.RAD_CTL_EN_f, Reg.RAD_CTL_DLQ_f)
  else none

/-- The type of an accelerator unit: the block of its control register. -/
def unitType (u : Nat) : Nat := match bindReg u with | some (a, _, _) => a / 0x10000 | none => 0

/-- Deadline queues (R84): one type of unit each, over a class L queue; no unit bound to two. -/
def Dev.dlqsBad (s : Dev) (rs : List ImgRec) : Option Bad :=
  let bound := (List.range 0xD4).filterMap fun u => match bindReg u with
    | some (a, en, d) => if s.fbit a en then some (u, a, s.fget a d) else none
    | none => none
  let ws := imgWrites rs
  firstBad (
    bound.map (fun (e : Nat × Nat × Nat) =>
      checkAt rs (bound.all fun (f : Nat × Nat × Nat) => f.2.2 != e.2.2 || unitType f.1 == unitType e.1) 5 84 e.2.1) ++
    (List.range 64).map (fun d =>
      checkAt rs (!(s.fbit (Reg.DLQ_CFG d) Reg.DLQ_CFG_EN_f) || (s.qcfg (s.dlqQ d)).cls == 2) 5 84 (Reg.DLQ_CFG d)) ++
    (List.range 0xD4).map fun u => match bindReg u with
      | some (a, en, d) =>
        let mine := ws.filter fun e => e.1 == a && getF e.2 en == 1
        checkAt rs (mine.all fun e => mine.all fun f => getF e.2 d == getF f.2 d) 4 84 a
      | none => none)

/-- DMA channels (R300, R353): no channel is given two owners. -/
def ownersBad (rs : List ImgRec) : Option Bad :=
  let ws := (imgWrites rs).filter fun e => match dmaChannelAt e.1 with
    | some (e', c) => e.1 == Reg.DMA_OWN e' c && getF e.2 Reg.DMA_OWN_VALID_f == 1
    | none => false
  firstBad (ws.map fun e => checkAt rs (ws.all fun f => f.1 != e.1 || f.2 == e.2) 4 300 e.1)

/-- Whether a source or sink (SRC or SINK) may feed a kind (R101). -/
def sourceOk (src kind : Nat) (tx : Bool) : Bool :=
  match src with
  | 0 => decide (kind ≤ 4)
  | 1 => kind == 4
  | 2 => decide (kind ≤ 3)
  | 3 => !tx && decide (kind ≤ 3)
  | _ => false

/-- DFE units (R101, R102). -/
def Dev.dfesBad (s : Dev) (rs : List ImgRec) : Option Bad :=
  firstBad ((List.range 8).flatMap fun u =>
    let rx := (List.range 256).filter fun i => s.rxf u i Reg.DFE_RXCFG_EN_f == 1
    let tx := (List.range 128).filter fun t => s.fbit (Reg.DFE_TXCFG u t) Reg.DFE_TXCFG_EN_f
    let live := s.dfeCtlLive u
    let chans := ((rx.filter fun i => s.rxf u i Reg.DFE_RXCFG_SRC_f == 0).map fun i => s.rxf u i Reg.DFE_RXCFG_CHAN_f).eraseDups
    let rate (c : Nat) : Nat :=
      let k := s.fget (Reg.DFE_JRATE (c / 8)) Reg.DFE_JRATE_KRATE_f
      if k = 0 then 128 else k
    [checkAt rs (decide (live / 4096 ≤ 256) && decide (live % 4096 ≤ 128)) 3 102 (Reg.DFE_CTL u),
     checkAt rs (decide (chans.foldl (fun n c => n + rate c) 0 ≤ 512)) 3 102 (Reg.DFE_CTL u)] ++
    rx.map (fun i => checkAt rs (sourceOk (s.rxf u i Reg.DFE_RXCFG_SRC_f) (s.rxf u i Reg.DFE_RXCFG_KIND_f) false) 5 102
      (Reg.DFE_RXCFG u i)) ++
    rx.map (fun i => checkAt rs (lenOk (s.rxLen u i)) 5 105 (Reg.DFE_RXLEN u i)) ++
    tx.map (fun t => checkAt rs (lenOk (s.fget (Reg.DFE_TXLEN u t) Reg.DFE_TXLEN_LEN_f)) 5 123 (Reg.DFE_TXLEN u t)) ++
    tx.map fun t => checkAt rs (sourceOk (s.fget (Reg.DFE_TXCFG u t) Reg.DFE_TXCFG_SINK_f)
      (s.fget (Reg.DFE_TXCFG u t) Reg.DFE_TXCFG_KIND_f) true) 5 102 (Reg.DFE_TXCFG u t))

/-- JESD204C links in service. -/
def Dev.jlinksOn (s : Dev) : List Nat := (List.range 4).filter fun k => s.fbit (Reg.DFE_JCFG k) Reg.DFE_JCFG_EN_f

/-- JESD204C links (R108). Log 94 (DEDUCED). -/
def Dev.jlinksBad (s : Dev) (rs : List ImgRec) : Option Bad :=
  let on := s.jlinksOn
  let lanes (k : Nat) : Nat := s.fget (Reg.DFE_JCFG k) Reg.DFE_JCFG_LM1_f + 1
  firstBad (
    [checkAt rs (decide (on.foldl (fun n k => n + lanes k) 0 ≤ 16)) 3 108 (Reg.DFE_JCFG (on.getD 0 0))] ++
    on.map fun k =>
      let m := s.fget (Reg.DFE_JCFG k) Reg.DFE_JCFG_MM1_f + 1
      let n := s.fget (Reg.DFE_JCFG k) Reg.DFE_JCFG_NM1_f + 1
      let kr := s.fget (Reg.DFE_JRATE k) Reg.DFE_JRATE_KRATE_f
      let kr := if kr = 0 then 128 else kr
      checkAt rs (m % 2 == 0 && decide (s.fget (Reg.DFE_JCFG k) Reg.DFE_JCFG_EM1_f ≤ 15) && decide (12 ≤ n) && decide (n ≤ 16) &&
        decide (m * 16 * 66 * kr * 3840000 ≤ 32500000000 * 64 * lanes k)) 5 108 (Reg.DFE_JCFG k))

/-- Burst detectors (R136). Log 94 (DEDUCED). -/
def Dev.detsBad (s : Dev) (rs : List ImgRec) : Option Bad :=
  firstBad ((List.range 16).flatMap fun n =>
    let on := (List.range 16).filter fun c => s.fbit (Reg.BDT_CCFG n c) Reg.BDT_CCFG_EN_f
    let ants (c : Nat) : Nat := s.fget (Reg.BDT_CCFG n c) Reg.BDT_CCFG_AM1_f + 1
    let pool (c : Nat) : Nat :=
      let p := s.fget (Reg.BDT_CPOOL n c) Reg.BDT_CPOOL_IPOOL_f
      if p = 0 then 128 else p
    [checkAt rs (decide (on.foldl (fun k c => k + ants c) 0 ≤ 128)) 3 136 (Reg.BDT_CCFG n (on.getD 0 0)),
     checkAt rs (decide (on.foldl (fun k c => k + pool c) 0 ≤ 128)) 3 136 (Reg.BDT_CPOOL n (on.getD 0 0))] ++
    on.map fun c =>
      let u := s.fget (Reg.BDT_CCFG n c) Reg.BDT_CCFG_DFE_f
      let i := s.fget (Reg.BDT_CCFG n c) Reg.BDT_CCFG_STREAM_f
      checkAt rs ((List.range (ants c)).all fun a => decide (i + a < 256) && s.rxf u (i + a) Reg.DFE_RXCFG_EN_f == 1 &&
        s.rxf u (i + a) Reg.DFE_RXCFG_KIND_f == 4) 5 136 (Reg.BDT_CCFG n c))

/-- The lanes of Ethernet port `p` in service and its MAC rate in Gb/s. -/
def Dev.ethUse (s : Dev) (p : Nat) : List Nat × Nat :=
  let a := Reg.BRG_PCFG p
  let q := s.fget a Reg.BRG_PCFG_QUAD_f
  let adv := s.fget a Reg.BRG_PCFG_ADV_f
  let mode := s.fget a Reg.BRG_PCFG_MODE_f
  let one := [q * 4 + s.fget a Reg.BRG_PCFG_LANE_f]
  let four := (List.range 4).map (q * 4 + ·)
  if s.fbit a Reg.BRG_PCFG_EN_f then match mode with
    | 0 => ([], 0)
    | 1 => (one, 10) | 2 => (one, 10) | 3 => (one, 25) | 4 => (one, 25) | 5 => (one, 25)
    | 6 => (four, 100)
    | _ => if bits adv 4 4 = 1 then (four, 100) else if bits adv 1 1 = 1 then (one, 25) else if bits adv 0 0 = 1 then (one, 10)
      else (one, 0)
  else ([], 0)

/-- The lanes of fabric port `p` in service. -/
def Dev.fabUse (s : Dev) (p : Nat) : List Nat := if s.fbit (Reg.FAB_PCFG p) Reg.FAB_PCFG_EN_f then s.fportLanes p else []

/-- Lanes and ports (R385, R421, R422). Which quads a JESD204C link lies in no register says. Log 94 (DEDUCED). -/
def Dev.lanesBad (s : Dev) (rs : List ImgRec) : Option Bad :=
  let eth := (List.range 16).map fun p => (p, s.ethUse p)
  let fab := (List.range 16).map fun p => (p, s.fabUse p)
  let all := eth.flatMap (·.2.1) ++ fab.flatMap (·.2)
  let quadUse (l : Nat) : Nat := s.fget (Reg.LAN_QCFG (l / 4)) Reg.LAN_QCFG_USE_f
  firstBad (
    [checkAt rs (decide (eth.foldl (fun n e => n + e.2.2) 0 ≤ 400)) 3 385 (Reg.BRG_PCFG 0)] ++
    eth.map (fun e => firstBad [
      checkAt rs (eth.all fun f => f.1 == e.1 || !(f.2.1.any e.2.1.contains)) 4 385 (Reg.BRG_PCFG e.1),
      checkAt rs (e.2.1.all fun l => decide (l < 64) && quadUse l == 1) 5 421 (Reg.BRG_PCFG e.1),
      checkAt rs (e.2.1.all fun l => all.count l == 1) 4 421 (Reg.BRG_PCFG e.1)]) ++
    fab.map fun e =>
      let first := s.fget (Reg.FAB_PCFG e.1) Reg.FAB_PCFG_FIRST_f
      let n := s.fportLanesN e.1
      let off := !(s.fbit (Reg.FAB_PCFG e.1) Reg.FAB_PCFG_EN_f)
      firstBad [
        checkAt rs (off || (n != 0 && first % n == 0)) 5 422 (Reg.FAB_PCFG e.1),
        checkAt rs (e.2.all fun l => decide (l < 64) && quadUse l == 3) 5 421 (Reg.FAB_PCFG e.1),
        checkAt rs (e.2.all fun l => all.count l == 1) 4 421 (Reg.FAB_PCFG e.1)])

/-- Carriers against the limits of R26 and R27 and against the streams that the lists enable (R348). Log 94 (DEDUCED). -/
def Dev.carriersBad (s : Dev) (rs : List ImgRec) : Option Bad :=
  let cs := (rs.filter fun r => r.typ == 9).flatMap fun r => carriersOf (carrierCount r.body) (r.body.drop 1)
  let places := (rs.filter fun r => r.typ == 9).flatMap fun r =>
    (List.range (carriersOf (carrierCount r.body) (r.body.drop 1)).length).map fun i => (r.idx, 1 + 5 * i)
  let at_ := (places.head?.map (·.1)).getD 4095
  let rx (n : Nat) : Nat := (cs.take n).foldl (fun n c => n + cauOf c.kind * c.rxa) 0
  let tx (n : Nat) : Nat := (cs.take n).foldl (fun n c => n + cauOf c.kind * c.txa) 0
  let rxStreams (k : Nat) : Nat := (rxStreams.filter fun e =>
    s.rxf e.1 e.2 Reg.DFE_RXCFG_EN_f == 1 && s.rxf e.1 e.2 Reg.DFE_RXCFG_SRC_f != 3 && s.rxf e.1 e.2 Reg.DFE_RXCFG_KIND_f == k).length
  let txStreams (k : Nat) : Nat := ((List.range 8).flatMap fun u => (List.range 128).filter fun t =>
    s.fbit (Reg.DFE_TXCFG u t) Reg.DFE_TXCFG_EN_f && s.fget (Reg.DFE_TXCFG u t) Reg.DFE_TXCFG_KIND_f == k).length
  let slots := (List.range 16).flatMap fun n => ((List.range 16).filter fun c => s.fbit (Reg.BDT_CCFG n c) Reg.BDT_CCFG_EN_f).map
    fun c => (s.fget (Reg.BDT_CPOOL n c) Reg.BDT_CPOOL_CARRIER_f, s.fget (Reg.BDT_CCFG n c) Reg.BDT_CCFG_AM1_f + 1)
  firstBad (
    [checkEach places (fun n => decide (rx n ≤ 2048) && decide (tx n ≤ 1024) && decide (n ≤ 512)) 3 26,
     checkEach places (fun n => decide (((cs.take n).filter fun c => c.kind == 4).length ≤ 256)) 3 26,
     checkEach places (fun n => decide (((cs.take n).map (·.num)).eraseDups.length = n)) 4 348] ++
    (List.range 5).map (fun k =>
      let mine := (cs.zip places).filter fun e => e.1.kind == k
      let p := (mine.getLast?.map (·.2)).getD (at_, 1)
      check (rxStreams k == mine.foldl (fun n e => n + e.1.rxa) 0 && txStreams k == mine.foldl (fun n e => n + e.1.txa) 0) 5 348
        p.1 p.2) ++
    (cs.zip places).map fun e =>
      check (e.1.kind != 4 || (slots.filter fun f => f.1 == e.1.num).all fun f => f.2 == e.1.rxa) 5 348 e.2.1 e.2.2)

/-! ### Checks over the whole image -/

/-- Regions over the whole image (R345) and the range of the image itself (R353); `kept` are the regions that go on. -/
def regionsBad (rs : List ImgRec) (kept : List Region) (base len : Nat) : Option Bad :=
  let own := imgRegions rs
  let places := rs.flatMap fun r => if r.typ = 3 then
    (List.range (regionsOf r.slice r.body).length).map fun i => (r.idx, 6 * i) else []
  let ds := (rs.filter fun r => r.typ == 4).flatMap fun r =>
    let xs := dataOf r.body.length r.body
    (xs.zip (offsetsOf 0 (xs.map fun d => 3 + if d.fill then 1 else d.n))).map fun e => (r.idx, e.2, e.1)
  let meets (a n : Nat) : Bool := decide (a < base + len) && decide (base < a + n)
  firstBad ([
    checkEach places (fun n => decide (n ≤ 256)) 3 345,
    checkEach places (fun n => (List.range 14).all fun r =>
      decide (((kept ++ own.take n).filter fun x => bits x.rods r r == 1).length ≤ 32)) 3 345,
    checkEach places (fun n => (own.take n).all fun a => (own.take n).all fun b =>
      a.tcode == 7 || b.tcode == 7 || a.tcode == b.tcode || !(regionsMeet a b)) 4 345,
    checkEach places (fun n => (own.take n).all fun x => !(meets x.base x.len)) 4 353] ++
    ds.map fun d => check (!(meets d.2.2.base d.2.2.n)) 4 353 d.1 d.2.1)

/-- What R357 asks of a SLICE image over the running one. Log 121 (DEDUCED). -/
def Dev.sliceBad (s : Dev) (h : List Word) (rs : List ImgRec) : Option Bad :=
  let new := imgRod h
  let old := imgRepl h
  let map := s.fget Reg.STC_RODMAP Reg.STC_RODMAP_ASSIGNED_f
  let t := (s.sliceStop old).sliceStop new
  let ks := sliceKeys rs new
  let usedKey (k : Nat) : Bool :=
    if k < 0x400 then false
    else if t.stc.owned.any fun e => e.2.contains k then true
    else if k < 0x800 then t.fbit (Reg.QUE_CFG (k - 0x400)) Reg.QUE_CFG_EN_f
    else if k < 0x2000 then t.fbit (Reg.DMA_OWN ((k - 0x1000) / 64) ((k - 0x1000) % 64)) Reg.DMA_OWN_VALID_f
    else (t.list (k - 0x2000)).placed.isSome
  firstBad [
    check (imgId h 8 == (s.rget Reg.STC_IMGID_LO).toNat + (s.rget Reg.STC_IMGID_HI).toNat * 2 ^ 24) 5 357 4095 8,
    check (bits map old old == 1) 4 357 4095 2,
    check (new == old || (bits map new new == 0 && !(s.rodFenced new))) 4 357 4095 2,
    check (!(ks.any usedKey)) 4 357 4095 0,
    check ((imgRegions rs).all fun x => t.regions.all fun y => !(regionsMeet x y)) 4 357 4095 0]

/-- Every structural check of the loader (R353) over an image's words at `base`. Log 114 (DEDUCED), 116 (DEDUCED). -/
def Dev.imageBad (s : Dev) (ws : List Word) (base : Nat) (slice : Bool) : Option Bad :=
  let rs := imgBody ws
  let old := if slice then some (imgRepl ws) else none
  let t := s.imaged rs old (imgRod ws)
  let kept := match old with | some o => (s.regions.filter fun x => x.slice != o && x.slice != imgRod ws) | none => []
  let regions := imgRegions rs
  let ks := if slice then some (sliceKeys rs (imgRod ws)) else none
  (headerBad ws slice).or ((recsBad rs ws slice).or (firstBad (
    [check ((ws.getD (imgMofs ws) 0).toNat == 0x4D4E46) 2 350 4095 (imgMofs ws)] ++
    (if slice then [s.sliceBad ws rs] else []) ++
    rs.map (fun r => firstBad [regsBad r ks, regionBad r slice, dataBad r regions, rodBad r, carrierBad r,
      launchBad r (kept ++ regions)]) ++
    [powerBad rs, regionsBad rs kept base (imgLen ws), t.queuesBad rs, t.dlqsBad rs, ownersBad rs] ++
    (if slice then [] else [t.dfesBad rs, t.jlinksBad rs, t.detsBad rs, t.lanesBad rs, t.carriersBad rs]))))

end Sys2Proof.Machine
end

