-- ==== Sys2Proof/Machine/Stc.lean ====
section
/-! DEFINITION. The structure loader's steps (R352 to R359): the end of VERIFY, the drain of a slice operation, the end of
APPLY, and the re-application of the retained images after a W reset (R356). -/

namespace Sys2Proof.Machine

/-! ### Outcomes -/

/-- Address of the image that STC_IMG names. -/
def Dev.imgBase (s : Dev) : Nat := s.getAddr Reg.STC_IMG_LO

/-- A change of the loader's hidden state. -/
def Dev.onStc (s : Dev) (f : Stc → Stc) : Dev := { s with stc := f s.stc }

/-- The loader records why it stopped (R354). Log 114 (DEDUCED). -/
def Dev.stcResult (s : Dev) (b : Bad) : Dev :=
  let s := (s.fput Reg.STC_STAT Reg.STC_STAT_RESULT_f b.result).rset Reg.STC_REJ (word (Nat.min 4095 b.record * 4096 + b.rule % 4096))
  let s := s.rset Reg.STC_REJENT (word b.ofs)
  if b.result = 1 then s.raise 0x901 1 else s.raise 0x310 (Nat.min 4095 b.record)

/-- A load or a slice operation ends without success: STATE becomes FAILED, or LOADED for a slice (R354, R357).
Log 114 (DEDUCED). -/
def Dev.stcReject (s : Dev) (slice : Bool) (b : Bad) : Dev :=
  (((s.stcState (if slice then 4 else 5)).onStc fun x => { x with op := .none }).stcResult b).fencesGo

/-- A bus error while the loader reads the image (R354). Log 117 (DEDUCED). -/
def busBad (record ofs : Nat) : Bad := { result := 6, rule := 354, record := record, ofs := ofs }

/-! ### VERIFY (R352, R353, R357) -/

/-- The signer class of structure images in the present lifecycle state (R504). -/
def Dev.imgSigner (s : Dev) : Option Nat :=
  match s.lc with
  | 0 => some 0 | 1 => some 2 | 2 => some 1 | 3 => some 0 | _ => none

/-- Whether the island accepts the image (R351); a verification that a tamper response interrupted fails (R523). -/
def Dev.imgSecure (s : Dev) (ws : List Word) : Bool :=
  !s.sec.aborted && match s.imgSigner with
    | some c => s.verify ws (imgMofs ws) c == 0
    | none => false

/-- DRAIN begins (R357 step 2): the lists of slice OLD stop, its cores get SOFT, DRAINREQ reads 1; a fenced rod counts as
acknowledged. -/
def Dev.drainStart (s : Dev) (new old : Nat) : Dev :=
  let s := (s.fput Reg.STC_SLICE Reg.STC_SLICE_OLD_f old).fput Reg.STC_SLICE Reg.STC_SLICE_NEW_f new
  let lists := (s.sliceOwned old 0x2000 0x40).filter fun n => s.listOn n
  let s := lists.foldl (fun s n => s.listStop n) s
  let s := (List.range 8).foldl (fun s i => s.onCore (old * 8 + i) fun c => c.cbw 0x107 4 true) s
  let s := ((s.stcState 2).fset Reg.STC_STAT Reg.STC_STAT_DRAINREQ_f true).onStc fun x =>
    { x with stopped := lists, forced := false, drainAt := s.elapsed }
  if s.rodFenced old then s.drainEnd else s

/-- VERIFY passes or rejects. -/
def Dev.verifyImage (s : Dev) : Dev :=
  let slice := s.stc.op == StcOp.slice
  let a := s.imgBase
  match s.memReadN a 16 with
  | (h, false, s) => s.stcReject slice (busBad 4095 h.length)
  | (h, true, s) =>
    match headerBad h slice with
    | some b => s.stcReject slice b
    | none =>
      match s.memReadN a (imgLen h) with
      | (ws, false, s) => s.stcReject slice (busBad 4095 ws.length)
      | (ws, true, s) =>
        match s.imageBad ws a slice with
        | some b => s.stcReject slice b
        | none =>
          if s.imgSecure ws then (if slice then s.drainStart (imgRod h) (imgRepl h) else s.stcState 3)
          else s.stcReject slice { result := 1, rule := 351, record := 4095, ofs := 0 }

/-- STC_VERIFY_END. Requests to the island that waited are served then (R523). -/
def Dev.verifyEnd (s : Dev) : Dev :=
  if s.stcIs 1 && !s.stc.wbusy && s.stc.op != StcOp.none then
    (s.verifyImage.onSec fun x => { x with aborted := false }).secDrain
  else s

/-! ### The drain (R358) -/

/-- STC_DRAIN_TIMEOUT, DRAINTMO after DRAIN began: FORCE = 1 stops the slice's channels and goes on; FORCE = 0 ends the
operation. -/
def Dev.drainTimeout (s : Dev) : Dev :=
  if s.stcIs 2 && !s.stc.forced then
    let s := s.pass (s.stc.drainAt + Nat.max 1 (s.fget Reg.STC_SLICE Reg.STC_SLICE_DRAINTMO_f) * 1000000 * nsUnit)
    let old := s.fget Reg.STC_SLICE Reg.STC_SLICE_OLD_f
    let s := s.raise 0x313 old
    if s.fbit Reg.STC_SLICE Reg.STC_SLICE_FORCE_f then
      let s := (s.sliceOwned old 0x1000 0x80).foldl (fun s k => s.dmaStop (k / 64) (k % 64)) s
      (s.onStc fun x => { x with forced := true }).drainForced
    else
      let lists := s.stc.stopped
      let s := ((s.stcState 4).fset Reg.STC_STAT Reg.STC_STAT_DRAINREQ_f false).fput Reg.STC_STAT Reg.STC_STAT_RESULT_f 7
      (lists.foldl (fun s n => s.listEnable n) (s.onStc fun x => { x with op := .none, stopped := [] })).fencesGo
  else s

/-! ### Records (R343 to R349) -/

/-- The strengths that REGION entries name are put into force, one region after another (R352 step 2). Log 120 (DEDUCED). -/
def Dev.applyStrength (s : Dev) (x : Region) : Dev :=
  if x.tcode = 7 then s
  else (List.range (x.len / 0x20000)).foldl (fun s i =>
    let r := (x.base - 0x10000000) / 0x20000 + i
    let finish (s : Dev) : Dev := (List.range 256).foldl (fun s _ => s.reencodePage) s
    let s := finish s
    if s.fget (Reg.PGC_REG r) Reg.PGC_REG_TCUR_f = x.tcode then s
    else finish (s.recmdWrite (putF (putF (word (2 ^ 23)) Reg.PGC_RECMD_TNEW_f x.tcode) Reg.PGC_RECMD_REGION_f r))) s

/-- Initial contents (R346). Log 117 (DEDUCED). -/
def Dev.applyData (s : Dev) (d : ImgData) : Dev :=
  if d.fill then match d.words with
    | w :: _ => (s.memWriteN d.base (List.replicate d.n w)).2
    | [] => s
  else (s.memWriteN d.base d.words).2

/-- A core of a rod program (R347): with `zero`, local memory that no segment covers becomes 0. -/
def Dev.applyCore (s : Dev) (rod : Nat) (zero : Bool) (c : ImgCore) : Dev :=
  let n := rod * 8 + c.core
  let s := if zero then s.lmZero n else s
  let s := c.segs.foldl (fun s g =>
    g.words.zipIdx.foldl (fun s (e : Word × Nat) => s.lmWrite n (g.at_ + e.2) e.1 allLanes) s) s
  let s := s.fput (Reg.RCK_CTL n) Reg.RCK_CTL_ENTRY_f c.entry
  s.setCore n { coreDef with
    pc := c.entry, inbox := c.inbox, bound := true, role := c.role == 0
    st := if s.fenced n then .fenced else if (s.core n).st == .halted then .halted else .stopped }

/-- A launch list is placed (R349). -/
def Dev.applyLaunch (s : Dev) (l : ImgLaunch) : Dev :=
  let s := (s.memWriteN l.base l.words).2
  let a := Reg.LNC_CTL l.list
  let s := (s.fset a Reg.LNC_CTL_MODE_f l.fed).fput a Reg.LNC_CTL_FEEDQ_f l.feedq
  s.setList l.list { listEmpty with placed := some l.base }

/-- One record is applied. `strengths`: TCODE counts (not on re-application); `zero`: a first application. Log 117 (DEDUCED). -/
def Dev.applyRec (s : Dev) (zero : Bool) (r : ImgRec) : Dev :=
  let writes (s : Dev) : Dev := r.regs.1.foldl (fun s e => s.regPut (.local 0x7E) e.1 e.2) s
  match r.typ with
  | 1 => r.body.foldl (fun s w =>
      let u := bits w.toNat 11 0
      if unitFences u && !(s.fenced u) then (s.fenceMark u).fenceHold u else s) s
  | 2 => (powersOf r.body.length r.body).foldl (fun s p => p.2.foldl (fun s d =>
      s.onPwr fun x => { x with grpOf := SMap.set x.grpOf none d (some p.1) }) s) s
  | 3 =>
    let xs := regionsOf r.slice r.body
    let s := { s with regions := s.regions ++ xs }
    if zero then xs.foldl (fun s x => s.applyStrength x) s else s
  | 4 => (dataOf r.body.length r.body).foldl (fun s d => s.applyData d) s
  | 9 => writes { s with carriers := s.carriers ++ carriersOf (carrierCount r.body) (r.body.drop 1) }
  | 0xA => (launchesOf r.body.length r.body).foldl (fun s l => s.applyLaunch l) s
  | 0xC => (rodBody r.body).1.foldl (fun s c => s.applyCore r.slice zero c) s
  | _ => writes s

/-! ### What the image binds or names (R28, R480) -/

/-- The units whose registers an address belongs to, as far as domains depend on them. -/
def unitsOfReg (a : Nat) : List Nat :=
  if a / 0x10000 = 6 then [0x200 + (a - 0x60000) / 0x8000]
  else if a / 0x10000 = 24 then [0x820]
  else if a / 0x10000 = 25 ∧ 0x190100 ≤ a ∧ a < 0x190500 then [0x1000 + (a - 0x190100) / 0x40]
  else (List.range 0xEA).filter fun u => inUnit u a

/-- The units that records bind or name. Log 120 (DEDUCED). -/
def namedUnits (rs : List ImgRec) : List Nat :=
  (rs.flatMap fun r =>
    (r.regs.1.flatMap fun e => unitsOfReg e.1) ++
    (if r.typ = 1 then r.body.map fun w => bits w.toNat 11 0 else []) ++
    (if r.typ = 0xC then (rodCores r.body).map (r.slice * 8 + ·) ++ [0xDC + r.slice] else [])).eraseDups

/-- The rods that have a slice among records. -/
def imgRods (rs : List ImgRec) : List Nat := (rs.filter fun r => r.typ == 0xC).map (·.slice)

/-- A bit in a map of rods. -/
def rodBit (m r : Nat) (b : Bool) : Nat := putBits m r r (bit b)

/-- The device as a FULL image finds it: no regions, carriers, groups or slices, its units named, their domains up. -/
def Dev.fullStart (s : Dev) (rs : List ImgRec) : Dev :=
  let rods := imgRods rs
  let owned := (rods ++ [15]).foldl (fun (m : SMap (List Nat)) r => SMap.set m [] r (sliceKeys rs r)) []
  let s := { s with regions := [], carriers := [], stc := { s.stc with owned := owned, openUnits := [] } }
  let s := s.onPwr fun p => { p with grpOf := [], grpCmd := [], named := namedUnits rs }
  let s := s.rset Reg.STC_RODMAP (word (rods.foldl (fun m r => rodBit m r true) 0))
  s.settleDomains

/-- The device as a SLICE image finds it, slice OLD already stopped: the units of the new slice named and open. -/
def Dev.sliceStart (s : Dev) (rs : List ImgRec) (new old : Nat) : Dev :=
  let ks := sliceKeys rs new
  let gone := (List.range 8).map (old * 8 + ·) ++ [0xDC + old]
  let s := (List.range 8).foldl (fun s i => s.onCore (old * 8 + i) fun c => { c with bound := false, role := false }) s
  let s := s.onPwr fun p => { p with named := ((p.named.filter fun u => !(gone.contains u)) ++ namedUnits rs).eraseDups }
  (s.onStc fun x => { x with owned := SMap.set x.owned [] new ks, openUnits := x.openUnits ++ ks }).settleDomains

/-- STC_RODMAP gains NEW and, for a move, loses OLD (R357 step 5). -/
def Dev.rodMove (s : Dev) (new old : Nat) : Dev :=
  s.rset Reg.STC_RODMAP (word (rodBit (rodBit (s.rget Reg.STC_RODMAP).toNat old false) new true))

/-! ### The end of APPLY (R352, R355, R357) -/

/-- Cores with ROLE RUN start and placed lists get EN. -/
def Dev.startWork (s : Dev) (cores lists : List Nat) : Dev :=
  let s := cores.foldl (fun s n =>
    let c := s.core n
    if c.bound && c.role && !(s.fenced n) then s.coreRun n true else s) s
  lists.foldl (fun s n => if (s.list n).placed.isSome then s.listEnable n else s) s

/-- Retain a range (R356) at index `k`. Log 119 (DEDUCED). -/
def Dev.retain (s : Dev) (k : Nat) (full : Bool) (rod base len : Nat) : Dev :=
  let s := s.rset (Reg.STC_RET k) (word (2 ^ 23 + bit full * 2 ^ 22 + rod % 16 * 2 ^ 18))
  let s := (s.rset (Reg.STC_RETBASE_LO k) (word base)).rset (Reg.STC_RETBASE_HI k) (word (base / 2 ^ 24))
  s.rset (Reg.STC_RETLEN k) (word len)

/-- Release a retained range. Log 119 (DEDUCED). -/
def Dev.unretain (s : Dev) (k : Nat) : Dev :=
  let s := [Reg.STC_RET k, Reg.STC_RETBASE_LO k, Reg.STC_RETBASE_HI k, Reg.STC_RETLEN k].foldl (fun s a => s.rset a 0) s
  s.onStc fun x => { x with order := x.order.filter fun i => i != k }

/-- What the island measures of an accepted image (R514). -/
def imgMeasure (ws : List Word) : Measure :=
  let m := manifestOf (ws.drop (imgMofs ws))
  { d := m.d, svn := m.svn, arb := m.arb, id := imgId ws 6, rod := imgRod ws }

/-- A FULL load ends (R352 step 3, R355, R356, R458). Log 117 (DEDUCED). -/
def Dev.fullDone (s : Dev) (ws : List Word) (rs : List ImgRec) (base : Nat) : Dev :=
  let s := s.fset Reg.STC_STAT Reg.STC_STAT_LOCKED_f true
  let s := s.startWork ((imgRods rs).flatMap fun r => (List.range 8).map (r * 8 + ·)) (List.range 64)
  let s := (List.range 15).foldl (fun s k => s.unretain k) s
  let s := (s.retain 0 true 0 base (imgLen ws)).onStc fun x => { x with order := [0], op := .none }
  let s := (s.rset Reg.STC_IMGID_LO (word (imgId ws 6))).rset Reg.STC_IMGID_HI (word (imgId ws 6 / 2 ^ 24))
  let s := (s.onSec fun x => { x with img := some (imgMeasure ws), slices := [] }).derive
  let s := s.onFab fun f => { f with pin := imgPin ws }
  let s := match imgPin ws with | some n => s.takeNumber (some n) | none => s
  let s := (List.range 8).foldl (fun s u => s.nfStart u) s
  ((s.stcState 4).raise 0x311 0).settleDomains.fencesGo

/-- A slice operation ends (R357 step 5). Log 117 (DEDUCED), 119 (DEDUCED). -/
def Dev.sliceDone (s : Dev) (ws : List Word) (new old base : Nat) : Dev :=
  let s := (s.onStc fun x => { x with openUnits := [], op := .none }).rodMove new old
  let s := s.startWork ((List.range 8).map (new * 8 + ·)) (s.sliceOwned new 0x2000 0x40)
  let gone := (List.range 15).filter fun k =>
    let w := (s.rget (Reg.STC_RET k)).toNat
    bits w 23 23 == 1 && bits w 22 22 == 0 && (bits w 21 18 == new || bits w 21 18 == old)
  let s := gone.foldl (fun s k => s.unretain k) s
  let k := ((List.range 15).find? fun k => !(s.fbit (Reg.STC_RET k) Reg.STC_RET_VALID_f)).getD 14
  let s := (s.retain k false new base (imgLen ws)).onStc fun x => { x with order := x.order ++ [k] }
  let s := s.onSec fun x => { x with slices := (x.slices.filter fun m => m.rod != new && m.rod != old) ++ [imgMeasure ws] }
  ((s.stcState 4).raise 0x312 (new * 16 + old)).settleDomains.fencesGo

/-- The record in which reading stopped after `n` words. -/
def cutAt (rs : List ImgRec) : Nat × Nat :=
  match rs.getLast? with
  | some r => (r.idx, r.body.length + 2)
  | none => (4095, 0)

/-- Whether an image names a strength, which waits for MEM_STAT.INITDONE (R352 step 2). Log 120 (DEDUCED). -/
def needsInit (rs : List ImgRec) : Bool := (imgRegions rs).any fun x => x.tcode != 7

/-- APPLY of a FULL image. -/
def Dev.applyFull (s : Dev) (base : Nat) : Dev :=
  match s.memReadN base 16 with
  | (_, false, s) => s.stcReject false (busBad 4095 0)
  | (h, true, s) =>
    let (ws, ok, s') := s.memReadN base (imgLen h)
    let rs := imgBody ws
    if needsInit rs && !s.rm.initDone then s
    else
      let s := rs.foldl (fun s r => s.applyRec true r) (s'.fullStart rs)
      if ok then s.fullDone ws rs base
      else s.stcReject false (busBad (cutAt rs).1 (cutAt rs).2)

/-- APPLY of a SLICE image: a bus error leaves the new slice stopped and open (R359). -/
def Dev.applySlice (s : Dev) (base : Nat) : Dev :=
  match s.memReadN base 16 with
  | (_, false, s) => s.stcReject true (busBad 4095 0)
  | (h, true, s) =>
    let (ws, ok, s) := s.memReadN base (imgLen h)
    let rs := imgBody ws
    let s := rs.foldl (fun s r => s.applyRec true r) (s.sliceStart rs (imgRod h) (imgRepl h))
    if ok then s.sliceDone ws (imgRod h) (imgRepl h) base
    else (s.stcReject true (busBad (cutAt rs).1 (cutAt rs).2)).onStc fun x => { x with openUnits := sliceKeys rs (imgRod h) }

/-! ### Re-application after a W reset (R356) -/

/-- One retained image is read again, checked against its digest and applied; the answer is the RESULT. Log 118 (DEDUCED). -/
def Dev.reapplyOne (s : Dev) (k : Nat) : Option Bad × Dev :=
  let base := s.getAddr (Reg.STC_RETBASE_LO k)
  let len := (s.rget (Reg.STC_RETLEN k)).toNat
  let (ws, ok, s) := s.memReadN base len
  if !ok then (some (busBad 4095 ws.length), s)
  else if (manifestOf (ws.drop (imgMofs ws))).d != imageDigest ws (imgMofs ws) then
    (some { result := 8, rule := 356, record := 4095, ofs := 0 }, s)
  else
    let rs := imgBody ws
    let s := if s.fbit (Reg.STC_RET k) Reg.STC_RET_FULL_f then s.fullStart rs
      else (((s.sliceStop (imgRepl ws)).sliceStop (imgRod ws)).sliceStart rs (imgRod ws) (imgRepl ws)).rodMove (imgRod ws)
        (imgRepl ws)
    (none, rs.foldl (fun s r => s.applyRec false r) s)

/-- The retained images are applied in the order of acceptance until one fails. Log 118 (DEDUCED). -/
def Dev.reapply (s : Dev) : List Nat → Option Bad × Dev
  | [] => (none, s)
  | k :: t =>
    match s.reapplyOne k with
    | (some b, s) => (some b, s)
    | (none, s) => s.reapply t

/-- The re-application ends (R355, R356, R531). Log 118 (DEDUCED). -/
def Dev.applyWarm (s : Dev) : Dev :=
  match s.reapply s.stc.order with
  | (some b, s) => (((s.stcState 5).stcResult b).warmFinish).fencesGo
  | (none, s) =>
    let s := (s.fset Reg.STC_STAT Reg.STC_STAT_LOCKED_f true).onStc fun x => { x with openUnits := [] }
    let s := s.startWork (List.range 112) (List.range 64)
    let s := (List.range 8).foldl (fun s u => s.nfStart u) s
    (((s.stcState 4).raise 0x311 0).warmFinish).fencesGo

/-- STC_APPLY_END. -/
def Dev.applyEnd (s : Dev) : Dev :=
  if s.stcIs 3 then
    match s.stc.op with
    | .full => if s.stc.wbusy then s else s.applyFull s.imgBase
    | .slice => if s.stc.wbusy then s else s.applySlice s.imgBase
    | .warm => s.applyWarm
    | .none => s
  else s

end Sys2Proof.Machine
end

