-- ==== Sys2Proof/Machine/RowOps.lean ====
section
/-! DEFINITION. Operations that only rows of the command table use: a guarded register write,
a write of any register, a counter's clear. -/

namespace Sys2Proof.Machine

/-- A write by a requester of a register that not every unit may write; a refused one is a bus error (R375, R527, R551).
Log 97 (DEDUCED). -/
def Dev.guarded (s : Dev) (r : Req) (o : Nat) (k : Dev → Dev) : Dev :=
  if s.mayWrite r o then k s else s.emit (.busError r (0x30000000 + o))

/-- ROD_RETAIN_ENTRY: the rod retains when core 0 has asked for it and the others and the CMX rest (R244). -/
def Dev.rodRetainEntry (s : Dev) (r : Nat) : Dev := if s.rodRests r then s.rodRetain r else s

/-- COUNTER_CLEAR: a write of a counter's low word clears it when bit 0 is 1 (R100). -/
def Dev.counterClear (s : Dev) (o : Nat) (w : Word) : Dev :=
  match regSpec o with
  | some r => if r.fields.any (fun f => f.acc == .cnt) && w.toNat % 2 == 1 then s.cntClear o else s
  | none => s

/-- REG_WRITE: a register write by a requester; a refused one is a bus error (R11, R13). -/
def Dev.regWriteRow (s : Dev) (r : Req) (o : Nat) (w : Word) (lanes : Nat) : Dev :=
  match s.regWrite r o w lanes with
  | (true, s) => s
  | (false, s) => s.emit (.busError r (0x30000000 + o))

/-- SEC_CMD OP FETCH with the image that flash holds (R513). -/
def Dev.secFetchRow (s : Dev) (w : Word) (flash : List (Nat × List Nat)) : Dev :=
  let s := s.fput Reg.SEC_CMD Reg.SEC_CMD_OP_f (getF w Reg.SEC_CMD_OP_f)
  if getF w Reg.SEC_CMD_GO_f = 1 ∧ getF w Reg.SEC_CMD_OP_f = 2 then s.secRequest (.fetch flash) else s

end Sys2Proof.Machine
end

