-- ==== Sys2Proof/Machine/State.lean ====
section
/-! DEFINITION. The machine's state: the device and the queue of the commands that wait. Nothing here is a function. -/

namespace Sys2Proof.Machine

/-- The state: commands first in, first out, and the device. -/
structure State where
  pending : List Instr
  dev : Dev
  deriving DecidableEq, Repr

/-- Why a run stops with a fault. No command of this device does: the spec gives every failing access a bus error, an error
response or an exception, which are next states. -/
inductive Fault where
  deriving DecidableEq, Repr

/-- Why a command is refused. -/
inductive Refusal where
  /-- A command without a meaning, by its mnemonic; raised by its arm of `exec`. Safe: the run stops. No arm raises it. -/
  | notModelled (mnemonic : String)
  deriving DecidableEq, Repr

/-- The machine right after reset: the device at core reset release of a power-on reset (R530 step 4), and no command.
Log 8 (DESIGN CHOICE). -/
def State.reset : State := { pending := [], dev := devBoot }

end Sys2Proof.Machine
end

