-- ==== Sys2Proof/Machine/Act.lean ====
section
/-! DEFINITION. How a meaning acts on the state. -/

namespace Sys2Proof.Machine

/-- The next state with the device changed and the queue kept. -/
def State.act (s : State) (f : Dev → Dev) : Host.Outcome State Fault Refusal := .next { s with dev := f s.dev }

end Sys2Proof.Machine
end

