-- ==== Sys2Proof/Machine/ExecBridge.lean ====
section
/-! DEFINITION. The meanings of the commands of the Ethernet bridge: one definition per row. -/

namespace Sys2Proof.Machine

/-- `PORT_LINK_CHANGE` (R387). -/
def execPortLinkChange (p : Fin 16) (up : Bool) (andone : Bool) (feclock : Bool) (peer : Nat)
    (s : State) : Host.Outcome State Fault Refusal :=
  s.act fun d => d.portLink p up andone feclock peer

/-- `FRAME_RECEIVED` (R389). -/
def execFrameReceived (p : Fin 16) (l : List Nat) (fcsOk : Bool) (back : Nat) (err : Int) (sc : Nat)
    (s : State) : Host.Outcome State Fault Refusal :=
  s.act fun d => d.frameReceived p l fcsOk back err sc

/-- `EGRESS_SELECT` (R392). -/
def execEgressSelect (p : Fin 16) (s : State) : Host.Outcome State Fault Refusal :=
  s.act fun d => d.egressSelect p

/-- `FRAME_TX_END` (R404). -/
def execFrameTxEnd (p : Fin 16) (err : Int) (s : State) : Host.Outcome State Fault Refusal :=
  s.act fun d => (d.frameTxEnd p err).measSettles

/-- `GATE_INTERVAL_END` (R393). -/
def execGateIntervalEnd (p : Fin 16) (s : State) : Host.Outcome State Fault Refusal :=
  s.act fun d => d.gateUpdate p

/-- `GCL_SUBMIT` (R394). -/
def execGclSubmit (p : Fin 16) (w : Word) (s : State) : Host.Outcome State Fault Refusal :=
  s.act fun d => d.gclWrite p w

/-- `GCL_CHANGE` (R394). -/
def execGclChange (p : Fin 16) (s : State) : Host.Outcome State Fault Refusal :=
  s.act fun d => d.gclChange p

/-- `SHAPER_REFILL` (R398). -/
def execShaperRefill (p : Fin 16) (s : State) : Host.Outcome State Fault Refusal :=
  s.act fun d => d.shaperRefill p

/-- `TXFRAME_BEAD` (R403). -/
def execTxframeBead (b : Bead) (s : State) : Host.Outcome State Fault Refusal :=
  s.act fun d => d.txFrameBead b

/-- `BEAD_TO_HOST` (R415). -/
def execBeadToHost (b : Bead) (s : State) : Host.Outcome State Fault Refusal :=
  s.act fun d => d.beadToHost b

/-- `BEAD_FRAME_HOLD_EXPIRE` (R415). -/
def execBeadFrameHoldExpire (h : Fin 16) (s : State) : Host.Outcome State Fault Refusal :=
  s.act fun d => d.beadHold h

/-- `FDB_READ` (R389). -/
def execFdbRead (w : Word) (s : State) : Host.Outcome State Fault Refusal :=
  s.act fun d => d.fdbWrite w

/-- `FDB_WRITE` (R389). -/
def execFdbWrite (w : Word) (s : State) : Host.Outcome State Fault Refusal :=
  s.act fun d => d.fdbWrite w

/-- `FDB_DELETE` (R389). -/
def execFdbDelete (w : Word) (s : State) : Host.Outcome State Fault Refusal :=
  s.act fun d => d.fdbWrite w

/-- `FDB_FLUSH` (R389). -/
def execFdbFlush (w : Word) (s : State) : Host.Outcome State Fault Refusal :=
  s.act fun d => d.fdbWrite w

/-- `FDB_AGE_OUT` (R389). -/
def execFdbAgeOut (vid : Nat) (mac : Nat) (s : State) : Host.Outcome State Fault Refusal :=
  s.act fun d => d.fdbAge vid mac

end Sys2Proof.Machine
end

