-- ==== Sys2Proof/Machine/ExecFabric.lean ====
section
/-! DEFINITION. The meanings of the commands of serial lanes, the pool fabric, the register and memory servers: one definition per row. -/

namespace Sys2Proof.Machine

/-- `LANE_RETRAIN` (R437). -/
def execLaneRetrain (l : Fin 64) (w : Word) (s : State) : Host.Outcome State Fault Refusal :=
  s.act fun d => d.lanLctlWrite l w

/-- `LANE_TRAIN_DONE` (R437). -/
def execLaneTrainDone (l : Fin 64) (s : State) : Host.Outcome State Fault Refusal :=
  s.act fun d => d.trainDone l

/-- `LANE_RST` (R441). -/
def execLaneRst (l : Fin 64) (w : Word) (s : State) : Host.Outcome State Fault Refusal :=
  s.act fun d => d.lanLctlWrite l w

/-- `LANE_ALIGN` (R432). -/
def execLaneAlign (l : Fin 64) (s : State) : Host.Outcome State Fault Refusal :=
  s.act fun d => d.laneAlign l

/-- `LANE_ALIGN_LOSS` (R432). -/
def execLaneAlignLoss (l : Fin 64) (s : State) : Host.Outcome State Fault Refusal :=
  s.act fun d => d.laneAlignLoss l

/-- `PORT_DESKEW` (R433). -/
def execPortDeskew (p : Fin 16) (arrivals : List Nat) (s : State) : Host.Outcome State Fault Refusal :=
  s.act fun d => d.portDeskew p arrivals

/-- `LANE_MARKER_RX` (R430). -/
def execLaneMarkerRx (l : Fin 64) (ui : Nat) (slot : List Bool) (s : State) : Host.Outcome State Fault Refusal :=
  s.act fun d => d.markerRx l ui slot

/-- `QUAD_REF_LOSS` (R425). -/
def execQuadRefLoss (q : Fin 16) (s : State) : Host.Outcome State Fault Refusal :=
  s.act fun d => d.refLost q

/-- `QUAD_REF_RETURN` (R425). -/
def execQuadRefReturn (q : Fin 16) (hz : Nat) (s : State) : Host.Outcome State Fault Refusal :=
  s.act fun d => d.refBack q hz

/-- `LANE_LOCK_LOSS` (R436). -/
def execLaneLockLoss (l : Fin 64) (s : State) : Host.Outcome State Fault Refusal :=
  s.act fun d => d.lockLoss l

/-- `LANE_SIGNAL_DETECT` (R435). -/
def execLaneSignalDetect (l : Fin 64) (s : State) : Host.Outcome State Fault Refusal :=
  s.act fun d => d.signalDetect l

/-- `LANE_EXIT_TIMEOUT` (R435). -/
def execLaneExitTimeout (l : Fin 64) (s : State) : Host.Outcome State Fault Refusal :=
  s.act fun d => d.exitTimeout l

/-- `EYE_GO` (R438). -/
def execEyeGo (q : Fin 16) (w : Word) (s : State) : Host.Outcome State Fault Refusal :=
  s.act fun d => d.eyeWrite q w

/-- `EYE_POINT_END` (R438). -/
def execEyePointEnd (q : Fin 16) (n : Nat) (e : Nat) (s : State) : Host.Outcome State Fault Refusal :=
  s.act fun d => d.eyeDone q n e

/-- `SPARE_GO` (R440). -/
def execSpareGo (q : Fin 16) (w : Word) (s : State) : Host.Outcome State Fault Refusal :=
  s.act fun d => d.spareWrite q w

/-- `SPARE_AUTO` (R440). -/
def execSpareAuto (l : Fin 64) (s : State) : Host.Outcome State Fault Refusal :=
  s.act fun d => d.spareAuto l

/-- `CELL_RX` (R453). -/
def execCellRx (l : Fin 64) (slot : List Bool) (ui : Nat) (s : State) : Host.Outcome State Fault Refusal :=
  s.act fun d => d.cellRx l slot ui

/-- `IDLE_CELL_TIMER` (R453). -/
def execIdleCellTimer (p : Fin 16) (s : State) : Host.Outcome State Fault Refusal :=
  s.act fun d => d.idleCell p

/-- `REPLAY_TIMEOUT` (R453). -/
def execReplayTimeout (p : Fin 16) (s : State) : Host.Outcome State Fault Refusal :=
  s.act fun d => d.replayTimeout p

/-- `PORT_DOWN_TIMEOUT` (R454). -/
def execPortDownTimeout (p : Fin 16) (s : State) : Host.Outcome State Fault Refusal :=
  s.act fun d => d.downTimeout p

/-- `HELLO_TIMER` (R455). -/
def execHelloTimer (p : Fin 16) (s : State) : Host.Outcome State Fault Refusal :=
  s.act fun d => d.helloTimer p

/-- `HELLO_RX` (R456). -/
def execHelloRx (p : Fin 16) (b : Bead) (s : State) : Host.Outcome State Fault Refusal :=
  s.act fun d => d.helloRx p b

/-- `LSA_TIMER` (R459). -/
def execLsaTimer (s : State) : Host.Outcome State Fault Refusal :=
  s.act fun d => d.lsaTimer

/-- `LSA_RX` (R459). -/
def execLsaRx (b : Bead) (s : State) : Host.Outcome State Fault Refusal :=
  s.act fun d => d.lsaRx b

/-- `NUMBER_TIMER` (R461). -/
def execNumberTimer (s : State) : Host.Outcome State Fault Refusal :=
  s.act fun d => d.numberTimer

/-- `NUMBER_RX` (R461). -/
def execNumberRx (b : Bead) (s : State) : Host.Outcome State Fault Refusal :=
  s.act fun d => d.numberRx b

/-- `ROUTE_WRITE` (R465). -/
def execRouteWrite (t : Fin 1024) (w : Word) (s : State) : Host.Outcome State Fault Refusal :=
  s.act fun d => d.routeWrite t w

/-- `ROUTE_SETTLE_END` (R465). -/
def execRouteSettleEnd (t : Fin 1024) (s : State) : Host.Outcome State Fault Refusal :=
  s.act fun d => d.settleDone t

/-- `BEAD_ROUTE` (R463). -/
def execBeadRoute (b : Bead) (s : State) : Host.Outcome State Fault Refusal :=
  s.act fun d => d.beadRoute b

/-- `REGRD` (R467). -/
def execRegrd (b : Bead) (s : State) : Host.Outcome State Fault Refusal :=
  s.act fun d => d.regrd b

/-- `REGWR` (R467). -/
def execRegwr (b : Bead) (s : State) : Host.Outcome State Fault Refusal :=
  s.act fun d => d.regwr b

/-- `MEMRD` (R468). -/
def execMemrd (b : Bead) (s : State) : Host.Outcome State Fault Refusal :=
  s.act fun d => d.memrd b

/-- `MEMWR` (R468). -/
def execMemwr (b : Bead) (s : State) : Host.Outcome State Fault Refusal :=
  s.act fun d => d.memwr b

/-- `BCAST_RX` (R469). -/
def execBcastRx (p : Fin 16) (b : Bead) (s : State) : Host.Outcome State Fault Refusal :=
  s.act fun d => d.bcastRx p b

/-- `TSYNC_TIMER` (R470). -/
def execTsyncTimer (p : Fin 16) (s : State) : Host.Outcome State Fault Refusal :=
  s.act fun d => d.tsyncTimer p

/-- `TSYNC_RX` (R471). -/
def execTsyncRx (p : Fin 16) (b : Bead) (s : State) : Host.Outcome State Fault Refusal :=
  s.act fun d => d.tsyncRx p b

/-- `POOLCMD_TALLY` (R473). -/
def execPoolcmdTally (b : Bead) (s : State) : Host.Outcome State Fault Refusal :=
  s.act fun d => d.poolTally b

/-- `POOLCMD_COLD_RESET` (R473). -/
def execPoolcmdColdReset (b : Bead) (s : State) : Host.Outcome State Fault Refusal :=
  s.act fun d => d.poolCold b

end Sys2Proof.Machine
end

