-- ==== Sys2Proof/Machine/ExecMem.lean ====
section
/-! DEFINITION. The meanings of the commands of reckoning memory, DMA, queues, the structure loader: one definition per row. -/

namespace Sys2Proof.Machine

/-- `MEM_REQUEST` (R275). -/
def execMemRequest (a : MemAccess) (s : State) : Host.Outcome State Fault Refusal :=
  s.act fun d => d.memRequest a

/-- `PAGE_DECODE_END` (R274). -/
def execPageDecodeEnd (b : Fin 32) (s : State) : Host.Outcome State Fault Refusal :=
  s.act fun d => d.pageDecodeEnd b

/-- `SCRUB_STEP` (R288). -/
def execScrubStep (s : State) : Host.Outcome State Fault Refusal :=
  s.act fun d => d.scrubStep

/-- `SCRUB_CTL_WRITE` (R287). -/
def execScrubCtlWrite (w : Word) (s : State) : Host.Outcome State Fault Refusal :=
  s.act fun d => d.scrubCtlWrite w

/-- `REENCODE_CMD` (R290). -/
def execReencodeCmd (w : Word) (s : State) : Host.Outcome State Fault Refusal :=
  s.act fun d => d.recmdWrite w

/-- `REENCODE_PAGE` (R290). -/
def execReencodePage (s : State) : Host.Outcome State Fault Refusal :=
  s.act fun d => d.reencodePage

/-- `REMAP_CMD` (R292). -/
def execRemapCmd (w : Word) (s : State) : Host.Outcome State Fault Refusal :=
  s.act fun d => d.remapWrite w

/-- `FLIP_ARM` (R294). -/
def execFlipArm (w : Word) (s : State) : Host.Outcome State Fault Refusal :=
  s.act fun d => d.flipMaskWrite w

/-- `FLUSH_CMD` (R295). -/
def execFlushCmd (w : Word) (s : State) : Host.Outcome State Fault Refusal :=
  s.act fun d => d.flushWrite w

/-- `FLUSH_DONE` (R295). -/
def execFlushDone (s : State) : Host.Outcome State Fault Refusal :=
  s.act fun d => d.flushDone

/-- `MEM_INIT_DONE` (R296). -/
def execMemInitDone (s : State) : Host.Outcome State Fault Refusal :=
  s.act fun d => d.memInitDone

/-- `DMA_START` (R308). -/
def execDmaStart (r : Req) (e : Fin 2) (c : Fin 64) (w : Word) (s : State) : Host.Outcome State Fault Refusal :=
  s.act fun d => d.dmaCtlWrite r e c w

/-- `DMA_START_LOAD` (R314). -/
def execDmaStartLoad (r : Req) (e : Fin 2) (c : Fin 64) (w : Word) (s : State) : Host.Outcome State Fault Refusal :=
  s.act fun d => d.dmaCtlWrite r e c w

/-- `DMA_STOP` (R313). -/
def execDmaStop (r : Req) (e : Fin 2) (c : Fin 64) (w : Word) (s : State) : Host.Outcome State Fault Refusal :=
  s.act fun d => d.dmaCtlWrite r e c w

/-- `DMA_DESC_LOADED` (R314). -/
def execDmaDescLoaded (e : Fin 2) (c : Fin 64) (s : State) : Host.Outcome State Fault Refusal :=
  s.act fun d => d.dmaDescLoaded e c

/-- `DMA_BEAT_ISSUE` (R321). -/
def execDmaBeatIssue (e : Fin 2) (write : Bool) (s : State) : Host.Outcome State Fault Refusal :=
  s.act fun d => d.dmaBeatIssue e write

/-- `DMA_READ_RESPONSE` (R312). -/
def execDmaReadResponse (e : Fin 2) (c : Fin 64) (j : Nat) (remote : Option Bead)
    (s : State) : Host.Outcome State Fault Refusal :=
  s.act fun d => d.dmaReadResponse e c j remote

/-- `DMA_WRITE_RESPONSE` (R309). -/
def execDmaWriteResponse (e : Fin 2) (c : Fin 64) (j : Nat) (remote : Option Bead)
    (s : State) : Host.Outcome State Fault Refusal :=
  s.act fun d => d.dmaWriteResponse e c j remote

/-- `DMA_REMOTE_TIMEOUT` (R317). -/
def execDmaRemoteTimeout (e : Fin 2) (c : Fin 64) (tag : Nat) (s : State) : Host.Outcome State Fault Refusal :=
  s.act fun d => d.dmaRemoteTimeout e c tag

/-- `QUEUE_BEAD_RX` (R330). -/
def execQueueBeadRx (b : Bead) (s : State) : Host.Outcome State Fault Refusal :=
  s.act fun d => d.queueBeadRx b

/-- `QUE_RESET` (R336). -/
def execQueReset (n : Fin 1024) (s : State) : Host.Outcome State Fault Refusal :=
  s.act fun d => d.queReset n

/-- `STC_FULL_LOAD` (R352). -/
def execStcFullLoad (w : Word) (s : State) : Host.Outcome State Fault Refusal :=
  s.act fun d => d.stcCmdWrite w

/-- `STC_SLICE_LOAD` (R357). -/
def execStcSliceLoad (w : Word) (s : State) : Host.Outcome State Fault Refusal :=
  s.act fun d => d.stcCmdWrite w

/-- `STC_VERIFY_END` (R353). -/
def execStcVerifyEnd (s : State) : Host.Outcome State Fault Refusal :=
  s.act fun d => d.verifyEnd

/-- `STC_APPLY_END` (R352). -/
def execStcApplyEnd (s : State) : Host.Outcome State Fault Refusal :=
  s.act fun d => d.applyEnd

/-- `STC_DRAINACK` (R357). -/
def execStcDrainack (r : Req) (w : Word) (s : State) : Host.Outcome State Fault Refusal :=
  s.act fun d => d.drainackWrite r w

/-- `STC_DRAIN_TIMEOUT` (R358). -/
def execStcDrainTimeout (s : State) : Host.Outcome State Fault Refusal :=
  s.act fun d => d.drainTimeout

/-- `STC_FENCE` (R551). -/
def execStcFence (r : Req) (w : Word) (s : State) : Host.Outcome State Fault Refusal :=
  s.act fun d => d.guarded r Reg.STC_FENCE fun d => d.fenceWrite w

end Sys2Proof.Machine
end

