-- ==== Sys2Proof/Machine/ExecPower.lean ====
section
/-! DEFINITION. The meanings of the commands of power, modes, supplies: one definition per row. -/

namespace Sys2Proof.Machine

/-- `MODE_ENTRY` (R484). -/
def execModeEntry (s : State) : Host.Outcome State Fault Refusal :=
  s.act fun d => d.modeEntry

/-- `MODE_COMMIT` (R484). -/
def execModeCommit (grp : Bool) (s : State) : Host.Outcome State Fault Refusal :=
  s.act fun d => d.modeCommit grp

/-- `PWR_ENTRY_TIMEOUT` (R484). -/
def execPwrEntryTimeout (grp : Bool) (s : State) : Host.Outcome State Fault Refusal :=
  s.act fun d => d.entryTimeout grp

/-- `PWR_GRPCMD` (R481). -/
def execPwrGrpcmd (w : Word) (s : State) : Host.Outcome State Fault Refusal :=
  s.act fun d => d.grpCmdWrite w

/-- `PAD_RELEASE` (R485). -/
def execPadRelease (w : Word) (s : State) : Host.Outcome State Fault Refusal :=
  s.act fun d => d.padRelease w

/-- `WAKE_N_REQUEST` (R486). -/
def execWakeNRequest (s : State) : Host.Outcome State Fault Refusal :=
  s.act fun d => d.wakeNLow

/-- `WAKE_RETRY_TIMER` (R488). -/
def execWakeRetryTimer (s : State) : Host.Outcome State Fault Refusal :=
  s.act fun d => d.wakeRetry

/-- `WAKE_PG_RISE` (R487). -/
def execWakePgRise (back : Bool) (s : State) : Host.Outcome State Fault Refusal :=
  s.act fun d => d.pgRise back

/-- `WAKE_REG_TIMEOUT` (R487). -/
def execWakeRegTimeout (s : State) : Host.Outcome State Fault Refusal :=
  s.act fun d => d.regTimeout

/-- `WAKE_SETTLE_END` (R487). -/
def execWakeSettleEnd (s : State) : Host.Outcome State Fault Refusal :=
  s.act fun d => d.settleEnd

/-- `WAKE_OSC_TIMEOUT` (R489). -/
def execWakeOscTimeout (s : State) : Host.Outcome State Fault Refusal :=
  s.act fun d => d.oscTimeout

/-- `WAKE_DOMAINS_UP` (R487). -/
def execWakeDomainsUp (bootsel : Fin 4) (s : State) : Host.Outcome State Fault Refusal :=
  s.act fun d => d.domainsUp bootsel

/-- `RAIL_LOW` (R491). -/
def execRailLow (back : Bool) (pg : Bool) (s : State) : Host.Outcome State Fault Refusal :=
  s.act fun d => d.railLow back pg

/-- `SUP_SWBACK` (R492). -/
def execSupSwback (w : Word) (s : State) : Host.Outcome State Fault Refusal :=
  s.act fun d => d.supCtlWrite w

/-- `SUP_SWTEST` (R492). -/
def execSupSwtest (w : Word) (s : State) : Host.Outcome State Fault Refusal :=
  s.act fun d => d.supCtlWrite w

/-- `SUP_ENABLE_WRITE` (R497). -/
def execSupEnableWrite (w : Word) (s : State) : Host.Outcome State Fault Refusal :=
  s.act fun d => d.supCtlWrite w

/-- `BROWNOUT` (R493). -/
def execBrownout (s : State) : Host.Outcome State Fault Refusal :=
  s.act fun d => d.brownout

/-- `AVS_READBACK_TIMER` (R494). -/
def execAvsReadbackTimer (mvMain : Nat) (mvBack : Nat) (faultMain : Bool) (faultBack : Bool)
    (s : State) : Host.Outcome State Fault Refusal :=
  s.act fun d => d.avsReadback mvMain mvBack faultMain faultBack

/-- `AVS_ALERT` (R494). -/
def execAvsAlert (back : Bool) (s : State) : Host.Outcome State Fault Refusal :=
  s.act fun d => d.avsAlert back

end Sys2Proof.Machine
end

