-- ==== Sys2Proof/Machine/ExecRadio.lean ====
section
/-! DEFINITION. The meanings of the commands of the digital front end, burst reception, acknowledgments, joint reception, host items: one definition per row. -/

namespace Sys2Proof.Machine

/-- `JESD_LINK_ERROR` (R110). -/
def execJesdLinkError (k : Fin 4) (mb : Option (List (List Nat × Nat))) (a : Nat) (b : Nat)
    (s : State) : Host.Outcome State Fault Refusal :=
  s.act fun d => d.jesdError k mb a b

/-- `SUBFRAME_GAIN_STEP` (R120). -/
def execSubframeGainStep (u : Fin 8) (t : Fin 256) (n : Nat) (n0 : Nat) (xs : List (Int × Int))
    (s : State) : Host.Outcome State Fault Refusal :=
  s.act fun d => d.gainStep u t n n0 xs

/-- `TX_SEGMENT_READ` (R124). -/
def execTxSegmentRead (u : Fin 8) (t : Fin 128) (n : Nat) (s : State) : Host.Outcome State Fault Refusal :=
  s.act fun d => d.txSegment u t n

/-- `ECPRI_MESSAGE_RX` (R112). -/
def execEcpriMessageRx (f : FhFrame) (s : State) : Host.Outcome State Fault Refusal :=
  s.act fun d => d.ecpriRx f

/-- `FH_ZERO_FILL` (R113). -/
def execFhZeroFill (u : Fin 8) (t : Fin 256) (k : Nat) (n : Nat) (s : State) : Host.Outcome State Fault Refusal :=
  s.act fun d => d.fhZero u t k n

/-- `ORAN_UPLANE_RX` (R118). -/
def execOranUplaneRx (f : FhFrame) (ext : Bool) (s : State) : Host.Outcome State Fault Refusal :=
  s.act fun d => d.oranRx f ext

/-- `ORAN_SECTION3_RX` (R119). -/
def execOranSection3Rx (f : FhFrame) (ext : Bool) (s : State) : Host.Outcome State Fault Refusal :=
  s.act fun d => d.oran3Rx f ext

/-- `FH_TX_MESSAGE` (R112). -/
def execFhTxMessage (u : Fin 8) (t : Fin 128) (n : Nat) (k : Nat) (s : State) : Host.Outcome State Fault Refusal :=
  s.act fun d => d.fhTx u t n k

/-- `ECPRI_DELAY_REQUEST` (R114). -/
def execEcpriDelayRequest (f : FhFrame) (s : State) : Host.Outcome State Fault Refusal :=
  s.act fun d => d.delayRequest f

/-- `DELAY_MEASURE_REQUEST` (R115). -/
def execDelayMeasureRequest (b : Bead) (s : State) : Host.Outcome State Fault Refusal :=
  s.act fun d => d.measStart b

/-- `DELAY_MEASURE_ANSWER` (R115). -/
def execDelayMeasureAnswer (f : FhFrame) (s : State) : Host.Outcome State Fault Refusal :=
  s.act fun d => d.measAnswer f

/-- `DELAY_MEASURE_TIMEOUT` (R115). -/
def execDelayMeasureTimeout (tag : Nat) (s : State) : Host.Outcome State Fault Refusal :=
  s.act fun d => d.measTimeout tag

/-- `NF_BLOCK_END` (R122). -/
def execNfBlockEnd (u : Fin 8) (t : Fin 256) (n : Nat) (n0 : Nat) (xs : List (Int × Int))
    (s : State) : Host.Outcome State Fault Refusal :=
  s.act fun d => d.nfBlock u t n n0 xs

/-- `NF_STALE_TIMEOUT` (R122). -/
def execNfStaleTimeout (u : Fin 8) (t : Fin 256) (s : State) : Host.Outcome State Fault Refusal :=
  s.act fun d => d.nfStale u t

/-- `CROSSING` (R142). -/
def execCrossing (det : Fin 16) (slot : Fin 16) (tau : Nat) (fi : Int) (k0 : Nat) (rx : List (List (Int × Int)))
    (s : State) : Host.Outcome State Fault Refusal :=
  s.act fun d => d.crossing det slot tau fi k0 rx

/-- `SYNC_CHECK` (R145). -/
def execSyncCheck (x : Fin 2048) (k0 : Nat) (rx : List (List (Int × Int))) (s : State) : Host.Outcome State Fault Refusal :=
  s.act fun d => d.syncCheck x k0 rx

/-- `HEADER_DECODE` (R146). -/
def execHeaderDecode (x : Fin 2048) (s : State) : Host.Outcome State Fault Refusal :=
  s.act fun d => d.headerDecode x

/-- `PILOT_UPDATE` (R147). -/
def execPilotUpdate (x : Fin 2048) (k0 : Nat) (rx : List (List (Int × Int))) (s : State) : Host.Outcome State Fault Refusal :=
  s.act fun d => d.pilotUpdate x k0 rx

/-- `CLOSING_PILOT` (R150). -/
def execClosingPilot (x : Fin 2048) (s : State) : Host.Outcome State Fault Refusal :=
  s.act fun d => d.closingPilot x

/-- `INSTANCE_DECODE_RESULT` (R154). -/
def execInstanceDecodeResult (x : Fin 2048) (b : Bead) (s : State) : Host.Outcome State Fault Refusal :=
  s.act fun d => d.decodeResult x b

/-- `PARTNER_ENDED` (R157). -/
def execPartnerEnded (x : Fin 2048) (s : State) : Host.Outcome State Fault Refusal :=
  s.act fun d => d.partnerEnded x

/-- `SICHOLD_EXPIRE` (R154). -/
def execSicholdExpire (x : Fin 2048) (s : State) : Host.Outcome State Fault Refusal :=
  s.act fun d => d.sicHold x

/-- `ACK_REQUEST_BEAD` (R65). -/
def execAckRequestBead (b : Bead) (rseq : Nat) (dev : Nat) (rate : Nat) (rep : Nat) (more : Nat) (bytes : List Nat)
    (s : State) : Host.Outcome State Fault Refusal :=
  s.act fun d => d.ackRequest b rseq dev rate rep more bytes

/-- `ACK_CUTOFF` (R65). -/
def execAckCutoff (rseq : Nat) (s : State) : Host.Outcome State Fault Refusal :=
  s.act fun d => d.ackCutoff rseq

/-- `ACK_LAUNCH` (R63). -/
def execAckLaunch (rseq : Nat) (s : State) : Host.Outcome State Fault Refusal :=
  s.act fun d => d.ackLaunch rseq

/-- `JNOTICE_RX` (R161). -/
def execJnoticeRx (b : Bead) (s : State) : Host.Outcome State Fault Refusal :=
  s.act fun d => d.jnoticeRx b

/-- `JOINT_ELECTION` (R161). -/
def execJointElection (x : Fin 2048) (s : State) : Host.Outcome State Fault Refusal :=
  s.act fun d => d.jointElect x

/-- `JSAMPLE_RX` (R162). -/
def execJsampleRx (b : Bead) (s : State) : Host.Outcome State Fault Refusal :=
  s.act fun d => d.jsampleRx b

/-- `JACCEPT_RX` (R162). -/
def execJacceptRx (b : Bead) (s : State) : Host.Outcome State Fault Refusal :=
  s.act fun d => d.jacceptRx b

/-- `JOINT_WAIT_EXPIRE` (R163). -/
def execJointWaitExpire (x : Fin 2048) (s : State) : Host.Outcome State Fault Refusal :=
  s.act fun d => d.jointExpire x

/-- `CARRIER_SEARCH_DISABLE` (R159). -/
def execCarrierSearchDisable (det : Fin 16) (slot : Fin 16) (s : State) : Host.Outcome State Fault Refusal :=
  s.act fun d => d.carrierDisable det slot

/-- `HOST_ITEM_BEAD` (R43). -/
def execHostItemBead (b : Bead) (h : HostItem) (s : State) : Host.Outcome State Fault Refusal :=
  s.act fun d => d.hostItem b h

/-- `CARRIER_STATUS_BEAD` (R37). -/
def execCarrierStatusBead (carrier : Nat) (n : Nat) (s : State) : Host.Outcome State Fault Refusal :=
  s.act fun d => d.carrierStatus carrier n

end Sys2Proof.Machine
end

