-- ==== Sys2Proof/Machine/ExecRck.lean ====
section
/-! DEFINITION. The meanings of the commands of Reckoner and Abacist instructions and the events of cores and coprocessors: one definition per row. -/

namespace Sys2Proof.Machine

/-- `ALU` (R219). -/
def execAlu (c : Fin 113) (w : Word) (s : State) : Host.Outcome State Fault Refusal :=
  s.act fun d => d.rckRow c w 0 (ib w 23 18 == 0) fun d => d.rckAlu c w

/-- `ALUX` (R219). -/
def execAlux (c : Fin 113) (w : Word) (s : State) : Host.Outcome State Fault Refusal :=
  s.act fun d => d.rckRow c w 0 (ib w 23 18 == 1) fun d => d.rckAlux c w

/-- `ADDI` (R219). -/
def execAddi (c : Fin 113) (w : Word) (s : State) : Host.Outcome State Fault Refusal :=
  s.act fun d => d.rckRow c w 0 (ib w 23 18 == 2) fun d => d.rckAddi c w

/-- `ANDI` (R219). -/
def execAndi (c : Fin 113) (w : Word) (s : State) : Host.Outcome State Fault Refusal :=
  s.act fun d => d.rckRow c w 0 (ib w 23 18 == 3) fun d => d.rckAndi c w

/-- `SHI` (R219). -/
def execShi (c : Fin 113) (w : Word) (s : State) : Host.Outcome State Fault Refusal :=
  s.act fun d => d.rckRow c w 0 (ib w 23 18 == 4) fun d => d.rckShi c w

/-- `MOVI` (R219). -/
def execMovi (c : Fin 113) (w : Word) (s : State) : Host.Outcome State Fault Refusal :=
  s.act fun d => d.rckRow c w 0 (ib w 23 18 == 5) fun d => d.rckMovi c w

/-- `LDW` (R228). -/
def execLdw (c : Fin 113) (w : Word) (s : State) : Host.Outcome State Fault Refusal :=
  s.act fun d => d.rckRow c w 0 (ib w 23 18 == 6) fun d => d.rckLdw c w

/-- `STW` (R230). -/
def execStw (c : Fin 113) (w : Word) (s : State) : Host.Outcome State Fault Refusal :=
  s.act fun d => d.rckRow c w 0 (ib w 23 18 == 7) fun d => d.rckStw c w

/-- `PALU` (R219). -/
def execPalu (c : Fin 113) (w : Word) (s : State) : Host.Outcome State Fault Refusal :=
  s.act fun d => d.rckRow c w 0 (ib w 23 18 == 8) fun d => d.rckPalu c w

/-- `PADDI` (R219). -/
def execPaddi (c : Fin 113) (w : Word) (s : State) : Host.Outcome State Fault Refusal :=
  s.act fun d => d.rckRow c w 0 (ib w 23 18 == 9) fun d => d.rckPaddi c w

/-- `BR` (R219). -/
def execBr (c : Fin 113) (w : Word) (s : State) : Host.Outcome State Fault Refusal :=
  s.act fun d => d.rckRow c w 0 (ib w 23 18 == 10) fun d => d.rckBr c w

/-- `J` (R222). -/
def execJ (c : Fin 113) (w : Word) (s : State) : Host.Outcome State Fault Refusal :=
  s.act fun d => d.rckRow c w 0 (ib w 23 18 == 11) fun d => d.rckJ c w

/-- `JR` (R219). -/
def execJr (c : Fin 113) (w : Word) (s : State) : Host.Outcome State Fault Refusal :=
  s.act fun d => d.rckRow c w 0 (ib w 23 18 == 12 && iF w == 0) fun d => d.rckJr c w

/-- `JALR` (R219). -/
def execJalr (c : Fin 113) (w : Word) (s : State) : Host.Outcome State Fault Refusal :=
  s.act fun d => d.rckRow c w 0 (ib w 23 18 == 12 && iF w == 1) fun d => d.rckJalr c w

/-- `CSRR` (R247). -/
def execCsrr (c : Fin 113) (w : Word) (s : State) : Host.Outcome State Fault Refusal :=
  s.act fun d => d.rckRow c w 0 (ib w 23 18 == 13 && iF w == 0) fun d => d.rckCsrr c w

/-- `CSRW` (R247). -/
def execCsrw (c : Fin 113) (w : Word) (s : State) : Host.Outcome State Fault Refusal :=
  s.act fun d => d.rckRow c w 0 (ib w 23 18 == 13 && iF w == 1) fun d => d.rckCsrw c w

/-- `CSRS` (R247). -/
def execCsrs (c : Fin 113) (w : Word) (s : State) : Host.Outcome State Fault Refusal :=
  s.act fun d => d.rckRow c w 0 (ib w 23 18 == 13 && iF w == 2) fun d => d.rckCsrs c w

/-- `CSRC` (R247). -/
def execCsrc (c : Fin 113) (w : Word) (s : State) : Host.Outcome State Fault Refusal :=
  s.act fun d => d.rckRow c w 0 (ib w 23 18 == 13 && iF w == 3) fun d => d.rckCsrc c w

/-- `ECALL` (R240). -/
def execEcall (c : Fin 113) (w : Word) (s : State) : Host.Outcome State Fault Refusal :=
  s.act fun d => d.rckRow c w 0 (ib w 23 18 == 13 && iF w == 4) fun d => d.rckEcall c w

/-- `ERET` (R240). -/
def execEret (c : Fin 113) (w : Word) (s : State) : Host.Outcome State Fault Refusal :=
  s.act fun d => d.rckRow c w 0 (ib w 23 18 == 13 && iF w == 5) fun d => d.rckEret c w

/-- `WAITM` (R242). -/
def execWaitm (c : Fin 113) (w : Word) (s : State) : Host.Outcome State Fault Refusal :=
  s.act fun d => d.rckRow c w 0 (ib w 23 18 == 13 && iF w == 6) fun d => d.rckWaitm c w

/-- `FENCE_W` (R230). -/
def execFenceW (c : Fin 113) (w : Word) (s : State) : Host.Outcome State Fault Refusal :=
  s.act fun d => d.rckRow c w 0 (ib w 23 18 == 14 && iF w == 0) fun d => d.rckFence c w

/-- `FENCE_RW` (R230). -/
def execFenceRw (c : Fin 113) (w : Word) (s : State) : Host.Outcome State Fault Refusal :=
  s.act fun d => d.rckRow c w 0 (ib w 23 18 == 14 && iF w == 1) fun d => d.rckFence c w

/-- `FENCE_I` (R230). -/
def execFenceI (c : Fin 113) (w : Word) (s : State) : Host.Outcome State Fault Refusal :=
  s.act fun d => d.rckRow c w 0 (ib w 23 18 == 14 && iF w == 2) fun d => d.rckFenceI c w

/-- `KOP` (R219). -/
def execKop (c : Fin 113) (w : Word) (s : State) : Host.Outcome State Fault Refusal :=
  s.act fun d => d.rckRow c w 0 (ib w 23 18 == 15) fun d => d.rckKop c w

/-- `VADD` (R212). -/
def execVadd (c : Fin 113) (w : Word) (s : State) : Host.Outcome State Fault Refusal :=
  s.act fun d => d.rckRow c w 0 (ib w 23 18 == 16) fun d => d.rckVadd c w

/-- `VSUB` (R212). -/
def execVsub (c : Fin 113) (w : Word) (s : State) : Host.Outcome State Fault Refusal :=
  s.act fun d => d.rckRow c w 0 (ib w 23 18 == 17) fun d => d.rckVsub c w

/-- `VMUL` (R212). -/
def execVmul (c : Fin 113) (w : Word) (s : State) : Host.Outcome State Fault Refusal :=
  s.act fun d => d.rckRow c w 0 (ib w 23 18 == 18) fun d => d.rckVmul c w

/-- `VMULJ` (R212). -/
def execVmulj (c : Fin 113) (w : Word) (s : State) : Host.Outcome State Fault Refusal :=
  s.act fun d => d.rckRow c w 0 (ib w 23 18 == 19) fun d => d.rckVmulj c w

/-- `VMAC` (R213). -/
def execVmac (c : Fin 113) (w : Word) (s : State) : Host.Outcome State Fault Refusal :=
  s.act fun d => d.rckRow c w 0 (ib w 23 18 == 20) fun d => d.rckVmac c w

/-- `VMACJ` (R213). -/
def execVmacj (c : Fin 113) (w : Word) (s : State) : Host.Outcome State Fault Refusal :=
  s.act fun d => d.rckRow c w 0 (ib w 23 18 == 21) fun d => d.rckVmacj c w

/-- `VPOW` (R212). -/
def execVpow (c : Fin 113) (w : Word) (s : State) : Host.Outcome State Fault Refusal :=
  s.act fun d => d.rckRow c w 0 (ib w 23 18 == 22) fun d => d.rckVpow c w

/-- `VSEL` (R219). -/
def execVsel (c : Fin 113) (w : Word) (s : State) : Host.Outcome State Fault Refusal :=
  s.act fun d => d.rckRow c w 0 (ib w 23 18 == 23) fun d => d.rckVsel c w

/-- `VLD` (R223). -/
def execVld (c : Fin 113) (w : Word) (s : State) : Host.Outcome State Fault Refusal :=
  s.act fun d => d.rckRow c w 0 (ib w 23 18 == 24) fun d => d.rckVld c w

/-- `VST` (R223). -/
def execVst (c : Fin 113) (w : Word) (s : State) : Host.Outcome State Fault Refusal :=
  s.act fun d => d.rckRow c w 0 (ib w 23 18 == 25) fun d => d.rckVst c w

/-- `VSHI` (R219). -/
def execVshi (c : Fin 113) (w : Word) (s : State) : Host.Outcome State Fault Refusal :=
  s.act fun d => d.rckRow c w 0 (ib w 23 18 == 26) fun d => d.rckVshi c w

/-- `VEXT` (R214). -/
def execVext (c : Fin 113) (w : Word) (s : State) : Host.Outcome State Fault Refusal :=
  s.act fun d => d.rckRow c w 0 (ib w 23 18 == 27) fun d => d.rckVext c w

/-- `VCMP` (R219). -/
def execVcmp (c : Fin 113) (w : Word) (s : State) : Host.Outcome State Fault Refusal :=
  s.act fun d => d.rckRow c w 0 (ib w 23 18 == 28) fun d => d.rckVcmp c w

/-- `VBC` (R219). -/
def execVbc (c : Fin 113) (w : Word) (s : State) : Host.Outcome State Fault Refusal :=
  s.act fun d => d.rckRow c w 0 (ib w 23 18 == 29) fun d => d.rckVbc c w

/-- `LI` (R220). -/
def execLi (c : Fin 113) (w : Word) (e : Word) (s : State) : Host.Outcome State Fault Refusal :=
  s.act fun d => d.rckRow c w e (ib w 23 18 == 32) fun d => d.rckLi c w e

/-- `LIP` (R220). -/
def execLip (c : Fin 113) (w : Word) (e : Word) (s : State) : Host.Outcome State Fault Refusal :=
  s.act fun d => d.rckRow c w e (ib w 23 18 == 33) fun d => d.rckLip c w e

/-- `BCC` (R220). -/
def execBcc (c : Fin 113) (w : Word) (e : Word) (s : State) : Host.Outcome State Fault Refusal :=
  s.act fun d => d.rckRow c w e (ib w 23 18 == 34) fun d => d.rckBcc c w e

/-- `JMP` (R220). -/
def execJmp (c : Fin 113) (w : Word) (e : Word) (s : State) : Host.Outcome State Fault Refusal :=
  s.act fun d => d.rckRow c w e (ib w 23 18 == 35) fun d => d.rckJmp c w e

/-- `LDB` (R220). -/
def execLdb (c : Fin 113) (w : Word) (e : Word) (s : State) : Host.Outcome State Fault Refusal :=
  s.act fun d => d.rckRow c w e (ib w 23 18 == 36 && ib w 8 8 == 0) fun d => d.rckLdb c w e

/-- `STB` (R220). -/
def execStb (c : Fin 113) (w : Word) (e : Word) (s : State) : Host.Outcome State Fault Refusal :=
  s.act fun d => d.rckRow c w e (ib w 23 18 == 36 && ib w 8 8 == 1) fun d => d.rckStb c w e

/-- `VLDS` (R223). -/
def execVlds (c : Fin 113) (w : Word) (e : Word) (s : State) : Host.Outcome State Fault Refusal :=
  s.act fun d => d.rckRow c w e (ib w 23 18 == 37) fun d => d.rckVlds c w e

/-- `VSTS` (R223). -/
def execVsts (c : Fin 113) (w : Word) (e : Word) (s : State) : Host.Outcome State Fault Refusal :=
  s.act fun d => d.rckRow c w e (ib w 23 18 == 38) fun d => d.rckVsts c w e

/-- `VGATH` (R223). -/
def execVgath (c : Fin 113) (w : Word) (e : Word) (s : State) : Host.Outcome State Fault Refusal :=
  s.act fun d => d.rckRow c w e (ib w 23 18 == 39) fun d => d.rckVgath c w e

/-- `VSCAT` (R223). -/
def execVscat (c : Fin 113) (w : Word) (e : Word) (s : State) : Host.Outcome State Fault Refusal :=
  s.act fun d => d.rckRow c w e (ib w 23 18 == 40) fun d => d.rckVscat c w e

/-- `VLOG` (R220). -/
def execVlog (c : Fin 113) (w : Word) (e : Word) (s : State) : Host.Outcome State Fault Refusal :=
  s.act fun d => d.rckRow c w e (ib w 23 18 == 41) fun d => d.rckVlog c w e

/-- `VARX` (R220). -/
def execVarx (c : Fin 113) (w : Word) (e : Word) (s : State) : Host.Outcome State Fault Refusal :=
  s.act fun d => d.rckRow c w e (ib w 23 18 == 42) fun d => d.rckVarx c w e

/-- `VCVT` (R221). -/
def execVcvt (c : Fin 113) (w : Word) (e : Word) (s : State) : Host.Outcome State Fault Refusal :=
  s.act fun d => d.rckRow c w e (ib w 23 18 == 43) fun d => d.rckVcvt c w e

/-- `VEXP` (R215). -/
def execVexp (c : Fin 113) (w : Word) (e : Word) (s : State) : Host.Outcome State Fault Refusal :=
  s.act fun d => d.rckRow c w e (ib w 23 18 == 44 && ib e 1 0 == 0) fun d => d.rckVexp c w e

/-- `VSHLV` (R220). -/
def execVshlv (c : Fin 113) (w : Word) (e : Word) (s : State) : Host.Outcome State Fault Refusal :=
  s.act fun d => d.rckRow c w e (ib w 23 18 == 44 && ib e 1 0 == 1) fun d => d.rckVshlv c w e

/-- `VSHRV` (R220). -/
def execVshrv (c : Fin 113) (w : Word) (e : Word) (s : State) : Host.Outcome State Fault Refusal :=
  s.act fun d => d.rckRow c w e (ib w 23 18 == 44 && ib e 1 0 == 2) fun d => d.rckVshrv c w e

/-- `VPERM` (R220). -/
def execVperm (c : Fin 113) (w : Word) (e : Word) (s : State) : Host.Outcome State Fault Refusal :=
  s.act fun d => d.rckRow c w e (ib w 23 18 == 45) fun d => d.rckVperm c w e

/-- `ACLR` (R220). -/
def execAclr (c : Fin 113) (w : Word) (e : Word) (s : State) : Host.Outcome State Fault Refusal :=
  s.act fun d => d.rckRow c w e (ib w 23 18 == 46 && ib e 1 0 == 0) fun d => d.rckAclr c w e

/-- `ARED` (R220). -/
def execAred (c : Fin 113) (w : Word) (e : Word) (s : State) : Host.Outcome State Fault Refusal :=
  s.act fun d => d.rckRow c w e (ib w 23 18 == 46 && ib e 1 0 == 1) fun d => d.rckAred c w e

/-- `AMOV` (R220). -/
def execAmov (c : Fin 113) (w : Word) (e : Word) (s : State) : Host.Outcome State Fault Refusal :=
  s.act fun d => d.rckRow c w e (ib w 23 18 == 46 && ib e 1 0 == 2) fun d => d.rckAmov c w e

/-- `VGET` (R220). -/
def execVget (c : Fin 113) (w : Word) (e : Word) (s : State) : Host.Outcome State Fault Refusal :=
  s.act fun d => d.rckRow c w e (ib w 23 18 == 47 && ib e 4 4 == 0) fun d => d.rckVget c w e

/-- `VPUT` (R209). -/
def execVput (c : Fin 113) (w : Word) (e : Word) (s : State) : Host.Outcome State Fault Refusal :=
  s.act fun d => d.rckRow c w e (ib w 23 18 == 47 && ib e 4 4 == 1) fun d => d.rckVput c w e

/-- `BSEND` (R232). -/
def execBsend (c : Fin 113) (w : Word) (e : Word) (s : State) : Host.Outcome State Fault Refusal :=
  s.act fun d => d.rckRow c w e (ib w 23 18 == 48) fun d => d.rckBsend c w e

/-- `QPOP` (R233). -/
def execQpop (c : Fin 113) (w : Word) (e : Word) (s : State) : Host.Outcome State Fault Refusal :=
  s.act fun d => d.rckRow c w e (ib w 23 18 == 49 && ib e 11 10 == 0) fun d => d.rckQpop c w e

/-- `QTRY` (R233). -/
def execQtry (c : Fin 113) (w : Word) (e : Word) (s : State) : Host.Outcome State Fault Refusal :=
  s.act fun d => d.rckRow c w e (ib w 23 18 == 49 && ib e 11 10 == 1) fun d => d.rckQtry c w e

/-- `QPUSH` (R233). -/
def execQpush (c : Fin 113) (w : Word) (e : Word) (s : State) : Host.Outcome State Fault Refusal :=
  s.act fun d => d.rckRow c w e (ib w 23 18 == 49 && ib e 11 10 == 2) fun d => d.rckQpush c w e

/-- `CMXACQ` (R257). -/
def execCmxacq (c : Fin 113) (w : Word) (e : Word) (s : State) : Host.Outcome State Fault Refusal :=
  s.act fun d => d.rckRow c w e (ib w 23 18 == 52 && ib e 3 0 == 0) fun d => d.rckCmxAcq c w e

/-- `CMXACQT` (R257). -/
def execCmxacqt (c : Fin 113) (w : Word) (e : Word) (s : State) : Host.Outcome State Fault Refusal :=
  s.act fun d => d.rckRow c w e (ib w 23 18 == 52 && ib e 3 0 == 1) fun d => d.rckCmxAcqt c w e

/-- `CMXREL` (R257). -/
def execCmxrel (c : Fin 113) (w : Word) (e : Word) (s : State) : Host.Outcome State Fault Refusal :=
  s.act fun d => d.rckRow c w e (ib w 23 18 == 52 && ib e 3 0 == 2) fun d => d.rckCmxRel c w e

/-- `CMXSAVE` (R264). -/
def execCmxsave (c : Fin 113) (w : Word) (e : Word) (s : State) : Host.Outcome State Fault Refusal :=
  s.act fun d => d.rckRow c w e (ib w 23 18 == 52 && ib e 3 0 == 3) fun d => d.rckCmxSave c w e

/-- `CMXRESTORE` (R264). -/
def execCmxrestore (c : Fin 113) (w : Word) (e : Word) (s : State) : Host.Outcome State Fault Refusal :=
  s.act fun d => d.rckRow c w e (ib w 23 18 == 52 && ib e 3 0 == 4) fun d => d.rckCmxRestore c w e

/-- `CMXSYNC` (R257). -/
def execCmxsync (c : Fin 113) (w : Word) (e : Word) (s : State) : Host.Outcome State Fault Refusal :=
  s.act fun d => d.rckRow c w e (ib w 23 18 == 52 && ib e 3 0 == 5) fun d => d.rckCmxSync c w e

/-- `CMXLERR` (R257). -/
def execCmxlerr (c : Fin 113) (w : Word) (e : Word) (s : State) : Host.Outcome State Fault Refusal :=
  s.act fun d => d.rckRow c w e (ib w 23 18 == 52 && ib e 3 0 == 6) fun d => d.rckCmxLerr c w e

/-- `CMXPUT` (R254). -/
def execCmxput (c : Fin 113) (w : Word) (e : Word) (s : State) : Host.Outcome State Fault Refusal :=
  s.act fun d => d.rckRow c w e (ib w 23 18 == 53) fun d => d.rckCmxPut c w e

/-- `CMXGET` (R254). -/
def execCmxget (c : Fin 113) (w : Word) (e : Word) (s : State) : Host.Outcome State Fault Refusal :=
  s.act fun d => d.rckRow c w e (ib w 23 18 == 54) fun d => d.rckCmxGet c w e

/-- `CMX_SHAPE` (R255). -/
def execCmxShape (c : Fin 113) (w : Word) (e : Word) (s : State) : Host.Outcome State Fault Refusal :=
  s.act fun d => d.rckRow c w e (ib w 23 18 == 55 && ib e 23 20 == 0) fun d => d.rckCmxOp 0 c w e

/-- `CMX_COPY` (R255). -/
def execCmxCopy (c : Fin 113) (w : Word) (e : Word) (s : State) : Host.Outcome State Fault Refusal :=
  s.act fun d => d.rckRow c w e (ib w 23 18 == 55 && ib e 23 20 == 1) fun d => d.rckCmxOp 1 c w e

/-- `CMX_ADD` (R255). -/
def execCmxAdd (c : Fin 113) (w : Word) (e : Word) (s : State) : Host.Outcome State Fault Refusal :=
  s.act fun d => d.rckRow c w e (ib w 23 18 == 55 && ib e 23 20 == 2) fun d => d.rckCmxOp 2 c w e

/-- `CMX_SUB` (R255). -/
def execCmxSub (c : Fin 113) (w : Word) (e : Word) (s : State) : Host.Outcome State Fault Refusal :=
  s.act fun d => d.rckRow c w e (ib w 23 18 == 55 && ib e 23 20 == 3) fun d => d.rckCmxOp 3 c w e

/-- `CMX_MUL` (R255). -/
def execCmxMul (c : Fin 113) (w : Word) (e : Word) (s : State) : Host.Outcome State Fault Refusal :=
  s.act fun d => d.rckRow c w e (ib w 23 18 == 55 && ib e 23 20 == 4) fun d => d.rckCmxOp 4 c w e

/-- `CMX_CHOL` (R256). -/
def execCmxChol (c : Fin 113) (w : Word) (e : Word) (s : State) : Host.Outcome State Fault Refusal :=
  s.act fun d => d.rckRow c w e (ib w 23 18 == 55 && ib e 23 20 == 5) fun d => d.rckCmxOp 5 c w e

/-- `CMX_TRSL` (R255). -/
def execCmxTrsl (c : Fin 113) (w : Word) (e : Word) (s : State) : Host.Outcome State Fault Refusal :=
  s.act fun d => d.rckRow c w e (ib w 23 18 == 55 && ib e 23 20 == 6) fun d => d.rckCmxOp 6 c w e

/-- `CMX_INV` (R255). -/
def execCmxInv (c : Fin 113) (w : Word) (e : Word) (s : State) : Host.Outcome State Fault Refusal :=
  s.act fun d => d.rckRow c w e (ib w 23 18 == 55 && ib e 23 20 == 7) fun d => d.rckCmxOp 7 c w e

/-- `CMX_QR` (R255). -/
def execCmxQr (c : Fin 113) (w : Word) (e : Word) (s : State) : Host.Outcome State Fault Refusal :=
  s.act fun d => d.rckRow c w e (ib w 23 18 == 55 && ib e 23 20 == 8) fun d => d.rckCmxOp 8 c w e

/-- `INTERRUPT_TAKEN` (R240). -/
def execInterruptTaken (c : Fin 113) (s : State) : Host.Outcome State Fault Refusal :=
  s.act fun d => d.interrupt c

/-- `LOAD_RESPONSE` (R228). -/
def execLoadResponse (c : Fin 113) (s : State) : Host.Outcome State Fault Refusal :=
  s.act fun d => (d.loadResponse c).runAhead c 2

/-- `STORE_RESPONSE` (R230). -/
def execStoreResponse (c : Fin 113) (k : Fin 16) (s : State) : Host.Outcome State Fault Refusal :=
  s.act fun d => (d.storeResponse c k).runAhead c 2

/-- `INBOX_BEAD` (R234). -/
def execInboxBead (b : Bead) (s : State) : Host.Outcome State Fault Refusal :=
  s.act fun d => d.inboxBead b

/-- `WAIT_WAKE` (R243). -/
def execWaitWake (c : Fin 113) (s : State) : Host.Outcome State Fault Refusal :=
  s.act fun d => d.waitWake c

/-- `ROD_RETAIN_ENTRY` (R244). -/
def execRodRetainEntry (r : Fin 14) (s : State) : Host.Outcome State Fault Refusal :=
  s.act fun d => d.rodRetainEntry r

/-- `CMXACQ_GRANT` (R259). -/
def execCmxacqGrant (r : Fin 14) (s : State) : Host.Outcome State Fault Refusal :=
  s.act fun d => d.cmxGrant r

/-- `QPOP_RESUME` (R233). -/
def execQpopResume (c : Fin 113) (s : State) : Host.Outcome State Fault Refusal :=
  s.act fun d => (d.qpopResume c).runAhead c 2

/-- `QPUSH_RESUME` (R331). -/
def execQpushResume (c : Fin 113) (s : State) : Host.Outcome State Fault Refusal :=
  s.act fun d => (d.qpushResume c).runAhead c 2

/-- `CMX_COMMIT` (R251). -/
def execCmxCommit (r : Fin 14) (s : State) : Host.Outcome State Fault Refusal :=
  s.act fun d => (d.cmxCommit r).rodAhead r

/-- `RCK_RUN_WRITE` (R249). -/
def execRckRunWrite (c : Fin 113) (w : Word) (s : State) : Host.Outcome State Fault Refusal :=
  s.act fun d => (d.rckCtlWrite c w).runAhead c 2

/-- `RCK_RST` (R249). -/
def execRckRst (c : Fin 113) (w : Word) (s : State) : Host.Outcome State Fault Refusal :=
  s.act fun d => d.rckCtlWrite c w

/-- `RCK_SOFT_SET` (R239). -/
def execRckSoftSet (c : Fin 113) (w : Word) (s : State) : Host.Outcome State Fault Refusal :=
  s.act fun d => d.rckSoftWrite c w

/-- `CMX_RST` (R250). -/
def execCmxRst (r : Fin 14) (w : Word) (s : State) : Host.Outcome State Fault Refusal :=
  s.act fun d => d.cmxCtlWrite r w

/-- `CMX_FREL` (R260). -/
def execCmxFrel (r : Fin 14) (w : Word) (s : State) : Host.Outcome State Fault Refusal :=
  s.act fun d => d.cmxCtlWrite r w

/-- `LOCAL_MEM_INIT_DONE` (R479). -/
def execLocalMemInitDone (c : Fin 113) (s : State) : Host.Outcome State Fault Refusal :=
  s.act fun d => d.lmInitDone c

end Sys2Proof.Machine
end

