-- ==== Sys2Proof/Machine/ExecReset.lean ====
section
/-! DEFINITION. The meanings of the commands of resets, register writes, and the events added to the table later: one definition per row. -/

namespace Sys2Proof.Machine

/-- `VSTBY_RISE` (R530). -/
def execVstbyRise (low : Bool) (s : State) : Host.Outcome State Fault Refusal :=
  s.act fun d => d.vstbyRise low

/-- `RESET_N_LOW` (R529). -/
def execResetNLow (s : State) : Host.Outcome State Fault Refusal :=
  s.act fun d => d.resetNLow

/-- `RESET_N_RELEASE` (R530). -/
def execResetNRelease (s : State) : Host.Outcome State Fault Refusal :=
  s.act fun d => d.resetNRelease

/-- `RST_CMD_WARM` (R531). -/
def execRstCmdWarm (r : Req) (w : Word) (s : State) : Host.Outcome State Fault Refusal :=
  s.act fun d => d.guarded r Reg.RST_CMD fun d => d.rstCmd w

/-- `RST_CMD_COLD` (R528). -/
def execRstCmdCold (r : Req) (w : Word) (s : State) : Host.Outcome State Fault Refusal :=
  s.act fun d => d.guarded r Reg.RST_CMD fun d => d.rstCmd w

/-- `RST_CMD_UNIT` (R533). -/
def execRstCmdUnit (r : Req) (w : Word) (s : State) : Host.Outcome State Fault Refusal :=
  s.act fun d => d.guarded r Reg.RST_CMD fun d => d.rstCmd w

/-- `WARM_RESPONSES_COLLECTED` (R531). -/
def execWarmResponsesCollected (s : State) : Host.Outcome State Fault Refusal :=
  s.act fun d => d.warmCollected

/-- `AWDT_EXPIRE` (R557). -/
def execAwdtExpire (s : State) : Host.Outcome State Fault Refusal :=
  s.act fun d => d.awdtExpire

/-- `AWDT_KICK` (R557). -/
def execAwdtKick (w : Word) (s : State) : Host.Outcome State Fault Refusal :=
  s.act fun d => d.awdtWrite w

/-- `REG_WRITE` (R13). -/
def execRegWrite (r : Req) (o : Nat) (w : Word) (lanes : Fin 8) (s : State) : Host.Outcome State Fault Refusal :=
  s.act fun d => d.regWriteRow r o w lanes

/-- `SYSREF_EDGE` (R108). -/
def execSysrefEdge (k : Fin 4) (n : Nat) (s : State) : Host.Outcome State Fault Refusal :=
  s.act fun d => d.sysref k n

/-- `JESD_LINK_UP` (R110). -/
def execJesdLinkUp (k : Fin 4) (t : Nat) (s : State) : Host.Outcome State Fault Refusal :=
  s.act fun d => d.jesdUp k t

/-- `FRAME_LAUNCH_DUE` (R401). -/
def execFrameLaunchDue (p : Fin 16) (s : State) : Host.Outcome State Fault Refusal :=
  s.act fun d => d.egressSelect p

/-- `STANDBY_SET_FAIL` (R493). -/
def execStandbySetFail (s : State) : Host.Outcome State Fault Refusal :=
  s.act fun d => d.standbyFail

/-- `STANDBY_SET_GOOD` (R490). -/
def execStandbySetGood (s : State) : Host.Outcome State Fault Refusal :=
  s.act fun d => d.standbyGood

/-- `EYE_GAP_END` (R438). -/
def execEyeGapEnd (q : Fin 16) (s : State) : Host.Outcome State Fault Refusal :=
  s.act fun d => d.eyeGapEnd q

/-- `BOOT_ORDER_RESTART` (R511). -/
def execBootOrderRestart (s : State) : Host.Outcome State Fault Refusal :=
  s.act fun d => d.bootRestart

end Sys2Proof.Machine
end

