-- ==== Sys2Proof/Machine/ExecSec.lean ====
section
/-! DEFINITION. The meanings of the commands of the security island: one definition per row. -/

namespace Sys2Proof.Machine

/-- `SEC_SELFTEST_END` (R510). -/
def execSecSelftestEnd (bad : Option Nat) (s : State) : Host.Outcome State Fault Refusal :=
  s.act fun d => d.selftestEnd bad

/-- `BOOT_IMAGE_FETCHED` (R511). -/
def execBootImageFetched (flash : List (Nat × List Nat)) (s : State) : Host.Outcome State Fault Refusal :=
  s.act fun d => d.bootFetched flash

/-- `HOSTWAIT_EXPIRE` (R511). -/
def execHostwaitExpire (s : State) : Host.Outcome State Fault Refusal :=
  s.act fun d => d.hostwaitExpire

/-- `BOOTREQ_TIMER` (R512). -/
def execBootreqTimer (s : State) : Host.Outcome State Fault Refusal :=
  s.act fun d => d.bootreq

/-- `BOOTGO` (R512). -/
def execBootgo (b : Bead) (s : State) : Host.Outcome State Fault Refusal :=
  s.act fun d => d.bootgo b

/-- `SEC_BOOTOK` (R510). -/
def execSecBootok (r : Req) (w : Word) (s : State) : Host.Outcome State Fault Refusal :=
  s.act fun d => d.guarded r Reg.SEC_BOOTOK fun d => d.bootOk w

/-- `BOOT_WDT_EXPIRE` (R510). -/
def execBootWdtExpire (s : State) : Host.Outcome State Fault Refusal :=
  s.act fun d => d.bootWdt

/-- `CMD_WRITE_SLOT` (R506). -/
def execCmdWriteSlot (r : Req) (w : Word) (s : State) : Host.Outcome State Fault Refusal :=
  s.act fun d => d.guarded r Reg.SEC_CMD fun d => d.cmdRow 1 r w

/-- `CMD_REVOKE` (R508). -/
def execCmdRevoke (r : Req) (w : Word) (s : State) : Host.Outcome State Fault Refusal :=
  s.act fun d => d.guarded r Reg.SEC_CMD fun d => d.cmdRow 2 r w

/-- `CMD_ADVANCE` (R509). -/
def execCmdAdvance (r : Req) (w : Word) (s : State) : Host.Outcome State Fault Refusal :=
  s.act fun d => d.guarded r Reg.SEC_CMD fun d => d.cmdRow 3 r w

/-- `CMD_LIFECYCLE` (R506). -/
def execCmdLifecycle (r : Req) (w : Word) (s : State) : Host.Outcome State Fault Refusal :=
  s.act fun d => d.guarded r Reg.SEC_CMD fun d => d.cmdRow 4 r w

/-- `CMD_DEBUG` (R520). -/
def execCmdDebug (r : Req) (w : Word) (s : State) : Host.Outcome State Fault Refusal :=
  s.act fun d => d.guarded r Reg.SEC_CMD fun d => d.cmdRow 5 r w

/-- `CMD_POLICY` (R502). -/
def execCmdPolicy (r : Req) (w : Word) (s : State) : Host.Outcome State Fault Refusal :=
  s.act fun d => d.guarded r Reg.SEC_CMD fun d => d.cmdRow 6 r w

/-- `CMD_SCRAP` (R506). -/
def execCmdScrap (r : Req) (w : Word) (s : State) : Host.Outcome State Fault Refusal :=
  s.act fun d => d.guarded r Reg.SEC_CMD fun d => d.cmdRow 7 r w

/-- `SEC_ATTEST` (R515). -/
def execSecAttest (r : Req) (w : Word) (s : State) : Host.Outcome State Fault Refusal :=
  s.act fun d => d.guarded r Reg.SEC_CMD fun d => d.secCmdWrite r w

/-- `SEC_FETCH` (R513). -/
def execSecFetch (r : Req) (w : Word) (flash : List (Nat × List Nat)) (s : State) : Host.Outcome State Fault Refusal :=
  s.act fun d => d.guarded r Reg.SEC_CMD fun d => d.secFetchRow w flash

/-- `SAK_INSTALL` (R519). -/
def execSakInstall (r : Req) (w : Word) (s : State) : Host.Outcome State Fault Refusal :=
  s.act fun d => d.guarded r Reg.SEC_CMD fun d => d.secCmdWrite r w

/-- `SESSION_OPEN` (R516). -/
def execSessionOpen (b : Bead) (buf : Nat) (s : State) : Host.Outcome State Fault Refusal :=
  s.act fun d => d.secBead b (.opened b buf)

/-- `SESSION_ACCEPT` (R516). -/
def execSessionAccept (b : Bead) (n : Nat) (slot : Nat) (ct : List Nat) (keys : List Nat) (sigs : List Nat)
    (s : State) : Host.Outcome State Fault Refusal :=
  s.act fun d => d.secBead b (.accept b n slot ct keys sigs)

/-- `SESSION_CLOSE` (R517). -/
def execSessionClose (b : Bead) (n : Nat) (s : State) : Host.Outcome State Fault Refusal :=
  s.act fun d => d.secBead b (.close b n)

/-- `SESSION_BEAD` (R517). -/
def execSessionBead (b : Bead) (s : State) : Host.Outcome State Fault Refusal :=
  s.act fun d => d.secBead b (.bead b)

/-- `TAMPER_DETECT` (R522). -/
def execTamperDetect (sensor : Fin 7) (s : State) : Host.Outcome State Fault Refusal :=
  s.act fun d => d.tamper sensor

end Sys2Proof.Machine
end

