-- ==== Sys2Proof/Machine/ExecTime.lean ====
section
/-! DEFINITION. The meanings of the commands of the time base, the Tally, the event arbiter: one definition per row. -/

namespace Sys2Proof.Machine

/-- `TIM_CMD_SET` (R371). -/
def execTimCmdSet (r : Req) (s : State) : Host.Outcome State Fault Refusal :=
  s.act fun d => d.guarded r Reg.TIM_CMD fun d => d.cmdSet

/-- `TIM_CMD_SETPPS` (R371). -/
def execTimCmdSetpps (r : Req) (s : State) : Host.Outcome State Fault Refusal :=
  s.act fun d => d.guarded r Reg.TIM_CMD fun d => d.cmdSetpps

/-- `TIM_CMD_STEP` (R372). -/
def execTimCmdStep (r : Req) (s : State) : Host.Outcome State Fault Refusal :=
  s.act fun d => d.guarded r Reg.TIM_CMD fun d => d.cmdStep

/-- `TIM_CMD_SLEW` (R374). -/
def execTimCmdSlew (r : Req) (s : State) : Host.Outcome State Fault Refusal :=
  s.act fun d => d.guarded r Reg.TIM_CMD fun d => d.cmdSlew

/-- `TIM_CMD_CANCEL` (R371). -/
def execTimCmdCancel (r : Req) (s : State) : Host.Outcome State Fault Refusal :=
  s.act fun d => d.guarded r Reg.TIM_CMD fun d => d.cmdCancel

/-- `SLEW_END` (R374). -/
def execSlewEnd (s : State) : Host.Outcome State Fault Refusal :=
  s.act fun d => d.slewEnd

/-- `TIM_INC_COMMIT` (R367). -/
def execTimIncCommit (r : Req) (w : Word) (s : State) : Host.Outcome State Fault Refusal :=
  s.act fun d => d.guarded r Reg.TIM_INC_HI fun d => d.incCommit w

/-- `TIM_MULT_CHANGE` (R367). -/
def execTimMultChange (r : Req) (w : Word) (s : State) : Host.Outcome State Fault Refusal :=
  s.act fun d => d.guarded r Reg.TIM_REFCFG fun d => d.refcfgWrite w

/-- `TIM_VALID_WRITE` (R369). -/
def execTimValidWrite (r : Req) (w : Word) (s : State) : Host.Outcome State Fault Refusal :=
  s.act fun d => d.guarded r Reg.TIM_CTL fun d => d.timCtlWrite w

/-- `REF_LOSS` (R368). -/
def execRefLoss (s : State) : Host.Outcome State Fault Refusal :=
  s.act fun d => d.refLoss

/-- `REF_RELOCK` (R368). -/
def execRefRelock (hz : Nat) (s : State) : Host.Outcome State Fault Refusal :=
  s.act fun d => d.refRelock hz

/-- `PPS_IN_EDGE` (R376). -/
def execPpsInEdge (rising : Bool) (width : Nat) (err : Int) (s : State) : Host.Outcome State Fault Refusal :=
  s.act fun d => d.ppsEdge rising width err

/-- `PPS_IN_TIMEOUT` (R376). -/
def execPpsInTimeout (s : State) : Host.Outcome State Fault Refusal :=
  s.act fun d => d.ppsTimeout

/-- `PPS_OUT_PULSE` (R377). -/
def execPpsOutPulse (s : State) : Host.Outcome State Fault Refusal :=
  s.act fun d => d.ppsOut

/-- `COMPARE_DUE` (R379). -/
def execCompareDue (k : Fin 16) (s : State) : Host.Outcome State Fault Refusal :=
  s.act fun d => d.compareDue k

/-- `COMPARE_TARGET_COMMIT` (R379). -/
def execCompareTargetCommit (k : Fin 16) (w : Word) (s : State) : Host.Outcome State Fault Refusal :=
  s.act fun d => d.cmpCommit k w

/-- `TLY_ARM` (R547). -/
def execTlyArm (w : Word) (s : State) : Host.Outcome State Fault Refusal :=
  s.act fun d => d.tlyArmWrite w

/-- `TLY_TARGET_DUE` (R547). -/
def execTlyTargetDue (s : State) : Host.Outcome State Fault Refusal :=
  s.act fun d => d.tlyTake

/-- `TLY_COMPLETE` (R547). -/
def execTlyComplete (s : State) : Host.Outcome State Fault Refusal :=
  s.act fun d => d.tlyComplete

/-- `EVENT_ACCEPT` (R539). -/
def execEventAccept (s : State) : Host.Outcome State Fault Refusal :=
  s.act fun d => d.eventAccept

/-- `EVT_TAIL_ADVANCE` (R544). -/
def execEvtTailAdvance (w : Word) (s : State) : Host.Outcome State Fault Refusal :=
  s.act fun d => d.evtTailWrite w

end Sys2Proof.Machine
end

