-- ==== Sys2Proof/Machine/ExecWork.lean ====
section
/-! DEFINITION. The meanings of the commands of launch lists, deadline queues, the slack servo, accelerator jobs: one definition per row. -/

namespace Sys2Proof.Machine

/-- `LNC_GCTL_EN_WRITE` (R80). -/
def execLncGctlEnWrite (w : Word) (s : State) : Host.Outcome State Fault Refusal :=
  s.act fun d => d.lncGctlWrite w

/-- `LIST_ENABLE` (R73). -/
def execListEnable (n : Fin 64) (w : Word) (s : State) : Host.Outcome State Fault Refusal :=
  s.act fun d => d.lncCtlWrite n w

/-- `LIST_DISABLE` (R73). -/
def execListDisable (n : Fin 64) (w : Word) (s : State) : Host.Outcome State Fault Refusal :=
  s.act fun d => d.lncCtlWrite n w

/-- `LAUNCH_INJECT` (R76). -/
def execLaunchInject (s : State) : Host.Outcome State Fault Refusal :=
  s.act fun d => d.launchInject

/-- `FED_ENTRY_ARRIVAL` (R76). -/
def execFedEntryArrival (n : Fin 64) (s : State) : Host.Outcome State Fault Refusal :=
  s.act fun d => d.fedArrival n

/-- `LAUNCH_HOLD_END` (R80). -/
def execLaunchHoldEnd (s : State) : Host.Outcome State Fault Refusal :=
  s.act fun d => d.lncResume

/-- `COUNTER_CLEAR` (R100). -/
def execCounterClear (o : Nat) (w : Word) (s : State) : Host.Outcome State Fault Refusal :=
  s.act fun d => d.counterClear o w

/-- `JOB_ARRIVAL` (R85). -/
def execJobArrival (b : Bead) (s : State) : Host.Outcome State Fault Refusal :=
  s.act fun d => d.jobArrival b

/-- `JOB_TAKE` (R86). -/
def execJobTake (n : Fin 64) (s : State) : Host.Outcome State Fault Refusal :=
  s.act fun d => d.jobTake n

/-- `HEAD_DEADLINE_EXPIRE` (R87). -/
def execHeadDeadlineExpire (n : Fin 64) (s : State) : Host.Outcome State Fault Refusal :=
  s.act fun d => d.headExpire n

/-- `SLACK_WINDOW_END` (R97). -/
def execSlackWindowEnd (s : State) : Host.Outcome State Fault Refusal :=
  s.act fun d => d.windowEndOp

/-- `AVS_STEP_ACK` (R495). -/
def execAvsStepAck (s : State) : Host.Outcome State Fault Refusal :=
  s.act fun d => d.avsAck

/-- `AVS_STEP_TIMEOUT` (R495). -/
def execAvsStepTimeout (s : State) : Host.Outcome State Fault Refusal :=
  s.act fun d => d.avsTimeout

/-- `PWR_SERVO_CTL_WRITE` (R98). -/
def execPwrServoCtlWrite (w : Word) (s : State) : Host.Outcome State Fault Refusal :=
  s.act fun d => d.servoCtlWrite w

/-- `PWR_VSET_WRITE` (R98). -/
def execPwrVsetWrite (w : Word) (s : State) : Host.Outcome State Fault Refusal :=
  s.act fun d => d.vsetWrite w

/-- `PWR_SLACK_POST` (R95). -/
def execPwrSlackPost (w : Word) (s : State) : Host.Outcome State Fault Refusal :=
  s.act fun d => d.slackPost (getF w Reg.PWR_SLACK_POST_SAMPLE_f)

/-- `SPC_JOB_END` (R131). -/
def execSpcJobEnd (n : Fin 24) (p : Fin 4) (s : State) : Host.Outcome State Fault Refusal :=
  s.act fun d => d.spcEnd n p

/-- `RAD_JOB_END` (R170). -/
def execRadJobEnd (n : Fin 8) (s : State) : Host.Outcome State Fault Refusal :=
  s.act fun d => d.radEnd n (unitPort (0xCC + n))

/-- `TRB_JOB_END` (R185). -/
def execTrbJobEnd (n : Fin 12) (s : State) : Host.Outcome State Fault Refusal :=
  s.act fun d => d.trbEnd n

/-- `TRL_JOB_END` (R196). -/
def execTrlJobEnd (n : Fin 16) (s : State) : Host.Outcome State Fault Refusal :=
  s.act fun d => d.trlEnd n (unitPort (0x98 + n))

/-- `ENC_JOB_END` (R201). -/
def execEncJobEnd (n : Fin 8) (s : State) : Host.Outcome State Fault Refusal :=
  s.act fun d => d.encEnd n (unitPort (0xB4 + n))

end Sys2Proof.Machine
end

