-- ==== Sys2Proof/Machine/Dispatch.lean ====
section
/-! DEFINITION. One arm for each command, each a direct call of its meaning. -/

namespace Sys2Proof.Machine

/-- The effect of a command on everything but the queue. -/
def exec (i : Instr) (s : State) : Host.Outcome State Fault Refusal :=
  match i with
  | .alu c w => Sys2Proof.Machine.execAlu c w s
  | .alux c w => Sys2Proof.Machine.execAlux c w s
  | .addi c w => Sys2Proof.Machine.execAddi c w s
  | .andi c w => Sys2Proof.Machine.execAndi c w s
  | .shi c w => Sys2Proof.Machine.execShi c w s
  | .movi c w => Sys2Proof.Machine.execMovi c w s
  | .ldw c w => Sys2Proof.Machine.execLdw c w s
  | .stw c w => Sys2Proof.Machine.execStw c w s
  | .palu c w => Sys2Proof.Machine.execPalu c w s
  | .paddi c w => Sys2Proof.Machine.execPaddi c w s
  | .br c w => Sys2Proof.Machine.execBr c w s
  | .j c w => Sys2Proof.Machine.execJ c w s
  | .jr c w => Sys2Proof.Machine.execJr c w s
  | .jalr c w => Sys2Proof.Machine.execJalr c w s
  | .csrr c w => Sys2Proof.Machine.execCsrr c w s
  | .csrw c w => Sys2Proof.Machine.execCsrw c w s
  | .csrs c w => Sys2Proof.Machine.execCsrs c w s
  | .csrc c w => Sys2Proof.Machine.execCsrc c w s
  | .ecall c w => Sys2Proof.Machine.execEcall c w s
  | .eret c w => Sys2Proof.Machine.execEret c w s
  | .waitm c w => Sys2Proof.Machine.execWaitm c w s
  | .fenceW c w => Sys2Proof.Machine.execFenceW c w s
  | .fenceRw c w => Sys2Proof.Machine.execFenceRw c w s
  | .fenceI c w => Sys2Proof.Machine.execFenceI c w s
  | .kop c w => Sys2Proof.Machine.execKop c w s
  | .vadd c w => Sys2Proof.Machine.execVadd c w s
  | .vsub c w => Sys2Proof.Machine.execVsub c w s
  | .vmul c w => Sys2Proof.Machine.execVmul c w s
  | .vmulj c w => Sys2Proof.Machine.execVmulj c w s
  | .vmac c w => Sys2Proof.Machine.execVmac c w s
  | .vmacj c w => Sys2Proof.Machine.execVmacj c w s
  | .vpow c w => Sys2Proof.Machine.execVpow c w s
  | .vsel c w => Sys2Proof.Machine.execVsel c w s
  | .vld c w => Sys2Proof.Machine.execVld c w s
  | .vst c w => Sys2Proof.Machine.execVst c w s
  | .vshi c w => Sys2Proof.Machine.execVshi c w s
  | .vext c w => Sys2Proof.Machine.execVext c w s
  | .vcmp c w => Sys2Proof.Machine.execVcmp c w s
  | .vbc c w => Sys2Proof.Machine.execVbc c w s
  | .li c w e => Sys2Proof.Machine.execLi c w e s
  | .lip c w e => Sys2Proof.Machine.execLip c w e s
  | .bcc c w e => Sys2Proof.Machine.execBcc c w e s
  | .jmp c w e => Sys2Proof.Machine.execJmp c w e s
  | .ldb c w e => Sys2Proof.Machine.execLdb c w e s
  | .stb c w e => Sys2Proof.Machine.execStb c w e s
  | .vlds c w e => Sys2Proof.Machine.execVlds c w e s
  | .vsts c w e => Sys2Proof.Machine.execVsts c w e s
  | .vgath c w e => Sys2Proof.Machine.execVgath c w e s
  | .vscat c w e => Sys2Proof.Machine.execVscat c w e s
  | .vlog c w e => Sys2Proof.Machine.execVlog c w e s
  | .varx c w e => Sys2Proof.Machine.execVarx c w e s
  | .vcvt c w e => Sys2Proof.Machine.execVcvt c w e s
  | .vexp c w e => Sys2Proof.Machine.execVexp c w e s
  | .vshlv c w e => Sys2Proof.Machine.execVshlv c w e s
  | .vshrv c w e => Sys2Proof.Machine.execVshrv c w e s
  | .vperm c w e => Sys2Proof.Machine.execVperm c w e s
  | .aclr c w e => Sys2Proof.Machine.execAclr c w e s
  | .ared c w e => Sys2Proof.Machine.execAred c w e s
  | .amov c w e => Sys2Proof.Machine.execAmov c w e s
  | .vget c w e => Sys2Proof.Machine.execVget c w e s
  | .vput c w e => Sys2Proof.Machine.execVput c w e s
  | .bsend c w e => Sys2Proof.Machine.execBsend c w e s
  | .qpop c w e => Sys2Proof.Machine.execQpop c w e s
  | .qtry c w e => Sys2Proof.Machine.execQtry c w e s
  | .qpush c w e => Sys2Proof.Machine.execQpush c w e s
  | .cmxacq c w e => Sys2Proof.Machine.execCmxacq c w e s
  | .cmxacqt c w e => Sys2Proof.Machine.execCmxacqt c w e s
  | .cmxrel c w e => Sys2Proof.Machine.execCmxrel c w e s
  | .cmxsave c w e => Sys2Proof.Machine.execCmxsave c w e s
  | .cmxrestore c w e => Sys2Proof.Machine.execCmxrestore c w e s
  | .cmxsync c w e => Sys2Proof.Machine.execCmxsync c w e s
  | .cmxlerr c w e => Sys2Proof.Machine.execCmxlerr c w e s
  | .cmxput c w e => Sys2Proof.Machine.execCmxput c w e s
  | .cmxget c w e => Sys2Proof.Machine.execCmxget c w e s
  | .cmxShape c w e => Sys2Proof.Machine.execCmxShape c w e s
  | .cmxCopy c w e => Sys2Proof.Machine.execCmxCopy c w e s
  | .cmxAdd c w e => Sys2Proof.Machine.execCmxAdd c w e s
  | .cmxSub c w e => Sys2Proof.Machine.execCmxSub c w e s
  | .cmxMul c w e => Sys2Proof.Machine.execCmxMul c w e s
  | .cmxChol c w e => Sys2Proof.Machine.execCmxChol c w e s
  | .cmxTrsl c w e => Sys2Proof.Machine.execCmxTrsl c w e s
  | .cmxInv c w e => Sys2Proof.Machine.execCmxInv c w e s
  | .cmxQr c w e => Sys2Proof.Machine.execCmxQr c w e s
  | .interruptTaken c => Sys2Proof.Machine.execInterruptTaken c s
  | .loadResponse c => Sys2Proof.Machine.execLoadResponse c s
  | .storeResponse c k => Sys2Proof.Machine.execStoreResponse c k s
  | .inboxBead b => Sys2Proof.Machine.execInboxBead b s
  | .waitWake c => Sys2Proof.Machine.execWaitWake c s
  | .rodRetainEntry r => Sys2Proof.Machine.execRodRetainEntry r s
  | .cmxacqGrant r => Sys2Proof.Machine.execCmxacqGrant r s
  | .qpopResume c => Sys2Proof.Machine.execQpopResume c s
  | .qpushResume c => Sys2Proof.Machine.execQpushResume c s
  | .cmxCommit r => Sys2Proof.Machine.execCmxCommit r s
  | .rckRunWrite c w => Sys2Proof.Machine.execRckRunWrite c w s
  | .rckRst c w => Sys2Proof.Machine.execRckRst c w s
  | .rckSoftSet c w => Sys2Proof.Machine.execRckSoftSet c w s
  | .cmxRst r w => Sys2Proof.Machine.execCmxRst r w s
  | .cmxFrel r w => Sys2Proof.Machine.execCmxFrel r w s
  | .localMemInitDone c => Sys2Proof.Machine.execLocalMemInitDone c s
  | .lncGctlEnWrite w => Sys2Proof.Machine.execLncGctlEnWrite w s
  | .listEnable n w => Sys2Proof.Machine.execListEnable n w s
  | .listDisable n w => Sys2Proof.Machine.execListDisable n w s
  | .launchInject => Sys2Proof.Machine.execLaunchInject s
  | .fedEntryArrival n => Sys2Proof.Machine.execFedEntryArrival n s
  | .launchHoldEnd => Sys2Proof.Machine.execLaunchHoldEnd s
  | .counterClear o w => Sys2Proof.Machine.execCounterClear o w s
  | .jobArrival b => Sys2Proof.Machine.execJobArrival b s
  | .jobTake n => Sys2Proof.Machine.execJobTake n s
  | .headDeadlineExpire n => Sys2Proof.Machine.execHeadDeadlineExpire n s
  | .slackWindowEnd => Sys2Proof.Machine.execSlackWindowEnd s
  | .avsStepAck => Sys2Proof.Machine.execAvsStepAck s
  | .avsStepTimeout => Sys2Proof.Machine.execAvsStepTimeout s
  | .pwrServoCtlWrite w => Sys2Proof.Machine.execPwrServoCtlWrite w s
  | .pwrVsetWrite w => Sys2Proof.Machine.execPwrVsetWrite w s
  | .pwrSlackPost w => Sys2Proof.Machine.execPwrSlackPost w s
  | .spcJobEnd n p => Sys2Proof.Machine.execSpcJobEnd n p s
  | .radJobEnd n => Sys2Proof.Machine.execRadJobEnd n s
  | .trbJobEnd n => Sys2Proof.Machine.execTrbJobEnd n s
  | .trlJobEnd n => Sys2Proof.Machine.execTrlJobEnd n s
  | .encJobEnd n => Sys2Proof.Machine.execEncJobEnd n s
  | .jesdLinkError k mb a b => Sys2Proof.Machine.execJesdLinkError k mb a b s
  | .subframeGainStep u t n n0 xs => Sys2Proof.Machine.execSubframeGainStep u t n n0 xs s
  | .txSegmentRead u t n => Sys2Proof.Machine.execTxSegmentRead u t n s
  | .ecpriMessageRx f => Sys2Proof.Machine.execEcpriMessageRx f s
  | .fhZeroFill u t k n => Sys2Proof.Machine.execFhZeroFill u t k n s
  | .oranUplaneRx f ext => Sys2Proof.Machine.execOranUplaneRx f ext s
  | .oranSection3Rx f ext => Sys2Proof.Machine.execOranSection3Rx f ext s
  | .fhTxMessage u t n k => Sys2Proof.Machine.execFhTxMessage u t n k s
  | .ecpriDelayRequest f => Sys2Proof.Machine.execEcpriDelayRequest f s
  | .delayMeasureRequest b => Sys2Proof.Machine.execDelayMeasureRequest b s
  | .delayMeasureAnswer f => Sys2Proof.Machine.execDelayMeasureAnswer f s
  | .delayMeasureTimeout tag => Sys2Proof.Machine.execDelayMeasureTimeout tag s
  | .nfBlockEnd u t n n0 xs => Sys2Proof.Machine.execNfBlockEnd u t n n0 xs s
  | .nfStaleTimeout u t => Sys2Proof.Machine.execNfStaleTimeout u t s
  | .crossing det slot tau fi k0 rx => Sys2Proof.Machine.execCrossing det slot tau fi k0 rx s
  | .syncCheck x k0 rx => Sys2Proof.Machine.execSyncCheck x k0 rx s
  | .headerDecode x => Sys2Proof.Machine.execHeaderDecode x s
  | .pilotUpdate x k0 rx => Sys2Proof.Machine.execPilotUpdate x k0 rx s
  | .closingPilot x => Sys2Proof.Machine.execClosingPilot x s
  | .instanceDecodeResult x b => Sys2Proof.Machine.execInstanceDecodeResult x b s
  | .partnerEnded x => Sys2Proof.Machine.execPartnerEnded x s
  | .sicholdExpire x => Sys2Proof.Machine.execSicholdExpire x s
  | .ackRequestBead b rseq dev rate rep more bytes => Sys2Proof.Machine.execAckRequestBead b rseq dev rate rep more bytes s
  | .ackCutoff rseq => Sys2Proof.Machine.execAckCutoff rseq s
  | .ackLaunch rseq => Sys2Proof.Machine.execAckLaunch rseq s
  | .jnoticeRx b => Sys2Proof.Machine.execJnoticeRx b s
  | .jointElection x => Sys2Proof.Machine.execJointElection x s
  | .jsampleRx b => Sys2Proof.Machine.execJsampleRx b s
  | .jacceptRx b => Sys2Proof.Machine.execJacceptRx b s
  | .jointWaitExpire x => Sys2Proof.Machine.execJointWaitExpire x s
  | .carrierSearchDisable det slot => Sys2Proof.Machine.execCarrierSearchDisable det slot s
  | .hostItemBead b h => Sys2Proof.Machine.execHostItemBead b h s
  | .carrierStatusBead carrier n => Sys2Proof.Machine.execCarrierStatusBead carrier n s
  | .memRequest a => Sys2Proof.Machine.execMemRequest a s
  | .pageDecodeEnd b => Sys2Proof.Machine.execPageDecodeEnd b s
  | .scrubStep => Sys2Proof.Machine.execScrubStep s
  | .scrubCtlWrite w => Sys2Proof.Machine.execScrubCtlWrite w s
  | .reencodeCmd w => Sys2Proof.Machine.execReencodeCmd w s
  | .reencodePage => Sys2Proof.Machine.execReencodePage s
  | .remapCmd w => Sys2Proof.Machine.execRemapCmd w s
  | .flipArm w => Sys2Proof.Machine.execFlipArm w s
  | .flushCmd w => Sys2Proof.Machine.execFlushCmd w s
  | .flushDone => Sys2Proof.Machine.execFlushDone s
  | .memInitDone => Sys2Proof.Machine.execMemInitDone s
  | .dmaStart r e c w => Sys2Proof.Machine.execDmaStart r e c w s
  | .dmaStartLoad r e c w => Sys2Proof.Machine.execDmaStartLoad r e c w s
  | .dmaStop r e c w => Sys2Proof.Machine.execDmaStop r e c w s
  | .dmaDescLoaded e c => Sys2Proof.Machine.execDmaDescLoaded e c s
  | .dmaBeatIssue e write => Sys2Proof.Machine.execDmaBeatIssue e write s
  | .dmaReadResponse e c j remote => Sys2Proof.Machine.execDmaReadResponse e c j remote s
  | .dmaWriteResponse e c j remote => Sys2Proof.Machine.execDmaWriteResponse e c j remote s
  | .dmaRemoteTimeout e c tag => Sys2Proof.Machine.execDmaRemoteTimeout e c tag s
  | .queueBeadRx b => Sys2Proof.Machine.execQueueBeadRx b s
  | .queReset n => Sys2Proof.Machine.execQueReset n s
  | .stcFullLoad w => Sys2Proof.Machine.execStcFullLoad w s
  | .stcSliceLoad w => Sys2Proof.Machine.execStcSliceLoad w s
  | .stcVerifyEnd => Sys2Proof.Machine.execStcVerifyEnd s
  | .stcApplyEnd => Sys2Proof.Machine.execStcApplyEnd s
  | .stcDrainack r w => Sys2Proof.Machine.execStcDrainack r w s
  | .stcDrainTimeout => Sys2Proof.Machine.execStcDrainTimeout s
  | .stcFence r w => Sys2Proof.Machine.execStcFence r w s
  | .timCmdSet r => Sys2Proof.Machine.execTimCmdSet r s
  | .timCmdSetpps r => Sys2Proof.Machine.execTimCmdSetpps r s
  | .timCmdStep r => Sys2Proof.Machine.execTimCmdStep r s
  | .timCmdSlew r => Sys2Proof.Machine.execTimCmdSlew r s
  | .timCmdCancel r => Sys2Proof.Machine.execTimCmdCancel r s
  | .slewEnd => Sys2Proof.Machine.execSlewEnd s
  | .timIncCommit r w => Sys2Proof.Machine.execTimIncCommit r w s
  | .timMultChange r w => Sys2Proof.Machine.execTimMultChange r w s
  | .timValidWrite r w => Sys2Proof.Machine.execTimValidWrite r w s
  | .refLoss => Sys2Proof.Machine.execRefLoss s
  | .refRelock hz => Sys2Proof.Machine.execRefRelock hz s
  | .ppsInEdge rising width err => Sys2Proof.Machine.execPpsInEdge rising width err s
  | .ppsInTimeout => Sys2Proof.Machine.execPpsInTimeout s
  | .ppsOutPulse => Sys2Proof.Machine.execPpsOutPulse s
  | .compareDue k => Sys2Proof.Machine.execCompareDue k s
  | .compareTargetCommit k w => Sys2Proof.Machine.execCompareTargetCommit k w s
  | .tlyArm w => Sys2Proof.Machine.execTlyArm w s
  | .tlyTargetDue => Sys2Proof.Machine.execTlyTargetDue s
  | .tlyComplete => Sys2Proof.Machine.execTlyComplete s
  | .eventAccept => Sys2Proof.Machine.execEventAccept s
  | .evtTailAdvance w => Sys2Proof.Machine.execEvtTailAdvance w s
  | .portLinkChange p up andone feclock peer => Sys2Proof.Machine.execPortLinkChange p up andone feclock peer s
  | .frameReceived p l fcsOk back err sc => Sys2Proof.Machine.execFrameReceived p l fcsOk back err sc s
  | .egressSelect p => Sys2Proof.Machine.execEgressSelect p s
  | .frameTxEnd p err => Sys2Proof.Machine.execFrameTxEnd p err s
  | .gateIntervalEnd p => Sys2Proof.Machine.execGateIntervalEnd p s
  | .gclSubmit p w => Sys2Proof.Machine.execGclSubmit p w s
  | .gclChange p => Sys2Proof.Machine.execGclChange p s
  | .shaperRefill p => Sys2Proof.Machine.execShaperRefill p s
  | .txframeBead b => Sys2Proof.Machine.execTxframeBead b s
  | .beadToHost b => Sys2Proof.Machine.execBeadToHost b s
  | .beadFrameHoldExpire h => Sys2Proof.Machine.execBeadFrameHoldExpire h s
  | .fdbRead w => Sys2Proof.Machine.execFdbRead w s
  | .fdbWrite w => Sys2Proof.Machine.execFdbWrite w s
  | .fdbDelete w => Sys2Proof.Machine.execFdbDelete w s
  | .fdbFlush w => Sys2Proof.Machine.execFdbFlush w s
  | .fdbAgeOut vid mac => Sys2Proof.Machine.execFdbAgeOut vid mac s
  | .laneRetrain l w => Sys2Proof.Machine.execLaneRetrain l w s
  | .laneTrainDone l => Sys2Proof.Machine.execLaneTrainDone l s
  | .laneRst l w => Sys2Proof.Machine.execLaneRst l w s
  | .laneAlign l => Sys2Proof.Machine.execLaneAlign l s
  | .laneAlignLoss l => Sys2Proof.Machine.execLaneAlignLoss l s
  | .portDeskew p arrivals => Sys2Proof.Machine.execPortDeskew p arrivals s
  | .laneMarkerRx l ui slot => Sys2Proof.Machine.execLaneMarkerRx l ui slot s
  | .quadRefLoss q => Sys2Proof.Machine.execQuadRefLoss q s
  | .quadRefReturn q hz => Sys2Proof.Machine.execQuadRefReturn q hz s
  | .laneLockLoss l => Sys2Proof.Machine.execLaneLockLoss l s
  | .laneSignalDetect l => Sys2Proof.Machine.execLaneSignalDetect l s
  | .laneExitTimeout l => Sys2Proof.Machine.execLaneExitTimeout l s
  | .eyeGo q w => Sys2Proof.Machine.execEyeGo q w s
  | .eyePointEnd q n e => Sys2Proof.Machine.execEyePointEnd q n e s
  | .spareGo q w => Sys2Proof.Machine.execSpareGo q w s
  | .spareAuto l => Sys2Proof.Machine.execSpareAuto l s
  | .cellRx l slot ui => Sys2Proof.Machine.execCellRx l slot ui s
  | .idleCellTimer p => Sys2Proof.Machine.execIdleCellTimer p s
  | .replayTimeout p => Sys2Proof.Machine.execReplayTimeout p s
  | .portDownTimeout p => Sys2Proof.Machine.execPortDownTimeout p s
  | .helloTimer p => Sys2Proof.Machine.execHelloTimer p s
  | .helloRx p b => Sys2Proof.Machine.execHelloRx p b s
  | .lsaTimer => Sys2Proof.Machine.execLsaTimer s
  | .lsaRx b => Sys2Proof.Machine.execLsaRx b s
  | .numberTimer => Sys2Proof.Machine.execNumberTimer s
  | .numberRx b => Sys2Proof.Machine.execNumberRx b s
  | .routeWrite t w => Sys2Proof.Machine.execRouteWrite t w s
  | .routeSettleEnd t => Sys2Proof.Machine.execRouteSettleEnd t s
  | .beadRoute b => Sys2Proof.Machine.execBeadRoute b s
  | .regrd b => Sys2Proof.Machine.execRegrd b s
  | .regwr b => Sys2Proof.Machine.execRegwr b s
  | .memrd b => Sys2Proof.Machine.execMemrd b s
  | .memwr b => Sys2Proof.Machine.execMemwr b s
  | .bcastRx p b => Sys2Proof.Machine.execBcastRx p b s
  | .tsyncTimer p => Sys2Proof.Machine.execTsyncTimer p s
  | .tsyncRx p b => Sys2Proof.Machine.execTsyncRx p b s
  | .poolcmdTally b => Sys2Proof.Machine.execPoolcmdTally b s
  | .poolcmdColdReset b => Sys2Proof.Machine.execPoolcmdColdReset b s
  | .modeEntry => Sys2Proof.Machine.execModeEntry s
  | .modeCommit grp => Sys2Proof.Machine.execModeCommit grp s
  | .pwrEntryTimeout grp => Sys2Proof.Machine.execPwrEntryTimeout grp s
  | .pwrGrpcmd w => Sys2Proof.Machine.execPwrGrpcmd w s
  | .padRelease w => Sys2Proof.Machine.execPadRelease w s
  | .wakeNRequest => Sys2Proof.Machine.execWakeNRequest s
  | .wakeRetryTimer => Sys2Proof.Machine.execWakeRetryTimer s
  | .wakePgRise back => Sys2Proof.Machine.execWakePgRise back s
  | .wakeRegTimeout => Sys2Proof.Machine.execWakeRegTimeout s
  | .wakeSettleEnd => Sys2Proof.Machine.execWakeSettleEnd s
  | .wakeOscTimeout => Sys2Proof.Machine.execWakeOscTimeout s
  | .wakeDomainsUp bootsel => Sys2Proof.Machine.execWakeDomainsUp bootsel s
  | .railLow back pg => Sys2Proof.Machine.execRailLow back pg s
  | .supSwback w => Sys2Proof.Machine.execSupSwback w s
  | .supSwtest w => Sys2Proof.Machine.execSupSwtest w s
  | .supEnableWrite w => Sys2Proof.Machine.execSupEnableWrite w s
  | .brownout => Sys2Proof.Machine.execBrownout s
  | .avsReadbackTimer mvMain mvBack faultMain faultBack => Sys2Proof.Machine.execAvsReadbackTimer mvMain mvBack faultMain faultBack s
  | .avsAlert back => Sys2Proof.Machine.execAvsAlert back s
  | .secSelftestEnd bad => Sys2Proof.Machine.execSecSelftestEnd bad s
  | .bootImageFetched flash => Sys2Proof.Machine.execBootImageFetched flash s
  | .hostwaitExpire => Sys2Proof.Machine.execHostwaitExpire s
  | .bootreqTimer => Sys2Proof.Machine.execBootreqTimer s
  | .bootgo b => Sys2Proof.Machine.execBootgo b s
  | .secBootok r w => Sys2Proof.Machine.execSecBootok r w s
  | .bootWdtExpire => Sys2Proof.Machine.execBootWdtExpire s
  | .cmdWriteSlot r w => Sys2Proof.Machine.execCmdWriteSlot r w s
  | .cmdRevoke r w => Sys2Proof.Machine.execCmdRevoke r w s
  | .cmdAdvance r w => Sys2Proof.Machine.execCmdAdvance r w s
  | .cmdLifecycle r w => Sys2Proof.Machine.execCmdLifecycle r w s
  | .cmdDebug r w => Sys2Proof.Machine.execCmdDebug r w s
  | .cmdPolicy r w => Sys2Proof.Machine.execCmdPolicy r w s
  | .cmdScrap r w => Sys2Proof.Machine.execCmdScrap r w s
  | .secAttest r w => Sys2Proof.Machine.execSecAttest r w s
  | .secFetch r w flash => Sys2Proof.Machine.execSecFetch r w flash s
  | .sakInstall r w => Sys2Proof.Machine.execSakInstall r w s
  | .sessionOpen b buf => Sys2Proof.Machine.execSessionOpen b buf s
  | .sessionAccept b n slot ct keys sigs => Sys2Proof.Machine.execSessionAccept b n slot ct keys sigs s
  | .sessionClose b n => Sys2Proof.Machine.execSessionClose b n s
  | .sessionBead b => Sys2Proof.Machine.execSessionBead b s
  | .tamperDetect sensor => Sys2Proof.Machine.execTamperDetect sensor s
  | .vstbyRise low => Sys2Proof.Machine.execVstbyRise low s
  | .resetNLow => Sys2Proof.Machine.execResetNLow s
  | .resetNRelease => Sys2Proof.Machine.execResetNRelease s
  | .rstCmdWarm r w => Sys2Proof.Machine.execRstCmdWarm r w s
  | .rstCmdCold r w => Sys2Proof.Machine.execRstCmdCold r w s
  | .rstCmdUnit r w => Sys2Proof.Machine.execRstCmdUnit r w s
  | .warmResponsesCollected => Sys2Proof.Machine.execWarmResponsesCollected s
  | .awdtExpire => Sys2Proof.Machine.execAwdtExpire s
  | .awdtKick w => Sys2Proof.Machine.execAwdtKick w s
  | .regWrite r o w lanes => Sys2Proof.Machine.execRegWrite r o w lanes s
  | .sysrefEdge k n => Sys2Proof.Machine.execSysrefEdge k n s
  | .jesdLinkUp k t => Sys2Proof.Machine.execJesdLinkUp k t s
  | .frameLaunchDue p => Sys2Proof.Machine.execFrameLaunchDue p s
  | .standbySetFail => Sys2Proof.Machine.execStandbySetFail s
  | .standbySetGood => Sys2Proof.Machine.execStandbySetGood s
  | .eyeGapEnd q => Sys2Proof.Machine.execEyeGapEnd q s
  | .bootOrderRestart => Sys2Proof.Machine.execBootOrderRestart s

end Sys2Proof.Machine
end

