-- ==== Sys2Proof/Machine/Step.lean ====
section
/-! DEFINITION. One step: the command at the front of the queue, or with an empty queue one edge of TCLK. -/

namespace Sys2Proof.Machine

/-- One step. With no command waiting, time passes by one edge of TCLK (R364, R367; DESIGN CHOICE).
Log 1 (DESIGN CHOICE), 2 (DESIGN CHOICE), 3 (DESIGN CHOICE), 180 (DESIGN CHOICE), 181 (DESIGN CHOICE). -/
def step (s : State) : Host.Outcome State Fault Refusal :=
  match s.pending with
  | [] => .next { s with dev := s.dev.tclk }
  | c :: t => exec c { s with pending := t }

/-- The state with the command that a table word spells at the front of its queue. No row of the table gives bits, so no word
spells a command. Log 3 (DESIGN CHOICE). -/
def State.withFetchWord (s : State) (nbits w : Nat) : State :=
  match decodeTableWord nbits w with
  | some c => { s with pending := c :: s.pending }
  | none => s

end Sys2Proof.Machine
end

