-- ==== Sys2Proof/WellFormed.lean ====
section
/-! DEFINITION. Which terms of `Instr` are commands of the table: an instruction word is one of its row's (R217 to R220), a register
word commands what its row names, a number is in the range its field has. -/

namespace Sys2Proof
open Sys2Proof.Machine

/-- Whether a term is a command of the table. -/
def Instr.wf (i : Instr) : Bool :=
  match i with
  | .alu _ w => ib w 23 18 == 0
  | .alux _ w => ib w 23 18 == 1
  | .addi _ w => ib w 23 18 == 2
  | .andi _ w => ib w 23 18 == 3
  | .shi _ w => ib w 23 18 == 4
  | .movi _ w => ib w 23 18 == 5
  | .ldw _ w => ib w 23 18 == 6
  | .stw _ w => ib w 23 18 == 7
  | .palu _ w => ib w 23 18 == 8
  | .paddi _ w => ib w 23 18 == 9
  | .br _ w => ib w 23 18 == 10
  | .j _ w => ib w 23 18 == 11
  | .jr _ w => ib w 23 18 == 12 && iF w == 0
  | .jalr _ w => ib w 23 18 == 12 && iF w == 1
  | .csrr _ w => ib w 23 18 == 13 && iF w == 0
  | .csrw _ w => ib w 23 18 == 13 && iF w == 1
  | .csrs _ w => ib w 23 18 == 13 && iF w == 2
  | .csrc _ w => ib w 23 18 == 13 && iF w == 3
  | .ecall _ w => ib w 23 18 == 13 && iF w == 4
  | .eret _ w => ib w 23 18 == 13 && iF w == 5
  | .waitm _ w => ib w 23 18 == 13 && iF w == 6
  | .fenceW _ w => ib w 23 18 == 14 && iF w == 0
  | .fenceRw _ w => ib w 23 18 == 14 && iF w == 1
  | .fenceI _ w => ib w 23 18 == 14 && iF w == 2
  | .kop _ w => ib w 23 18 == 15
  | .vadd _ w => ib w 23 18 == 16
  | .vsub _ w => ib w 23 18 == 17
  | .vmul _ w => ib w 23 18 == 18
  | .vmulj _ w => ib w 23 18 == 19
  | .vmac _ w => ib w 23 18 == 20
  | .vmacj _ w => ib w 23 18 == 21
  | .vpow _ w => ib w 23 18 == 22
  | .vsel _ w => ib w 23 18 == 23
  | .vld _ w => ib w 23 18 == 24
  | .vst _ w => ib w 23 18 == 25
  | .vshi _ w => ib w 23 18 == 26
  | .vext _ w => ib w 23 18 == 27
  | .vcmp _ w => ib w 23 18 == 28
  | .vbc _ w => ib w 23 18 == 29
  | .li _ w _ => ib w 23 18 == 32
  | .lip _ w _ => ib w 23 18 == 33
  | .bcc _ w _ => ib w 23 18 == 34
  | .jmp _ w _ => ib w 23 18 == 35
  | .ldb _ w _ => ib w 23 18 == 36 && ib w 8 8 == 0
  | .stb _ w _ => ib w 23 18 == 36 && ib w 8 8 == 1
  | .vlds _ w _ => ib w 23 18 == 37
  | .vsts _ w _ => ib w 23 18 == 38
  | .vgath _ w _ => ib w 23 18 == 39
  | .vscat _ w _ => ib w 23 18 == 40
  | .vlog _ w _ => ib w 23 18 == 41
  | .varx _ w _ => ib w 23 18 == 42
  | .vcvt _ w _ => ib w 23 18 == 43
  | .vexp _ w e => ib w 23 18 == 44 && ib e 1 0 == 0
  | .vshlv _ w e => ib w 23 18 == 44 && ib e 1 0 == 1
  | .vshrv _ w e => ib w 23 18 == 44 && ib e 1 0 == 2
  | .vperm _ w _ => ib w 23 18 == 45
  | .aclr _ w e => ib w 23 18 == 46 && ib e 1 0 == 0
  | .ared _ w e => ib w 23 18 == 46 && ib e 1 0 == 1
  | .amov _ w e => ib w 23 18 == 46 && ib e 1 0 == 2
  | .vget _ w e => ib w 23 18 == 47 && ib e 4 4 == 0
  | .vput _ w e => ib w 23 18 == 47 && ib e 4 4 == 1
  | .bsend _ w _ => ib w 23 18 == 48
  | .qpop _ w e => ib w 23 18 == 49 && ib e 11 10 == 0
  | .qtry _ w e => ib w 23 18 == 49 && ib e 11 10 == 1
  | .qpush _ w e => ib w 23 18 == 49 && ib e 11 10 == 2
  | .cmxacq _ w e => ib w 23 18 == 52 && ib e 3 0 == 0
  | .cmxacqt _ w e => ib w 23 18 == 52 && ib e 3 0 == 1
  | .cmxrel _ w e => ib w 23 18 == 52 && ib e 3 0 == 2
  | .cmxsave _ w e => ib w 23 18 == 52 && ib e 3 0 == 3
  | .cmxrestore _ w e => ib w 23 18 == 52 && ib e 3 0 == 4
  | .cmxsync _ w e => ib w 23 18 == 52 && ib e 3 0 == 5
  | .cmxlerr _ w e => ib w 23 18 == 52 && ib e 3 0 == 6
  | .cmxput _ w _ => ib w 23 18 == 53
  | .cmxget _ w _ => ib w 23 18 == 54
  | .cmxShape _ w e => ib w 23 18 == 55 && ib e 23 20 == 0
  | .cmxCopy _ w e => ib w 23 18 == 55 && ib e 23 20 == 1
  | .cmxAdd _ w e => ib w 23 18 == 55 && ib e 23 20 == 2
  | .cmxSub _ w e => ib w 23 18 == 55 && ib e 23 20 == 3
  | .cmxMul _ w e => ib w 23 18 == 55 && ib e 23 20 == 4
  | .cmxChol _ w e => ib w 23 18 == 55 && ib e 23 20 == 5
  | .cmxTrsl _ w e => ib w 23 18 == 55 && ib e 23 20 == 6
  | .cmxInv _ w e => ib w 23 18 == 55 && ib e 23 20 == 7
  | .cmxQr _ w e => ib w 23 18 == 55 && ib e 23 20 == 8
  | .interruptTaken _ => true
  | .loadResponse _ => true
  | .storeResponse _ _ => true
  | .inboxBead _ => true
  | .waitWake _ => true
  | .rodRetainEntry _ => true
  | .cmxacqGrant _ => true
  | .qpopResume _ => true
  | .qpushResume _ => true
  | .cmxCommit _ => true
  | .rckRunWrite _ w => getF w Reg.RCK_CTL_RST_f == 0
  | .rckRst _ w => getF w Reg.RCK_CTL_RST_f == 1
  | .rckSoftSet _ w => getF w Reg.RCK_SOFT_SET_f == 1
  | .cmxRst _ w => getF w Reg.CMX_CTL_RST_f == 1
  | .cmxFrel _ w => getF w Reg.CMX_CTL_FREL_f == 1
  | .localMemInitDone _ => true
  | .lncGctlEnWrite _ => true
  | .listEnable _ w => getF w Reg.LNC_CTL_EN_f == 1
  | .listDisable _ w => getF w Reg.LNC_CTL_EN_f == 0
  | .launchInject => true
  | .fedEntryArrival _ => true
  | .launchHoldEnd => true
  | .counterClear o w => isCntLow o && w.toNat % 2 == 1
  | .jobArrival _ => true
  | .jobTake _ => true
  | .headDeadlineExpire _ => true
  | .slackWindowEnd => true
  | .avsStepAck => true
  | .avsStepTimeout => true
  | .pwrServoCtlWrite _ => true
  | .pwrVsetWrite _ => true
  | .pwrSlackPost _ => true
  | .spcJobEnd _ _ => true
  | .radJobEnd _ => true
  | .trbJobEnd _ => true
  | .trlJobEnd _ => true
  | .encJobEnd _ => true
  | .jesdLinkError _ _ _ _ => true
  | .subframeGainStep _ _ _ _ _ => true
  | .txSegmentRead _ _ _ => true
  | .ecpriMessageRx _ => true
  | .fhZeroFill _ _ _ n => decide (0 < n)
  | .oranUplaneRx _ _ => true
  | .oranSection3Rx _ _ => true
  | .fhTxMessage _ _ _ _ => true
  | .ecpriDelayRequest _ => true
  | .delayMeasureRequest _ => true
  | .delayMeasureAnswer _ => true
  | .delayMeasureTimeout _ => true
  | .nfBlockEnd _ _ _ _ _ => true
  | .nfStaleTimeout _ _ => true
  | .crossing _ _ _ _ _ _ => true
  | .syncCheck _ _ _ => true
  | .headerDecode _ => true
  | .pilotUpdate _ _ _ => true
  | .closingPilot _ => true
  | .instanceDecodeResult _ _ => true
  | .partnerEnded _ => true
  | .sicholdExpire _ => true
  | .ackRequestBead _ _ _ _ _ _ _ => true
  | .ackCutoff _ => true
  | .ackLaunch _ => true
  | .jnoticeRx _ => true
  | .jointElection _ => true
  | .jsampleRx _ => true
  | .jacceptRx _ => true
  | .jointWaitExpire _ => true
  | .carrierSearchDisable _ _ => true
  | .hostItemBead _ h => decide (h.carrier < 512) && decide (h.item ≤ 5) && decide (h.rnti < 65536)
  | .carrierStatusBead carrier _ => decide (carrier < 512)
  | .memRequest _ => true
  | .pageDecodeEnd _ => true
  | .scrubStep => true
  | .scrubCtlWrite _ => true
  | .reencodeCmd w => getF w Reg.PGC_RECMD_GO_f == 1
  | .reencodePage => true
  | .remapCmd w => getF w Reg.PGC_REMAP_GO_f == 1
  | .flipArm w => getF w Reg.PGC_FLIP_MASK_ARM_f == 1
  | .flushCmd w => getF w Reg.MEM_FLUSH_GO_f == 1
  | .flushDone => true
  | .memInitDone => true
  | .dmaStart _ _ _ w => getF w Reg.DMA_CTL_START_f == 1 && getF w Reg.DMA_CTL_LOAD_f == 0
  | .dmaStartLoad _ _ _ w => getF w Reg.DMA_CTL_START_f == 1 && getF w Reg.DMA_CTL_LOAD_f == 1
  | .dmaStop _ _ _ w => getF w Reg.DMA_CTL_STOP_f == 1
  | .dmaDescLoaded _ _ => true
  | .dmaBeatIssue _ _ => true
  | .dmaReadResponse _ _ _ _ => true
  | .dmaWriteResponse _ _ _ _ => true
  | .dmaRemoteTimeout _ _ _ => true
  | .queueBeadRx _ => true
  | .queReset _ => true
  | .stcFullLoad w => getF w Reg.STC_CMD_GO_f == 1 && getF w Reg.STC_CMD_OP_f == 0
  | .stcSliceLoad w => getF w Reg.STC_CMD_GO_f == 1 && getF w Reg.STC_CMD_OP_f == 1
  | .stcVerifyEnd => true
  | .stcApplyEnd => true
  | .stcDrainack _ w => getF w Reg.STC_DRAINACK_ACK_f == 1
  | .stcDrainTimeout => true
  | .stcFence _ w => getF w Reg.STC_FENCE_GO_f == 1
  | .timCmdSet _ => true
  | .timCmdSetpps _ => true
  | .timCmdStep _ => true
  | .timCmdSlew _ => true
  | .timCmdCancel _ => true
  | .slewEnd => true
  | .timIncCommit _ _ => true
  | .timMultChange _ _ => true
  | .timValidWrite _ _ => true
  | .refLoss => true
  | .refRelock hz => decide (10000000 ≤ hz) && decide (hz ≤ 156250000)
  | .ppsInEdge _ _ _ => true
  | .ppsInTimeout => true
  | .ppsOutPulse => true
  | .compareDue _ => true
  | .compareTargetCommit _ _ => true
  | .tlyArm w => getF w Reg.TLY_AT_NSH_ARM_f == 1
  | .tlyTargetDue => true
  | .tlyComplete => true
  | .eventAccept => true
  | .evtTailAdvance _ => true
  | .portLinkChange _ _ _ _ _ => true
  | .frameReceived _ l _ _ _ _ => l.all fun x => decide (x < 256)
  | .egressSelect _ => true
  | .frameTxEnd _ _ => true
  | .gateIntervalEnd _ => true
  | .gclSubmit _ w => getF w Reg.BRG_GCLCTL_PEND_f == 1
  | .gclChange _ => true
  | .shaperRefill _ => true
  | .txframeBead _ => true
  | .beadToHost _ => true
  | .beadFrameHoldExpire _ => true
  | .fdbRead w => getF w Reg.BRG_FDBCMD_GO_f == 1 && getF w Reg.BRG_FDBCMD_OP_f == 0
  | .fdbWrite w => getF w Reg.BRG_FDBCMD_GO_f == 1 && getF w Reg.BRG_FDBCMD_OP_f == 1
  | .fdbDelete w => getF w Reg.BRG_FDBCMD_GO_f == 1 && getF w Reg.BRG_FDBCMD_OP_f == 2
  | .fdbFlush w => getF w Reg.BRG_FDBCMD_GO_f == 1 && getF w Reg.BRG_FDBCMD_OP_f == 3
  | .fdbAgeOut vid mac => decide (vid < 4096) && decide (mac < 2 ^ 48)
  | .laneRetrain _ w => getF w Reg.LAN_LCTL_RETRAIN_f == 1
  | .laneTrainDone _ => true
  | .laneRst _ w => getF w Reg.LAN_LCTL_RST_f == 1
  | .laneAlign _ => true
  | .laneAlignLoss _ => true
  | .portDeskew _ _ => true
  | .laneMarkerRx _ _ _ => true
  | .quadRefLoss _ => true
  | .quadRefReturn _ hz => decide (99990000 ≤ hz) && decide (hz ≤ 250025000)
  | .laneLockLoss _ => true
  | .laneSignalDetect _ => true
  | .laneExitTimeout _ => true
  | .eyeGo _ w => getF w Reg.LAN_EYE_GO_f == 1
  | .eyePointEnd _ _ _ => true
  | .spareGo _ w => getF w Reg.LAN_SPARE_GO_f == 1
  | .spareAuto _ => true
  | .cellRx _ _ _ => true
  | .idleCellTimer _ => true
  | .replayTimeout _ => true
  | .portDownTimeout _ => true
  | .helloTimer _ => true
  | .helloRx _ _ => true
  | .lsaTimer => true
  | .lsaRx _ => true
  | .numberTimer => true
  | .numberRx _ => true
  | .routeWrite _ _ => true
  | .routeSettleEnd _ => true
  | .beadRoute _ => true
  | .regrd _ => true
  | .regwr _ => true
  | .memrd _ => true
  | .memwr _ => true
  | .bcastRx _ _ => true
  | .tsyncTimer _ => true
  | .tsyncRx _ _ => true
  | .poolcmdTally _ => true
  | .poolcmdColdReset _ => true
  | .modeEntry => true
  | .modeCommit _ => true
  | .pwrEntryTimeout _ => true
  | .pwrGrpcmd w => getF w Reg.PWR_GRPCMD_GO_f == 1
  | .padRelease w => getF w Reg.PWR_PAD_RELEASE_GO_f == 1
  | .wakeNRequest => true
  | .wakeRetryTimer => true
  | .wakePgRise _ => true
  | .wakeRegTimeout => true
  | .wakeSettleEnd => true
  | .wakeOscTimeout => true
  | .wakeDomainsUp _ => true
  | .railLow _ _ => true
  | .supSwback w => getF w Reg.SUP_CTL_SWBACK_f == 1
  | .supSwtest w => getF w Reg.SUP_CTL_SWTEST_f == 1
  | .supEnableWrite _ => true
  | .brownout => true
  | .avsReadbackTimer _ _ _ _ => true
  | .avsAlert _ => true
  | .secSelftestEnd _ => true
  | .bootImageFetched _ => true
  | .hostwaitExpire => true
  | .bootreqTimer => true
  | .bootgo _ => true
  | .secBootok _ w => getF w Reg.SEC_BOOTOK_OK_f == 1
  | .bootWdtExpire => true
  | .cmdWriteSlot _ w => getF w Reg.SEC_CMD_GO_f == 1 && getF w Reg.SEC_CMD_OP_f == 0
  | .cmdRevoke _ w => getF w Reg.SEC_CMD_GO_f == 1 && getF w Reg.SEC_CMD_OP_f == 0
  | .cmdAdvance _ w => getF w Reg.SEC_CMD_GO_f == 1 && getF w Reg.SEC_CMD_OP_f == 0
  | .cmdLifecycle _ w => getF w Reg.SEC_CMD_GO_f == 1 && getF w Reg.SEC_CMD_OP_f == 0
  | .cmdDebug _ w => getF w Reg.SEC_CMD_GO_f == 1 && getF w Reg.SEC_CMD_OP_f == 0
  | .cmdPolicy _ w => getF w Reg.SEC_CMD_GO_f == 1 && getF w Reg.SEC_CMD_OP_f == 0
  | .cmdScrap _ w => getF w Reg.SEC_CMD_GO_f == 1 && getF w Reg.SEC_CMD_OP_f == 0
  | .secAttest _ w => getF w Reg.SEC_CMD_GO_f == 1 && getF w Reg.SEC_CMD_OP_f == 1
  | .secFetch _ w _ => getF w Reg.SEC_CMD_GO_f == 1 && getF w Reg.SEC_CMD_OP_f == 2
  | .sakInstall _ w => getF w Reg.SEC_CMD_GO_f == 1 && getF w Reg.SEC_CMD_OP_f == 3
  | .sessionOpen _ _ => true
  | .sessionAccept _ _ _ _ _ _ => true
  | .sessionClose _ _ => true
  | .sessionBead _ => true
  | .tamperDetect _ => true
  | .vstbyRise _ => true
  | .resetNLow => true
  | .resetNRelease => true
  | .rstCmdWarm _ w => getF w Reg.RST_CMD_GO_f == 1 && getF w Reg.RST_CMD_CLASS_f == 0
  | .rstCmdCold _ w => getF w Reg.RST_CMD_GO_f == 1 && getF w Reg.RST_CMD_CLASS_f == 1
  | .rstCmdUnit _ w => getF w Reg.RST_CMD_GO_f == 1 && getF w Reg.RST_CMD_CLASS_f == 2
  | .warmResponsesCollected => true
  | .awdtExpire => true
  | .awdtKick w => getF w Reg.RST_AWDT_KICK_f == 1
  | .regWrite _ o _ _ => decide (o < 0x10000000)
  | .sysrefEdge _ _ => true
  | .jesdLinkUp _ _ => true
  | .frameLaunchDue _ => true
  | .standbySetFail => true
  | .standbySetGood => true
  | .eyeGapEnd _ => true
  | .bootOrderRestart => true

/-- The opcode with its length bit, [23:18], and the value of the field that tells the rows of one opcode apart (R218 to R220, R233,
R253, R254). -/
def rowKey (w e : Word) : Nat × Nat :=
  let op := ib w 23 18
  (op, match op with
    | 12 => iF w
    | 13 => iF w
    | 14 => iF w
    | 36 => ib w 8 8
    | 44 => ib e 1 0
    | 46 => ib e 1 0
    | 47 => ib e 4 4
    | 49 => ib e 11 10
    | 52 => ib e 3 0
    | 55 => ib e 23 20
    | _ => 0)

/-- The words of an instruction; a one-word instruction has no second word. -/
def Instr.words (i : Instr) : Option (Word × Word) :=
  match i with
  | .alu _ w => some (w, 0)
  | .alux _ w => some (w, 0)
  | .addi _ w => some (w, 0)
  | .andi _ w => some (w, 0)
  | .shi _ w => some (w, 0)
  | .movi _ w => some (w, 0)
  | .ldw _ w => some (w, 0)
  | .stw _ w => some (w, 0)
  | .palu _ w => some (w, 0)
  | .paddi _ w => some (w, 0)
  | .br _ w => some (w, 0)
  | .j _ w => some (w, 0)
  | .jr _ w => some (w, 0)
  | .jalr _ w => some (w, 0)
  | .csrr _ w => some (w, 0)
  | .csrw _ w => some (w, 0)
  | .csrs _ w => some (w, 0)
  | .csrc _ w => some (w, 0)
  | .ecall _ w => some (w, 0)
  | .eret _ w => some (w, 0)
  | .waitm _ w => some (w, 0)
  | .fenceW _ w => some (w, 0)
  | .fenceRw _ w => some (w, 0)
  | .fenceI _ w => some (w, 0)
  | .kop _ w => some (w, 0)
  | .vadd _ w => some (w, 0)
  | .vsub _ w => some (w, 0)
  | .vmul _ w => some (w, 0)
  | .vmulj _ w => some (w, 0)
  | .vmac _ w => some (w, 0)
  | .vmacj _ w => some (w, 0)
  | .vpow _ w => some (w, 0)
  | .vsel _ w => some (w, 0)
  | .vld _ w => some (w, 0)
  | .vst _ w => some (w, 0)
  | .vshi _ w => some (w, 0)
  | .vext _ w => some (w, 0)
  | .vcmp _ w => some (w, 0)
  | .vbc _ w => some (w, 0)
  | .li _ w e => some (w, e)
  | .lip _ w e => some (w, e)
  | .bcc _ w e => some (w, e)
  | .jmp _ w e => some (w, e)
  | .ldb _ w e => some (w, e)
  | .stb _ w e => some (w, e)
  | .vlds _ w e => some (w, e)
  | .vsts _ w e => some (w, e)
  | .vgath _ w e => some (w, e)
  | .vscat _ w e => some (w, e)
  | .vlog _ w e => some (w, e)
  | .varx _ w e => some (w, e)
  | .vcvt _ w e => some (w, e)
  | .vexp _ w e => some (w, e)
  | .vshlv _ w e => some (w, e)
  | .vshrv _ w e => some (w, e)
  | .vperm _ w e => some (w, e)
  | .aclr _ w e => some (w, e)
  | .ared _ w e => some (w, e)
  | .amov _ w e => some (w, e)
  | .vget _ w e => some (w, e)
  | .vput _ w e => some (w, e)
  | .bsend _ w e => some (w, e)
  | .qpop _ w e => some (w, e)
  | .qtry _ w e => some (w, e)
  | .qpush _ w e => some (w, e)
  | .cmxacq _ w e => some (w, e)
  | .cmxacqt _ w e => some (w, e)
  | .cmxrel _ w e => some (w, e)
  | .cmxsave _ w e => some (w, e)
  | .cmxrestore _ w e => some (w, e)
  | .cmxsync _ w e => some (w, e)
  | .cmxlerr _ w e => some (w, e)
  | .cmxput _ w e => some (w, e)
  | .cmxget _ w e => some (w, e)
  | .cmxShape _ w e => some (w, e)
  | .cmxCopy _ w e => some (w, e)
  | .cmxAdd _ w e => some (w, e)
  | .cmxSub _ w e => some (w, e)
  | .cmxMul _ w e => some (w, e)
  | .cmxChol _ w e => some (w, e)
  | .cmxTrsl _ w e => some (w, e)
  | .cmxInv _ w e => some (w, e)
  | .cmxQr _ w e => some (w, e)
  | _ => none

/-- The key of a row that has an instruction word. -/
def Instr.key (i : Instr) : Option (Nat × Nat) :=
  match i with
  | .alu .. => some (0, 0)
  | .alux .. => some (1, 0)
  | .addi .. => some (2, 0)
  | .andi .. => some (3, 0)
  | .shi .. => some (4, 0)
  | .movi .. => some (5, 0)
  | .ldw .. => some (6, 0)
  | .stw .. => some (7, 0)
  | .palu .. => some (8, 0)
  | .paddi .. => some (9, 0)
  | .br .. => some (10, 0)
  | .j .. => some (11, 0)
  | .jr .. => some (12, 0)
  | .jalr .. => some (12, 1)
  | .csrr .. => some (13, 0)
  | .csrw .. => some (13, 1)
  | .csrs .. => some (13, 2)
  | .csrc .. => some (13, 3)
  | .ecall .. => some (13, 4)
  | .eret .. => some (13, 5)
  | .waitm .. => some (13, 6)
  | .fenceW .. => some (14, 0)
  | .fenceRw .. => some (14, 1)
  | .fenceI .. => some (14, 2)
  | .kop .. => some (15, 0)
  | .vadd .. => some (16, 0)
  | .vsub .. => some (17, 0)
  | .vmul .. => some (18, 0)
  | .vmulj .. => some (19, 0)
  | .vmac .. => some (20, 0)
  | .vmacj .. => some (21, 0)
  | .vpow .. => some (22, 0)
  | .vsel .. => some (23, 0)
  | .vld .. => some (24, 0)
  | .vst .. => some (25, 0)
  | .vshi .. => some (26, 0)
  | .vext .. => some (27, 0)
  | .vcmp .. => some (28, 0)
  | .vbc .. => some (29, 0)
  | .li .. => some (32, 0)
  | .lip .. => some (33, 0)
  | .bcc .. => some (34, 0)
  | .jmp .. => some (35, 0)
  | .ldb .. => some (36, 0)
  | .stb .. => some (36, 1)
  | .vlds .. => some (37, 0)
  | .vsts .. => some (38, 0)
  | .vgath .. => some (39, 0)
  | .vscat .. => some (40, 0)
  | .vlog .. => some (41, 0)
  | .varx .. => some (42, 0)
  | .vcvt .. => some (43, 0)
  | .vexp .. => some (44, 0)
  | .vshlv .. => some (44, 1)
  | .vshrv .. => some (44, 2)
  | .vperm .. => some (45, 0)
  | .aclr .. => some (46, 0)
  | .ared .. => some (46, 1)
  | .amov .. => some (46, 2)
  | .vget .. => some (47, 0)
  | .vput .. => some (47, 1)
  | .bsend .. => some (48, 0)
  | .qpop .. => some (49, 0)
  | .qtry .. => some (49, 1)
  | .qpush .. => some (49, 2)
  | .cmxacq .. => some (52, 0)
  | .cmxacqt .. => some (52, 1)
  | .cmxrel .. => some (52, 2)
  | .cmxsave .. => some (52, 3)
  | .cmxrestore .. => some (52, 4)
  | .cmxsync .. => some (52, 5)
  | .cmxlerr .. => some (52, 6)
  | .cmxput .. => some (53, 0)
  | .cmxget .. => some (54, 0)
  | .cmxShape .. => some (55, 0)
  | .cmxCopy .. => some (55, 1)
  | .cmxAdd .. => some (55, 2)
  | .cmxSub .. => some (55, 3)
  | .cmxMul .. => some (55, 4)
  | .cmxChol .. => some (55, 5)
  | .cmxTrsl .. => some (55, 6)
  | .cmxInv .. => some (55, 7)
  | .cmxQr .. => some (55, 8)
  | _ => none

end Sys2Proof
end

