-- ==== Sys2Proof/Safety.lean ====
section
/-! DEFINITION. The terms in which statements speak of a run: a core that takes its next instruction, what lies outside a core, and
the states in which a command has its own effect. -/

namespace Sys2Proof.Machine

/-- The device once core `n` has fetched the `len` words at its PC; none when one of them has a double-bit error (R205, R206).
Log 14 (DESIGN CHOICE). -/
def Dev.fetched (s : Dev) (n len : Nat) : Option Dev :=
  match s.lmRead n (s.core n).pc with
  | (none, _) => none
  | (some _, d) =>
    if len = 2 then
      match d.lmRead n ((s.core n).pc + 1) with
      | (none, _) => none
      | (some _, e) => some (e.onCore n fun c => { c with len := len })
    else some (d.onCore n fun c => { c with len := len })

/-- Core `n` takes its next instruction, of `len` words: it issues (R249), has decoded nothing ahead (R261), the fetch succeeds and leaves the device `d`. -/
def Dev.takes (s : Dev) (n len : Nat) (d : Dev) : Prop :=
  s.issues n = true ∧ (s.core n).ahead = [] ∧ s.fetched n len = some d

/-- A vector instruction outside the memory group may run on core `n`: a Reckoner with VSTART = 0 and, where the element type
matters, a valid one (R207, R226, R246). -/
def Dev.vecOk (s : Dev) (n : Nat) (typed : Bool) : Prop :=
  n ≠ 112 ∧ (s.core n).vstart = 0 ∧ (typed = true → (s.core n).et ≠ 3)

/-- Core `n` may use its rod's CMX: a Reckoner whose CMX is in service and whose lock it holds (R257, R258). -/
def Dev.cmxMine (s : Dev) (n : Nat) : Prop := n ≠ 112 ∧ s.cmxAvail (n / 8) = true ∧ s.cmxOwns n = true

/-- No core of rod `r` waits for its CMX to drain or to have room, or has decoded anything ahead (R236, R257, R261). -/
def Dev.cmxQuiet (s : Dev) (r : Nat) : Prop :=
  ∀ i, i < 8 → (s.core (r * 8 + i)).ahead = [] ∧
    match (s.core (r * 8 + i)).hold with
    | some .cmxRel => False
    | some .cmxSync => False
    | some (.cmxSave _) => False
    | some (.cmxRestore _) => False
    | some (.cmxRoom _) => False
    | _ => True

/-- Nothing of the device but the cores, their registers' words, error marks of local memory, the CMXs, the events and the
free-value count differs: what a register-only instruction may touch. -/
def Dev.sameBeside (s t : Dev) : Prop :=
  t = { s with cores := t.cores, regs := t.regs, lmErr := t.lmErr, cmx := t.cmx, evq := t.evq, tail := t.tail, fresh := t.fresh }

/-- `t` is the device right after a C reset of `s` with a cause code and a source device: time 0, power-up begun, the record of R534
written, OTP and the boot record kept, no bead, no event and no core's state left (R526, R528, R534, R536). -/
def Dev.coldFrom (s t : Dev) (code src : Nat) : Prop :=
  t.time = 0 ∧ t.elapsed = s.elapsed ∧ t.net = [] ∧ t.evq = [] ∧ t.cores = [] ∧ t.queues = [] ∧ t.sec.otp = s.sec.otp ∧
    t.sec.stage = 0 ∧ t.sec.sessions = [] ∧ (∃ w, t.pwr.wake = some w ∧ w.source = .power code) ∧
    t.rget Reg.RST_CAUSE = word (2 ^ 21 + code * 2 ^ 16 + src % 1024) ∧ t.rget Reg.RST_PREV = s.rget Reg.RST_CAUSE ∧
    t.rget Reg.RST_TIME_S = word (secOf s.time) ∧ t.get48 Reg.RST_CCNT_LO = min (s.get48 Reg.RST_CCNT_LO + 1) (2 ^ 48 - 1) ∧
    t.arb.nextSeq = s.arb.nextSeq ∧ (∀ d, t.dom d = if d < 212 then .off else domReset d)

/-! ### The filters of the sample front end (R102, R103) -/

/-- Edges in Hz of the passband and the stopband of a stream kind (R102). -/
def passStop (kind : Nat) : Nat × Nat :=
  match kind with
  | 0 => (90000, 110000) | 1 => (540000, 700000) | 2 => (1350000, 1550000) | 3 => (2250000, 2550000) | _ => (100000, 120000)

/-- `p` is the power at frequency `f` (Hz) of the response of the taps `h` at the times `ds`, of which `units` make a second. -/
def powerAt (h : Int → Int) (ds : List Int) (units : ℕ) (f p : ℝ) : Prop :=
  p = ((ds.map fun d => (h d : ℝ) * Real.cos (2 * Real.pi * f * d / units)).sum) ^ 2 +
    ((ds.map fun d => (h d : ℝ) * Real.sin (2 * Real.pi * f * d / units)).sum) ^ 2

/-- The mask of a stream kind: ripple of at most 0.1 dB in the passband, 70 dB between it and the stopband, at frequencies within
`half` of 0 (R102, R103). -/
def inMask (kind : Nat) (h : Int → Int) (ds : List Int) (units half : ℕ) : Prop :=
  ∀ f g p q : ℝ, powerAt h ds units f p → powerAt h ds units g q → 0 < p → |f| ≤ (passStop kind).1 → |g| ≤ half →
    (|g| ≤ (passStop kind).1 → q ≤ p * (10 : ℝ) ^ (0.01 : ℝ)) ∧ ((passStop kind).2 ≤ |g| → q * 10 ^ 7 ≤ p)

/-- The filters that R102 and R103 allow: in every stream kind, converter rate and phase of the converter's samples against the
stream's, the taps met by one output lie within the mask; so do those of an SBA stream from eCPRI. A statement that holds for all
taps holds for these. Log 188 (DESIGN CHOICE). -/
def filtersFit : Prop :=
  (∀ kind kr phase, kind < 5 → 1 ≤ kr → kr ≤ 128 → phase < 1000000 * samplesPerMs kind →
    inMask kind (Config.chanTap kind kr)
      (((List.range (2 * Config.chanSpan kind kr + 1)).map fun d => (d : Int) - Config.chanSpan kind kr).filter
        fun d => (d - phase) % (1000000 * samplesPerMs kind : Nat) == 0)
      (1000000000 * chainUnit kr (samplesPerMs kind)) (kr * 1920000)) ∧
  inMask 4 Config.sbaTap ((List.range (2 * Config.sbaSpan + 1)).map fun d => (d : Int) - Config.sbaSpan) 400000 200000

/-- The framing, serial and nonce of the signed command in the buffer of SEC_CMD are right and the island's check passes (R505 to
R507): `h` is its header, `ws` its words, `d` the device after reading them. -/
def Dev.cmdReady (s d : Dev) (h ws : List Word) (kind : Nat) : Prop :=
  let w (i : Nat) : Nat := (h.getD i 0).toNat
  let blen := bits (w 2) 11 0
  bits (w 2) 23 20 = kind ∧
    (∃ ok1 ok2 e, s.memReadN s.cmdBuf 16 = (h, ok1, e) ∧ e.memReadN s.cmdBuf (16 + blen + manifestLen) = (ws, ok2, d)) ∧
    cmdFramed h ws = true ∧ w 6 + w 7 * 2 ^ 24 + w 8 % 2 ^ 16 * 2 ^ 48 = d.serial ∧ w 9 + w 10 * 2 ^ 24 = d.sec.nonce ∧
    d.cmdVerdict kind (w 11) ws blen = 0

end Sys2Proof.Machine
end

