-- ==== Sys2Proof/Certificates/Slice0/Obligations.lean ====
section
/-! DEFINITION. The statements about the device. A clause about a command concludes with the next state that `exec` answers. -/

open Sys2Proof Sys2Proof.Machine

/-! ### The machine as a whole -/

/-- A step runs the command at the front of the queue, on the queue's rest (the model's queue; 00_scope.md). Model's choice in part:
log 2. -/
def Obligations.StepRunsFront : Prop :=
  ∀ (c : Instr) (t : List Instr) (d : Dev), step ⟨c :: t, d⟩ = exec c ⟨t, d⟩

/-- Every command answers a next state and leaves the queue as it was: no fault, no refusal. As many steps as commands wait empty
the queue. Model's choice in part: log 4. -/
def Obligations.MachineAnswers : Prop :=
  (∀ (i : Instr) (s : State), ∃ d, exec i s = .next { s with dev := d }) ∧
  (∀ s : State, ∃ t, Host.Core.run core s.pending.length s = .next t ∧ t.pending = [])

/-- With no command waiting, one step is one edge of TCLK: time and elapsed time grow by the same amount, which is the INC in force
unless a slew is in progress and stays within 1,000 ppm of it; a committed INC comes into force at the edge (R366, R367, R372;
that such a step is an edge is the model's choice). Model's choice in part: log 1. -/
def Obligations.EmptyStepTicks : Prop :=
  ∀ d : Dev, ∃ e a n, step ⟨[], d⟩ = .next ⟨[], e⟩ ∧ e.elapsed = d.elapsed + a ∧ e.time = (d.time + a) % timeMod ∧ e.inc = n ∧
    (d.tim.incNext = none → n = d.inc) ∧
    (∀ lo hi, d.tim.incNext = some (lo, hi) → n = lo.toNat + hi.toNat * 2 ^ 24) ∧
    (d.tim.rem = 0 → a = n) ∧ (a : Int) - n = d.tim.rem - e.tim.rem ∧ ((a : Int) - n).natAbs * 1000000 ≤ n * 1000

/-- Two well-formed commands with the same instruction words belong to the same row of the table (R217 to R220). -/
def Obligations.RowsDisjoint : Prop :=
  ∀ (i j : Instr) (x : Word × Word), i.wf = true → j.wf = true → i.words = some x → j.words = some x → i.key = j.key

/-! ### Reckoner cores: scalar, pointer, predicate and branch instructions -/

/-- ALU, ALUX, ADDI, ANDI, SHI, MOVI and LI write g_d and complete (R219, R220). SHI by 24 to 31 writes a free value. PALU, PADDI,
LIP and KOP write the pointer, scalar or mask register of their row and complete (R219, R220). The results of ALU: modulo 2^24,
shifts by g_b[4:0], a shift of 24 or more gives 0 or the sign fill (R219). The results of ALUX: saturated sum and difference,
the halves of the product, comparisons, leading zeros (R219). Model's choices in part: log 14, 17. -/
def Obligations.ScalarInstructions : Prop :=
  (∀ (c : Fin 113) (w e : Word) (s : State) (d : Dev),
     (s.dev.takes c 1 d →
       ((Instr.alu c w).wf = true →
         exec (.alu c w) s = .next { s with dev := d.onCore c fun k =>
           (k.gw (iD w) (aluOp (iF w) (k.gr (iA w)) (k.gr (iB w)))).done 1 }) ∧
       ((Instr.alux c w).wf = true → (iF w = 7 → iB w = 0) →
         exec (.alux c w) s = .next { s with dev := d.onCore c fun k =>
           (k.gw (iD w) (aluxOp (iF w) (k.gr (iA w)) (k.gr (iB w)))).done 1 }) ∧
       ((Instr.addi c w).wf = true →
         exec (.addi c w) s = .next { s with dev := d.onCore c fun k => (k.gw (iD w) (k.gr (iA w) + wordI (iImm w))).done 1 }) ∧
       ((Instr.andi c w).wf = true →
         exec (.andi c w) s = .next { s with dev := d.onCore c fun k => (k.gw (iD w) (k.gr (iA w) &&& wordI (iImm w))).done 1 }) ∧
       ((Instr.shi c w).wf = true → ib w 5 5 = 0 → ib w 4 0 < 24 →
         exec (.shi c w) s = .next { s with dev := d.onCore c fun k =>
           (k.gw (iD w) (match ib w 7 6 with
             | 0 => k.gr (iA w) <<< ib w 4 0
             | 1 => k.gr (iA w) >>> ib w 4 0
             | 2 => (k.gr (iA w)).sshiftRight (ib w 4 0)
             | _ => (k.gr (iA w)).rotateRight (ib w 4 0))).done 1 }) ∧
       ((Instr.shi c w).wf = true → ib w 5 5 = 0 → 24 ≤ ib w 4 0 →
         exec (.shi c w) s = .next { s with dev := ({ d with fresh := d.fresh + 1 }).onCore c fun k =>
           (k.gw (iD w) (word (Config.free d.fresh))).done 1 }) ∧
       ((Instr.movi c w).wf = true →
         exec (.movi c w) s = .next { s with dev := d.onCore c fun k => (k.gw (iD w) (wordI (sx 13 (ib w 12 0)))).done 1 })) ∧
     (s.dev.takes c 2 d → (Instr.li c w e).wf = true →
       exec (.li c w e) s = .next { s with dev := d.onCore c fun k => (k.gw (iD w) e).done 2 })) ∧
  (∀ (c : Fin 113) (w e : Word) (s : State) (d : Dev),
     (s.dev.takes c 1 d →
       ((Instr.palu c w).wf = true → paluIll w = false →
         exec (.palu c w) s = .next { s with dev := d.onCore c fun k => (match iF w with
           | 0 => k.pw (iD w) (k.pr (iA w) + (k.gr (iB w)).signExtend 32)
           | 1 => k.gw (iD w) (wordI (satW 24 (((k.pr (iA w)).toNat : Int) - (k.pr (iB w)).toNat)).1)
           | 2 => k.pw (iD w) (BitVec.ofNat 32 (putBits (k.pr (iD w)).toNat 23 0 (k.gr (iA w)).toNat))
           | 3 => k.pw (iD w) (BitVec.ofNat 32 (putBits (k.pr (iD w)).toNat 31 24 (k.gr (iA w)).toNat))
           | 4 => k.gw (iD w) (word (k.pr (iA w)).toNat)
           | 5 => k.gw (iD w) (word (bits (k.pr (iA w)).toNat 31 24))
           | _ => k.pw (iD w) (k.pr (iA w))).done 1 }) ∧
       ((Instr.paddi c w).wf = true → iD w < 16 → iA w < 16 →
         exec (.paddi c w) s = .next { s with dev := d.onCore c fun k =>
           (k.pw (iD w) (k.pr (iA w) + BitVec.ofInt 32 (iImm w))).done 1 }) ∧
       ((Instr.kop c w).wf = true → kopIll w = false →
         exec (.kop c w) s = .next { s with dev := d.onCore c fun k => (match iF w with
           | 0 => k.kw (iD w) (k.kr (iA w) &&& k.kr (iB w))
           | 1 => k.kw (iD w) (k.kr (iA w) ||| k.kr (iB w))
           | 2 => k.kw (iD w) (k.kr (iA w) ^^^ k.kr (iB w))
           | 3 => k.kw (iD w) (k.kr (iA w) &&& ~~~k.kr (iB w))
           | 4 => k.kw (iD w) (BitVec.ofNat 16 (k.gr (iA w)).toNat)
           | 5 => k.gw (iD w) (word (k.kr (iA w)).toNat)
           | 6 => k.gw (iD w) (word (((List.range 16).find? fun i => bits (k.kr (iA w)).toNat i i == 1).getD 16))
           | _ => k.gw (iD w) (word (popcount16 (k.kr (iA w))))).done 1 })) ∧
     (s.dev.takes c 2 d → (Instr.lip c w e).wf = true → iD w < 16 → iA w = 0 →
       exec (.lip c w e) s = .next { s with dev := d.onCore c fun k =>
         (k.pw (iD w) (BitVec.ofNat 32 (ib w 7 0 * 2 ^ 24 + e.toNat))).done 2 })) ∧
  (∀ x y : Word,
     (aluOp 0 x y).toNat = (x.toNat + y.toNat) % 2 ^ 24 ∧
     (aluOp 1 x y).toNat = (x.toNat + 2 ^ 24 - y.toNat) % 2 ^ 24 ∧
     (∀ i, (aluOp 2 x y).getLsbD i = (x.getLsbD i && y.getLsbD i)) ∧
     (∀ i, (aluOp 3 x y).getLsbD i = (x.getLsbD i || y.getLsbD i)) ∧
     (∀ i, (aluOp 4 x y).getLsbD i = (x.getLsbD i ^^ y.getLsbD i)) ∧
     (aluOp 5 x y).toNat = x.toNat * 2 ^ (y.toNat % 32) % 2 ^ 24 ∧
     (aluOp 6 x y).toNat = x.toNat / 2 ^ (y.toNat % 32) ∧
     (aluOp 7 x y).toInt = x.toInt.fdiv (2 ^ (y.toNat % 32)) ∧
     (24 ≤ y.toNat % 32 → aluOp 5 x y = 0 ∧ aluOp 6 x y = 0 ∧ aluOp 7 x y = if x.toInt < 0 then -1 else 0)) ∧
  (∀ x y : Word,
     (aluxOp 0 x y).toInt = max (-(2 ^ 23)) (min (2 ^ 23 - 1) (x.toInt + y.toInt)) ∧
     (aluxOp 1 x y).toInt = max (-(2 ^ 23)) (min (2 ^ 23 - 1) (x.toInt - y.toInt)) ∧
     (aluxOp 4 x y).toNat * 2 ^ 24 + (aluxOp 2 x y).toNat = x.toNat * y.toNat ∧
     (aluxOp 3 x y).toInt * 2 ^ 24 + (aluxOp 2 x y).toNat = x.toInt * y.toInt ∧
     (aluxOp 5 x y = if x.toInt < y.toInt then 1 else 0) ∧
     (aluxOp 6 x y = if x.toNat < y.toNat then 1 else 0) ∧
     (aluxOp 7 x y).toNat ≤ 24 ∧ x.toNat < 2 ^ (24 - (aluxOp 7 x y).toNat) ∧
     (x ≠ 0 → 2 ^ (23 - (aluxOp 7 x y).toNat) ≤ x.toNat))

/-- BR, J, JR, JALR, BCC and JMP: displacements count from the branch itself, a link is the address of the next instruction, and
an untaken branch goes on after it (R219, R220, R222). -/
def Obligations.BranchComplete : Prop :=
  ∀ (c : Fin 113) (w e : Word) (s : State) (d : Dev),
    (s.dev.takes c 1 d →
      ((Instr.br c w).wf = true → (6 ≤ ib w 12 10 → iD w < 8) →
        exec (.br c w) s = .next { s with dev := d.onCore c fun k =>
          if (match ib w 12 10 with
            | 0 => k.gr (iD w) == 0
            | 1 => k.gr (iD w) != 0
            | 2 => decide ((k.gr (iD w)).toInt < 0)
            | 3 => decide ((k.gr (iD w)).toInt ≥ 0)
            | 4 => decide ((k.gr (iD w)).toInt > 0)
            | 5 => decide ((k.gr (iD w)).toInt ≤ 0)
            | 6 => k.kr (iD w) != 0
            | _ => k.kr (iD w) == 0) then k.goto (k.pc + sx 10 (ib w 9 0)) else k.done 1 }) ∧
      ((Instr.j c w).wf = true →
        exec (.j c w) s = .next { s with dev := d.onCore c fun k =>
          (if ib w 17 17 = 1 then k.gw 31 (word ((k.pc + 1) % 2 ^ 16)) else k).goto (k.pc + sx 17 (ib w 16 0)) }) ∧
      ((Instr.jr c w).wf = true →
        exec (.jr c w) s = .next { s with dev := d.onCore c fun k => k.goto ((k.gr (iA w)).toNat % 2 ^ 16 : Nat) }) ∧
      ((Instr.jalr c w).wf = true →
        exec (.jalr c w) s = .next { s with dev := d.onCore c fun k =>
          (k.gw (iD w) (word ((k.pc + 1) % 2 ^ 16))).goto ((k.gr (iA w)).toNat % 2 ^ 16 : Nat) })) ∧
    (s.dev.takes c 2 d →
      ((Instr.bcc c w e).wf = true → ib w 7 5 < 6 → ib e 23 16 = 0 →
        exec (.bcc c w e) s = .next { s with dev := d.onCore c fun k =>
          if (match ib w 7 5 with
            | 0 => k.gr (iD w) == k.gr (iA w)
            | 1 => k.gr (iD w) != k.gr (iA w)
            | 2 => decide ((k.gr (iD w)).toInt < (k.gr (iA w)).toInt)
            | 3 => decide ((k.gr (iD w)).toInt ≥ (k.gr (iA w)).toInt)
            | 4 => decide ((k.gr (iD w)).toNat < (k.gr (iA w)).toNat)
            | _ => decide ((k.gr (iD w)).toNat ≥ (k.gr (iA w)).toNat)) then k.goto (k.pc + sx 16 (ib e 15 0)) else k.done 2 }) ∧
      ((Instr.jmp c w e).wf = true →
        exec (.jmp c w e) s = .next { s with dev := d.onCore c fun k =>
          (if ib w 17 17 = 1 then k.gw 31 (word ((k.pc + 2) % 2 ^ 16)) else k).goto (ib e 15 0) }))

/-- CSRR, CSRW, CSRS and CSRC on a CSR that the core has and may reach at its level (R219, R237, R247). CSRR of TNOW_S latches the
nanoseconds of the same instant. A CSR write keeps the bits the register does not have, ignores VSTART at rod level, and a read-
only CSR keeps its value (R237, R247). A write of one register of a core leaves every other register of the core as it was, and
a write of g0 or k0 changes nothing (R204). Model's choices in part: log 22, 23. -/
def Obligations.ControlStatusRegisters : Prop :=
  (∀ (c : Fin 113) (w : Word) (s : State) (d : Dev), s.dev.takes c 1 d → s.dev.csrIll c w = false →
     ((Instr.csrr c w).wf = true →
       exec (.csrr c w) s = .next { s with dev := d.onCore c fun k =>
         ((if iCsr w = 8 then (k.cw 9 (word (nsOf d.time))).cw 0xA (word (nsOf d.time / 2 ^ 24)) else k).gw
           (iD w) (d.csrRead c (iCsr w))).done 1 }) ∧
     ((Instr.csrw c w).wf = true →
       exec (.csrw c w) s = .next { s with dev := d.onCore c fun k => (k.csrStore (iCsr w) (k.gr (iD w))).done 1 }) ∧
     ((Instr.csrs c w).wf = true →
       exec (.csrs c w) s = .next { s with dev := d.onCore c fun k =>
         (k.csrStore (iCsr w) (d.csrRead c (iCsr w) ||| k.gr (iD w))).done 1 }) ∧
     ((Instr.csrc c w).wf = true →
       exec (.csrc c w) s = .next { s with dev := d.onCore c fun k =>
         (if iCsr w = 0x107 then k.mipClear (k.gr (iD w))
           else k.csrStore (iCsr w) (d.csrRead c (iCsr w) &&& ~~~(k.gr (iD w)))).done 1 })) ∧
  (∀ (k : Core) (n : Nat) (v : Word),
     (∀ m, m ≠ n → (k.csrStore n v).cs m = k.cs m) ∧
     (n = 1 → k.machine = false → k.csrStore n v = k) ∧
     ((n ≠ 1 ∨ k.machine = true) →
       ∀ i, ((k.csrStore n v).cs n).getLsbD i = if (csrMask n).testBit i then v.getLsbD i else (k.cs n).getLsbD i) ∧
     (csrMask n = 0 → (k.csrStore n v).cs n = k.cs n)) ∧
  (∀ (k : Core) (i : Nat) (v : Word) (a : Addr) (m : BitVec 16),
     k.gr 0 = 0 ∧ k.gw 0 v = k ∧ k.kr 0 = 0xFFFF ∧ k.kw 0 m = k ∧
     (i ≠ 0 → (k.gw i v).gr i = v ∧ (k.kw i m).kr i = m) ∧ (k.pw i a).pr i = a ∧
     (∀ j, j ≠ i → (k.gw i v).gr j = k.gr j ∧ (k.pw i a).pr j = k.pr j ∧ (k.kw i m).kr j = k.kr j) ∧
     (∀ n, n < 16 → (k.vw i n v).vr i n = v ∧ ∀ j l, l < 16 → (j, l) ≠ (i, n) → (k.vw i n v).vr j l = k.vr j l) ∧
     (∀ j, (k.gw i v).pr j = k.pr j ∧ (k.gw i v).kr j = k.kr j ∧ (k.gw i v).cs j = k.cs j ∧ (k.pw i a).gr j = k.gr j))

/-- ECALL takes exception 4 in one step; ERET returns (R240). A synchronous exception raised while MSTATUS.INH = 1 halts the core:
RCK_HALT holds its code and PC, and the other cores keep their state (R241). -/
def Obligations.Exceptions : Prop :=
  (∀ (c : Fin 113) (w : Word) (s : State) (d : Dev), s.dev.takes c 1 d → iD w = 0 → iCsr w = 0 →
     ((Instr.ecall c w).wf = true → (s.dev.core c).inh = false →
       ∃ t, exec (.ecall c w) s = .next { s with dev := t } ∧
         (t.core c).pc = ((s.dev.core c).cs 0x101).toNat % 2 ^ 16 ∧ ((t.core c).cs 0x102).toNat = (s.dev.core c).pc % 2 ^ 24 ∧
         (t.core c).cs 0x103 = 4 ∧ (t.core c).cs 0x104 = 0 ∧ (t.core c).cs 0x105 = 0 ∧
         (t.core c).cb 0x100 22 = (s.dev.core c).mie ∧ (t.core c).mie = false ∧ (t.core c).inh = true ∧
         (t.core c).cb 0x100 21 = (s.dev.core c).machine ∧ (t.core c).machine = true) ∧
     ((Instr.eret c w).wf = true → (s.dev.core c).machine = true →
       ∃ t, exec (.eret c w) s = .next { s with dev := t } ∧
         (t.core c).pc = ((s.dev.core c).cs 0x102).toNat % 2 ^ 16 ∧ (t.core c).mie = (s.dev.core c).cb 0x100 22 ∧
         (t.core c).machine = ((s.dev.core c).cb 0x100 21 || decide ((c : Nat) = 112)) ∧ (t.core c).inh = false)) ∧
  (∀ (d : Dev) (n code a b : Nat), n < 113 → code < 6 → (d.core n).inh = true → (d.core n).pc < 2 ^ 16 →
     ((d.trap n code a b).core n).st = .halted ∧
     (d.trap n code a b).fget (Reg.RCK_HALT n) Reg.RCK_HALT_CAUSE_f = code ∧
     (d.trap n code a b).fget (Reg.RCK_HALT n) Reg.RCK_HALT_PC_f = (d.core n).pc ∧
     ∀ m, m ≠ n → (d.trap n code a b).core m = d.core m)

/-- WAITM with TGT 0, 1 or 2 and nothing outstanding waits unless an enabled interrupt is pending; the PC then lies after it. The
FENCE_W, FENCE_RW and FENCE_I complete when no store is outstanding (R230, R242). INTERRUPT_TAKEN: a running core between two
instructions, with MIE = 1, INH = 0 and an enabled interrupt pending, enters its handler; MEPC holds the next instruction, and
the lowest pending number is taken (R239, R240). Model's choices in part: log 14, 26, 27. -/
def Obligations.WaitsAndInterrupts : Prop :=
  (∀ (c : Fin 113) (w : Word) (s : State) (d : Dev), s.dev.takes c 1 d →
     (iD w = 0 → iCsr w = 0 → (s.dev.core c).machine = true → (s.dev.core c).stores = [] → (c : Nat) ≠ 112 →
       (Instr.waitm c w).wf = true →
       let tgt := bits ((s.dev.core c).cs 0x109).toNat 23 22
       tgt ≠ 3 → (tgt = 2 → (c : Nat) % 8 = 0) →
       ∃ t, exec (.waitm c w) s = .next { s with dev := t } ∧ (t.core c).pc = ((s.dev.core c).pc + 1) % 2 ^ 16 ∧
         (t.core c).hold = none ∧
         (if (d.irq c).isSome then (t.core c).st = .run
           else if tgt = 1 then (t.core c).st = .retain ∧ t.dom c = .retain
           else (t.core c).st = .wait ∧ (t.core c).wantRod = decide (tgt = 2))) ∧
     (iD w = 0 → iA w = 0 → iB w = 0 →
       ((s.dev.core c).stores = [] →
         ((Instr.fenceW c w).wf = true → exec (.fenceW c w) s = .next { s with dev := d.onCore c fun k => k.done 1 }) ∧
         ((Instr.fenceRw c w).wf = true → exec (.fenceRw c w) s = .next { s with dev := d.onCore c fun k => k.done 1 })) ∧
       ((Instr.fenceI c w).wf = true →
         exec (.fenceI c w) s = .next { s with dev := (d.squash c).onCore c fun k => k.done 1 }))) ∧
  (∀ (c : Fin 113) (s : State) (i : Nat), (s.dev.core c).st = .run → (s.dev.core c).hold = none → (s.dev.core c).mie = true →
     (s.dev.core c).inh = false → s.dev.irq c = some i →
     (∀ j, j < i → ¬ (bits (s.dev.mip c) j j = 1 ∧ (s.dev.core c).cb 0x106 j = true)) ∧
     ∃ t, exec (.interruptTaken c) s = .next { s with dev := t } ∧
       (t.core c).pc = ((s.dev.core c).cs 0x101).toNat % 2 ^ 16 ∧ ((t.core c).cs 0x102).toNat = (s.dev.core c).pc % 2 ^ 24 ∧
       ((t.core c).cs 0x103).toNat = 2 ^ 23 + i ∧ (t.core c).cs 0x104 = (s.dev.core c).cs 0x104 ∧
       (t.core c).cb 0x100 22 = true ∧ (t.core c).mie = false ∧ (t.core c).inh = true ∧
       (t.core c).cb 0x100 21 = (s.dev.core c).machine ∧ (t.core c).machine = true)

/-! ### Reckoner cores: vector instructions -/

/-- The vector instructions outside the memory group of one word: VADD, VSUB, VMUL, VMULJ, VMAC, VMACJ, VPOW, VSEL, VSHI, VEXT, VCMP
and VBC change the core by their row's operation and complete (R212 to R214, R219). The two-word vector instructions VLOG, VARX,
VCVT, VEXP, VSHLV, VSHRV, VPERM, ACLR, ARED, AMOV, VGET and VPUT (R215, R220, R221). An element for which the spec states no
result of VARX takes free values. Model's choices in part: log 18, 19, 20, 21. -/
def Obligations.VectorInstructions : Prop :=
  (∀ (c : Fin 113) (w : Word) (s : State) (d : Dev), s.dev.takes c 1 d → s.dev.vecOk c true →
     ((Instr.vadd c w).wf = true →
       exec (.vadd c w) s = .next { s with dev := d.onCore c fun k => (k.vbin w fun a b => (a.1 + b.1, a.2 + b.2)).done 1 }) ∧
     ((Instr.vsub c w).wf = true →
       exec (.vsub c w) s = .next { s with dev := d.onCore c fun k => (k.vbin w fun a b => (a.1 - b.1, a.2 - b.2)).done 1 }) ∧
     ((Instr.vmul c w).wf = true → exec (.vmul c w) s = .next { s with dev := d.onCore c fun k => (k.vmul w false).done 1 }) ∧
     ((Instr.vmulj c w).wf = true → exec (.vmulj c w) s = .next { s with dev := d.onCore c fun k => (k.vmul w true).done 1 }) ∧
     (accIll (s.dev.core c).et (iD w) true = false →
       ((Instr.vmac c w).wf = true → exec (.vmac c w) s = .next { s with dev := d.onCore c fun k => (k.vmac w false).done 1 }) ∧
       ((Instr.vmacj c w).wf = true →
         exec (.vmacj c w) s = .next { s with dev := d.onCore c fun k => (k.vmac w true).done 1 })) ∧
     ((Instr.vpow c w).wf = true → iD w < 4 → iB w = 0 →
       exec (.vpow c w) s = .next { s with dev := d.onCore c fun k => (k.vpow w).done 1 }) ∧
     ((Instr.vsel c w).wf = true →
       exec (.vsel c w) s = .next { s with dev := d.onCore c fun k =>
         (k.vmap k.et k.cnt (iD w) (fun _ => true) fun i =>
           if k.act (iF w) i then k.elem k.et (iA w) i else k.elem k.et (iB w) i).done 1 }) ∧
     ((Instr.vshi c w).wf = true → ib w 7 6 ≠ 3 → ib w 5 5 = 0 →
       exec (.vshi c w) s = .next { s with dev := d.onCore c fun k => (k.vshi w).done 1 }) ∧
     ((Instr.vext c w).wf = true → ib w 12 10 = 0 → accIll (s.dev.core c).et (ib w 9 8) true = false →
       exec (.vext c w) s = .next { s with dev := d.onCore c fun k => (k.vext w).done 1 }) ∧
     ((Instr.vcmp c w).wf = true → exec (.vcmp c w) s = .next { s with dev := d.onCore c fun k => (k.vcmp w).done 1 }) ∧
     ((Instr.vbc c w).wf = true → exec (.vbc c w) s = .next { s with dev := d.onCore c fun k => (k.vbc w).done 1 })) ∧
  (∀ (c : Fin 113) (w e : Word) (s : State) (d : Dev), s.dev.takes c 2 d → s.dev.vecOk c false →
     ((Instr.vlog c w e).wf = true → ib e 2 0 < 5 →
       exec (.vlog c w e) s = .next { s with dev := d.onCore c fun k => (k.vlog w e).done 2 }) ∧
     ((Instr.vcvt c w e).wf = true → ib e 3 0 < 6 →
       exec (.vcvt c w e) s = .next { s with dev := d.onCore c fun k => (k.vcvt w e).done 2 }) ∧
     ((Instr.vperm c w e).wf = true → iF w = 0 →
       exec (.vperm c w e) s = .next { s with dev := d.onCore c fun k => (k.vperm w).done 2 }) ∧
     ((Instr.vget c w e).wf = true →
       exec (.vget c w e) s = .next { s with dev := d.onCore c fun k => (k.gw (iD w) (k.vr (iA w) (ib e 3 0))).done 2 }) ∧
     ((Instr.vput c w e).wf = true →
       exec (.vput c w e) s = .next { s with dev := d.onCore c fun k => (k.vw (iD w) (ib e 3 0) (k.gr (iA w))).done 2 }) ∧
     ((s.dev.core c).et ≠ 3 →
       ((Instr.varx c w e).wf = true → ib e 3 0 < 10 →
         exec (.varx c w e) s = .next { s with dev := ({ d with fresh := d.fresh + 48 }).onCore c fun k =>
           (k.varx (fun i => Config.free (d.fresh + i)) w e).done 2 }) ∧
       ((Instr.vexp c w e).wf = true →
         exec (.vexp c w e) s = .next { s with dev := d.onCore c fun k => (k.gw (iD w) (word (k.vexp w))).done 2 }) ∧
       ((Instr.vshlv c w e).wf = true →
         exec (.vshlv c w e) s = .next { s with dev := d.onCore c fun k =>
           (k.vmap k.et k.cnt (iD w) (k.act (iF w)) fun i =>
             ((k.elem k.et (iA w) i).1 * 2 ^ ((k.gr (iB w)).toNat % 32),
              (k.elem k.et (iA w) i).2 * 2 ^ ((k.gr (iB w)).toNat % 32))).done 2 }) ∧
       ((Instr.vshrv c w e).wf = true →
         exec (.vshrv c w e) s = .next { s with dev := d.onCore c fun k =>
           (k.vmap k.et k.cnt (iD w) (k.act (iF w)) fun i =>
             (rnd k.rmode (k.elem k.et (iA w) i).1 ((k.gr (iB w)).toNat % 32),
              rnd k.rmode (k.elem k.et (iA w) i).2 ((k.gr (iB w)).toNat % 32))).done 2 }) ∧
       ((Instr.aclr c w e).wf = true → iD w < 4 →
         exec (.aclr c w e) s = .next { s with dev := d.onCore c fun k =>
           ((List.range 16).foldl (fun k l => k.aw (iD w) l 0) k).done 2 }) ∧
       ((Instr.ared c w e).wf = true → accIll (s.dev.core c).et (iD w) true = false →
         exec (.ared c w e) s = .next { s with dev := d.onCore c fun k => (k.ared w).done 2 }) ∧
       ((Instr.amov c w e).wf = true → iD w < 4 → iA w < 4 →
         exec (.amov c w e) s = .next { s with dev := d.onCore c fun k =>
           ((List.range 16).foldl (fun r l => r.aw (iD w) l (k.ar (iA w) l)) k).done 2 })))

/-- Two masked element instructions, read element by element: an active element of VADD and of VMUL is the exact result, rounded and
saturated once; an inactive one keeps its value; a short instruction leaves words 8 to 15 at 0; no other register changes (R209,
R210, R211, R212). A lane that VMAC, VMACJ or VPOW adds to saturates to 56 bits; ASAT sets when it does (R213). VSTAT.SAT and
VSTAT.ASAT are sticky: no arithmetic of these vector instructions clears them (R216). -/
def Obligations.VectorArithmetic : Prop :=
  (∀ (k : Core) (w : Word) (f : Int × Int → Int × Int → Int × Int), k.et < 3 →
     (∀ i, i < k.cnt → (k.vbin w f).elem k.et (iD w) i =
       if k.act (iF w) i then
         (max (-(2 ^ (compBits k.et - 1))) (min (2 ^ (compBits k.et - 1) - 1) (f (k.elem k.et (iA w) i) (k.elem k.et (iB w) i)).1),
          if k.et = 0 then 0 else
           max (-(2 ^ (compBits k.et - 1))) (min (2 ^ (compBits k.et - 1) - 1) (f (k.elem k.et (iA w) i) (k.elem k.et (iB w) i)).2))
       else k.elem k.et (iD w) i) ∧
     (k.long = false → ∀ j, 8 ≤ j → j < 16 → (k.vbin w f).vr (iD w) j = 0) ∧
     (∀ n j, n ≠ iD w → j < 16 → (k.vbin w f).vr n j = k.vr n j) ∧
     (∀ j, (k.vbin w f).gr j = k.gr j) ∧ (∀ j, (k.vbin w f).pr j = k.pr j) ∧ (∀ j, (k.vbin w f).kr j = k.kr j) ∧
     (∀ a l, (k.vbin w f).ar a l = k.ar a l) ∧ (∀ n, n ≠ 2 → (k.vbin w f).cs n = k.cs n)) ∧
  (∀ (k : Core) (b : Bool) (a l : Nat) (x : Int),
     (Core.accAdd (k, b) (a, l) x).1.ar a l = max (-(2 ^ 55)) (min (2 ^ 55 - 1) (k.ar a l + x)) ∧
     (Core.accAdd (k, b) (a, l) x).2 = (b || decide (k.ar a l + x < -(2 ^ 55)) || decide (2 ^ 55 - 1 < k.ar a l + x)) ∧
     ∀ a' l', (a', l') ≠ (a, l) → l < 16 → l' < 16 → (Core.accAdd (k, b) (a, l) x).1.ar a' l' = k.ar a' l') ∧
  (∀ (k : Core) (w e : Word) (b : Nat), b = 22 ∨ b = 23 → k.cb 2 b = true →
     (∀ f, (k.vbin w f).cb 2 b = true) ∧ (∀ j, (k.vmac w j).cb 2 b = true) ∧ (k.vpow w).cb 2 b = true ∧
     (k.vshi w).cb 2 b = true ∧ (k.vext w).cb 2 b = true ∧ (k.vcvt w e).cb 2 b = true ∧ (k.ared w).cb 2 b = true)

/-- rnd of R211: division by 2^0 leaves a value, and the four modes of VCFG.RND are given by bounds that fix the result. -/
def Obligations.RoundingModes : Prop :=
  ∀ (x : Int) (n : Nat), (∀ m, rnd m x 0 = x) ∧ (0 < n →
    (rnd 2 x n * 2 ^ n ≤ x ∧ x < (rnd 2 x n + 1) * 2 ^ n) ∧
    (0 ≤ x → rnd 3 x n * 2 ^ n ≤ x ∧ x < (rnd 3 x n + 1) * 2 ^ n) ∧
    (x < 0 → (rnd 3 x n - 1) * 2 ^ n < x ∧ x ≤ rnd 3 x n * 2 ^ n) ∧
    (2 * (x - rnd 0 x n * 2 ^ n) ≤ 2 ^ n ∧ -(2 ^ n) ≤ 2 * (x - rnd 0 x n * 2 ^ n)) ∧
    (2 * (x - rnd 0 x n * 2 ^ n) = 2 ^ n → x < 0) ∧ (2 * (x - rnd 0 x n * 2 ^ n) = -(2 ^ n) → 0 ≤ x) ∧
    (2 * (x - rnd 1 x n * 2 ^ n) ≤ 2 ^ n ∧ -(2 ^ n) ≤ 2 * (x - rnd 1 x n * 2 ^ n)) ∧
    ((2 * (x - rnd 1 x n * 2 ^ n) = 2 ^ n ∨ 2 * (x - rnd 1 x n * 2 ^ n) = -(2 ^ n)) → rnd 1 x n % 2 = 0))

/-- A vector instruction outside the memory group executed with VSTART not 0 takes ILLEGAL, with the first instruction word in MBADL
(R226, R238). Model's choice in part: log 19. -/
def Obligations.VstartIllegal : Prop :=
  ∀ (c : Fin 113) (w e : Word) (s : State), (c : Nat) ≠ 112 → (s.dev.core c).vstart ≠ 0 →
    (∀ d, s.dev.takes c 1 d →
      ((Instr.vadd c w).wf = true → exec (.vadd c w) s = .next { s with dev := d.illegal c w }) ∧
      ((Instr.vsub c w).wf = true → exec (.vsub c w) s = .next { s with dev := d.illegal c w }) ∧
      ((Instr.vmul c w).wf = true → exec (.vmul c w) s = .next { s with dev := d.illegal c w }) ∧
      ((Instr.vmulj c w).wf = true → exec (.vmulj c w) s = .next { s with dev := d.illegal c w }) ∧
      ((Instr.vmac c w).wf = true → exec (.vmac c w) s = .next { s with dev := d.illegal c w }) ∧
      ((Instr.vmacj c w).wf = true → exec (.vmacj c w) s = .next { s with dev := d.illegal c w }) ∧
      ((Instr.vpow c w).wf = true → exec (.vpow c w) s = .next { s with dev := d.illegal c w }) ∧
      ((Instr.vsel c w).wf = true → exec (.vsel c w) s = .next { s with dev := d.illegal c w }) ∧
      ((Instr.vshi c w).wf = true → exec (.vshi c w) s = .next { s with dev := d.illegal c w }) ∧
      ((Instr.vext c w).wf = true → exec (.vext c w) s = .next { s with dev := d.illegal c w }) ∧
      ((Instr.vcmp c w).wf = true → exec (.vcmp c w) s = .next { s with dev := d.illegal c w }) ∧
      ((Instr.vbc c w).wf = true → exec (.vbc c w) s = .next { s with dev := d.illegal c w })) ∧
    (∀ d, s.dev.takes c 2 d →
      ((Instr.vlog c w e).wf = true → exec (.vlog c w e) s = .next { s with dev := d.illegal c w }) ∧
      ((Instr.varx c w e).wf = true →
        exec (.varx c w e) s = .next { s with dev := ({ d with fresh := d.fresh + 48 } : Dev).illegal c w }) ∧
      ((Instr.vcvt c w e).wf = true → exec (.vcvt c w e) s = .next { s with dev := d.illegal c w }) ∧
      ((Instr.vexp c w e).wf = true → exec (.vexp c w e) s = .next { s with dev := d.illegal c w }) ∧
      ((Instr.vshlv c w e).wf = true → exec (.vshlv c w e) s = .next { s with dev := d.illegal c w }) ∧
      ((Instr.vshrv c w e).wf = true → exec (.vshrv c w e) s = .next { s with dev := d.illegal c w }) ∧
      ((Instr.vperm c w e).wf = true → exec (.vperm c w e) s = .next { s with dev := d.illegal c w }) ∧
      ((Instr.aclr c w e).wf = true → exec (.aclr c w e) s = .next { s with dev := d.illegal c w }) ∧
      ((Instr.ared c w e).wf = true → exec (.ared c w e) s = .next { s with dev := d.illegal c w }) ∧
      ((Instr.amov c w e).wf = true → exec (.amov c w e) s = .next { s with dev := d.illegal c w }) ∧
      ((Instr.vget c w e).wf = true → exec (.vget c w e) s = .next { s with dev := d.illegal c w }) ∧
      ((Instr.vput c w e).wf = true → exec (.vput c w e) s = .next { s with dev := d.illegal c w }))

/-! ### Reckoner cores: memory, beads and queues -/

/-- LDW, STW, LDB and STB of granted words of the core's own local memory complete at once: the word or byte is loaded, or the lanes
are stored, and U = 1 updates the pointer (R205, R217, R219, R220, R229). A store to own local memory changes the bytes of its
lanes and no other byte of any core's local memory (R5, R219, R220). LDW and STW outside own local memory: the load holds the
core, the store is posted and the core goes on while fewer than 16 are outstanding (R228, R230). Model's choices in part: log
25, 31. -/
def Obligations.LoadsAndStores : Prop :=
  (∀ (c : Fin 113) (w e : Word) (s : State) (d : Dev) (x : Nat),
     (s.dev.takes c 1 d →
       (let a := ((d.core c).mAddr w).1
        let u := ((d.core c).mAddr w).2
        ownWord c a = some x → SMap.get d.lmErr 0 (lmAddr c x) = 0 →
         ((Instr.ldw c w).wf = true → d.grants c a false = true →
           exec (.ldw c w) s = .next { s with dev := d.onCore c fun k => ((k.gw (iD w) (wordGet d.lm (lmAddr c x))).update u).done 1 }) ∧
         ((Instr.stw c w).wf = true → d.grants c a true = true →
           exec (.stw c w) s = .next { s with dev := (d.lmWrite c x ((d.core c).gr (iD w)) 7).onCore c fun k => (k.update u).done 1 }))) ∧
     (s.dev.takes c 2 d →
       (let pos := 3 * ((d.core c).pr (iP w)).toNat + e.toNat
        let a := pos / 3 % 2 ^ 32
        ownWord c a = some x → SMap.get d.lmErr 0 (lmAddr c x) = 0 →
         ((Instr.ldb c w e).wf = true → d.grants c a false = true →
           exec (.ldb c w e) s = .next { s with dev := d.onCore c fun k =>
             (k.gw (iD w) (let b := (wordGet d.lm (lmAddr c x)).toNat / 256 ^ (pos % 3) % 256
               if ib w 7 7 = 1 then wordI (sx 8 b) else word b)).done 2 }) ∧
         ((Instr.stb c w e).wf = true → d.grants c a true = true →
           exec (.stb c w e) s = .next { s with dev :=
             (d.lmWrite c x (word (((d.core c).gr (iD w)).toNat % 256 * 256 ^ (pos % 3))) (2 ^ (pos % 3))).onCore c fun k => k.done 2 })))) ∧
  (∀ (d : Dev) (n x : Nat) (v : Word) (lanes p : Nat),
     cellGet (d.lmWrite n x v lanes).lm p =
       if p / 3 = lmAddr n x ∧ lanes.testBit (p % 3) = true then BitVec.ofNat 8 (v.toNat / 256 ^ (p % 3)) else cellGet d.lm p) ∧
  (∀ (c : Fin 113) (w : Word) (s : State) (d : Dev), s.dev.takes c 1 d → ownWord c ((d.core c).mAddr w).1 = none →
     ((Instr.ldw c w).wf = true → d.grants c ((d.core c).mAddr w).1 false = true →
       exec (.ldw c w) s = .next { s with dev := d.onCore c fun k =>
         { k with hold := some (.loadW (iD w) (k.mAddr w).1 (k.mAddr w).2) } }) ∧
     ((Instr.stw c w).wf = true → d.grants c ((d.core c).mAddr w).1 true = true → (d.core c).stores.length < 16 →
       exec (.stw c w) s = .next { s with dev := d.onCore c fun k =>
         ((k.post { addr := (k.mAddr w).1, data := k.gr (iD w), lanes := 7 }).update (k.mAddr w).2).done 1 }))

/-- VLD, VLDS and VGATH of elements that lie in granted words of own local memory complete: VSTART is 0, every active element from
VSTART on holds the words at its address, the others keep their values, and no memory changes (R207 to R210, R219, R220, R223).
VST, VSTS and VSCAT of elements that lie in granted words of own local memory complete: VSTART is 0, a word that an active
element from VSTART on names holds the word of the last one to name it, and every other byte of local memory is as before (R210,
R219, R220, R223). Model's choice in part: log 29. -/
def Obligations.VectorMemory : Prop :=
  (∀ (c : Fin 113) (w e : Word) (s : State) (d : Dev),
     (let k := d.core c
      let scaled (i : Nat) : Nat := ((((k.pr (iP w)).toNat : Int) + (k.vr (iS w) i).toInt * 2 ^ (ib e 1 0)) % 2 ^ 32).toNat
      let base : Nat := if ib w 3 3 = 1 then (k.pr (iP w)).toNat else (k.pr (iP w) + e.setWidth 32).toNat
      let result (i : Instr) (len : Nat) (act : Nat → Bool) (addr : Nat → Nat) (upd : Option (Nat × Addr)) : Prop :=
        i.wf = true → s.dev.takes c len d → (c : Nat) ≠ 112 → k.et ≠ 3 → k.ahead = [] → d.lmErr = [] →
        (∀ j, j < k.cnt → k.vstart ≤ j → act j = true → ∀ t, t < elemWords k.et →
          (ownWord c ((addr j + t) % 2 ^ 32)).isSome = true ∧ d.grants c ((addr j + t) % 2 ^ 32) false = true) →
        (∀ j, j < k.cnt → addr j + elemWords k.et ≤ 2 ^ 32) →
        ∃ q, exec i s = .next { s with dev := d.setCore c q } ∧
          q.cs 1 = 0 ∧ q.pc = (k.pc + len) % 2 ^ 16 ∧ (∀ p v, upd = some (p, v) → q.pr p = v) ∧
          ∀ j t, j < k.cnt → t < elemWords k.et → q.vr (iD w) (elemWords k.et * j + t) =
            if k.vstart ≤ j ∧ act j = true then
              wordGet d.lm (lmAddr c ((ownWord c (addr j + t)).getD 0))
            else k.vr (iD w) (elemWords k.et * j + t)
      result (.vld c w) 1 (fun _ => true) (fun i => ((k.mAddr w).1 + i * elemWords k.et) % 2 ^ 32) (k.mAddr w).2 ∧
      result (.vlds c w e) 2 (k.act (iF w)) (fun i => (base + i * (k.gr (iS w)).toNat) % 2 ^ 32)
        (if ib w 3 3 = 1 then some (iP w, k.pr (iP w) + e.setWidth 32) else none) ∧
      result (.vgath c w e) 2 (k.act (iF w)) scaled none)) ∧
  (∀ (c : Fin 113) (w e : Word) (s : State) (d : Dev),
     (let k := d.core c
      let scaled (i : Nat) : Nat := ((((k.pr (iP w)).toNat : Int) + (k.vr (iS w) i).toInt * 2 ^ (ib e 1 0)) % 2 ^ 32).toNat
      let base : Nat := if ib w 3 3 = 1 then (k.pr (iP w)).toNat else (k.pr (iP w) + e.setWidth 32).toNat
      let result (i : Instr) (len : Nat) (act : Nat → Bool) (addr : Nat → Nat) : Prop :=
        i.wf = true → s.dev.takes c len d → (c : Nat) ≠ 112 → k.et ≠ 3 → k.ahead = [] → d.lmErr = [] → k.stores.length ≤ 16 →
        (∀ j, j < k.cnt → k.vstart ≤ j → act j = true → ∀ t, t < elemWords k.et →
          (ownWord c ((addr j + t) % 2 ^ 32)).isSome = true ∧ d.grants c ((addr j + t) % 2 ^ 32) true = true) →
        (∀ j, j < k.cnt → addr j + elemWords k.et ≤ 2 ^ 32) →
        ∃ q, exec i s = .next { s with dev := q } ∧ (q.core c).cs 1 = 0 ∧ (q.core c).pc = (k.pc + len) % 2 ^ 16 ∧
          (∀ j t, j < k.cnt → t < elemWords k.et → k.vstart ≤ j → act j = true →
            (∀ j' t', j' < k.cnt → t' < elemWords k.et → act j' = true → j < j' ∨ (j = j' ∧ t < t') →
              ownWord c (addr j' + t') ≠ ownWord c (addr j + t)) →
            wordGet q.lm (lmAddr c ((ownWord c (addr j + t)).getD 0)) = k.vr (iD w) (elemWords k.et * j + t)) ∧
          ∀ p, (∀ j t, j < k.cnt → t < elemWords k.et → k.vstart ≤ j → act j = true →
              p / 3 ≠ lmAddr c ((ownWord c (addr j + t)).getD 0)) → cellGet q.lm p = cellGet d.lm p
      result (.vst c w) 1 (fun _ => true) (fun i => ((k.mAddr w).1 + i * elemWords k.et) % 2 ^ 32) ∧
      result (.vsts c w e) 2 (k.act (iF w)) (fun i => (base + i * (k.gr (iS w)).toNat) % 2 ^ 32) ∧
      result (.vscat c w e) 2 (k.act (iF w)) scaled))

/-- BSEND of 4 to 68 words in own local memory puts one sealed bead with the core's source on the network. QPOP and QTRY of a queue
that the core consumes take its next word, QTRY of an empty one sets the mask to 0, QPUSH of a queue that it produces pushes g_d
(R232, R233). The bead that BSEND sends: source device and unit are the core's, the CRC word is right, every other header field
is as written (R232, R446). Model's choices in part: log 32, 33. -/
def Obligations.BeadAndQueueInstructions : Prop :=
  (∀ (c : Fin 113) (w e : Word) (s : State) (d : Dev), s.dev.takes c 2 d →
     (∀ x, (Instr.bsend c w e).wf = true → 4 ≤ ((d.core c).gr (iS w)).toNat → ((d.core c).gr (iS w)).toNat ≤ 68 →
       ownWord c ((d.core c).pr (iP w)).toNat = some x → x + ((d.core c).gr (iS w)).toNat ≤ 0x10000 → d.lmErr = [] →
       exec (.bsend c w e) s = .next { s with dev := (d.send (d.beadFrom c
         ((List.range ((d.core c).gr (iS w)).toNat).map fun i => wordGet d.lm (lmAddr c (x + i))))).onCore c fun k => k.done 2 }) ∧
     (∀ v q, d.consumes c (iQueue e) = true → d.qPop (iQueue e) = some (v, q) →
       ((Instr.qpop c w e).wf = true →
         exec (.qpop c w e) s = .next { s with dev := q.onCore c fun k => (k.gw (iD w) v).done 2 }) ∧
       ((Instr.qtry c w e).wf = true →
         exec (.qtry c w e) s = .next { s with dev := q.onCore c fun k => ((k.gw (iD w) v).kw (ib w 12 10) 0xFFFF).done 2 })) ∧
     (d.consumes c (iQueue e) = true → d.qPop (iQueue e) = none → (Instr.qtry c w e).wf = true →
       exec (.qtry c w e) s = .next { s with dev := d.onCore c fun k => (k.kw (ib w 12 10) 0).done 2 }) ∧
     (∀ q, d.produces c (iQueue e) = true → d.qPush (iQueue e) ((d.core c).gr (iD w)) = (true, q) → (Instr.qpush c w e).wf = true →
       exec (.qpush c w e) s = .next { s with dev := q.onCore c fun k => k.done 2 })) ∧
  (∀ (d : Dev) (n : Nat) (ws : List Word), n < 113 →
     (d.beadFrom n ws).sdev = d.devnum % 1024 ∧ (d.beadFrom n ws).sunit = coreUnit n ∧
     (d.beadFrom n ws).crc = beadCrc (d.beadFrom n ws) ∧ (d.beadFrom n ws).h0 = ws.getD 0 0 ∧ (d.beadFrom n ws).h1 = ws.getD 1 0 ∧
     (d.beadFrom n ws).h3 = ws.getD 3 0 ∧ (d.beadFrom n ws).payload = ws.drop 4 ∧
     bits (d.beadFrom n ws).h2.toNat 1 0 = bits (ws.getD 2 0).toNat 1 0)

/-! ### The rod matrix coprocessor -/

/-- CMXACQ and CMXACQT of a free lock, CMXREL and CMXSYNC with nothing of the core's outstanding, and CMXLERR: the lock, g_d and
CMX_LERR become what R257 says, and the core goes on. CMXSAVE writes the 4,128 words of the state image at p, CMXRESTORE of a
good image loads it: registers, shapes and SAT (R257, R264). -/
def Obligations.CmxInstructions : Prop :=
  (∀ (c : Fin 113) (w e : Word) (s : State) (d : Dev), s.dev.takes c 2 d → (c : Nat) ≠ 112 → cmxCtlIll w e = false →
     d.cmxAvail ((c : Nat) / 8) = true →
     (let r := (c : Nat) / 8
      ((d.cmxOf r).owner = none → (d.cmxOf r).waiters = [] → (Instr.cmxacq c w e).wf = true →
        exec (.cmxacq c w e) s = .next { s with dev := (d.setCmx r { d.cmxOf r with owner := some ((c : Nat) % 8) }).onCore c fun k => k.done 2 }) ∧
      ((d.cmxOf r).owner = none → (d.cmxOf r).waiters = [] → (d.cmxOf r).releasing = false → (Instr.cmxacqt c w e).wf = true →
        exec (.cmxacqt c w e) s = .next { s with dev := ((d.setCmx r { d.cmxOf r with owner := some ((c : Nat) % 8) }).onCore c fun k =>
          (k.gw (iD w) 1).done 2) }) ∧
      (∀ o, (d.cmxOf r).owner = some o → o ≠ (c : Nat) % 8 → (Instr.cmxacqt c w e).wf = true →
        exec (.cmxacqt c w e) s = .next { s with dev := d.onCore c fun k => (k.gw (iD w) 0).done 2 }) ∧
      (d.cmxOwns c = true →
        (d.cmxDrained c = true →
          ((Instr.cmxrel c w e).wf = true →
            exec (.cmxrel c w e) s = .next { s with dev := (d.setCmx r { d.cmxOf r with owner := none }).onCore c fun k => k.done 2 }) ∧
          ((Instr.cmxsync c w e).wf = true → exec (.cmxsync c w e) s = .next { s with dev := d.onCore c fun k => k.done 2 })) ∧
        ((Instr.cmxlerr c w e).wf = true →
          ∃ t, exec (.cmxlerr c w e) s = .next { s with dev := t } ∧ t.fget (Reg.CMX_LERR r) Reg.CMX_LERR_VALID_f = 0 ∧
            t.fget (Reg.CMX_LERR r) Reg.CMX_LERR_MORE_f = 0 ∧
            t.core c = ((d.core c).gw (iD w) (d.rget (Reg.CMX_LERR r))).done 2)))) ∧
  (∀ (c : Fin 113) (w e : Word) (s : State) (d : Dev), s.dev.takes c 2 d → (c : Nat) ≠ 112 → cmxCtlIll w e = false →
     d.cmxAvail ((c : Nat) / 8) = true → d.cmxOwns c = true → d.cmxDrained c = true → (d.core c).ahead = [] → d.lmErr = [] →
     ((d.core c).pr (iP w)).toNat + 4128 ≤ 0x10000 →
     (let r := (c : Nat) / 8
      let p := ((d.core c).pr (iP w)).toNat
      let ws := (List.range 4128).map fun i => wordGet d.lm (lmAddr c (p + i))
      ((Instr.cmxsave c w e).wf = true →
        ∃ t, exec (.cmxsave c w e) s = .next { s with dev := t } ∧ t.core c = (d.core c).done 2 ∧ t.cmx = d.cmx ∧
          (∀ i, i < 4128 → wordGet t.lm (lmAddr c (p + i)) =
            ((d.cmxOf r).image (d.fbit (Reg.CMX_STAT r) Reg.CMX_STAT_SAT_f)).getD i 0) ∧
          ∀ q, (∀ i, i < 4128 → q / 3 ≠ lmAddr c (p + i)) → cellGet t.lm q = cellGet d.lm q) ∧
      ((Instr.cmxrestore c w e).wf = true → imageOk ws = true →
        ∃ t, exec (.cmxrestore c w e) s = .next { s with dev := t } ∧ t.core c = (d.core c).done 2 ∧
          t.cmxOf r = (d.cmxOf r).restore ws ∧ t.fget (Reg.CMX_STAT r) Reg.CMX_STAT_SAT_f = bits (ws.getD 2 0).toNat 23 23 ∧
          t.lm = d.lm)))

/-- The matrix instructions: with the lock held, room in the queue and legal shapes, each is accepted behind the others. CMXPUT
sends its vector, CMXGET holds the core, the operations of CMXOP (CMX_SHAPE, CMX_COPY, CMX_ADD, CMX_SUB, CMX_MUL, CMX_CHOL,
CMX_TRSL, CMX_INV, CMX_QR) let it go on (R253, R254, R255, R261). CMX_COMMIT of an operation that no core squashed and for which
no core of the rod waits: its results are committed, it leaves the queue and CMX_OPS counts it (R251, R262). Model's choice in
part: log 41. -/
def Obligations.CmxOperations : Prop :=
  (∀ (c : Fin 113) (w e : Word) (s : State) (d : Dev), s.dev.takes c 2 d → (c : Nat) ≠ 112 →
     (let r := (c : Nat) / 8
      let entry (o : CmxOp) (data : Option (List Word × Nat)) : CmxEntry :=
        { tag := (d.cmxOf r).nextTag, core := (c : Nat) % 8, pc := (d.core c).pc, op := o, data := data, squashed := false }
      let queued (o : CmxOp) (data : Option (List Word × Nat)) (f : Core → Core) : Dev :=
        (d.setCmx r { d.cmxOf r with q := (d.cmxOf r).q ++ [entry o data], nextTag := (d.cmxOf r).nextTag + 1 }).onCore c f
      let alu (fn : Nat) : CmxOp := .alu fn (ib w 17 15) (ib w 14 12) (ib w 11 9) (sx 5 (ib e 19 15)) (ib e 14 10) (ib e 9 9 == 1)
        (ib e 8 8 == 1) (ib e 7 7 == 1)
      let ok (i : Instr) (o : CmxOp) : Prop :=
        i.wf = true ∧ d.cmxReject r ((c : Nat) % 8) o = none ∧ (d.cmxOf r).room = true ∧ ib w 8 0 = 0 ∧ ib e 6 0 = 0
      ((∀ x ∈ (d.cmxOf r).q, x.tag ≠ (d.cmxOf r).nextTag) → (d.core c).vstart = 0 → ib w 9 3 = 0 → ib e 17 0 = 0 →
        (d.cmxOf r).room = true →
        (let put : CmxOp := .put (ib w 12 10) (iF w) (ib e 23 23 == 1) (ib e 22 22 == 1) (ib e 21 18) (iD w)
         let get : CmxOp := .get (ib w 12 10) (iF w) (ib e 23 23 == 1) (ib e 22 22 == 1) (ib e 21 18) (iD w)
         ((Instr.cmxput c w e).wf = true → d.cmxReject r ((c : Nat) % 8) put = none →
           exec (.cmxput c w e) s = .next { s with dev :=
             (queued put (some ((List.range 16).map fun i => (d.core c).vr (iD w) i, ((d.core c).kr (iF w)).toNat % 256))
               fun k => k.done 2) }) ∧
         ((Instr.cmxget c w e).wf = true → d.cmxReject r ((c : Nat) % 8) get = none →
           exec (.cmxget c w e) s = .next { s with dev :=
             (queued get none fun k => { k with hold := some (.cmxGet (d.cmxOf r).nextTag) }) }))) ∧
      ((Instr.cmxShape c w e).wf = true → ib w 8 0 = 0 → ib e 19 8 = 0 → (d.cmxOf r).room = true →
        d.cmxReject r ((c : Nat) % 8) (.shape (ib w 17 15) (ib e 7 4 + 1) (ib e 3 0 + 1)) = none →
        exec (.cmxShape c w e) s = .next { s with dev :=
          (queued (.shape (ib w 17 15) (ib e 7 4 + 1) (ib e 3 0 + 1)) none fun k => k.done 2) }) ∧
      (ok (.cmxCopy c w e) (alu 1) → exec (.cmxCopy c w e) s = .next { s with dev := queued (alu 1) none fun k => k.done 2 }) ∧
      (ok (.cmxAdd c w e) (alu 2) → exec (.cmxAdd c w e) s = .next { s with dev := queued (alu 2) none fun k => k.done 2 }) ∧
      (ok (.cmxSub c w e) (alu 3) → exec (.cmxSub c w e) s = .next { s with dev := queued (alu 3) none fun k => k.done 2 }) ∧
      (ok (.cmxMul c w e) (alu 4) → exec (.cmxMul c w e) s = .next { s with dev := queued (alu 4) none fun k => k.done 2 }) ∧
      (ok (.cmxChol c w e) (alu 5) → exec (.cmxChol c w e) s = .next { s with dev := queued (alu 5) none fun k => k.done 2 }) ∧
      (ok (.cmxTrsl c w e) (alu 6) → exec (.cmxTrsl c w e) s = .next { s with dev := queued (alu 6) none fun k => k.done 2 }) ∧
      (ok (.cmxInv c w e) (alu 7) → exec (.cmxInv c w e) s = .next { s with dev := queued (alu 7) none fun k => k.done 2 }) ∧
      (ok (.cmxQr c w e) (alu 8) → exec (.cmxQr c w e) s = .next { s with dev := queued (alu 8) none fun k => k.done 2 }))) ∧
  (∀ (r : Fin 14) (s : State) (x : CmxEntry) (t : List CmxEntry), (s.dev.cmxOf r).q = x :: t → x.squashed = false →
     (s.dev.cmxOf r).releasing = false → s.dev.cmxQuiet r → (∀ m k cl h n a, x.op ≠ .put m k cl h n a) → (∀ m k cl h n a, x.op ≠ .get m k cl h n a) →
     exec (.cmxCommit r) s = .next { s with dev :=
       ((s.dev.setCmx r { s.dev.cmxOf r with q := t }).cmxCommitOp r x).count (Reg.CMX_OPS_LO r) 1 })

/-- CMX_COMMIT of a multiplication: the product of op(ma) and op(mb), each component the exact sum of products, rounded once, with
ACC added to md, saturated; elements outside the new shape are 0; the other registers keep theirs; ops are counted (R251, R252, R255). -/
def Obligations.CmxMulResult : Prop :=
  ∀ (x : Cmx) (fv : Nat → Nat) (md ma mb f : Nat) (sh : Int) (ta tb acc : Bool),
    let rows := if ta then (x.shape ma).2 else (x.shape ma).1
    let inner := if ta then (x.shape ma).1 else (x.shape ma).2
    let cols := if tb then (x.shape mb).1 else (x.shape mb).2
    rows ≤ 16 → cols ≤ 16 →
    ∃ o, (x.compute fv (.alu 4 md ma mb sh f ta tb acc)).outs = [o] ∧
      (x.write o).1.shape md = (rows, cols) ∧
      (∀ r c, r < rows → c < cols →
        let a (k : Nat) := x.opElem ta ma r k
        let b (k : Nat) := x.opElem tb mb k c
        let re := rndS 0 (((List.range inner).map fun k => (a k).1 * (b k).1 - (a k).2 * (b k).2).sum) ((f : Int) + sh)
        let im := rndS 0 (((List.range inner).map fun k => (a k).1 * (b k).2 + (a k).2 * (b k).1).sum) ((f : Int) + sh)
        (x.write o).1.elem md r c =
          (max (-(2 ^ 23)) (min (2 ^ 23 - 1) (if acc then (x.elem md r c).1 + re else re)),
           max (-(2 ^ 23)) (min (2 ^ 23 - 1) (if acc then (x.elem md r c).2 + im else im)))) ∧
      (∀ r c, r < 16 → c < 16 → ¬ (r < rows ∧ c < cols) → (x.write o).1.elem md r c = (0, 0)) ∧
      (∀ m r c, m ≠ md → r < 16 → c < 16 → (x.write o).1.elem m r c = x.elem m r c) ∧
      (∀ m, m ≠ md → (x.write o).1.shape m = x.shape m)

/-! ### Events of cores and coprocessors -/

/-- What the cores wait for comes: LOAD_RESPONSE, STORE_RESPONSE, QPOP_RESUME, QPUSH_RESUME, WAIT_WAKE and CMXACQ_GRANT let a core
whose RUN is 1 go on (R228, R230, R233, R243, R259). INBOX_BEAD: a bead for a core goes into its inbox whole: header and
payload, without the check word (R234). Model's choices in part: log 31, 35. -/
def Obligations.CoreEvents : Prop :=
  (∀ (c : Fin 113) (s : State),
     (∀ d a u v q, (s.dev.core c).hold = some (.loadW d a u) → s.dev.memReady a = true → (s.dev.core c).storing a 1 = false →
       s.dev.busRead (coreReq c) a = (some v, q) → (q.core c).ahead = [] → q.fbit (Reg.RCK_CTL c) Reg.RCK_CTL_RUN_f = true →
       exec (.loadResponse c) s = .next { s with dev := q.onCore c fun k => ((k.gw d v).update u).done k.len }) ∧
     (∀ (k : Fin 16) st q, (s.dev.core c).stores[(k : Nat)]? = some st → s.dev.memReady st.addr = true →
       (∀ x ∈ (s.dev.core c).stores.take k, x.addr ≠ st.addr) →
       (s.dev.onCore c fun x => { x with stores := x.stores.eraseIdx k }).busWrite (coreReq c) st.addr st.data st.lanes = (true, q) →
       (q.core c).hold = none → (q.core c).ahead = [] → q.fbit (Reg.RCK_CTL c) Reg.RCK_CTL_RUN_f = true →
       exec (.storeResponse c k) s = .next { s with dev := q }) ∧
     (∀ d n v q, (s.dev.core c).hold = some (.qpop d n) → s.dev.qPop n = some (v, q) → (q.core c).ahead = [] →
       q.fbit (Reg.RCK_CTL c) Reg.RCK_CTL_RUN_f = true →
       exec (.qpopResume c) s = .next { s with dev := q.onCore c fun k => (k.gw d v).done k.len }) ∧
     (∀ d n q, (s.dev.core c).hold = some (.qpush d n) → s.dev.qPush n ((s.dev.core c).gr d) = (true, q) → (q.core c).ahead = [] →
       q.fbit (Reg.RCK_CTL c) Reg.RCK_CTL_RUN_f = true →
       exec (.qpushResume c) s = .next { s with dev := q.onCore c fun k => k.done k.len }) ∧
     ((s.dev.core c).st = .wait ∨ (s.dev.core c).st = .retain → (s.dev.irq c).isSome = true → (s.dev.core c).hold = none →
       ∃ t, exec (.waitWake c) s = .next { s with dev := t } ∧ (t.core c).st = .run ∧ (t.core c).pc = (s.dev.core c).pc ∧
         ((c : Nat) < 112 → t.dom c = .on))) ∧
  (∀ (b : Bead) (s : State) (n : Nat) (q : Dev), unitCore b.dunit = some n → b.ok = true → s.dev.unitAway b.dunit = false →
     (b.rsp = true ∨ (b.op ≠ 1 ∧ b.op ≠ 2)) → ((s.dev.take b).core n).bound = true →
     (s.dev.take b).qOn ((s.dev.take b).core n).inbox = true →
     (s.dev.take b).qPushWhole ((s.dev.take b).core n).inbox ([b.h0, b.h1, b.h2, b.h3] ++ b.payload) = (true, q) →
     exec (.inboxBead b) s = .next { s with dev := q })

/-- CMXACQ_GRANT gives a free lock to the core that has waited longest, which goes on (R257, R259). ROD_RETAIN_ENTRY: when core 0
has asked for it and the rod rests, the rod's domains that are ON and its waiting cores retain (R244). -/
def Obligations.CmxAndRodEvents : Prop :=
  (∀ (r : Fin 14) (s : State) (i : Nat) (t : List Nat), (s.dev.cmxOf r).owner = none → (s.dev.cmxOf r).waiters = i :: t →
     (s.dev.core (r * 8 + i)).hold = some .cmxAcq → (s.dev.core (r * 8 + i)).ahead = [] →
     s.dev.fbit (Reg.RCK_CTL (r * 8 + i)) Reg.RCK_CTL_RUN_f = true →
     exec (.cmxacqGrant r) s = .next { s with dev :=
       ((s.dev.setCmx r { s.dev.cmxOf r with owner := some i, waiters := t }).onCore (r * 8 + i) fun k => k.done k.len) }) ∧
  (∀ (r : Fin 14) (s : State), s.dev.rodRests r = true →
     ∃ t, exec (.rodRetainEntry r) s = .next { s with dev := t } ∧ t.dom (112 + r) = .retain ∧
       (∀ i, i < 8 → s.dev.dom (r * 8 + i) = .on → t.dom (r * 8 + i) = .retain) ∧
       (∀ i, i < 8 → (s.dev.core (r * 8 + i)).st = .wait → (t.core (r * 8 + i)).st = .retain) ∧
       (t.core (r * 8)).st = .retain ∧ t.lm = s.dev.lm)

/-- Writes of the RCK and CMX registers: RCK_RUN_WRITE starts a stopped core and stops one at an instruction boundary with nothing
outstanding, RCK_SOFT_SET sets MIP.SOFT, RCK_RST of a core and CMX_RST of a free CMX apply the D reset in RUN, CMX_FREL releases
the lock of an idle CMX (R239, R249, R260, R533). LOCAL_MEM_INIT_DONE lets the core issue (R479). Model's choices in part: log
37, 38, 39. -/
def Obligations.CoreRegisterWrites : Prop :=
  ∀ (c : Fin 113) (r : Fin 14) (w : Word) (s : State),
    ((Instr.rckRunWrite c w).wf = true → getF w Reg.RCK_CTL_RUN_f = 1 → (s.dev.core c).st = .stopped →
      (s.dev.core c).ahead = [] →
      ∃ t, exec (.rckRunWrite c w) s = .next { s with dev := t } ∧ (t.core c).st = .run ∧ (t.core c).pc = (s.dev.core c).pc ∧
        t.fget (Reg.RCK_CTL c) Reg.RCK_CTL_RUN_f = 1) ∧
    ((Instr.rckRunWrite c w).wf = true → getF w Reg.RCK_CTL_RUN_f = 0 → (s.dev.core c).st = .run → (s.dev.core c).hold = none →
      (s.dev.core c).stores = [] →
      ∃ t, exec (.rckRunWrite c w) s = .next { s with dev := t } ∧ (t.core c).st = .stopped ∧
        t.fget (Reg.RCK_CTL c) Reg.RCK_CTL_RUN_f = 0) ∧
    ((Instr.rckRst c w).wf = true → s.dev.pwr.mode = 0 → s.dev.stc.wbusy = false → (c : Nat) < 112 → s.dev.dom c = .on →
      s.dev.fenced c = false →
      ∃ t, exec (.rckRst c w) s = .next { s with dev := t } ∧ t.lm = s.dev.lm ∧ (t.core c).st = .stopped ∧
        (t.core c).pc = (if s.dev.lockedAt (Reg.RCK_CTL c) then s.dev.fget (Reg.RCK_CTL c) Reg.RCK_CTL_ENTRY_f
          else getF w Reg.RCK_CTL_ENTRY_f) ∧ (∀ i, (t.core c).gr i = 0) ∧ (∀ i, (t.core c).pr i = 0) ∧
        (t.core c).csr = [] ∧ (t.core c).machine = true) ∧
    ((Instr.rckSoftSet c w).wf = true →
      exec (.rckSoftSet c w) s = .next { s with dev := s.dev.onCore c fun k => k.cbw 0x107 4 true }) ∧
    ((Instr.cmxRst r w).wf = true → s.dev.pwr.mode = 0 → s.dev.stc.wbusy = false → s.dev.dom (112 + r) = .on →
      (s.dev.cmxOf r).owner = none → s.dev.fenced (0xDC + r) = false →
      ∃ t, exec (.cmxRst r w) s = .next { s with dev := t } ∧ ∀ m, (t.cmxOf r).shape m = (16, 16) ∧
        (∀ i j, (t.cmxOf r).elem m i j = (0, 0)) ∧ (t.cmxOf r).q = []) ∧
    ((Instr.cmxFrel r w).wf = true → getF w Reg.CMX_CTL_RST_f = 0 → (s.dev.cmxOf r).q = [] → s.dev.cmxQuiet r →
      ∃ t, exec (.cmxFrel r w) s = .next { s with dev := t } ∧ (t.cmxOf r).owner = none) ∧
    exec (.localMemInitDone c) s = .next { s with dev := s.dev.onCore c fun k => { k with lmBusy := false } }

/-- Every Reckoner instruction that only computes, on a core with nothing decoded ahead, leaves memory, queues, the bead network, every
other unit and every other core as they were, whether it completes, raises an exception or is itself decoded ahead (R204, R219,
R220, R236, R237). -/
def Obligations.RegisterFrame : Prop :=
  ∀ (c : Fin 113) (w e : Word) (s t : State) (i : Instr),
    i ∈ [.alu c w, .alux c w, .addi c w, .andi c w, .shi c w, .movi c w, .palu c w, .paddi c w, .br c w, .j c w, .jr c w, .jalr c w,
      .csrr c w, .csrw c w, .csrs c w, .csrc c w, .ecall c w, .eret c w, .kop c w, .vadd c w, .vsub c w, .vmul c w, .vmulj c w,
      .vmac c w, .vmacj c w, .vpow c w, .vsel c w, .vshi c w, .vext c w, .vcmp c w, .vbc c w, .li c w e, .lip c w e, .bcc c w e,
      .jmp c w e, .vlog c w e, .varx c w e, .vcvt c w e, .vexp c w e, .vshlv c w e, .vshrv c w e, .vperm c w e, .aclr c w e,
      .ared c w e, .amov c w e, .vget c w e, .vput c w e] →
    (s.dev.core c).ahead = [] → exec i s = .next t → t.pending = s.pending ∧ s.dev.sameBeside t.dev ∧ (∀ n, n ≠ (c : Nat) → t.dev.core n = s.dev.core n) ∧
      (∀ r, r ≠ (c : Nat) / 8 → t.dev.cmxOf r = s.dev.cmxOf r) ∧
      ∀ a, a ∉ [Reg.RCK_LMCE_LO c, Reg.RCK_LMCE_LO c + 1, Reg.RCK_LMUE_LO c, Reg.RCK_LMUE_LO c + 1, Reg.RCK_HALT c, Reg.EVT_STAT] →
        t.dev.rget a = s.dev.rget a

/-! ### Launch lists, deadline queues, jobs, the slack servo -/

/-- Launch list commands: LNC_GCTL_EN_WRITE with EN = 0 holds the launcher, LIST_DISABLE stops a list, LIST_ENABLE of a placed FED
list or of a CYCLIC list with a good header starts it, and LAUNCH_HOLD_END ends a hold when no condition remains (R73, R80).
LAUNCH_INJECT sends the bead of the entry that is due first and its list goes on; FED_ENTRY_ARRIVAL lets an idle FED list reach
the well-formed item at the head of its queue (R74, R76, R78, R79). Model's choices in part: log 56, 57, 58, 200. -/
def Obligations.LaunchLists : Prop :=
  (∀ (n : Fin 64) (w : Word) (s : State),
     (getF w Reg.LNC_GCTL_EN_f = 0 →
       ∃ t, exec (.lncGctlEnWrite w) s = .next { s with dev := t } ∧ t.lnc.held = true ∧ t.fbit Reg.LNC_GCTL Reg.LNC_GCTL_EN_f = false) ∧
     ((Instr.listDisable n w).wf = true →
       ∃ t, exec (.listDisable n w) s = .next { s with dev := t } ∧ t.listOn n = false ∧ (t.list n).cur = none) ∧
     (let d := (s.dev.storeRw (Reg.LNC_CTL n) w).fset (Reg.LNC_CTL n) Reg.LNC_CTL_EN_f (s.dev.listOn n)
      (Instr.listEnable n w).wf = true → d.listOn n = false → d.lnc.held = true →
       (∀ a, (d.list n).placed = some a → d.listFed n = true →
         ∃ t, exec (.listEnable n w) s = .next { s with dev := t } ∧ t.listOn n = true ∧ (t.list n).skips = [] ∧
           (t.list n).cur = none) ∧
       (∀ a h q, (d.list n).placed = some a → d.listFed n = false → d.memReadN a 8 = (h, true, q) →
         bits (h.getD 0 0).toNat 11 0 ≠ 0 → 10000 ≤ nsOfPair (headerPeriod h) →
         ∃ t, exec (.listEnable n w) s = .next { s with dev := t } ∧ t.listOn n = true ∧ (t.list n).skips = [] ∧
           (t.list n).idx = 0 ∧ (t.list n).base = time3 (h.getD 1 0) (h.getD 2 0) (h.getD 3 0) ∧
           (t.list n).period = headerPeriod h)) ∧
     (s.dev.lnc.held = true → s.dev.lncCond = false →
       ∃ t, exec .launchHoldEnd s = .next { s with dev := t } ∧ t.lnc.held = false)) ∧
  (∀ (n : Fin 64) (s : State),
     (∀ m e, s.dev.lnc.held = false → s.dev.lncCond = false → s.dev.dueList = some m → (s.dev.list m).cur = some e → e.inject = true →
       (s.dev.lnc.begun.filter fun b => decide (s.dev.elapsed < b + 1000 * nsUnit)).length < 16 →
       (let d := if e.late = false ∧ diff69 e.at_.1 e.at_.2 s.dev.time < -40 then s.dev.count Reg.LNC_SLIP_LO 1 else s.dev
        exec .launchInject s = .next { s with dev :=
          (((d.onLnc fun c => { c with begun := (c.begun ++ [s.dev.elapsed]).drop (c.begun.length - 15) }).send
            (s.dev.entryBead e)).listNext m e) })) ∧
     (∀ len t, s.dev.listOn n = true → s.dev.listFed n = true → s.dev.lnc.held = false → (s.dev.list n).cur = none →
       s.dev.qOn (s.dev.feedQ n) = true → (s.dev.queue (s.dev.feedQ n)).lens = len :: t →
       (let ws := (s.dev.queue (s.dev.feedQ n)).words.take len
        let at_ := time3 (ws.getD 1 0) (ws.getD 2 0) (ws.getD 3 0)
        entryBad true (ws.getD 0 0) (ws.drop 4) (some len) = false →
        ∃ q, exec (.fedEntryArrival n) s = .next { s with dev := q } ∧
          (q.list n).cur = some { at_ := at_, bead := ws.drop 4, dlrel := (ws.getD 0 0).toNat % 2 ^ 14,
                                  late := decide (diff69 at_.1 at_.2 s.dev.time < 0), inject := true })))

/-- COUNTER_CLEAR: a write of 1 to bit 0 of a counter's low word clears the counter, or is deferred while a snapshot copies (R100,
R548). A counter of 48 bits saturates and keeps its neighbours (R100). -/
def Obligations.Counters : Prop :=
  (∀ (o : Nat) (w : Word) (s : State), (Instr.counterClear o w).wf = true →
     (s.dev.tly.copying = false → ∃ t, exec (.counterClear o w) s = .next { s with dev := t } ∧ t.get48 o = 0 ∧
       ∀ a, a ≠ o → a ≠ o + 1 → t.rget a = s.dev.rget a) ∧
     (s.dev.tly.copying = true → exec (.counterClear o w) s = .next { s with dev :=
       { s.dev with tly := { s.dev.tly with deferred := s.dev.tly.deferred ++ [o] } } })) ∧
  (∀ (d : Dev) (lo n : Nat), d.get48 lo < 2 ^ 48 ∧ (d.count lo n).get48 lo = min (d.get48 lo + n) (2 ^ 48 - 1) ∧
     ∀ a, a ≠ lo → a ≠ lo + 1 → (d.count lo n).rget a = d.rget a)

/-- JOB_ARRIVAL at a deadline queue in service with room queues the item: key, arrival count, bead. JOB_TAKE gives the head item to
the free unit with the lowest number. HEAD_DEADLINE_EXPIRE discards a head whose deadline has passed, with a MISSED completion
(R83, R85, R86, R87). What the end of a job does: one completion bead from the unit to the job's source, with VER, OP, SEQ, TAG
and DLV copied, RSP set and the status word first; a late job is counted; the unit is free of the job (R88, R89). SPC_JOB_END,
RAD_JOB_END, TRB_JOB_END, TRL_JOB_END and ENC_JOB_END: the jobs of the accelerators end with OUTCOME 0 when their descriptor is
valid and their reads and writes succeed (R132, R169, R186, R190, R195, R201). Model's choices in part: log 59, 60, 64, 65, 199,
202. -/
def Obligations.AcceleratorWork : Prop :=
  (∀ (b : Bead) (n : Fin 64) (s : State),
     (b.ok = true → b.op = 0x10 → b.rsp = false → b.dunit = 0x100 + n → s.dev.unitAway b.dunit = false →
       (let d := s.dev.take b
        let item := d.jobKey n b :: word d.us :: b.h0 :: b.h1 :: b.h2 :: b.h3 :: b.payload
        d.dlqOn n = true → d.keyPast (d.jobKey n b) = false → item.length ≤ (d.qcfg (d.dlqQ n)).cap →
        (d.queue (d.dlqQ n)).usedGran + granules item.length ≤ (d.qcfg (d.dlqQ n)).cap / 8 →
        exec (.jobArrival b) s = .next { s with dev := (d.qPushWhole (d.dlqQ n) item).2 })) ∧
     (s.dev.dlqOn n = true → ∀ u i,
       (let d := s.dev.headExpire n
        let q := d.queue (d.dlqQ n)
        d.freeUnit n = some u → q.nextItem (d.dlqCfg n) d.us = some i →
        ∃ t, exec (.jobTake n) s = .next { s with dev := t } ∧
          t.jobsOf u = d.jobsOf u ++ [{ dlq := n, key := i.key, arrived := i.words.getD 1 0, seq := i.seq, bead := i.words.drop 2,
                                        cfg := d.rget Reg.TRB_CFG }] ∧
          (t.queue (d.dlqQ n)).items = q.items.erase i ∧ (t.queue (d.dlqQ n)).usedGran = (q.dropItem i).usedGran + granules i.words.length ∧
          (∀ v, v < u → d.unitFree n v = false))) ∧
     (∀ i, (s.dev.queue (s.dev.dlqQ n)).items = [i] → i.full = true → s.dev.keyPast i.key = true →
       exec (.headDeadlineExpire n) s = .next { s with dev :=
         ((s.dev.setQueue (s.dev.dlqQ n) ((s.dev.queue (s.dev.dlqQ n)).dropItem i)).jobMissed n (jobBead (i.words.drop 2))) })) ∧
  (∀ (d : Dev) (u outcome low : Nat) (j : Job) (rest : List Word), j.dlq < 64 →
     (d.jobEnd u j outcome low rest).net = d.net ++ [mkBead (head0 (jobBead j.bead).ver (jobBead j.bead).op (jobBead j.bead).dlv true false)
       (jobBead j.bead).sdev (jobBead j.bead).sunit (jobBead j.bead).order d.devnum u (jobBead j.bead).seq (jobBead j.bead).tag
       (statusWord outcome (d.keyPast j.key) low :: rest)] ∧
     (d.jobEnd u j outcome low rest).jobsOf u = (d.jobsOf u).erase j ∧
     (∀ v, v ≠ u → (d.jobEnd u j outcome low rest).jobsOf v = d.jobsOf v) ∧
     (d.jobEnd u j outcome low rest).get48 (Reg.DLQ_LATE_LO j.dlq) =
       if d.keyPast j.key then min (d.get48 (Reg.DLQ_LATE_LO j.dlq) + 1) (2 ^ 48 - 1) else d.get48 (Reg.DLQ_LATE_LO j.dlq)) ∧
  (∀ (s : State) (j : Job),
     (∀ (n : Fin 24) (p : Fin 4) r d, (s.dev.jobsOf (0x80 + n))[(p : Nat)]? = some j →
       (spcDesc (j.bead.drop 4)).valid = true → 11 ≤ (j.bead.drop 4).length →
       (List.range (spcDesc (j.bead.drop 4)).count).foldl (fun (a : SpcRun × Dev) i => a.2.spcTransform (spcDesc (j.bead.drop 4)) a.1 i)
         ({ sats := 0, exp := 0, err := none }, s.dev) = (r, d) → r.err = none →
       ∃ low, exec (.spcJobEnd n p) s = .next { s with dev := d.jobEnd (0x80 + n) j 0 low [] } ∧
         low % 2 ^ 15 = min r.sats 32767) ∧
     (∀ (n : Fin 8) ins d, (s.dev.jobsOf (0xCC + n)).head? = some j → radValid (j.bead.drop 4) = true →
       (let w (i : Nat) : Nat := ((j.bead.drop 4).getD i 0).toNat
        s.dev.radRead (descAddr (j.bead.drop 4) 6) (w 8) (w 9) 0 (bits (w 0) 20 15 + 1) (unitPort (0xCC + n)) = (some ins, d) →
        ∃ (e : Dev) (low : Nat) (rest : List Word),
          exec (.radJobEnd n) s = .next { s with dev := e.jobEnd (0xCC + n) j 0 low rest } ∧ e.net = d.net ∧ e.rm = d.rm ∧
          bits low 20 16 ≤ bits (w 5) 11 7 ∧ rest.length = 1 + 3 * bits low 20 16)) ∧
     (∀ (n : Fin 12) h vs d1 d2, (s.dev.jobsOf (0xA8 + n)).head? = some j →
       (let x := trbDesc (j.bead.drop 4)
        x.valid (j.bead.drop 4).length = true → inRecMem x.sb (8 + (kwOf x.k + 1) / 2) = true → s.dev.wordsRead x.sb 2 = (some h, d1) →
        d1.wordsRead (x.sb + 8) ((kwOf x.k + 1) / 2) = (some vs, d2) → x.outen = false →
        bits (h.getD 0 0).toNat 23 16 = 0xB5 → bits (h.getD 0 0).toNat 15 12 = 1 → bits (h.getD 1 0).toNat 12 0 = x.k →
        bits (h.getD 1 0).toNat 23 18 = x.f →
        ∃ (d : Dev) (low : Nat), exec (.trbJobEnd n) s = .next { s with dev := d.jobEnd (0xA8 + n) j 0 low [] })) ∧
     (∀ (n : Fin 16) iw d1, (s.dev.jobsOf (0x98 + n)).head? = some j →
       (let w0 := ((j.bead.drop 4).getD 0 0).toNat
        let nbit := bits w0 12 0
        let nsoft := (nbit + if bits w0 23 22 = 1 then 0 else 6) * if bits w0 21 21 = 1 then 3 else 2
        let n' := softWords (bits w0 20 20 == 1) nsoft
        let inBase := descAddr (j.bead.drop 4) 1
        let outBase := descAddr (j.bead.drop 4) 3
        let io := unitPort (0x98 + n)
        5 ≤ (j.bead.drop 4).length → bits w0 23 22 ≤ 1 → 1 ≤ nbit → (bits w0 23 22 = 1 → 7 ≤ nbit ∧ bits w0 19 18 ≠ 3) →
        overlaps inBase n' outBase (bitWords nbit) = false → s.dev.wordsRead inBase n' io = (some iw, d1) →
        (let d2 : Dev := { d1 with fresh := d1.fresh + 3 * (64 * (nbit + 6) + 1) }
         (∀ bs, bs.length ≤ nbit → (d2.bitsWrite outBase bs io).1 = true) →
         ∃ bs low, bs.length ≤ nbit ∧ exec (.trlJobEnd n) s = .next { s with dev :=
           (((d2.bitsWrite outBase bs io).2.count (Reg.TRL_JOBS_LO n) 1).jobEnd (0x98 + n) j 0 low []) }))) ∧
     (∀ (n : Fin 8) ins d1 d2, (s.dev.jobsOf (0xB4 + n)).head? = some j →
       (let x := encDesc (j.bead.drop 4)
        x.valid (j.bead.drop 4).length = true → s.dev.bitsRead x.inBase x.inBits (unitPort (0xB4 + n)) = (some ins, d1) → x.exit = 2 →
        d1.memWriteN x.outBase (x.output ins).2 (unitPort (0xB4 + n)) = (true, d2) →
        exec (.encJobEnd n) s = .next { s with dev :=
          ((d2.count (Reg.ENC_JOBS_LO n) 1).jobEnd (0xB4 + n) j 0 (min x.outWords 2097151) []) })))

/-- The slack servo and the set-point. PWR_SLACK_POST keeps the worst sample of the window; PWR_SERVO_CTL_WRITE with valid limits is
stored and with any other sets ERR and keeps the limits; PWR_VSET_WRITE with no transaction running goes out clamped on the
active port; AVS_STEP_ACK marks the port as acknowledging and goes on to an enabled standby port, else ends the transaction, as
AVS_STEP_TIMEOUT does with AVSERR set; SLACK_WINDOW_END reports the window's worst sample, begins the next window and steps the
code by one toward the floor within VMIN to VMAX, or keeps it while the servo is off, held or unacknowledged (R95 to R98, R495).
Model's choices in part: log 66, 200. -/
def Obligations.ServoCommands : Prop :=
  ∀ (w : Word) (s : State),
    (∃ t, exec (.pwrSlackPost w) s = .next { s with dev := t } ∧
      (let x := max (-800) (min 800 (sx 12 (getF w Reg.PWR_SLACK_POST_SAMPLE_f)))
       t.pwr.worst = some (match s.dev.pwr.worst with | some y => min x y | none => x))) ∧
    (110 ≤ getF w Reg.PWR_SERVO_CTL_VMIN_f → getF w Reg.PWR_SERVO_CTL_VMIN_f ≤ getF w Reg.PWR_SERVO_CTL_VMAX_f →
      getF w Reg.PWR_SERVO_CTL_VMAX_f ≤ 170 →
      ∃ t, exec (.pwrServoCtlWrite w) s = .next { s with dev := t } ∧
        t.fget Reg.PWR_SERVO_CTL Reg.PWR_SERVO_CTL_EN_f = getF w Reg.PWR_SERVO_CTL_EN_f ∧
        t.fget Reg.PWR_SERVO_CTL Reg.PWR_SERVO_CTL_HOLD_f = getF w Reg.PWR_SERVO_CTL_HOLD_f ∧
        t.fget Reg.PWR_SERVO_CTL Reg.PWR_SERVO_CTL_VMIN_f = getF w Reg.PWR_SERVO_CTL_VMIN_f ∧
        t.fget Reg.PWR_SERVO_CTL Reg.PWR_SERVO_CTL_VMAX_f = getF w Reg.PWR_SERVO_CTL_VMAX_f) ∧
    (¬ (110 ≤ getF w Reg.PWR_SERVO_CTL_VMIN_f ∧ getF w Reg.PWR_SERVO_CTL_VMIN_f ≤ getF w Reg.PWR_SERVO_CTL_VMAX_f ∧
        getF w Reg.PWR_SERVO_CTL_VMAX_f ≤ 170) →
      ∃ t, exec (.pwrServoCtlWrite w) s = .next { s with dev := t } ∧
        t.fget Reg.PWR_SERVO_CTL Reg.PWR_SERVO_CTL_ERR_f = 1 ∧
        t.fget Reg.PWR_SERVO_CTL Reg.PWR_SERVO_CTL_VMIN_f = s.dev.fget Reg.PWR_SERVO_CTL Reg.PWR_SERVO_CTL_VMIN_f ∧
        t.fget Reg.PWR_SERVO_CTL Reg.PWR_SERVO_CTL_VMAX_f = s.dev.fget Reg.PWR_SERVO_CTL Reg.PWR_SERVO_CTL_VMAX_f) ∧
    (s.dev.pwr.avs = none → s.dev.fget Reg.PWR_SERVO_CTL Reg.PWR_SERVO_CTL_VMIN_f ≤ s.dev.fget Reg.PWR_SERVO_CTL Reg.PWR_SERVO_CTL_VMAX_f →
      (let code := max (s.dev.fget Reg.PWR_SERVO_CTL Reg.PWR_SERVO_CTL_VMIN_f)
         (min (s.dev.fget Reg.PWR_SERVO_CTL Reg.PWR_SERVO_CTL_VMAX_f) (getF w Reg.PWR_VSET_CODE_f))
       ∃ t, exec (.pwrVsetWrite w) s = .next { s with dev := t } ∧ t.code = code ∧
         t.pwr.avs = some { code := code, back := s.dev.selBack, active := true, since := s.dev.elapsed } ∧
         t.out = s.dev.out ++ [.avsWrite s.dev.selBack code])) ∧
    (∀ x, s.dev.pwr.avs = some x → x.active = true → (s.dev.sup (!x.back)).en = true →
      ∃ t, exec .avsStepAck s = .next { s with dev := t } ∧ (t.sup x.back).avs = true ∧
        t.pwr.avs = some { code := x.code, back := !x.back, active := false, since := s.dev.elapsed } ∧
        t.out = s.dev.out ++ [.avsWrite (!x.back) x.code]) ∧
    (∀ x, s.dev.pwr.avs = some x → s.dev.pwr.avsNext = [] → (s.dev.sup (!x.back)).en = false →
      (∃ t, exec .avsStepAck s = .next { s with dev := t } ∧ t.pwr.avs = none ∧ (t.sup x.back).avs = true) ∧
      (∃ t, exec .avsStepTimeout s = .next { s with dev := t } ∧ t.pwr.avs = none ∧
        t.fbit Reg.SUP_FAULT Reg.SUP_FAULT_AVSERR_f = true)) ∧
    (s.dev.pwr.winEnd ≤ s.dev.time → s.dev.pwr.mode ≤ 1 →
      ∃ t, exec .slackWindowEnd s = .next { s with dev := t } ∧ t.pwr.worst = none ∧ t.pwr.winLen = s.dev.winCfg ∧
        t.pwr.winEnd = (s.dev.time / s.dev.winCfg + 1) * s.dev.winCfg ∧
        getF (t.rget Reg.PWR_SLACK_WORST) ⟨11, 0⟩ = (BitVec.ofInt 12 (s.dev.pwr.worst.getD 800)).toNat ∧
        (let ctl := s.dev.rget Reg.PWR_SERVO_CTL
         let floor := sx 12 (s.dev.fget Reg.PWR_SLACK_FLOOR Reg.PWR_SLACK_FLOOR_FLOOR_f)
         let step : Int := match s.dev.pwr.worst with
           | none => -1
           | some w => if floor < w then -1 else if w < floor then 1 else 0
         s.dev.pwr.resend = false →
         ((getF ctl Reg.PWR_SERVO_CTL_EN_f = 0 ∨ getF ctl Reg.PWR_SERVO_CTL_HOLD_f = 1 ∨ s.dev.unacked = true) → t.code = s.dev.code) ∧
         (getF ctl Reg.PWR_SERVO_CTL_EN_f = 1 → getF ctl Reg.PWR_SERVO_CTL_HOLD_f = 0 → s.dev.unacked = false → s.dev.pwr.avs = none →
           getF ctl Reg.PWR_SERVO_CTL_VMIN_f ≤ getF ctl Reg.PWR_SERVO_CTL_VMAX_f →
           (t.code : Int) = max (getF ctl Reg.PWR_SERVO_CTL_VMIN_f : Int) (min (getF ctl Reg.PWR_SERVO_CTL_VMAX_f) (s.dev.code + step)))))

/-! ### The digital front end -/

/-- JESD_LINK_ERROR, JESD_LINK_UP and SYSREF_EDGE on an enabled JESD204C link: an alignment loss puts the link down at the antenna
time of its release and raises 0x512 for a receive link; a CRC-12 mismatch sets CRCERR and fills the multiblock with zeros; a
multiblock whose CRC-12 values all match changes nothing; the link's return ends the zero fill; the first SYSREF fixes the
release point and a later one off phase sets ALIGNERR (R108 to R110). SUBFRAME_GAIN_STEP, TX_SEGMENT_READ, FH_ZERO_FILL and
FH_TX_MESSAGE on a running stream. The step puts a written gain in force, leaves the gain under manual mode and takes it from
the loop while the link is up. A segment read at its read time is held as samples when its tag is U of its start, as zeros with
DFE_TX_UNDERRUN otherwise, and its tag is then U XOR 0x80_0000; while TIME_VALID is clear it is held as zeros and none is
counted; a converter channel then sends. Positions that no message wrote within FHWIN become zero. The first stream of a flow
sends its message to the bridge (R104, R112, R113, R117, R120, R124 to R126). Model's choices in part: log 69, 70, 78, 79, 193,
195. -/
def Obligations.FrontEndEvents : Prop :=
  (∀ (k : Fin 4) (a b n : Nat) (s : State), s.dev.fbit (Reg.DFE_JCFG k) Reg.DFE_JCFG_EN_f = true →
     (let e : Dfe := { s.dev.dfe with
        jup := SMap.set s.dev.dfe.jup false k false, jdown := SMap.set s.dev.dfe.jdown 0 k (a - s.dev.jdly k) }
      let d : Dev := { s.dev with dfe := e }
      exec (.jesdLinkError k none a b) s = .next { s with dev := if d.linkRx k then d.raise 0x512 k else d }) ∧
     (∀ ms, (∀ m ∈ ms, crc12 m.1 = m.2) → exec (.jesdLinkError k (some ms) a b) s = .next s) ∧
     (∀ ms m, m ∈ ms → crc12 m.1 ≠ m.2 →
       (let d := s.dev.fset (Reg.DFE_JSTAT k) Reg.DFE_JSTAT_CRCERR_f true
        exec (.jesdLinkError k (some ms) a b) s =
          .next { s with dev := if d.linkRx k then d.linkZero k (a - d.jdly k) (b - d.jdly k) else d })) ∧
     (s.dev.jup k = false →
       (let down := SMap.get s.dev.dfe.jdown 0 k
        let d : Dev := { s.dev with dfe := { s.dev.dfe with jup := SMap.set s.dev.dfe.jup false k true } }
        exec (.jesdLinkUp k a) s =
          .next { s with dev := if d.linkRx k = true ∧ down < a - d.jdly k then d.linkZero k down (a - d.jdly k) else d } ∧
          d.jup k = true)) ∧
     (SMap.get s.dev.dfe.jsys none k = none →
       exec (.sysrefEdge k n) s = .next { s with dev :=
         { s.dev with dfe := { s.dev.dfe with jsys := SMap.set s.dev.dfe.jsys none k (some (n, true)) } } }) ∧
     (∀ first x, SMap.get s.dev.dfe.jsys none k = some (first, x) →
       (let c := s.dev.rget (Reg.DFE_JCFG k)
        let off := ((n : Int) - first).natAbs * (getF c Reg.DFE_JCFG_MM1_f + 1) %
          (128 * (getF c Reg.DFE_JCFG_EM1_f + 1) * (getF c Reg.DFE_JCFG_LM1_f + 1))
        ∃ t, exec (.sysrefEdge k n) s = .next { s with dev := t } ∧
          SMap.get t.dfe.jsys none k = some (first, off == 0) ∧ (off = 0 → t.regs = s.dev.regs) ∧
          (off ≠ 0 → t.fbit (Reg.DFE_JSTAT k) Reg.DFE_JSTAT_ALIGNERR_f = true)))) ∧
  (∀ (u : Fin 8) (i : Fin 256) (t : Fin 128) (n k : Nat) (s : State),
     (∀ n0 xs, s.dev.rxOn u i = true → s.dev.rxLoops u i = true →
       ∃ q, exec (.subframeGainStep u i n n0 xs) s = .next { s with dev := q } ∧
         SMap.get q.dfe.gain none (u * 256 + i) = none ∧
         (∀ w f, SMap.get s.dev.dfe.gain none (u * 256 + i) = some (w, f) → q.rxGain u i = max (-48) (min 192 w)) ∧
         (SMap.get s.dev.dfe.gain none (u * 256 + i) = none → getF (s.dev.rget (Reg.DFE_RXAGC u i)) Reg.DFE_RXAGC_MODE_f = 1 →
           q.rxGain u i = s.dev.rxGain u i) ∧
         (SMap.get s.dev.dfe.gain none (u * 256 + i) = none → getF (s.dev.rget (Reg.DFE_RXAGC u i)) Reg.DFE_RXAGC_MODE_f = 0 →
           s.dev.jup (s.dev.rxf u i Reg.DFE_RXCFG_CHAN_f / 8) = true → SMap.get s.dev.dfe.zeros [] (u * 256 + i) = [] →
           ∃ p clip, q.rxGain u i = loopGain (s.dev.rget (Reg.DFE_RXAGC u i)) (s.dev.rxGain u i) p clip)) ∧
     (s.dev.txOn u t = true → s.dev.txReadAt u t n ≤ s.dev.nowNs →
       (let key : Nat := u * 256 + t
        let sent (d : Dev) : Dev := if s.dev.fget (Reg.DFE_TXCFG u t) Reg.DFE_TXCFG_SINK_f = 0 then
          d.jesdSend (s.dev.fget (Reg.DFE_TXCFG u t) Reg.DFE_TXCFG_CHAN_f) else d
        let base := s.dev.getAddr (Reg.DFE_TXBASE_LO u t) +
          n % s.dev.fget (Reg.DFE_TXLEN u t) Reg.DFE_TXLEN_LEN_f * (1 + s.dev.txWords u t)
        let us := (s.dev.txOrigin u t / 1000 + n * 1000) % 2 ^ 24
        (s.dev.timeValid = false → exec (.txSegmentRead u t n) s = .next { s with dev := sent (s.dev.segHold key n false []) }) ∧
        (s.dev.timeValid = true → ∀ v d, s.dev.memRead base = (some v, d) →
          (v = word us → ∀ ws e, d.memReadN (base + 1) (s.dev.txWords u t) = (ws, true, e) →
            exec (.txSegmentRead u t n) s = .next { s with dev :=
              (sent ((e.segHold key n true ws).memWrite base (word (us ^^^ 0x800000)) allLanes).2) }) ∧
          (v ≠ word us → exec (.txSegmentRead u t n) s = .next { s with dev :=
            (sent ((((d.count (Reg.DFE_TXUND_LO u) 1).raise 0x510 key).segHold key n false []).memWrite base
              (word (us ^^^ 0x800000)) allLanes).2) })))) ∧
     (∀ m, s.dev.rxOn u i = true → s.dev.rxf u i Reg.DFE_RXCFG_SRC_f = 1 ∨ s.dev.rxf u i Reg.DFE_RXCFG_SRC_f = 2 →
       s.dev.rxTime u i (k + m - 1) + (10000 * s.dev.fget Reg.DFE_FHCFG Reg.DFE_FHCFG_FHWIN_f : Nat) ≤ s.dev.nowNs →
       (let old := SMap.get s.dev.dfe.taken [] (u * 256 + i)
        ∃ q, exec (.fhZeroFill u i k m) s = .next { s with dev := q } ∧
          SMap.get q.dfe.taken [] (u * 256 + i) = (old.filter fun x => !(decide (k ≤ x) && decide (x < k + m))) ∧
          q.rm = ((List.range m).foldl (fun d j => if old.contains (k + j) then d else d.rxZero u i (k + j)) s.dev).rm)) ∧
     (s.dev.txOn u t = true → (s.dev.flowMates u t).head? ≠ some ((u : Nat), (t : Nat)) →
       exec (.fhTxMessage u t n k) s = .next s) ∧
     (s.dev.txOn u t = true → (s.dev.flowMates u t).head? = some ((u : Nat), (t : Nat)) →
       (let flow := s.dev.fget (Reg.DFE_TXLEN u t) Reg.DFE_TXLEN_FLOWID_f
        let start : Int := s.dev.txOrigin u t + n * 1000000
        let adv : Int := 1000 * s.dev.fget Reg.DFE_FHCFG Reg.DFE_FHCFG_FHADV_f
        (s.dev.fget (Reg.DFE_TXCFG u t) Reg.DFE_TXCFG_SINK_f = 1 → k < 5 →
          exec (.fhTxMessage u t n k) s = .next { s with dev :=
            (s.dev.fhSend u t ([0x10, 0] ++ octets 2 324 ++ octets 2 flow ++ octets 2 ((n * 5 + k) % 65536) ++
              (s.dev.flowValues u t n (80 * k) 80).flatMap fun v => oct16 v.1 ++ oct16 v.2) (ltOf (start + 200000 * k - adv))) }) ∧
        (s.dev.fget (Reg.DFE_TXCFG u t) Reg.DFE_TXCFG_SINK_f = 2 → k < 14 →
          ∃ (q : Dev) (body : List Nat), exec (.fhTxMessage u t n k) s = .next { s with dev :=
              (q.fhSend u t ([0x10, 0] ++ octets 2 body.length ++ body) (ltOf (start + symbolStart k - adv))) } ∧
            body.take 4 = octets 2 flow ++ octets 2 (SMap.get s.dev.dfe.txSeq 0 (u * 256 + t) * 256 % 65536 + 128) ∧
            SMap.get q.dfe.txSeq 0 (u * 256 + t) = (SMap.get s.dev.dfe.txSeq 0 (u * 256 + t) + 1) % 256))))

/-- The gain loop of a subframe: within STEP of the gain before, toward the target when the level is outside DEAD, a step down on
clipping, unchanged when frozen or without power, and always within -12 to 48 dB (R120). NF_BLOCK_END on a running SBA stream,
at the end of a whole millisecond of shared time: a qualifying block moves the estimate by 1 / 2^NFA of the difference to its
mean power and makes it valid and fresh. NF_STALE_TIMEOUT: without one for the stale time STALE is set and DFE_NF_STALE raised
(R122). Model's choices in part: log 69, 77, 188. -/
def Obligations.GainAndNoise : Prop :=
  (∀ (agc : Word) (g : Int) (p : Option Int) (clip : Bool), -48 ≤ g → g ≤ 192 →
     -48 ≤ loopGain agc g p clip ∧ loopGain agc g p clip ≤ 192 ∧
     (loopGain agc g p clip - g).natAbs ≤ getF agc Reg.DFE_RXAGC_STEP_f ∧
     (p = none → loopGain agc g p clip = g) ∧
     (getF agc Reg.DFE_RXAGC_FREEZE_f = 1 → loopGain agc g p clip = g) ∧
     (∀ x, p = some x → getF agc Reg.DFE_RXAGC_FREEZE_f = 0 →
       (clip = true → loopGain agc g p clip = max (-48) (g - getF agc Reg.DFE_RXAGC_STEP_f)) ∧
       (clip = false → (-(4 * getF agc Reg.DFE_RXAGC_TGT_f : Int) - x).natAbs ≤ getF agc Reg.DFE_RXAGC_DEAD_f →
         loopGain agc g p clip = g))) ∧
  (∀ (u : Fin 8) (i : Fin 256) (n n0 : Nat) (xs : List (Int × Int)) (s : State),
     s.dev.rxOn u i = true → s.dev.rxf u i Reg.DFE_RXCFG_KIND_f = 4 →
     (∀ ys q, s.dev.rxf u i Reg.DFE_RXCFG_SRC_f = 1 → (s.dev.nfOf (u * 256 + i)).block ≤ n →
       (s.dev.reachNs ((n + 1) * 1000000)).blockRead u i n = (some ys, q) → q.instOn u i ((n + 1) * 1000000) = false →
       (s.dev.nfOf (u * 256 + i)).idleFrom + ms (max 1 (s.dev.fget Reg.DFE_NFCFG Reg.DFE_NFCFG_IDLE_MIN_f)) ≤
         q.elapsed - (q.time - (n + 1) * 1000000 * nsUnit) →
       ∃ t, exec (.nfBlockEnd u i n n0 xs) s = .next { s with dev := t } ∧
         t.fbit (Reg.DFE_RXNF u i) Reg.DFE_RXNF_VALID_f = true ∧ t.fbit (Reg.DFE_RXNF u i) Reg.DFE_RXNF_STALE_f = false ∧
         (t.nfOf (u * 256 + i)).lastOk = q.elapsed ∧ (t.nfOf (u * 256 + i)).block = n + 1 ∧
         (t.nfOf (u * 256 + i)).est = some (match (s.dev.nfOf (u * 256 + i)).est with
           | none => meanPow ys
           | some e => ((e : Int) + ((meanPow ys : Int) - e) / (2 ^ s.dev.fget Reg.DFE_NFCFG Reg.DFE_NFCFG_NFA_f : Nat)).toNat)) ∧
     (s.dev.fbit (Reg.DFE_RXNF u i) Reg.DFE_RXNF_STALE_f = false →
       exec (.nfStaleTimeout u i) s = .next { s with dev :=
         (((s.dev.pass ((s.dev.nfOf (u * 256 + i)).lastOk + ms (10 * s.dev.fget Reg.DFE_NFCFG Reg.DFE_NFCFG_STALE_f))).fset
           (Reg.DFE_RXNF u i) Reg.DFE_RXNF_STALE_f true).raise 0x513 (u * 256 + i)) }))

/-- ECPRI_MESSAGE_RX, ORAN_UPLANE_RX, ORAN_SECTION3_RX and ECPRI_DELAY_REQUEST: the frame leaves the bridge's list. One for which no
stream is enabled is counted at port 16; otherwise it reaches every stream of its PC_ID or eAxC ID; a Request of a delay
measurement is answered with its receive time (R111 to R119). A message that a stream turns away, by window, extension or
compression, changes no ring: it is counted and raises DFE_INTAKE_LATE (R113, R116). DELAY_MEASURE_REQUEST with a valid bead
starts a measurement with one frame to the bridge. DELAY_MEASURE_ANSWER completes it: the peer's Response with a Request's
transmit report, the peer's Request of a Remote Request. DELAY_MEASURE_TIMEOUT ends it at TMO with TIMEOUT. Each end sends the
result bead to the requester (R115). Model's choices in part: log 73, 74, 75, 194. -/
def Obligations.Fronthaul : Prop :=
  (∀ (f : FhFrame) (ext : Bool) (s : State), ecpriOk f = true →
     (let d := s.dev.fhTake f
      let now := nsOfTime f.time
      let id := be (slice f.octets 4 2)
      (f.octets.getD 1 0 = 0 → 328 ≤ f.octets.length →
        (d.flowStreams 1 id = [] → exec (.ecpriMessageRx f) s = .next { s with dev := d.fhDrop }) ∧
        (d.flowStreams 1 id ≠ [] → exec (.ecpriMessageRx f) s = .next { s with dev :=
          ((d.flowStreams 1 id).foldl (fun d e => d.sbaMessage e.1 e.2 now f.octets) d) })) ∧
      (d.flowStreams 2 id = [] → exec (.oranUplaneRx f ext) s = .next { s with dev := d.fhDrop }) ∧
      (d.flowStreams 2 id ≠ [] → exec (.oranUplaneRx f ext) s = .next { s with dev :=
        ((d.flowStreams 2 id).foldl (fun d e => d.uplane1 e.1 e.2 now
          (uplaneOf (resPerSymbol (d.rxf e.1 e.2 Reg.DFE_RXCFG_KIND_f) / 12) f.octets) ext) d) }) ∧
      (d.flowStreams 3 id = [] → exec (.oranSection3Rx f ext) s = .next { s with dev := d.fhDrop }) ∧
      (d.flowStreams 3 id ≠ [] → exec (.oranSection3Rx f ext) s = .next { s with dev :=
        ((d.flowStreams 3 id).foldl (fun d e => d.uplane3 e.1 e.2 now (uplaneOf 4 f.octets) ext) d) }) ∧
      (f.octets.getD 1 0 = 5 → f.octets.getD 5 0 = 0 → f.port < 16 →
        exec (.ecpriDelayRequest f) s = .next { s with dev :=
          ((d.storeFrame { frameNew 0 0 0 16 d.time d.timeValid with raw := true }
            (octets 6 f.sa ++ octets 6 d.beadMac ++ [0xAE, 0xFE] ++ delayMsg (f.octets.getD 4 0) 2 (ecpriTime f.time))
            (d.classOf 16 0) [f.port])) }))) ∧
  (∀ (d : Dev) (u i now : Nat) (m : UPlane) (l : List Nat) (ext : Bool), u < 8 → i < 256 →
     (let sub := nearestSub (d.rxOrigin u i) now m
      let re := resPerSymbol (d.rxf u i Reg.DFE_RXCFG_KIND_f)
      (ext = true ∨ (∃ x ∈ m.sects, x.comp ≠ Config.udComp (u * 256 + i)) ∨
        d.inWindow (d.rxTime u i ((sub * 14 + m.sym) * re)) now = false → d.uplane1 u i now m ext = d.rxLate u i) ∧
      (ext = true ∨ (∃ x ∈ m.sects, x.comp ≠ Config.udComp (u * 256 + i)) ∨
        d.inWindow ((d.rxOrigin u i + sub * 1000000 + symbolStart3 m.filter m.sym : Nat) - (d.rxAdvance u i : Int)) now = false →
        d.uplane3 u i now m ext = d.rxLate u i) ∧
      ((∀ j < 80, d.inWindow (nearestPeriod now (be (slice l 6 2)) * 200000 + j * 2500 : Nat) now = false) →
        d.sbaMessage u i now l = d.rxLate u i) ∧
      (d.rxLate u i).fget (Reg.DFE_RXNF u i) Reg.DFE_RXNF_LATECNT_f =
        min 1023 (d.fget (Reg.DFE_RXNF u i) Reg.DFE_RXNF_LATECNT_f + 1) ∧ (d.rxLate u i).rm = d.rm)) ∧
  (∀ (b : Bead) (f : FhFrame) (s : State),
     (0xD4 ≤ b.dunit → b.dunit ≤ 0xDB → b.ok = true → s.dev.unitAway b.dunit = false → b.op = 0x20 →
       bits (b.pay 0) 23 22 ≤ 1 → bits (b.pay 0) 21 17 ≤ 15 →
       ∃ t x, exec (.delayMeasureRequest b) s = .next { s with dev := t } ∧
         t.dfe.meas = s.dev.dfe.meas ++
           [{ unit := b.dunit - 0xD4, bead := b, tag := s.dev.dfe.measTag, since := s.dev.elapsed, peer := none }] ∧
         t.net = (s.dev.take b).net ++ [x] ∧ x.op = 0x28 ∧ x.dunit = 0x820) ∧
     (∀ m, ecpriOk f = true → f.octets.getD 1 0 = 5 → s.dev.dfe.meas = [m] → m.peer = none →
       bits (m.bead.pay 0) 7 0 = f.octets.getD 4 0 → m.bead.pay 1 + m.bead.pay 2 * 2 ^ 24 = f.sa →
       (let peer := timeOf (be (slice f.octets 6 6)) (be (slice f.octets 12 4))
        let comp := sx 64 (be (slice f.octets 16 8))
        let d := s.dev.fhTake f
        let e : Dev := { d with dfe := { d.dfe with meas := [] } }
        (bits (m.bead.pay 0) 23 22 = 1 → f.octets.getD 5 0 = 0 → d.measReport m = none →
          exec (.delayMeasureAnswer f) s = .next { s with dev :=
            (e.measResult m.unit m.bead 0 (some (peer, true)) (some (f.time, f.tv)) (units16 f.time - (units16 peer + comp))) }) ∧
        (bits (m.bead.pay 0) 23 22 = 0 → f.octets.getD 5 0 = 2 → ∀ r, d.measReport m = some r →
          exec (.delayMeasureAnswer f) s = .next { s with dev :=
            ((e.take r).measResult m.unit m.bead 0 (some (d.reportTime r)) (some (peer, true))
              (units16 peer - comp - units16 (d.reportTime r).1)) }))) ∧
     (∀ m tag, s.dev.dfe.meas.find? (fun m => m.tag == tag) = some m → m.peer = none →
       (let tmo := bits (m.bead.pay 4) 15 0
        let d := s.dev.pass (m.since + (if tmo = 0 then 100 else tmo) * 100000 * nsUnit)
        exec (.delayMeasureTimeout tag) s = .next { s with dev :=
          ((d.measDone m).measResult m.unit m.bead 1
            (if bits (m.bead.pay 0) 23 22 = 0 then (d.measReport m).map d.reportTime else none) none 0) })))

/-! ### Burst reception, acknowledgments, carriers -/

/-- CROSSING: the hypothesis with the largest statistic of its span that reaches the threshold, in the order of symbol times and no
duplicate, takes the lowest free instance of the detector while the carrier's pool has room: the instance waits for its sync
word with its gain fixed, and BDT_DET counts it (R121, R137, R140 to R144). How an instance goes on. SYNC_CHECK: a candidate
within tolerance lets it track, one outside moves it to the next candidate, the last one outside ends it NOSYNC. HEADER_DECODE:
a good header is kept and a bad one ends it HEADER. PILOT_UPDATE: the symbols up to the next pilot are received; a pilot that is
erased on every antenna leaves average, drift and loop. CLOSING_PILOT: an accepted contributor ends JOINED, another instance
submits its decode (R144 to R150, R162). Model's choices in part: log 81, 82, 83, 184, 185, 186, 187, 189. -/
def Obligations.BurstIntake : Prop :=
  (∀ (det slot : Fin 16) (tau k0 : Nat) (fi : Int) (rx : List (List (Int × Int))) (s : State) (k : Nat),
     s.dev.searches det slot = true → s.dev.hypothesis det slot tau fi = true →
     SMap.get s.dev.brx.reached 0 det ≤ tau → s.dev.syncsDone det tau true = true →
     (let lam := s.dev.lambda det slot tau k0 fi rx
      fxGain (s.dev.fget (Reg.BDT_CPOOL det slot) Reg.BDT_CPOOL_THR_f) ≤ lam →
      (∀ f : Int, f.natAbs ≤ gridMax (s.dev.slotT det slot) → s.dev.lambda det slot tau k0 f rx ≤ lam) →
      (∀ x ∈ s.dev.slotInsts det slot, s.dev.duplicate x.2 tau (gridFreq (s.dev.slotT det slot) fi) lam = false) →
      (List.range 128).find? (fun k => (s.dev.inst (det * 128 + k)).isNone) = some k →
      (s.dev.slotInsts det slot).length < (if s.dev.fget (Reg.BDT_CPOOL det slot) Reg.BDT_CPOOL_IPOOL_f = 0 then 128
        else s.dev.fget (Reg.BDT_CPOOL det slot) Reg.BDT_CPOOL_IPOOL_f) →
      ∃ t x, exec (.crossing det slot tau fi k0 rx) s = .next { s with dev := t } ∧
        t.inst (det * 128 + k) = some x ∧ x.stage = .search ∧ x.tau = tau ∧ x.lam = lam ∧ x.order = s.dev.brx.claims ∧
        x.gain = max (-48) (min 192 (-(4 * s.dev.fget (Reg.DFE_IAGC (s.dev.fget (Reg.BDT_CCFG det slot) Reg.BDT_CCFG_DFE_f))
          Reg.DFE_IAGC_TGTI_f : Int) - x.ppre)) ∧
        t.brx.claims = s.dev.brx.claims + 1 ∧
        t.get48 (Reg.BDT_DET_LO det) = min (s.dev.get48 (Reg.BDT_DET_LO det) + 1) (2 ^ 48 - 1) ∧
        ∀ i, i ≠ det * 128 + k → t.inst i = s.dev.inst i)) ∧
  (∀ (i : Fin 2048) (x : Inst) (k0 : Nat) (rx : List (List (Int × Int))) (s : State), s.dev.inst i = some x →
     (let tol := min 6 (s.dev.fget (Reg.BDT_CCFG x.det x.slot) Reg.BDT_CCFG_TOL_f)
      let due := s.dev.syncDue x
      let reach := (k0 + (rx.headD []).length) * 2500
      let errs := s.dev.syncErrors x k0 rx
      let d : Dev := { s.dev with brx := { s.dev.brx with
        reached := SMap.set s.dev.brx.reached 0 x.det (max (SMap.get s.dev.brx.reached 0 x.det) due) } }
      x.stage = .search → due ≤ reach → s.dev.syncsDone x.det due false = true →
       (tol < errs → x.cand = 3 → exec (.syncCheck i k0 rx) s = .next { s with dev := d.instEnd i 6 0 [] }) ∧
       (tol < errs → x.cand ≠ 3 → reach < due + 16 * s.dev.slotT x.det x.slot →
         exec (.syncCheck i k0 rx) s = .next { s with dev := d.setInst i (some { x with cand := x.cand + 1 }) }) ∧
       (errs ≤ tol →
         ∃ t y, exec (.syncCheck i k0 rx) s = .next { s with dev := t } ∧ t.inst i = some y ∧ y.stage = .track ∧
           y.tau = x.tau + 16 * x.cand * s.dev.slotT x.det x.slot ∧ y.syncErr = errs)) ∧
     (let hr := s.dev.slotHr x.det x.slot
      let vs := softSyms x.syms.length x.own
      x.stage = .track → x.header = none → 90 * hr ≤ vs.length →
       (let soft := sumCopies 90 ((List.range hr).map fun c => (vs.drop (90 * c)).take 90)
        let v := ofBits (whiten ((vitTerm true soft 24 fun j => Config.free (s.dev.fresh + j)).take 24))
        (¬ (crc8 (v / 256) = v % 256 ∧ headerOk (v / 256) = true) →
          exec (.headerDecode i) s = .next { s with dev := { s.dev with fresh := s.dev.fresh + 64 * 30 }.instEnd i 5 0 [] }) ∧
        (crc8 (v / 256) = v % 256 → headerOk (v / 256) = true →
          ∃ t y, exec (.headerDecode i) s = .next { s with dev := t } ∧ t.inst i = some y ∧ y.header = some (v / 256) ∧
            y.stage = .track))) ∧
     (x.stage = .track → x.pilots.length + 1 < s.dev.lossN → x.anchor = none →
       (∀ m, s.dev.sectLen x = some m → x.syms.length < m) →
       (let n := if x.syms.length = 0 then 1 else min 17 (match s.dev.sectLen x with | some m => m - x.syms.length | none => 17)
        ∃ t y, exec (.pilotUpdate i k0 rx) s = .next { s with dev := t } ∧ t.inst i = some y ∧ y.stage = .track ∧
          y.syms.length = x.syms.length + n ∧ y.syms.take x.syms.length = x.syms ∧ y.erased ≤ x.erased + n ∧
          ((y.syms.getD (x.syms.length + n - 1) []).any (·.isSome) = false →
            y.pilots = x.pilots ∧ y.drift = x.drift ∧ y.loops.step = x.loops.step) ∧
          ((y.syms.getD (x.syms.length + n - 1) []).any (·.isSome) = true → y.pilots.length = x.pilots.length + 1))) ∧
     (x.stage = .track → s.dev.sectLen x = some x.syms.length →
       (x.accept = true → exec (.closingPilot i) s =
         .next { s with dev := (s.dev.reachNs ((s.dev.instStop x).getD 0)).instEnd i 9 0 [] }) ∧
       (x.accept = false → x.anchor ≠ some s.dev.devnum → x.counted = 0 →
         ∃ t y b, exec (.closingPilot i) s = .next { s with dev := t } ∧ t.inst i = some y ∧ y.stage = .all ∧
           t.net = s.dev.net ++ [b] ∧ b.op = 0x10 ∧ b.dlv = true)))

/-- INSTANCE_DECODE_RESULT: the decode that passes its CRC-24 ends the instance with its payload. PARTNER_ENDED and SICHOLD_EXPIRE:
a waiting instance none of whose stronger partners has ended with a payload is lost by collision; after one that has, it decodes
the record from which that partner is subtracted (R150, R154, R155, R157). When an instance ends it is free, its claim keeps the
outcome, every reported outcome sends one report of 16 words and its data to the host, and no other instance changes (R151,
R157, R164). Model's choices in part: log 83, 87, 88, 90. -/
def Obligations.BurstOutcomes : Prop :=
  (∀ (i : Fin 2048) (x : Inst) (b : Bead) (bs : List Nat) (q : Dev) (s : State), s.dev.inst i = some x →
     (b.ok = true → s.dev.unitAway b.dunit = false → b.op = 0x10 → b.rsp = true → bits (b.pay 0) 23 22 = 0 → x.stage = .all →
       (let n := 8 * hLen (x.header.getD 0)
        let v := whiten (bs ++ List.replicate (n + 24 - bs.length) 0)
        (s.dev.take b).bitsRead (instOut i) (n + 24) = (some bs, q) →
        crc24b (v.take n) = ofBits ((v.drop n).take 24) →
        exec (.instanceDecodeResult i b) s = .next { s with dev :=
          (q.instEnd i 0 (ofBits ((v.drop n).take 24)) (bytesOf (v.take n))) })) ∧
     (x.stage = .wait →
       (let hold := s.dev.reachNs ((s.dev.instStop x).getD 0 + 10000000 * s.dev.fget Reg.BRX_TIMES Reg.BRX_TIMES_SICHOLD_f)
        (∀ p ∈ x.strong.take x.counted, ∃ o, s.dev.claimOutcome p.2 = some o ∧ 2 < o) →
        (s.dev.waitsBefore i x = false → exec (.partnerEnded i) s = .next { s with dev :=
          ((s.dev.setInst i (some { x with partner := none })).instEnd i 3 0 []) }) ∧
        exec (.sicholdExpire i) s = .next { s with dev := (hold.setInst i (some { x with partner := none })).instEnd i 3 0 [] })) ∧
     (x.stage = .wait → (∀ p ∈ x.strong.take x.counted, (s.dev.claimOutcome p.2).isSome = true) →
       (∃ p ∈ x.strong.take x.counted, ∃ o, s.dev.claimOutcome p.2 = some o ∧ o ≤ 2) → s.dev.waitsBefore i x = false →
       ∃ t y r, exec (.partnerEnded i) s = .next { s with dev := t } ∧ t.inst i = some y ∧ y.stage = .record ∧
         y.partner.isSome = true ∧ t.net = s.dev.net ++ [r] ∧ r.op = 0x10)) ∧
  (∀ (d : Dev) (i outcome crc : Nat) (bytes : List Nat) (x : Inst), d.inst i = some x →
     (d.instEnd i outcome crc bytes).inst i = none ∧
     (∀ j, j ≠ i → (d.instEnd i outcome crc bytes).inst j = d.inst j) ∧
     (d.instEnd i outcome crc bytes).claimOutcome x.order = some outcome ∧
     (reported outcome (d.fbit (Reg.BDT_CJNT x.det x.slot) Reg.BDT_CJNT_RPTALL_f) = false →
       (d.instEnd i outcome crc bytes).net = d.net ∧ (d.instEnd i outcome crc bytes).brx.rseq = d.brx.rseq) ∧
     (reported outcome (d.fbit (Reg.BDT_CJNT x.det x.slot) Reg.BDT_CJNT_RPTALL_f) = true →
       (d.instEnd i outcome crc bytes).brx.rseq = (d.brx.rseq + 1) % 2 ^ 24 ∧
       ∃ b, b ∈ (d.instEnd i outcome crc bytes).net ∧ b.op = 0x20 ∧ 16 ≤ b.payload.length))

/-- Joint reception. JNOTICE_RX keeps a notice; JOINT_ELECTION names the device with the highest SNR; JSAMPLE_RX gives the anchor a
contributor's symbols and it accepts at the first; JACCEPT_RX tells a contributor; JOINT_WAIT_EXPIRE leaves out what is not
whole (R161 to R163). Acknowledgments. ACK_REQUEST_BEAD in time for this device schedules one, after the cut-off it is answered
MISSED, and one that names another device stops this device's own. ACK_CUTOFF without a request: an automatic carrier schedules
one itself and any other sends none. ACK_LAUNCH: a scheduled one is transmitted, but never while TIME_VALID is clear (R62 to
R67, R158, R159). Model's choices in part: log 89, 92, 190, 191, 201. -/
def Obligations.JointAndAcknowledged : Prop :=
  (∀ (b : Bead) (i : Fin 2048) (s : State),
     (b.ok = true → s.dev.unitAway b.dunit = false → b.op = 0x40 →
       ∃ t n, exec (.jnoticeRx b) s = .next { s with dev := t } ∧ t.brx.notices = s.dev.brx.notices ++ [n] ∧ n.dev = b.sdev ∧
         n.inst = b.pay 0 % 2 ^ 12) ∧
     (∀ x, s.dev.inst i = some x → x.synced = true → x.anchor = none →
       s.dev.fbit (Reg.BDT_CJNT x.det x.slot) Reg.BDT_CJNT_JEN_f = true →
       ∃ t y a, exec (.jointElection i) s = .next { s with dev := t } ∧ t.inst i = some y ∧ y.anchor = some a ∧
         (a = s.dev.devnum ∨ ∃ n ∈ s.dev.brx.notices, s.dev.noticeMatch x n = true ∧ n.dev = a) ∧
         (a = s.dev.devnum → ∀ n ∈ s.dev.brx.notices, s.dev.noticeMatch x n = true → n.snr ≤ 2 * (x.ppre - x.ninst))) ∧
     (∀ x, b.ok = true → s.dev.unitAway b.dunit = false → b.op = 0x41 → s.dev.inst (bits (b.pay 0) 23 12) = some x →
       x.anchor = some s.dev.devnum → x.contribs = [] → bits (b.pay 2) 17 0 = 0 →
       ∃ t y c r, exec (.jsampleRx b) s = .next { s with dev := t } ∧ t.inst (bits (b.pay 0) 23 12) = some y ∧ y.contribs = [c] ∧
         c.dev = b.sdev ∧ SMap.get c.ants none (bits (b.pay 1) 23 20) =
           some (sx 12 (bits (b.pay 1) 11 0), (b.payload.drop 4).take (bits (b.pay 2) 23 18 + 1)) ∧
         t.net = (s.dev.take b).net ++ [r] ∧ r.op = 0x42 ∧ r.ddev = b.sdev) ∧
     (∀ x, b.ok = true → s.dev.unitAway b.dunit = false → b.op = 0x42 → s.dev.inst (b.pay 0 % 2 ^ 12) = some x →
       x.anchor = some b.sdev →
       ∃ t, exec (.jacceptRx b) s = .next { s with dev := t } ∧ t.inst (b.pay 0 % 2 ^ 12) = some { x with accept := true }) ∧
     (∀ x, s.dev.inst i = some x → x.stage = .joint → x.counted = 0 →
       ∃ t y, exec (.jointWaitExpire i) s = .next { s with dev := t } ∧ t.inst i = some y ∧ y.stage = .all ∧
         y.contribs = x.contribs.filter fun c => c.ants != [] && c.ants.all fun a => match a.2 with
           | some e => decide ((s.dev.sectLen x).getD 0 ≤ e.2.length)
           | none => false)) ∧
  (∀ (b : Bead) (rseq dev rate rep more : Nat) (bytes : List Nat) (a : Ack) (s : State), s.dev.brx.acks = [a] → a.rseq = rseq →
     (a.burst = none → s.dev.nowNs ≤ a.launch - 1000000 →
       ∃ t, exec (.ackRequestBead b rseq s.dev.devnum rate rep more bytes) s = .next { s with dev := t } ∧
         t.brx.acks = [{ a with burst := some (ackHeader (min 252 bytes.length) rate rep more, ackBytes a.crc (bytes.take 252)) }]) ∧
     (a.launch - 1000000 < s.dev.nowNs →
       exec (.ackRequestBead b rseq s.dev.devnum rate rep more bytes) s = .next { s with dev := (s.dev.take b).hostLate b }) ∧
     (dev ≠ s.dev.devnum →
       ∃ t, exec (.ackRequestBead b rseq dev rate rep more bytes) s = .next { s with dev := t } ∧
         t.brx.acks = [{ a with auto := false }]) ∧
     (a.burst = none → a.launch - 1000000 ≤ s.dev.nowNs →
       ∃ t, exec (.ackCutoff rseq) s = .next { s with dev := t } ∧
         t.brx.acks = if s.dev.fbit (Reg.BDT_CCFG a.det a.slot) Reg.BDT_CCFG_AUTOACK_f && a.auto then
           [{ a with burst := some (ackHeader 0 0 a.rep 0, ackBytes a.crc []) }] else []) ∧
     (∀ h bs, a.burst = some (h, bs) → a.launch ≤ s.dev.nowNs →
       ∃ t, exec (.ackLaunch rseq) s = .next { s with dev := t } ∧ t.brx.acks = [] ∧
         (s.dev.timeValid = false → t.out = s.dev.out) ∧
         (s.dev.timeValid = true → ∃ bits, t.out = s.dev.out ++ [.ackBurst rseq a.freq bits])))

/-- CARRIER_SEARCH_DISABLE ends every instance of the carrier and clears its EN. HOST_ITEM_BEAD after its deadline is answered
MISSED and recorded; one that the carrier's kind does not admit is recorded with its reason and goes to no rod; any other goes
to the serving rod's inbox, and cell parameters or a coexistence map are set too. CARRIER_STATUS_BEAD reports the recorded items
of the subframe to the carrier's host endpoint and forgets them (R31, R36 to R38, R42, R43, R159). Model's choices in part: log
91, 154, 197, 198. -/
def Obligations.CarrierCommands : Prop :=
  ∀ (s : State),
    (∀ det slot : Fin 16, ∃ t, exec (.carrierSearchDisable det slot) s = .next { s with dev := t } ∧
      t.fbit (Reg.BDT_CCFG det slot) Reg.BDT_CCFG_EN_f = false ∧ t.slotInsts det slot = []) ∧
    (∀ (b : Bead) (c : Carrier) (h : HostItem) (n : Nat), unitCore b.dunit = some n →
      s.dev.carriers.find? (fun x => x.num == h.carrier) = some c → n / 8 = c.rod →
      (b.dlv = false → exec (.hostItemBead b h) s = .next { s with dev := s.dev.inboxBead b }) ∧
      (b.ok = true → b.dlv = true → s.dev.unitAway b.dunit = false →
        (s.dev.keyPast (s.dev.hostKey b) = true →
          ∃ t, exec (.hostItemBead b h) s = .next { s with dev := t } ∧ t.brx.status = s.dev.brx.status ++
            [(h.carrier, h.sub, 3 * 2 ^ 20 + h.item % 16 * 2 ^ 16 + h.rnti % 2 ^ 16, b.h3.toNat)]) ∧
        (s.dev.keyPast (s.dev.hostKey b) = false → h.reason c.kind ≠ 0 →
          ∃ t, exec (.hostItemBead b h) s = .next { s with dev := t } ∧ t.brx.status = s.dev.brx.status ++
            [(h.carrier, h.sub, h.reason c.kind * 2 ^ 20 + h.item % 16 * 2 ^ 16 + h.rnti % 2 ^ 16, b.h3.toNat)] ∧
            t.queues = s.dev.queues ∧ t.net = (s.dev.take b).net) ∧
        (s.dev.keyPast (s.dev.hostKey b) = false → h.reason c.kind = 0 → h.item ≠ 5 →
          exec (.hostItemBead b h) s = .next { s with dev := s.dev.inboxBead b }) ∧
        (s.dev.keyPast (s.dev.hostKey b) = false → h.reason c.kind = 0 → h.item = 5 →
          exec (.hostItemBead b h) s = .next { s with dev := (s.dev.inboxBead b).cellSet h }))) ∧
    (∀ (c : Carrier) (n w tag : Nat), s.dev.carriers.find? (fun x => x.num == c.num) = some c →
      s.dev.brx.status = [(c.num, n, w, tag)] →
      ∃ t b, exec (.carrierStatusBead c.num n) s = .next { s with dev := t } ∧ t.brx.status = [] ∧
        t.net = s.dev.net ++ [b] ∧ b.dunit = (0x840 + c.hostep) % 4096 ∧
        b.payload = [word (c.num * 2 ^ 15 + 2 ^ 9), word ((s.dev.frameOrigin (some c) + n * 1000000) / 1000 % 2 ^ 24),
          word (n / 10 % 1024 * 2 ^ 14 + n % 10 * 2 ^ 10 + n / 10240 % 1024), word w, word tag])

/-! ### Reckoning memory -/

/-- MEM_REQUEST and PAGE_DECODE_END: a request on a page that a window holds: a read answers the word, a write changes the enabled
byte lanes of the window, leaves the stored copy and makes the window dirty, a write of a retained range changes nothing but its
error answer. On any other page it waits for the bank's decoder, whose end answers the word of the stored copy, its errors
corrected, or an error when it is uncorrectable (R274 to R277, R280 to R282, R356). MEM_INIT_DONE gives clean zero pages of
strength 2 with no remap and no poisoned page, once; SCRUB_STEP and SCRUB_CTL_WRITE; REENCODE_CMD starts a re-encode and
REENCODE_PAGE rewrites one page at the new strength; REMAP_CMD moves a page to the lowest free spare; FLIP_ARM; FLUSH_CMD writes
a dirty window back and FLUSH_DONE ends it (R287 to R296). Model's choices in part: log 44, 45, 46, 47, 50, 53, 54, 196. -/
def Obligations.ReckoningMemory : Prop :=
  (∀ (a : MemAccess) (bk : Fin 32) (w : Nat) (s : State), a.word / 512 < pages → a.word / 512 % 32 = bk →
     (let P := a.word / 512
      let off := a.word % 512
      (s.dev.rm.initDone = true → s.dev.winOf P = some w →
        (a.write = false → (s.dev.win bk w).poison = false → SMap.get s.dev.rm.winErr 0 a.word = 0 →
          exec (.memRequest a) s = .next { s with dev :=
            ((s.dev.touch bk w).emit (.memResp a.req a.tag true (wordGet s.dev.rm.winData a.word))) }) ∧
        (a.write = true → s.dev.retained (0x10000000 + a.word) = true →
          exec (.memRequest a) s = .next { s with dev := s.dev.emit (.memResp a.req a.tag false 0) }) ∧
        (a.write = true → s.dev.retained (0x10000000 + a.word) = false →
          ∃ t, exec (.memRequest a) s = .next { s with dev := t } ∧ t.out = s.dev.out ++ [.memResp a.req a.tag true 0] ∧
            (t.win bk w).page = some P ∧ (t.win bk w).dirty = true ∧ t.rm.store = s.dev.rm.store ∧ t.rm.phys = s.dev.rm.phys ∧
            ∀ p, cellGet t.rm.winData p =
              if 3 * a.word ≤ p ∧ p < 3 * a.word + 3 ∧ bits a.lanes (p - 3 * a.word) (p - 3 * a.word) = 1 then
                lane a.data (p - 3 * a.word) else cellGet s.dev.rm.winData p)) ∧
      (s.dev.memHit a = false →
        exec (.memRequest a) s = .next { s with dev := s.dev.setWaiting bk (s.dev.memWaiting bk ++ [a]) }) ∧
      (s.dev.rm.initDone = true → s.dev.memWaiting bk = [a] → a.write = false → s.dev.winOf P = none →
        (∃ v, v < 8 ∧ (s.dev.win bk v).page = none) → Memory.wf s.dev.rm.store = true → Memory.wf s.dev.rm.winData = true →
        ∃ t, exec (.pageDecodeEnd bk) s = .next { s with dev := t } ∧ t.memWaiting bk = [] ∧
          (∀ res, s.dev.decode P = .clean res ∨ (∃ n, s.dev.decode P = .corrected n res) →
            ((s.dev.phys (s.dev.place P)).after res).poison = false → SMap.get s.dev.rm.winErr 0 a.word = 0 →
            t.out = s.dev.out ++ [.memResp a.req a.tag true (wordGet (flipData (s.dev.storedData (s.dev.place P)) res) off)] ∧
            (t.winOf P).isSome = true) ∧
          (s.dev.decode P = .uncorrectable → t.out = s.dev.out ++ [.memResp a.req a.tag false 0])))) ∧
  (∀ (s : State) (w : Word),
     (s.dev.rm.initDone = true → exec .memInitDone s = .next s) ∧
     (s.dev.rm.initDone = false →
       ∃ t, exec .memInitDone s = .next { s with dev := t } ∧ t.rm.initDone = true ∧ t.rm.phys = [] ∧ t.rm.store = [] ∧
         (∀ r, r < 384 → t.fget (Reg.PGC_REG r) Reg.PGC_REG_TCUR_f = 2 ∧ t.fget (Reg.PGC_REG r) Reg.PGC_REG_TNEW_f = 2 ∧
           t.fbit (Reg.PGC_REG r) Reg.PGC_REG_BUSY_f = false) ∧
         (∀ b k, b < 32 → k < 64 → t.rget (Reg.PGC_MAP b k) = 0) ∧ (∀ k, k < 256 → t.rget (Reg.PGC_POISON k) = 0)) ∧
     exec .flushDone s = .next { s with dev := { s.dev with rm := { s.dev.rm with flushBusy := false } } } ∧
     (s.dev.fbit Reg.PGC_SCRUB_CTL Reg.PGC_SCRUB_CTL_EN_f = true → s.dev.rm.initDone = true → s.dev.pwr.mode ≤ 1 →
       ∃ t, exec .scrubStep s = .next { s with dev := t } ∧ t.rm.scrubAt = s.dev.rm.scrubAt + s.dev.scrubInterval ∧
         t.fget Reg.PGC_SCRUB_STAT Reg.PGC_SCRUB_STAT_CURSOR_f =
           if 3071 ≤ s.dev.fget Reg.PGC_SCRUB_STAT Reg.PGC_SCRUB_STAT_CURSOR_f then 0
           else s.dev.fget Reg.PGC_SCRUB_STAT Reg.PGC_SCRUB_STAT_CURSOR_f + 1) ∧
     (let en := getF w Reg.PGC_SCRUB_CTL_EN_f
      let hours := getF w Reg.PGC_SCRUB_CTL_HOURS_f
      ∃ t, exec (.scrubCtlWrite w) s = .next { s with dev := t } ∧
       t.fget Reg.PGC_SCRUB_CTL Reg.PGC_SCRUB_CTL_EN_f = en ∧ t.fget Reg.PGC_SCRUB_CTL Reg.PGC_SCRUB_CTL_HOURS_f = hours ∧
       t.rm.scrubAt = if en = 1 ∧ (s.dev.fget Reg.PGC_SCRUB_CTL Reg.PGC_SCRUB_CTL_EN_f = 0 ∨
           hours ≠ s.dev.fget Reg.PGC_SCRUB_CTL Reg.PGC_SCRUB_CTL_HOURS_f) then s.dev.elapsed else s.dev.rm.scrubAt) ∧
     (let r := getF w Reg.PGC_RECMD_REGION_f
      getF w Reg.PGC_RECMD_GO_f = 1 → s.dev.rm.reenc = none → getF w Reg.PGC_RECMD_TNEW_f ≤ 4 → r ≤ 383 →
       ∃ t, exec (.reencodeCmd w) s = .next { s with dev := t } ∧ t.rm.reenc = some r ∧
         t.fget (Reg.PGC_REG r) Reg.PGC_REG_BUSY_f = 1 ∧ t.fget (Reg.PGC_REG r) Reg.PGC_REG_PASSFLAG_f = 1 ∧
         t.fget (Reg.PGC_REG r) Reg.PGC_REG_CURSOR_f = 0 ∧
         t.fget (Reg.PGC_REG r) Reg.PGC_REG_TNEW_f = getF w Reg.PGC_RECMD_TNEW_f ∧
         t.fget (Reg.PGC_REG r) Reg.PGC_REG_REVER_f = (s.dev.fget (Reg.PGC_REG r) Reg.PGC_REG_REVER_f + 1) % 256) ∧
     (∀ r i, s.dev.rm.reenc = some r → s.dev.rm.initDone = true → r ≤ 383 → s.dev.fget (Reg.PGC_REG r) Reg.PGC_REG_CURSOR_f = i →
       (let P := r * 256 + i
        let pp := s.dev.place P
        let tn := s.dev.fget (Reg.PGC_REG r) Reg.PGC_REG_TNEW_f
        s.dev.winOf P = none → s.dev.decode P = .clean [] → s.dev.fbit Reg.PGC_FLIP_MASK Reg.PGC_FLIP_MASK_ARM_f = false →
        Memory.wf s.dev.rm.store = true →
        ∃ t, exec .reencodePage s = .next { s with dev := t } ∧
          t.phys pp = { tcode := tn, poison := (s.dev.phys pp).poison, page := P,
                        ver := s.dev.fget (Reg.PGC_REG r) Reg.PGC_REG_REVER_f, flips := [] } ∧
          (∀ p, cellGet t.rm.store p = cellGet s.dev.rm.store p) ∧
          (i < 255 → t.rm.reenc = some r ∧ t.fget (Reg.PGC_REG r) Reg.PGC_REG_CURSOR_f = i + 1) ∧
          (i = 255 → t.rm.reenc = none ∧ t.fget (Reg.PGC_REG r) Reg.PGC_REG_TCUR_f = tn ∧
            t.fget (Reg.PGC_REG r) Reg.PGC_REG_BUSY_f = 0))) ∧
     (let P := getF w Reg.PGC_REMAP_PAGE_f
      ∀ k, s.dev.rm.initDone = true → getF w Reg.PGC_REMAP_GO_f = 1 → P < pages → (s.dev.freeSpares (P % 32)).head? = some k →
       s.dev.spareOf (P % 32) (P / 32) = none → s.dev.winOf P = none → s.dev.decode P = .clean [] → Memory.wf s.dev.rm.store = true →
       ∃ t, exec (.remapCmd w) s = .next { s with dev := t } ∧ t.place P = pages + P % 32 * 64 + k ∧
         (∀ i, i < 512 → wordGet t.rm.store (t.place P * 512 + i) = wordGet s.dev.rm.store (P * 512 + i)) ∧
         (∀ Q, Q < pages → Q ≠ P → t.place Q = s.dev.place Q)) ∧
     (∃ t, exec (.flipArm w) s = .next { s with dev := t } ∧
       t.fget Reg.PGC_FLIP_MASK Reg.PGC_FLIP_MASK_ARM_f = getF w Reg.PGC_FLIP_MASK_ARM_f ∧
       t.fget Reg.PGC_FLIP_MASK Reg.PGC_FLIP_MASK_PAGE_f = getF w Reg.PGC_FLIP_MASK_PAGE_f ∧
       t.fget Reg.PGC_FLIP_MASK Reg.PGC_FLIP_MASK_DONE_f =
         if getF w Reg.PGC_FLIP_MASK_DONE_f = 1 then 0 else s.dev.fget Reg.PGC_FLIP_MASK Reg.PGC_FLIP_MASK_DONE_f) ∧
     (let P := getF w Reg.MEM_FLUSH_PAGE_f
      ∀ v, getF w Reg.MEM_FLUSH_GO_f = 1 → getF w Reg.MEM_FLUSH_ALL_f = 0 → getF w Reg.MEM_FLUSH_DROP_f = 0 → P < pages →
       s.dev.rm.flushBusy = false → s.dev.winOf P = some v → (s.dev.win (P % 32) v).dirty = true →
       (s.dev.win (P % 32) v).poison = false → (∀ e ∈ s.dev.rm.winErr, e.1 / 512 ≠ P) → Memory.wf s.dev.rm.winData = true →
       ∃ t, exec (.flushCmd w) s = .next { s with dev := t } ∧ t.rm.flushBusy = true ∧ (t.win (P % 32) v).dirty = false ∧
         ∀ i, i < 512 → wordGet t.rm.store (t.place P * 512 + i) = wordGet s.dev.rm.winData (P * 512 + i)))

/-! ### DMA and queues -/

/-- The DMA commands: DMA_START runs a valid and granted descriptor and ends any other in ERROR, DMA_START_LOAD reads the image at
NEXT, DMA_STOP ends a channel, DMA_DESC_LOADED replaces the descriptor, DMA_BEAT_ISSUE gives a slot to a beat of the image, the
source or the destination, DMA_READ_RESPONSE brings bytes, DMA_WRITE_RESPONSE confirms a beat, DMA_REMOTE_TIMEOUT ends with
TIMEOUT (R300, R303, R304, R308, R309, R312 to R315, R317, R321). A write of DMA_CTL by any unit but the channel's owner, the
Abacist and the security island ends in a bus error and changes nothing (R300). Model's choices in part: log 104, 105, 106, 107,
108, 109, 110, 111, 112, 113. -/
def Obligations.DmaChannels : Prop :=
  (∀ (e : Fin 2) (c : Fin 64) (r : Req) (w : Word) (s : State),
     (s.dev.dmaMay e c r = true → getF w Reg.DMA_CTL_START_f = 1 → s.dev.dmaStartable e c = true →
       (getF w Reg.DMA_CTL_LOAD_f = 0 →
         ∃ t, exec (.dmaStart r e c w) s = .next { s with dev := t } ∧
           t.rget (Reg.DMA_COUNT e c) = s.dev.rget (Reg.DMA_LEN e c) ∧ t.rget (Reg.DMA_RESIDUAL e c) = 0 ∧
           t.fget (Reg.DMA_STATUS e c) Reg.DMA_STATUS_ERR_f =
             (if s.dev.dmaValid e c = false then 1
              else if ∃ o, s.dev.dmaOwner e c = some o ∧ s.dev.sideGranted o (s.dev.dmaSrc e c) false = true ∧
                s.dev.sideGranted o (s.dev.dmaDst e c) true = true then 0 else 3) ∧
           t.dmaState e c = if t.fget (Reg.DMA_STATUS e c) Reg.DMA_STATUS_ERR_f = 0 then 2 else 5) ∧
       (getF w Reg.DMA_CTL_LOAD_f = 1 →
         ∃ t, exec (.dmaStartLoad r e c w) s = .next { s with dev := t } ∧ t.dmaState e c = 1 ∧
           t.rget (Reg.DMA_COUNT e c) = s.dev.rget (Reg.DMA_LEN e c) ∧ t.rget (Reg.DMA_RESIDUAL e c) = 0)) ∧
     (s.dev.dmaMay e c r = true → getF w Reg.DMA_CTL_STOP_f = 1 → getF w Reg.DMA_CTL_START_f = 0 →
       ∃ t, exec (.dmaStop r e c w) s = .next { s with dev := t } ∧
         (s.dev.dmaState e c = 1 → t.dmaState e c = 6) ∧
         (s.dev.dmaState e c = 2 → (s.dev.dmaCh e c).endAs = none → (s.dev.dmaCh e c).quiet = true → t.dmaState e c = 6) ∧
         (s.dev.dmaState e c = 2 → (s.dev.dmaCh e c).endAs = none → (s.dev.dmaCh e c).quiet = false →
           t = s.dev.setDma e c { s.dev.dmaCh e c with endAs := some 6 }) ∧
         (s.dev.dmaState e c = 3 → t = s.dev.setDma e c { s.dev.dmaCh e c with noChain := true })) ∧
     (∀ ws q o, s.dev.dmaState e c = 1 → s.dev.dmaImgBeats e c ≤ (s.dev.dmaCh e c).img → s.dev.dmaReady e c (s.dev.dmaNext e c) = true → s.dev.dmaOwner e c = some o →
       s.dev.spanGranted o (s.dev.dmaNext e c) (s.dev.dmaNext e c + 15) false = true →
       s.dev.dmaWords e c (s.dev.dmaNext e c) 16 = (ws, true, q) → bits (ws.getD 0 0).toNat 23 16 = 0xD5 → q.stc.forced = false →
       ∃ t, exec (.dmaDescLoaded e c) s = .next { s with dev := t } ∧ t.rget (Reg.DMA_LEN e c) = ws.getD 12 0 ∧
         t.rget (Reg.DMA_SRC_LO e c) = ws.getD 2 0 ∧ t.rget (Reg.DMA_DST_LO e c) = ws.getD 7 0 ∧
         t.rget (Reg.DMA_COUNT e c) = ws.getD 12 0 ∧ (t.dmaState e c = 2 ∨ t.dmaState e c = 5)) ∧
     (s.dev.dmaPick e false = some (c : Nat) → s.dev.dmaState e c = 1 →
       ∃ t, exec (.dmaBeatIssue e false) s = .next { s with dev := t } ∧ t.regs = s.dev.regs ∧
         t.dmaCh e c = { s.dev.dmaCh e c with img := (s.dev.dmaCh e c).img + 1 }) ∧
     (s.dev.dmaPick e false = some (c : Nat) → s.dev.dmaState e c = 2 → (s.dev.dmaSrc e c).dev = none →
       (let x := s.dev.dmaCh e c
        let n := (s.dev.dmaSrc e c).beat x.rj
        ∃ t, exec (.dmaBeatIssue e false) s = .next { s with dev := t } ∧ t.regs = s.dev.regs ∧
          t.dmaCh e c = { x with rj := x.rj + n, reads := x.reads ++ [(x.rj, n)] })) ∧
     (s.dev.dmaPick e true = some (c : Nat) → (s.dev.dmaDst e c).dev = none →
       (let x := s.dev.dmaCh e c
        let n := (s.dev.dmaDst e c).beat x.wj
        let left := (s.dev.rget (Reg.DMA_COUNT e c)).toNat - n
        ∃ t, exec (.dmaBeatIssue e true) s = .next { s with dev := t } ∧ (t.rget (Reg.DMA_COUNT e c)).toNat = left ∧
          t.dmaState e c = (if left = 0 then 3 else 2) ∧ (t.dmaCh e c).wj = x.wj + n ∧
          (t.dmaCh e c).writes = x.writes ++ [x.take (s.dev.dmaDst e c) (x.bidx, x.wj, n)])) ∧
     (∀ j n ws d1, (s.dev.dmaCh e c).reads.find? (fun q => q.1 == j) = some (j, n) →
       (let p := (s.dev.dmaSrc e c).byteAt j
        s.dev.dmaReady e c (p / 3) = true →
        (s.dev.onDma e c fun x => { x with reads := x.reads.erase (j, n) }).dmaWords e c (p / 3) ((p + n - 1) / 3 - p / 3 + 1) =
          (ws, true, d1) →
        d1.dmaState e c = 2 → (d1.dmaCh e c).endAs = none → d1.stc.forced = false →
        ∃ t, exec (.dmaReadResponse e c j none) s = .next { s with dev := t } ∧ (t.dmaCh e c).reads = (d1.dmaCh e c).reads ∧
          ∀ i, i < n → SMap.get (t.dmaCh e c).got none (j + i) =
            some (bits (ws.getD ((p % 3 + i) / 3) 0).toNat ((p + i) % 3 * 8 + 7) ((p + i) % 3 * 8)))) ∧
     (∀ b i d1, (s.dev.dmaCh e c).writes.find? (fun b => b.idx == i) = some b → s.dev.dmaReady e c (b.pos / 3) = true →
       (s.dev.onDma e c fun x => { x with writes := x.writes.erase b }).dmaWriteAll e c (laneWords b.pos b.data) = (true, d1) →
       d1.dmaState e c = 2 → (d1.dmaCh e c).endAs = none → d1.stc.forced = false →
       exec (.dmaWriteResponse e c i none) s = .next { s with dev := d1.count (Reg.DMA_BYTES_LO e) b.data.length }) ∧
     (∀ q tag j n, (s.dev.dmaCh e c).beads = [q] → q.tag = tag → q.rd = some (j, n) → (s.dev.dmaCh e c).reads = [] →
       (s.dev.dmaCh e c).writes = [] → (s.dev.dmaCh e c).bad = none → (s.dev.dmaCh e c).endAs = none → s.dev.dmaState e c = 2 →
       s.dev.stc.forced = false →
       ∃ t, exec (.dmaRemoteTimeout e c tag) s = .next { s with dev := t } ∧ t.dmaBead e c tag = none ∧
         q.sent + max 1 (s.dev.fget (Reg.DMA_ECFG e) Reg.DMA_ECFG_RTMO_f) * 10000 * nsUnit ≤ t.elapsed ∧
         t.dmaState e c = 5 ∧ t.fget (Reg.DMA_STATUS e c) Reg.DMA_STATUS_ERR_f = 6)) ∧
  (∀ (e : Fin 2) (c : Fin 64) (r : Req) (w : Word) (s : State), s.dev.dmaOwner e c ≠ some r → r ≠ .local 0x7F → r ≠ .local 0x7E →
     ∀ i ∈ [Instr.dmaStart r e c w, .dmaStartLoad r e c w, .dmaStop r e c w],
       exec i s = .next { s with dev := s.dev.emit (.busError r (0x30000000 + Reg.DMA_CTL e c)) })

/-- QUEUE_BEAD_RX pushes the payload of its producer's bead whole, or drops and counts it; QUE_RESET empties the queue, marks a cut
read and counts a cut item; a queue of class S or M gives its words in the order of their arrival and makes the producer wait
when it is full (R325, R328, R330, R331, R336, R337). Model's choices in part: log 102, 103. -/
def Obligations.QueueCommands : Prop :=
  (∀ (b : Bead) (s : State), 0x400 ≤ b.dunit → b.dunit < 0x800 → b.ok = true → s.dev.unitAway b.dunit = false →
    (let d := s.dev.take b
     let n := b.dunit - 0x400
     let data : Bool := b.op == 0x20 || b.op == 0x18 || b.rsp
     (∀ q, d.qOn n = true → d.qProducer n b = true → data = true → d.qPushWhole n b.payload = (true, q) →
       exec (.queueBeadRx b) s = .next { s with dev := q }) ∧
     (d.qOn n = false ∨ d.qProducer n b = false ∨ data = false ∨ (d.qPushWhole n b.payload).1 = false →
       exec (.queueBeadRx b) s = .next { s with dev := d.qDrop n }))) ∧
  (∀ (n : Fin 1024) (s : State),
    ∃ t, exec (.queReset n) s = .next { s with dev := t } ∧ (t.queue n).words = [] ∧ (t.queue n).items = [] ∧
      (t.queue n).rel = [] ∧ (∀ m, m ≠ (n : Nat) → t.queue m = s.dev.queue m) ∧
      ((s.dev.queue n).midRead = true → t.fget (Reg.QUE_STAT n) Reg.QUE_STAT_RDCUT_f = 1) ∧
      t.get48 (Reg.QUE_CUT_LO n) = if (s.dev.queue n).partway = true ∧ (s.dev.queue n).discard = false then
        min (s.dev.get48 (Reg.QUE_CUT_LO n) + 1) (2 ^ 48 - 1) else s.dev.get48 (Reg.QUE_CUT_LO n)) ∧
  ∀ (c : QCfg) (q : Queue) (w : Word) (us : Nat), c.cls ≠ 2 → c.ww = 0 → q.units = [] → q.discard = false → q.sink = false →
    (q.words.length < c.cap → ∃ p ev, q.unit c w = some (p, ev) ∧ p.words = q.words ++ [w]) ∧
    (c.cap ≤ q.words.length → q.unit c w = none) ∧
    ∀ x t, q.words = x :: t → ∃ p, q.popWord c us = some (x, p) ∧ p.words = t

/-! ### The structure loader -/

/-- The loader: STC_FULL_LOAD in EMPTY or FAILED and STC_SLICE_LOAD in LOADED start a verification; STC_VERIFY_END sends an accepted
FULL image to APPLY and an accepted slice to its drain; STC_DRAINACK by a core of rod OLD ends the drain; STC_DRAIN_TIMEOUT
without FORCE ends the operation; STC_APPLY_END applies the records in order (R352 to R358). STC_FENCE by the Abacist or the
security island fences a unit that can be fenced, at once or in APPLY at its end; of a unit already fenced it sets ERR; any
other unit's write is a bus error (R359, R551, R554). Model's choices in part: log 114, 115, 116, 117, 118, 119, 120, 121, 178. -/
def Obligations.LoaderAndFence : Prop :=
  (∀ (r : Req) (w : Word) (s : State),
     (getF w Reg.STC_CMD_GO_f = 1 → getF w Reg.STC_CMD_OP_f = 0 → s.dev.stc.wbusy = false →
       s.dev.stcIs 0 = true ∨ s.dev.stcIs 5 = true →
       ∃ t, exec (.stcFullLoad w) s = .next { s with dev := t } ∧ t.stcIs 1 = true ∧ t.stc.op = .full ∧
         t.fget Reg.STC_STAT Reg.STC_STAT_RESULT_f = 0) ∧
     (getF w Reg.STC_CMD_GO_f = 1 → getF w Reg.STC_CMD_OP_f = 1 → s.dev.stc.wbusy = false → s.dev.stcIs 4 = true →
       ∃ t, exec (.stcSliceLoad w) s = .next { s with dev := t } ∧ t.stcIs 1 = true ∧ t.stc.op = .slice ∧
         t.fget Reg.STC_STAT Reg.STC_STAT_RESULT_f = 0) ∧
     (∀ h ws d1 d2, s.dev.stcIs 1 = true → s.dev.stc.wbusy = false → s.dev.sec.waiting = [] →
       s.dev.memReadN s.dev.imgBase 16 = (h, true, d1) → d1.memReadN s.dev.imgBase (imgLen h) = (ws, true, d2) →
       (s.dev.stc.op = .full → headerBad h false = none → d2.imageBad ws s.dev.imgBase false = none → d2.imgSecure ws = true →
         ∃ t, exec .stcVerifyEnd s = .next { s with dev := t } ∧ t.stcIs 3 = true ∧ t.sec.aborted = false) ∧
       (s.dev.stc.op = .slice → headerBad h true = none → d2.imageBad ws s.dev.imgBase true = none →
         d2.imgSecure ws = true → s.dev.rodFenced (imgRepl h) = false →
         ∃ t, exec .stcVerifyEnd s = .next { s with dev := t } ∧ t.stcIs 2 = true ∧ t.sec.aborted = false ∧
           t.fget Reg.STC_STAT Reg.STC_STAT_DRAINREQ_f = 1) ∧
       (∀ b, s.dev.stc.op = .full → headerBad h false = none → d2.imageBad ws s.dev.imgBase false = some b →
         s.dev.stc.fenceWait = [] →
         ∃ t, exec .stcVerifyEnd s = .next { s with dev := t } ∧ t.stcIs 5 = true ∧ t.stc.op = .none)) ∧
     (let old := s.dev.fget Reg.STC_SLICE Reg.STC_SLICE_OLD_f
      s.dev.stcIs 2 = true → s.dev.stc.forced = false →
       ((∃ i, i < 8 ∧ r = .local (old * 8 + i)) → getF w Reg.STC_DRAINACK_ACK_f = 1 →
         ∃ t, exec (.stcDrainack r w) s = .next { s with dev := t } ∧ t.stcIs 3 = true ∧
           t.fget Reg.STC_STAT Reg.STC_STAT_DRAINREQ_f = 0 ∧ t.regions = s.dev.regions.filter fun x => x.slice != old) ∧
       ((∀ i, i < 8 → r ≠ .local (old * 8 + i)) → exec (.stcDrainack r w) s = .next s) ∧
       (s.dev.fbit Reg.STC_SLICE Reg.STC_SLICE_FORCE_f = false → s.dev.stc.fenceWait = [] →
         ∃ t, exec .stcDrainTimeout s = .next { s with dev := t } ∧ t.stcIs 4 = true ∧ t.stc.op = .none ∧
           t.fget Reg.STC_STAT Reg.STC_STAT_DRAINREQ_f = 0 ∧ t.fget Reg.STC_STAT Reg.STC_STAT_RESULT_f = 7)) ∧
     (∀ h ws d1 d2, s.dev.stcIs 3 = true → s.dev.stc.wbusy = false → s.dev.memReadN s.dev.imgBase 16 = (h, true, d1) →
       d1.memReadN s.dev.imgBase (imgLen h) = (ws, true, d2) →
       (s.dev.stc.op = .full → (needsInit (imgBody ws) = false ∨ d1.rm.initDone = true) →
         exec .stcApplyEnd s = .next { s with dev :=
           (((imgBody ws).foldl (fun s r => s.applyRec true r) (d2.fullStart (imgBody ws))).fullDone ws (imgBody ws) s.dev.imgBase) }) ∧
       (s.dev.stc.op = .slice →
         exec .stcApplyEnd s = .next { s with dev :=
           (((imgBody ws).foldl (fun s r => s.applyRec true r) (d2.sliceStart (imgBody ws) (imgRod h) (imgRepl h))).sliceDone ws
             (imgRod h) (imgRepl h) s.dev.imgBase) }))) ∧
  (∀ (r : Req) (w : Word) (s : State),
     (let u := getF w Reg.STC_FENCE_UNIT_f
      (r.trusted = true → getF w Reg.STC_FENCE_GO_f = 1 → unitFences u = true → s.dev.fenced u = false →
        s.dev.stc.fenceWait.contains u = false →
        ∃ t, exec (.stcFence r w) s = .next { s with dev := t } ∧
          (s.dev.stcIs 3 = false → t.fenced u = true ∧ ∀ v, v ≠ u → t.fenced v = s.dev.fenced v) ∧
          (s.dev.stcIs 3 = true → t.stc.fenceWait = s.dev.stc.fenceWait ++ [u] ∧ ∀ v, t.fenced v = s.dev.fenced v)) ∧
      (r.trusted = true → getF w Reg.STC_FENCE_GO_f = 1 → unitFences u = false ∨ s.dev.fenced u = true →
        ∃ t, exec (.stcFence r w) s = .next { s with dev := t } ∧ t.fget Reg.STC_FENCE Reg.STC_FENCE_ERR_f = 1 ∧
          ∀ v, t.fenced v = s.dev.fenced v) ∧
      (r.trusted = false → exec (.stcFence r w) s = .next { s with dev := s.dev.emit (.busError r (0x30000000 + Reg.STC_FENCE)) })))

/-! ### Time base, Tally, events -/

/-- The time commands of a unit that may give them, TIM_CMD_SET, TIM_CMD_SETPPS, TIM_CMD_STEP, TIM_CMD_SLEW, TIM_CMD_CANCEL,
TIM_INC_COMMIT, TIM_MULT_CHANGE and TIM_VALID_WRITE, with TIME_VALID cleared by a jump beyond the step guard (R367 to R369,
R371, R372, R374). Model's choices in part: log 97, 203. -/
def Obligations.TimeCommands : Prop :=
  ∀ (r : Req) (w : Word) (s : State), s.dev.timMay r = true →
    (let guardKeeps (t : Nat) : Bool :=
       decide ((((t / nsUnit : Nat) : Int) - ((s.dev.time / nsUnit : Nat) : Int)).natAbs ≤
         s.dev.fget Reg.TIM_CTL Reg.TIM_CTL_STEPGUARD_f * 100)
     (s.dev.timSet = none →
       exec (.timCmdSet r) s = .next { s with dev := s.dev.timErr } ∧ exec (.timCmdSetpps r) s = .next { s with dev := s.dev.timErr }) ∧
     (∀ a, s.dev.timSet = some a →
       (∃ t, exec (.timCmdSet r) s = .next { s with dev := t } ∧ t.time = a ∧ t.elapsed = s.dev.elapsed ∧ t.tim.rem = 0 ∧
         t.tim.armed = none ∧ t.fget Reg.TIM_CTL Reg.TIM_CTL_TSET_f = 1 ∧ t.timeValid = (s.dev.timeValid && guardKeeps a)) ∧
       exec (.timCmdSetpps r) s = .next { s with dev := { s.dev with tim := { s.dev.tim with armed := some a } } }) ∧
     (let a := (((s.dev.time : Int) + s.dev.timOfs * nsUnit) % timeMod).toNat
      ∃ t, exec (.timCmdStep r) s = .next { s with dev := t } ∧ t.time = a ∧ t.elapsed = s.dev.elapsed ∧ t.tim.rem = s.dev.tim.rem ∧
        t.timeValid = (s.dev.timeValid && guardKeeps a)) ∧
     (let x := s.dev.tim.rem + s.dev.timOfs * nsUnit
      ∃ t, exec (.timCmdSlew r) s = .next { s with dev := t } ∧ t.time = s.dev.time ∧
        t.tim.rem = max (-slewMax) (min slewMax x) ∧ (¬ (-slewMax ≤ x ∧ x ≤ slewMax) → t.fget Reg.TIM_CTL Reg.TIM_CTL_ERR_f = 1)) ∧
     exec (.timCmdCancel r) s = .next { s with dev := { s.dev with tim := { s.dev.tim with armed := none, rem := 0 } } } ∧
     (let n := (s.dev.tim.incHeld.getD (s.dev.rget Reg.TIM_INC_LO)).toNat + w.toNat * 2 ^ 24
      ∃ t, exec (.timIncCommit r w) s = .next { s with dev := t } ∧ t.tim.incHeld = none ∧ t.inc = s.dev.inc ∧
        (3 * nsUnit ≤ 4 * n → 2 * n ≤ 3 * nsUnit → t.incTake.inc = n) ∧
        (4 * n < 3 * nsUnit ∨ 3 * nsUnit < 2 * n → t.tim.incNext = s.dev.tim.incNext ∧
          t.fget Reg.TIM_CTL Reg.TIM_CTL_ERR_f = 1)) ∧
     (let m := getF w Reg.TIM_REFCFG_MULT_f
      ∃ t, exec (.timMultChange r w) s = .next { s with dev := t } ∧
        (m < 6 ∨ 100 < m → t = s.dev.timErr) ∧
        (6 ≤ m → m ≤ 100 → t.fget Reg.TIM_REFCFG Reg.TIM_REFCFG_MULT_f = m) ∧
        (6 ≤ m → m ≤ 100 → m ≠ s.dev.fget Reg.TIM_REFCFG Reg.TIM_REFCFG_MULT_f → s.dev.tim.refOk = true →
          t.tim.refOk = false ∧ t.timeValid = false)) ∧
     ∃ t, exec (.timValidWrite r w) s = .next { s with dev := t } ∧
       (getF w Reg.TIM_CTL_VALID_f = 0 → t.timeValid = false) ∧
       (getF w Reg.TIM_CTL_VALID_f = 1 → s.dev.timeValid = true → t.timeValid = true) ∧
       (getF w Reg.TIM_CTL_VALID_f = 1 → s.dev.tim.refOk = true → s.dev.fbit Reg.TIM_CTL Reg.TIM_CTL_TSET_f = true →
         t.timeValid = true) ∧
       (getF w Reg.TIM_CTL_VALID_f = 1 → s.dev.timeValid = false →
         s.dev.tim.refOk = false ∨ s.dev.fbit Reg.TIM_CTL Reg.TIM_CTL_TSET_f = false →
         t.timeValid = false ∧ t.fget Reg.TIM_CTL Reg.TIM_CTL_ERR_f = 1))

/-- The guarded time registers: a write by any unit but the Abacist, the security island and the unit that TIM_WRUNIT names ends in a
bus error and changes nothing; one of those three is accepted and has the register's effect (R375). -/
def Obligations.TimePrivilege : Prop :=
  ∀ (r : Req) (w : Word) (s : State),
    (let named : Prop := s.dev.fget Reg.TIM_WRUNIT Reg.TIM_WRUNIT_VALID_f = 1 ∧
       r = .local (s.dev.fget Reg.TIM_WRUNIT Reg.TIM_WRUNIT_UNIT_f)
     let may : Prop := r = .local 0x7F ∨ r = .local 0x7E ∨ named
     (¬ may →
       (∀ i ∈ [Instr.timCmdSet r, .timCmdSetpps r, .timCmdStep r, .timCmdSlew r, .timCmdCancel r],
         exec i s = .next { s with dev := s.dev.emit (.busError r (0x30000000 + Reg.TIM_CMD)) }) ∧
       exec (.timIncCommit r w) s = .next { s with dev := s.dev.emit (.busError r (0x30000000 + Reg.TIM_INC_HI)) } ∧
       exec (.timMultChange r w) s = .next { s with dev := s.dev.emit (.busError r (0x30000000 + Reg.TIM_REFCFG)) } ∧
       exec (.timValidWrite r w) s = .next { s with dev := s.dev.emit (.busError r (0x30000000 + Reg.TIM_CTL)) }) ∧
     ∀ a ∈ [Reg.TIM_CTL, Reg.TIM_REFCFG, Reg.TIM_INC_LO, Reg.TIM_INC_HI, Reg.TIM_SET_SL, Reg.TIM_SET_SH, Reg.TIM_SET_NSL,
         Reg.TIM_SET_NSH, Reg.TIM_CMD, Reg.TIM_OFS_LO, Reg.TIM_OFS_HI, Reg.TIM_SLEW],
       (¬ may → exec (.regWrite r a w 7) s = .next { s with dev := s.dev.emit (.busError r (0x30000000 + a)) }) ∧
       (may → exec (.regWrite r a w 7) s = .next { s with dev := s.dev.regTimWrite a w }))

/-- Events of the time base: SLEW_END takes the edge after which no slew remains; REF_LOSS clears REFOK and TIME_VALID and
REF_RELOCK sets REFOK for a reference that MULT puts in range, each with a step of at most 2 ns; PPS_IN_EDGE loads an armed time
or captures; PPS_IN_TIMEOUT; PPS_OUT_PULSE; COMPARE_DUE; COMPARE_TARGET_COMMIT (R366 to R368, R374, R376, R377, R379). Model's
choices in part: log 5, 96, 203. -/
def Obligations.TimeEvents : Prop :=
  ∀ (k : Fin 16) (w : Word) (rising : Bool) (width hz : Nat) (err : Int) (s : State),
    (s.dev.tim.rem ≠ 0 → s.dev.incTake.edge.2 = 0 →
      ∃ t, exec .slewEnd s = .next { s with dev := t } ∧ t.tim.rem = 0 ∧
        t.time = (s.dev.time + s.dev.incTake.edge.1) % timeMod) ∧
    (s.dev.tim.refOk = true →
      ∃ t v, exec .refLoss s = .next { s with dev := t } ∧ t.tim.refOk = false ∧ t.timeValid = false ∧ v ≤ 2 * nsUnit ∧
        t.time = (s.dev.time + v) % timeMod ∧ t.elapsed = s.dev.elapsed) ∧
    (s.dev.tim.refOk = false → exec .refLoss s = .next s) ∧
    (let f := hz * s.dev.fget Reg.TIM_REFCFG Reg.TIM_REFCFG_MULT_f
     (s.dev.tim.refOk = false → 800000000 ≤ f → f ≤ 1000000000 →
       ∃ t v, exec (.refRelock hz) s = .next { s with dev := t } ∧ t.tim.refOk = true ∧ t.regs = s.dev.regs ∧ v ≤ 2 * nsUnit ∧
         t.time = (s.dev.time + v) % timeMod ∧ t.elapsed = s.dev.elapsed) ∧
     (f < 800000000 ∨ 1000000000 < f → exec (.refRelock hz) s = .next s)) ∧
    (s.dev.fget Reg.TIM_PPSI_CFG Reg.TIM_PPSI_CFG_EN_f = 1 →
      s.dev.fget Reg.TIM_PPSI_CFG Reg.TIM_PPSI_CFG_EDGE_f = (if rising then 0 else 1) → 100 ≤ width →
      (∀ e, s.dev.tim.ppsLast = some e → e + ms 500 ≤ s.dev.elapsed) →
      (let dly : Int := sx 16 (s.dev.fget Reg.TIM_PPSI_CFG Reg.TIM_PPSI_CFG_DLY_f) * nsUnit
       ∃ t, exec (.ppsInEdge rising width err) s = .next { s with dev := t } ∧ t.tim.ppsLast = some s.dev.elapsed ∧
         (t.rget Reg.TIM_PPSI_CNT).toNat = ((s.dev.rget Reg.TIM_PPSI_CNT).toNat + 1) % 2 ^ 24 ∧
         (∀ a, s.dev.tim.armed = some a → t.time = (((a : Int) + dly) % timeMod).toNat ∧ t.tim.armed = none ∧ t.tim.rem = 0 ∧
           t.fget Reg.TIM_CTL Reg.TIM_CTL_TSET_f = 1) ∧
         (s.dev.tim.armed = none → t.time = s.dev.time ∧
           ∃ e : Int, -(5 * (nsUnit : Int)) ≤ 2 * e ∧ 2 * e ≤ 5 * nsUnit ∧
             t.rget Reg.TIM_PPSI_NSL = word (nsOf (((s.dev.time : Int) - dly + e) % timeMod).toNat)))) ∧
    (s.dev.fbit Reg.TIM_PPSI_CFG Reg.TIM_PPSI_CFG_EN_f = true → s.dev.tim.ppsMissed = false →
      ∃ t, exec .ppsInTimeout s = .next { s with dev := t } ∧ t.tim.ppsMissed = true ∧
        max (s.dev.tim.ppsLast.getD 0) s.dev.tim.ppsFrom + ms 1100 ≤ t.elapsed ∧
        (s.dev.dom 207 = .on → t.evq = s.dev.evq ++ [(0x109, 0)])) ∧
    (s.dev.fget Reg.TIM_PPSO_CFG Reg.TIM_PPSO_CFG_EN_f = 1 →
      s.dev.timeValid = true ∨ s.dev.fget Reg.TIM_PPSO_CFG Reg.TIM_PPSO_CFG_FREE_f = 1 → s.dev.ppsoNow ≠ s.dev.tim.ppsoSec →
      ∃ t, exec .ppsOutPulse s = .next { s with dev := t } ∧ t.out = s.dev.out ++ [.ppsOut s.dev.ppsoNow] ∧
        t.tim.ppsoEnd = s.dev.elapsed + ms (max 1 (s.dev.fget Reg.TIM_PPSO_CFG Reg.TIM_PPSO_CFG_WIDTH_f))) ∧
    (s.dev.cmpDue k = true → s.dev.cmpBit k Reg.TIM_CMP_CTL_WAKE_f = false →
      ∃ t, exec (.compareDue k) s = .next { s with dev := t } ∧ t.cmpBit k Reg.TIM_CMP_CTL_DUE_f = true ∧
        (s.dev.cmpBit k Reg.TIM_CMP_CTL_PER_f = false → t.cmpBit k Reg.TIM_CMP_CTL_EN_f = false) ∧
        (s.dev.cmpBit k Reg.TIM_CMP_CTL_PER_f = true → t.cmpBit k Reg.TIM_CMP_CTL_EN_f = true ∧
          0 < diff69 (t.cmpTarget k).1 (t.cmpTarget k).2 s.dev.time) ∧
        (s.dev.cmpBit k Reg.TIM_CMP_CTL_NOTE_f = false → t.net = s.dev.net) ∧
        (s.dev.cmpBit k Reg.TIM_CMP_CTL_NOTE_f = true → ∃ b, t.net = s.dev.net ++ [b] ∧ b.op = 0x18 ∧ (k : Nat) = b.pay 0 % 16 ∧
          b.pay 1 = (s.dev.cmpTarget k).1 % 2 ^ 24)) ∧
    ∃ t, exec (.compareTargetCommit k w) s = .next { s with dev := t } ∧
      t.cmpTarget k = ((s.dev.rget (Reg.TIM_CMP_TS k)).toNat,
        (s.dev.rget (Reg.TIM_CMP_TNSL k)).toNat + bits w.toNat 5 0 * 2 ^ 24) ∧
      ∀ j, j ≠ (k : Nat) → t.cmpTarget j = s.dev.cmpTarget j

/-- Tally: TLY_ARM, TLY_TARGET_DUE with the snapshot of every counter that is not 0, TLY_COMPLETE with SEQ and the time of the copy
(R546 to R548). The event arbiter, EVENT_ACCEPT: an event within 10 ms of its like is suppressed and counted; one that finds
room is written as four words with the next sequence number; one without room is dropped and counted; EVT_TAIL_ADVANCE frees
records (R539 to R544). Model's choices in part: log 98, 100, 101. -/
def Obligations.TallyAndEvents : Prop :=
  (∀ (w : Word) (s : State),
     (s.dev.tly.copying = false →
       ∃ t, exec (.tlyArm w) s = .next { s with dev := t } ∧
         (getF w Reg.TLY_AT_NSH_ARM_f = 0 → t.tly.armed = false ∧ t.tly.copying = false) ∧
         (getF w Reg.TLY_AT_NSH_ARM_f = 1 → t.tly.armed = true ∧ t.tly.copying = s.dev.due t.tlyTarget.1 t.tlyTarget.2 ∧
           (t.tly.copying = true → t.fget Reg.TLY_STAT Reg.TLY_STAT_LATE_f = 1))) ∧
     (s.dev.tly.copying = true →
       ∃ t, exec (.tlyArm w) s = .next { s with dev := t } ∧ t.tly.copying = true ∧
         t.tly.rearm = decide (getF w Reg.TLY_AT_NSH_ARM_f = 1)) ∧
     (s.dev.tlyDue = true →
       ∃ t, exec .tlyTargetDue s = .next { s with dev := t } ∧ t.tly.copying = true ∧ t.tly.copyAt = s.dev.time ∧
         ∀ e, e ∈ t.shadow ↔ e ∈ s.dev.regs ∧ isCounter e.1 = true ∧ e.2 ≠ 0) ∧
     (s.dev.tly.copying = true → s.dev.tly.rearm = false → s.dev.tly.deferred = [] →
       ∃ t, exec .tlyComplete s = .next { s with dev := t } ∧ t.tly.copying = false ∧ t.tly.armed = false ∧
         (t.rget Reg.TLY_SEQ).toNat = ((s.dev.rget Reg.TLY_SEQ).toNat + 1) % 2 ^ 24 ∧
         t.rget Reg.TLY_SNAP_S = word (secOf s.dev.tly.copyAt) ∧ t.rget Reg.TLY_SNAP_NSL = word (nsOf s.dev.tly.copyAt) ∧
         t.fget Reg.TLY_AT_NSH Reg.TLY_AT_NSH_ARM_f = 0 ∧ t.shadow = s.dev.shadow)) ∧
  (∀ (code unit : Nat) (q : List (Nat × Nat)) (s : State),
     (s.dev.dom 207 = .on → s.dev.tail = [] → s.dev.evq = (code, unit) :: q →
       (s.dev.suppressed code unit = true →
         exec .eventAccept s = .next { s with dev := ({ s.dev with evq := q }).count Reg.EVT_SUPPR_LO 1 }) ∧
       (rateLimited code = false → s.dev.arb.lost = 0 →
         (let n := s.dev.arb.nextSeq
          let d : Dev := { s.dev with evq := q, arb := { s.dev.arb with nextSeq := (n + 1) % 2 ^ 24 } }
          (∀ e, s.dev.ringRoom = true →
            d.memWriteN d.ringAt [word n, word (code * 4096 + unit % 4096), word (secOf s.dev.time), word (nsOf s.dev.time / 64)] =
              (true, e) →
            e.fbit Reg.EVT_CTL Reg.EVT_CTL_NOTIFY_f = false → bits (e.fget Reg.EVT_FWD Reg.EVT_FWD_CLASSES_f) (code / 256) (code / 256) = 0 →
            exec .eventAccept s = .next { s with dev := e.fput Reg.EVT_HEAD Reg.EVT_HEAD_HEAD_f e.ringNext }) ∧
          (s.dev.ringRoom = false → bits (s.dev.fget Reg.EVT_FWD Reg.EVT_FWD_CLASSES_f) (code / 256) (code / 256) = 0 →
            ∃ t, exec .eventAccept s = .next { s with dev := t } ∧ t.arb.nextSeq = (n + 1) % 2 ^ 24 ∧ t.arb.lost = 1 ∧
              t.get48 Reg.EVT_DROP_LO = min (s.dev.get48 Reg.EVT_DROP_LO + 1) (2 ^ 48 - 1) ∧
              t.fget Reg.EVT_STAT Reg.EVT_STAT_OVF_f = 1 ∧ t.rm = s.dev.rm)))) ∧
     (s.dev.arb.lostNow = false → ∀ w : Word,
       exec (.evtTailAdvance w) s = .next { s with dev :=
         (s.dev.fput Reg.EVT_TAIL Reg.EVT_TAIL_TAIL_f (getF w Reg.EVT_TAIL_TAIL_f)) }))

/-! ### The Ethernet bridge -/

/-- A frame goes only to members of its VLAN and never back to the port it came from; frames to the reserved group addresses reach
no port but the management port (R388, R389). The bridge's ports: PORT_LINK_CHANGE in the port's mode with the loss of queued
frames; FRAME_RECEIVED counts a bad frame and forwards a good one with its ingress time; EGRESS_SELECT and FRAME_LAUNCH_DUE
start the head frame of the highest eligible strict-priority class; FRAME_TX_END sends it, sealed under its SA, with its report;
TXFRAME_BEAD; BEAD_TO_HOST gathers beads and BEAD_FRAME_HOLD_EXPIRE sends them (R386, R387, R392, R403 to R405, R410, R415).
Model's choices in part: log 123, 125, 129, 204. -/
def Obligations.BridgePortsForward : Prop :=
  (∀ (d : Dev) (ingress vid da p : Nat), p ∈ d.destPorts ingress vid da →
     (da ≤ 0x0180C200000F → 0x0180C2000000 ≤ da → p = 17) ∧
     (da < 0x0180C2000000 ∨ 0x0180C200000F < da → d.member vid p = true ∧ p ≠ ingress)) ∧
  (∀ (p : Fin 16) (s : State),
     (∀ up an fc peer,
       (let m := s.dev.fget (Reg.BRG_PCFG p) Reg.BRG_PCFG_MODE_f
        let an' : Bool := an && m == 7
        let r := if an' then resolveMode (s.dev.fget (Reg.BRG_PCFG p) Reg.BRG_PCFG_ADV_f) peer else none
        let use := if m = 7 then r.getD 0 else m
        let up' : Bool := up && s.dev.fbit (Reg.BRG_PCFG p) Reg.BRG_PCFG_EN_f && use != 0
        let fec : Bool := fc && (use == 2 || use == 4 || use == 5 || use == 6)
        let d := s.dev.onPort p fun x => { x with link := up', andone := an', feclock := fec, rmode := r.getD 0 }
        ((s.dev.bport p).link = up' → exec (.portLinkChange p up an fc peer) s = .next { s with dev := d }) ∧
        ((s.dev.bport p).link = false → up' = true →
          exec (.portLinkChange p up an fc peer) s = .next { s with dev := d.raise 0x610 p }) ∧
        ((s.dev.bport p).link = true → up' = false →
          ∃ t, exec (.portLinkChange p up an fc peer) s = .next { s with dev := t } ∧ (t.bport p).link = false ∧
            (t.bport p).tx = none ∧ ∀ k, k < 8 → t.fq p k = []))) ∧
     (∀ l fcs back err sc, s.dev.portUp p = true →
       (fcs = false ∨ l.length < 60 ∨ 9212 < l.length →
         exec (.frameReceived p l fcs back err sc) s = .next { s with dev := s.dev.count (Reg.BRG_RXERR_LO p) 1 }) ∧
       (fcs = true → 60 ≤ l.length → l.length ≤ 9212 → frameType (untag l) ≠ 0x8808 →
         s.dev.fbit (Reg.BRG_MSEC p) Reg.BRG_MSEC_EN_f = false →
         ∃ e : Int, (s.dev.timeValid = true → s.dev.tim.refOk = true → -(2 * (nsUnit : Int)) ≤ e ∧ e ≤ 2 * nsUnit) ∧
           (-(2 * (nsUnit : Int)) ≤ err → err ≤ 2 * nsUnit → e = err) ∧
           exec (.frameReceived p l fcs back err sc) s = .next { s with dev :=
             ((s.dev.count (Reg.BRG_RXFRM_LO p) 1).ingressFrame p l
               (((s.dev.time : Int) - back - sx 16 (s.dev.fget (Reg.BRG_RXDLY p) Reg.BRG_RXDLY_DLY_f) * (nsUnit / 8 : Nat) + e) %
                 timeMod).toNat s.dev.timeValid none id) })) ∧
     (let d := (((s.dev.pass (s.dev.bport p).freeAt).shaperRefill p).gclChange p).gateUpdate p
      s.dev.portUp p = true → (s.dev.bport p).tx = none →
       (List.range 8).foldl (fun d t => d.prune p t (d.fq p t).length) d = d →
       (∀ d1, d.nextClass p = (none, d1) →
         exec (.egressSelect p) s = .next { s with dev := d1 } ∧ exec (.frameLaunchDue p) s = .next { s with dev := d1 }) ∧
       ∀ k d1 e f, d.nextClass p = (some k, d1) → (d1.fq p k).head?.bind d1.frameOf = some f → d1.startFrame p k = (true, e) →
         exec (.egressSelect p) s = .next { s with dev := e } ∧ exec (.frameLaunchDue p) s = .next { s with dev := e } ∧
         (d1.tcBit p k Reg.BRG_TCCFG_TIMED_f = false → e.fq p k = (d1.fq p k).tail) ∧ ∃ x, (e.bport p).tx = some x ∧ x.frame = f ∧ x.tc = k) ∧
     (∀ k, k < 8 → s.dev.tcBit p k Reg.BRG_TCCFG_SP_f = true → s.dev.eligible p k = true →
       (∀ j, k < j → j < 8 → ¬ (s.dev.tcBit p j Reg.BRG_TCCFG_SP_f = true ∧ s.dev.eligible p j = true)) →
       s.dev.nextClass p = (some k, s.dev)) ∧
     (∀ x err, (s.dev.bport p).tx = some x → x.frame.onestep = none → ptpEvent x.octets = none →
       s.dev.delayStampAt x.frame x.octets = none →
       ∃ t, exec (.frameTxEnd p err) s = .next { s with dev := t } ∧ (t.bport p).tx = none ∧ x.endAt ≤ t.elapsed ∧
         t.out = s.dev.out ++ [.frame p (match x.sec with
           | some (a, pn) => s.dev.msecSeal p a pn (s.dev.wireOctets p x.frame x.octets)
           | none => s.dev.wireOctets p x.frame x.octets)] ∧
         t.get48 (Reg.BRG_TXFRM_LO p) = min (s.dev.get48 (Reg.BRG_TXFRM_LO p) + 1) (2 ^ 48 - 1) ∧
         ((∀ k, k < 8 → s.dev.tcBit p k Reg.BRG_TCCFG_TIMED_f = false) → s.dev.dfe.meas = [] →
           (x.frame.rep = none → t.net = s.dev.net) ∧
           (∀ b, x.frame.rep = some b → ∃ r, t.net = s.dev.net ++ [r] ∧ r.rsp = true ∧ r.ddev = b.sdev ∧ r.dunit = b.sunit ∧
             r.pay 0 / 2 ^ 22 = bit x.late))) ∧
     (∀ b : Bead, b.dunit = 0x820 → b.ok = true → s.dev.unitAway b.dunit = false → b.op = 0x28 → b.rsp = false →
       (let d := s.dev.take b
        let w := b.pay 0
        (d.txBad b = true → exec (.txframeBead b) s = .next { s with dev := d.count (Reg.BRG_TXBAD_LO 16) 1 }) ∧
        (d.txBad b = false → bits w 21 21 = 1 → bits w 19 15 < 16 →
          (let f : BFrame := { frameNew 0 0 0 16 d.time d.timeValid with
             raw := true
             lt := if bits w 23 23 = 1 then some (time3 (b.payload.getD 1 0) (b.payload.getD 2 0) (b.payload.getD 3 0)) else none
             rep := if bits w 22 22 = 1 then some b else none
             onestep := if bits w 20 20 = 1 then some (bits w 7 0) else none }
           exec (.txframeBead b) s = .next { s with dev :=
             (d.storeFrame f (wordOcts (b.payload.drop 5) (bits (b.pay 4) 13 0)) (bits w 14 12) [bits w 19 15]) })))) ∧
     (∀ (b : Bead) (h : Fin 16), b.dunit = 0x840 + h → b.ok = true →
       (let d := s.dev.take b
        let g := d.gathered h
        (d.fbit (Reg.BRG_HOST h) Reg.BRG_HOST_VALID_f = false → exec (.beadToHost b) s = .next { s with dev := d.badDest b 2 }) ∧
        (d.fbit (Reg.BRG_HOST h) Reg.BRG_HOST_VALID_f = true → (g.1.flatMap Bead.words).length + b.len + 5 ≤ d.beadMaxW →
          d.fget Reg.BRG_BEADCFG Reg.BRG_BEADCFG_HOLD_f ≠ 0 →
          exec (.beadToHost b) s = .next { s with dev := d.setGather h (g.1 ++ [b]) (if g.1 = [] then d.elapsed else g.2) }))) ∧
     ∃ t, exec (.beadFrameHoldExpire p) s = .next { s with dev := t } ∧ (t.gathered p).1 = [] ∧
       ((s.dev.gathered p).1 ≠ [] →
         (s.dev.gathered p).2 + s.dev.fget Reg.BRG_BEADCFG Reg.BRG_BEADCFG_HOLD_f * 1000 * nsUnit ≤ t.elapsed ∧
         SMap.get t.brg.txSeq 0 p = (SMap.get s.dev.brg.txSeq 0 p + 1) % 65536))

/-- Gates, shapers and the database: GATE_INTERVAL_END applies the gates of the present instant; GCL_SUBMIT checks, submits or
withdraws a gate list and GCL_CHANGE brings it into force; SHAPER_REFILL gives credit up to the burst; FDB_READ, FDB_WRITE into
a bucket of four places, FDB_DELETE, FDB_FLUSH and FDB_AGE_OUT (R389, R393, R394, R396, R398). Model's choices in part: log 127,
128. -/
def Obligations.BridgeTables : Prop :=
  ∀ (p : Fin 16) (w : Word) (s : State),
    (∃ t, exec (.gateIntervalEnd p) s = .next { s with dev := t } ∧ (t.bport p).gates = (s.dev.gateAt p 0).1 ∧
      (t.bport p).tx = (s.dev.bport p).tx ∧ t.brg.queues = s.dev.brg.queues) ∧
    (s.dev.fbit (Reg.BRG_GCLCTL p) Reg.BRG_GCLCTL_PEND_f = false → getF w Reg.BRG_GCLCTL_PEND_f = 1 →
      (s.dev.gclBad p (getF w Reg.BRG_GCLCTL_LEN_f) = true →
        ∃ t, exec (.gclSubmit p w) s = .next { s with dev := t } ∧ t.fget (Reg.BRG_GCLCTL p) Reg.BRG_GCLCTL_ERR_f = 1 ∧
          t.fget (Reg.BRG_GCLCTL p) Reg.BRG_GCLCTL_PEND_f = 0) ∧
      (s.dev.gclBad p (getF w Reg.BRG_GCLCTL_LEN_f) = false →
        (s.dev.rget (Reg.BRG_GCLBASE_NSL p)).toNat + bits (s.dev.rget (Reg.BRG_GCLBASE_NSH p)).toNat 5 0 * 2 ^ 24 < 1000000000 →
        ∃ t c, exec (.gclSubmit p w) s = .next { s with dev := t } ∧ t.fget (Reg.BRG_GCLCTL p) Reg.BRG_GCLCTL_PEND_f = 1 ∧
          (t.bport p).ct = some c ∧ 0 < diff69 c.1 c.2 s.dev.time)) ∧
    (getF w Reg.BRG_GCLCTL_PEND_f = 0 →
      ∃ t, exec (.gclSubmit p w) s = .next { s with dev := t } ∧ t.fget (Reg.BRG_GCLCTL p) Reg.BRG_GCLCTL_PEND_f = 0 ∧
        (t.bport p).ct = none) ∧
    (∀ c, (s.dev.bport p).ct = some c →
      (due69 c.1 c.2 s.dev.time = false → exec (.gclChange p) s = .next s) ∧
      (due69 c.1 c.2 s.dev.time = true →
        ∃ t, exec (.gclChange p) s = .next { s with dev := t } ∧ t.gclOper p = 1 - s.dev.gclOper p ∧ (t.bport p).ct = none ∧
          (t.bport p).opLen = s.dev.fget (Reg.BRG_GCLCTL p) Reg.BRG_GCLCTL_LEN_f ∧
          t.rget (Reg.BRG_GCLOCYC_LO p) = s.dev.rget (Reg.BRG_GCLCYC_LO p) ∧
          t.fget (Reg.BRG_GCLCTL p) Reg.BRG_GCLCTL_PEND_f = 0 ∧ t.fget (Reg.BRG_GCLCTL p) Reg.BRG_GCLCTL_GEN_f = 1)) ∧
    (let r := max 1 (s.dev.bport p).refill
     let n := s.dev.now100 / r - (s.dev.bport p).refIdx
     ∃ t, exec (.shaperRefill p) s = .next { s with dev := t } ∧
      ∀ k : Fin 8, (s.dev.fbit (Reg.BRG_SHPRATE p k) Reg.BRG_SHPRATE_EN_f = false ∨ n = 0 →
          SMap.get (t.bport p).credit 0 k = SMap.get (s.dev.bport p).credit 0 k) ∧
        (s.dev.fbit (Reg.BRG_SHPRATE p k) Reg.BRG_SHPRATE_EN_f = true → 0 < n →
          ∃ g : Nat, n * (max 1 (s.dev.fget (Reg.BRG_SHPRATE p k) Reg.BRG_SHPRATE_RATE_f) * r * 16 / 5) ≤ g ∧
            g ≤ n * (max 1 (s.dev.fget (Reg.BRG_SHPRATE p k) Reg.BRG_SHPRATE_RATE_f) * r * 16 / 5) + n ∧
            SMap.get (t.bport p).credit 0 k =
              max (-(2 ^ 40)) (min (s.dev.burst p k) (SMap.get (s.dev.bport p).credit 0 k + g)))) ∧
    (getF w Reg.BRG_FDBCMD_GO_f = 1 →
      (let vid := getF w Reg.BRG_FDBCMD_VID_f
       let mac := s.dev.macAt Reg.BRG_FDBMAC_LO
       (getF w Reg.BRG_FDBCMD_OP_f = 0 →
         ∃ t, exec (.fdbRead w) s = .next { s with dev := t } ∧ t.brg = s.dev.brg ∧
           (∀ e, s.dev.fdbFind vid mac = some e → t.rget Reg.BRG_FDBMASK = word e.mask ∧
             t.fbit Reg.BRG_FDBCMD Reg.BRG_FDBCMD_STATIC_f = e.static) ∧
           (∀ q, s.dev.fdbFind vid mac = none → s.dev.ownEntry vid mac = some q → t.rget Reg.BRG_FDBMASK = word (2 ^ q) ∧
             t.fbit Reg.BRG_FDBCMD Reg.BRG_FDBCMD_STATIC_f = true) ∧
           (s.dev.fdbFind vid mac = none → s.dev.ownEntry vid mac = none →
             t.fget Reg.BRG_FDBCMD Reg.BRG_FDBCMD_ERR_f = 1)) ∧
       (getF w Reg.BRG_FDBCMD_OP_f = 1 →
         ((s.dev.brg.fdb.filter fun x => !(x.vid == vid && x.mac == mac) && fdbBucket x.vid x.mac == fdbBucket vid mac).length +
             s.dev.ownInBucket (fdbBucket vid mac) < 4 →
           ∃ t e, exec (.fdbWrite w) s = .next { s with dev := t } ∧ t.fdbFind vid mac = some e ∧ e.vid = vid ∧ e.mac = mac ∧
             e.mask = (s.dev.rget Reg.BRG_FDBMASK).toNat ∧ e.static = (getF w Reg.BRG_FDBCMD_STATIC_f == 1) ∧
             e.fresh = s.dev.elapsed) ∧
         (4 ≤ (s.dev.brg.fdb.filter fun x =>
             !(x.vid == vid && x.mac == mac) && fdbBucket x.vid x.mac == fdbBucket vid mac).length +
             s.dev.ownInBucket (fdbBucket vid mac) →
           ∃ t, exec (.fdbWrite w) s = .next { s with dev := t } ∧ t.brg = s.dev.brg ∧
             t.fget Reg.BRG_FDBCMD Reg.BRG_FDBCMD_ERR_f = 1)) ∧
       (getF w Reg.BRG_FDBCMD_OP_f = 2 → ∀ e, s.dev.fdbFind vid mac = some e →
         ∃ t, exec (.fdbDelete w) s = .next { s with dev := t } ∧ t.brg.fdb = s.dev.brg.fdb.erase e) ∧
       (getF w Reg.BRG_FDBCMD_OP_f = 3 →
         ∃ t, exec (.fdbFlush w) s = .next { s with dev := t } ∧ t.brg.fdb = s.dev.brg.fdb.filter (·.static)))) ∧
    ∀ vid mac e, s.dev.fdbFind vid mac = some e → e.static = false → s.dev.fget Reg.BRG_GCTL Reg.BRG_GCTL_AGE_f ≠ 0 →
      ∃ t, exec (.fdbAgeOut vid mac) s = .next { s with dev := t } ∧ t.brg.fdb = s.dev.brg.fdb.erase e ∧
        e.fresh + s.dev.fget Reg.BRG_GCTL Reg.BRG_GCTL_AGE_f * secUnit ≤ t.elapsed

/-! ### Serial lanes -/

/-- A slot that carries 2,048 payload bits decodes to them, on every lane index (R426 to R431). -/
def Obligations.LaneCodeRoundTrip : Prop :=
  ∀ (i : Nat) (p : List Bool), p.length = slotBits → decodeSlot i (encodeSlot i p) = some p

/-- The lane code never sends more than 12 equal bits in a row, and sends the payload's bits and the inserted ones in order (R427). -/
def Obligations.LaneCodeRuns : Prop :=
  ∀ (i : Nat) (p : List Bool) (b : Bool) (x y : List Bool), encodeSlot i p = x ++ List.replicate 13 b ++ y → False

/-- The lane commands: LANE_RETRAIN and LANE_RST lose alignment and adaptation state, LANE_TRAIN_DONE restores it; LANE_ALIGN after
four commas, or two of the fast-exit burst, and LANE_ALIGN_LOSS after four bad slots; PORT_DESKEW by commas or with a fall-back
to markers; LANE_MARKER_RX takes RLANE from a good marker and counts any other (R430 to R433, R435, R437, R441). Events of lanes
and quads: QUAD_REF_LOSS and QUAD_REF_RETURN with the lock of both PLLs; LANE_LOCK_LOSS relocks with the fast-exit burst;
LANE_SIGNAL_DETECT tries a fast exit and LANE_EXIT_TIMEOUT retrains; EYE_GO, EYE_POINT_END and EYE_GAP_END; SPARE_GO and
SPARE_AUTO start a replacement (R424, R425, R435, R436, R438 to R440). Model's choices in part: log 5, 135, 136, 137. -/
def Obligations.SerialLanes : Prop :=
  (∀ (l : Fin 64) (p : Fin 16) (w : Word) (s : State),
     (getF w Reg.LAN_LCTL_RETRAIN_f = 1 → getF w Reg.LAN_LCTL_RST_f = 0 →
       ∃ t, exec (.laneRetrain l w) s = .next { s with dev := t } ∧ (t.lane l).train = true ∧ (t.lane l).adapt = false ∧
         (t.lane l).aligned = false ∧ (t.lane l).cdr = false) ∧
     (getF w Reg.LAN_LCTL_RST_f = 1 → getF w Reg.LAN_LCTL_RETRAIN_f = 0 → s.dev.stc.wbusy = false → s.dev.pwr.mode = 0 →
       ∃ t, exec (.laneRst l w) s = .next { s with dev := t } ∧ (t.lane l).adapt = false ∧ (t.lane l).aligned = false ∧
         (t.lane l).cdr = false ∧ (t.lane l).train = false) ∧
     ((s.dev.lane l).train = true → (s.dev.quad ((l : Nat) / 4)).swap = none →
       ∃ t, exec (.laneTrainDone l) s = .next { s with dev := t } ∧ (t.lane l).train = false ∧ (t.lane l).adapt = true ∧
         (t.lane l).cdr = !s.dev.laneIdle l) ∧
     (s.dev.laneUse l = 3 → s.dev.laneIdle l = false → (s.dev.lane l).train = false → (s.dev.lane l).aligned = false →
       4 ≤ (s.dev.lane l).good ∨ ((s.dev.lane l).fast = true ∧ 2 ≤ (s.dev.lane l).burst) →
       exec (.laneAlign l) s = .next { s with dev := s.dev.onLane l fun x =>
         { x with aligned := true, cdr := true, good := 0, bad := 0, lostAt := none, exitFrom := none, fast := false } }) ∧
     (s.dev.laneUse l = 3 → (s.dev.lane l).aligned = true → 4 ≤ (s.dev.lane l).bad →
       ∃ t, exec (.laneAlignLoss l) s = .next { s with dev := t } ∧ (t.lane l).aligned = false ∧
         (t.lane l).lostAt = some s.dev.elapsed ∧ ∀ k, s.dev.fportOf l = some k → (t.fport k).desk = false) ∧
     (∀ arrivals, s.dev.fportEn p = true → s.dev.allAligned p = true → (s.dev.fport p).desk = false →
       (s.dev.fport p).mkWait = false → (∀ k ∈ s.dev.fportLanes p, (s.dev.lane k).failed = false) →
       arrivals.length = s.dev.fportLanesN p →
       (spreadOf arrivals ≤ 1041 →
         ∃ t, exec (.portDeskew p arrivals) s = .next { s with dev := t } ∧ (t.fport p).desk = true ∧
           (t.fport p).offs = offsetsFrom arrivals) ∧
       (1041 < spreadOf arrivals → exec (.portDeskew p arrivals) s = .next { s with dev :=
         ((s.dev.onFport p fun x => { x with mkWait := true }).raise 0x602 (s.dev.firstLane p)) })) ∧
     (∀ ui slot k, (s.dev.lane l).aligned = true → s.dev.laneIdle l = false → s.dev.fportOf l = some k →
       (let bs := s.dev.laneBits l slot
        let bad := s.dev.slotBad k l ui markerComma bs
        let d := s.dev.slotNote k l ui bs bad
        let idx := (s.dev.fportLanes k).findIdx (· == (l : Nat))
        (bad = true → exec (.laneMarkerRx l ui slot) s = .next { s with dev := d }) ∧
        (bad = false → (∀ body, decodeSlot idx (bs.drop 34) = some body → markerOk body = false) →
          exec (.laneMarkerRx l ui slot) s =
            .next { s with dev := (d.count (Reg.LAN_CODEERR_LO ((l : Nat) / 4) ((l : Nat) % 4)) 1) }) ∧
        (∀ body, bad = false → decodeSlot idx (bs.drop 34) = some body → markerOk body = true → bodyField body 24 25 = idx →
          bodyField body 26 27 + 1 = s.dev.fportLanesN k → (s.dev.fport k).mkWait = false →
          exec (.laneMarkerRx l ui slot) s = .next { s with dev := d.onLane l fun x => { x with rlane := bodyField body 28 33 } })))) ∧
  (∀ (l : Fin 64) (q : Fin 16) (w : Word) (s : State),
     (∃ t, exec (.quadRefLoss q) s = .next { s with dev := t } ∧ (t.quad q).refOk = false ∧ t.lockA q = false ∧ t.lockB q = false) ∧
     (∀ hz, ∃ t, exec (.quadRefReturn q hz) s = .next { s with dev := t } ∧ (t.quad q).refOk = true ∧ (t.quad q).fref = hz ∧
       t.lockA q = (s.dev.fbit (Reg.LAN_QPLLA q) Reg.LAN_QPLLA_EN_f &&
         vcoOk hz (s.dev.fget (Reg.LAN_QPLLA q) Reg.LAN_QPLLA_NINT_f) (s.dev.rget (Reg.LAN_QPLLA_FRAC q)).toNat) ∧
       t.lockB q = (s.dev.fbit (Reg.LAN_QPLLB q) Reg.LAN_QPLLB_EN_f &&
         vcoOk hz (s.dev.fget (Reg.LAN_QPLLB q) Reg.LAN_QPLLB_NINT_f) (s.dev.rget (Reg.LAN_QPLLB_FRAC q)).toNat)) ∧
     (s.dev.laneServed l = true → s.dev.laneIdle l = false →
       ∃ t, exec (.laneLockLoss l) s = .next { s with dev := t } ∧ (t.lane l).aligned = false ∧ (t.lane l).cdr = true ∧
         (t.lane l).exitFrom = some s.dev.elapsed ∧ (s.dev.laneUse l = 3 → t.out = (s.dev.laneSend l exitBurst).out) ∧
         t.get48 (Reg.LAN_RELOCK_LO ((l : Nat) / 4) ((l : Nat) % 4)) =
           min (s.dev.get48 (Reg.LAN_RELOCK_LO ((l : Nat) / 4) ((l : Nat) % 4)) + 1) (2 ^ 48 - 1)) ∧
     (s.dev.laneUse l = 3 → s.dev.laneIdle l = false → (s.dev.lane l).adapt = true → (s.dev.lane l).aligned = false →
       (s.dev.lane l).train = false →
       exec (.laneSignalDetect l) s = .next { s with dev := s.dev.onLane l fun x =>
         { x with cdr := true, exitFrom := some s.dev.elapsed, fast := true } }) ∧
     (∀ a, (s.dev.lane l).exitFrom = some a →
       ∃ t, exec (.laneExitTimeout l) s = .next { s with dev := t } ∧ (t.lane l).train = true ∧ (t.lane l).adapt = false ∧
         a + max 1 (s.dev.fget Reg.LAN_FCFG Reg.LAN_FCFG_EXITTMO_f) * 100 * nsUnit ≤ t.elapsed) ∧
     (let k := (q : Nat) * 4 + getF w Reg.LAN_EYE_LANE_f
      getF w Reg.LAN_EYE_GO_f = 1 → s.dev.eyeFree q = true → (s.dev.lane k).train = false →
       (s.dev.laneIdle k = true ∨ (s.dev.lane k).cdr = false →
         ∃ t, exec (.eyeGo q w) s = .next { s with dev := t } ∧ (t.quad q).eye = none ∧
           t.fget (Reg.LAN_EYE q) Reg.LAN_EYE_STATE_f = 4) ∧
       (s.dev.laneIdle k = false → (s.dev.lane k).cdr = true →
         ∃ t, exec (.eyeGo q w) s = .next { s with dev := t } ∧ (t.quad q).eye = some (k, s.dev.elapsed) ∧
           t.fget (Reg.LAN_EYE q) Reg.LAN_EYE_STATE_f = 1)) ∧
     (∀ n e, (s.dev.quad q).eye.isSome = true → (s.dev.quad q).eyeHeld = false →
       ∃ t, exec (.eyePointEnd q n e) s = .next { s with dev := t } ∧ (t.quad q).eye = none ∧
         t.get48 (Reg.LAN_EYEBITS_LO q) = min n (s.dev.eyeDwell q) ∧
         (t.rget (Reg.LAN_EYEERR q)).toNat = min (min e (min n (s.dev.eyeDwell q))) (2 ^ 24 - 1) ∧
         t.fget (Reg.LAN_EYE q) Reg.LAN_EYE_STATE_f = 2) ∧
     (let k := (q : Nat) * 4 + s.dev.fget (Reg.LAN_EYE q) Reg.LAN_EYE_LANE_f
      ∀ a, (s.dev.quad q).eyeEnd = some a → (s.dev.quad q).eyeHeld = true → (s.dev.quad q).eye = none → (s.dev.lane k).train = false →
       s.dev.laneIdle k = false → (s.dev.lane k).cdr = true →
       ∃ t, exec (.eyeGapEnd q) s = .next { s with dev := t } ∧ (t.quad q).eye = some (k, t.elapsed) ∧ (t.quad q).eyeHeld = false ∧
         a + s.dev.fget (Reg.LAN_EYECFG q) Reg.LAN_EYECFG_GAP_f * 1000 * nsUnit ≤ t.elapsed) ∧
     (let d := s.dev.storeRw (Reg.LAN_SPARE q) w
      let k := (q : Nat) * 4 + getF w Reg.LAN_SPARE_FAILED_f
      ∀ p, getF w Reg.LAN_SPARE_GO_f = 1 → d.fportOf k = some p → d.spareOk q = true → d.fportLanesN p ≠ 4 →
       ∃ t, exec (.spareGo q w) s = .next { s with dev := t } ∧ (t.quad q).swap = some (k, false) ∧
         (t.fport p).spreq = some ((d.fportLanes p).findIdx (· == k)) ∧ (t.lane (d.laneSpare q)).train = true) ∧
     ∀ p a, (s.dev.lane l).lostAt = some a → (s.dev.lane l).aligned = false →
       s.dev.fbit (Reg.LAN_SPARE ((l : Nat) / 4)) Reg.LAN_SPARE_AUTO_f = true → s.dev.fportOf l = some p →
       s.dev.spareOk ((l : Nat) / 4) = true → s.dev.fportLanesN p ≠ 4 →
       ∃ t, exec (.spareAuto l) s = .next { s with dev := t } ∧ (t.quad ((l : Nat) / 4)).swap = some ((l : Nat), false) ∧
         (t.fport p).spreq = some ((s.dev.fportLanes p).findIdx (· == (l : Nat))) ∧ a + 10000000 * nsUnit ≤ t.elapsed)

/-! ### The pool fabric -/

/-- CELL_RX: on a lane that is not aligned a slot counts its comma; on an aligned one a slot whose comma is missing, lies elsewhere
than expected or beside the kept offsets, or that has a code violation, is counted as a bad slot and breaks the stream, and so
do one that does not decode and a cell with a bad CRC; an IDLE cell counts, a DATA cell with the expected CSEQ advances it.
IDLE_CELL_TIMER and REPLAY_TIMEOUT send IDLE cells and the unacknowledged cells again, in whole rounds, at their times;
PORT_DOWN_TIMEOUT takes a port DOWN whose lane stays unaligned; HELLO_TIMER sends its HELLO (R431, R432, R452 to R455). The kept
offsets are log 140's (DEDUCED), rounds completed by IDLE cells log 138's (DESIGN CHOICE). HELLO_RX, TSYNC_TIMER, TSYNC_RX: a
HELLO with the device's own serial, other lanes or no common version makes it FAILED with its cause, one that meets every
condition makes it UP; TSYNC goes out on lane index 0 with the link's bead version and the next TSEQ, and one received gives
link delay and offset (R21, R455, R456, R470, R471). Model's choices in part: log 138, 139, 140, 141, 150. -/
def Obligations.FabricPorts : Prop :=
  (∀ (l : Fin 64) (p : Fin 16) (slot : List Bool) (ui : Nat) (s : State),
     (s.dev.fportOf l = some (p : Nat) → s.dev.laneIdle l = false → (s.dev.lane l).train = false →
       (let bs := s.dev.laneBits l slot
        let idx := (s.dev.fportLanes p).findIdx (· == (l : Nat))
        let bad : Prop := bs.take 34 ≠ comma ∨ (∃ e, (s.dev.lane l).next = some e ∧ e ≠ ui) ∨ s.dev.commaFits p l ui = false ∨
          slotViolation (bs.drop 34) = true
        let broken (d : Dev) : Dev := d.onFport p fun x => { x with stream := none, nak := x.nak || !x.nakDone, nakDone := true }
        ((s.dev.lane l).aligned = false → ∃ t, exec (.cellRx l slot ui) s = .next { s with dev := t } ∧ (t.lane l).aligned = false ∧
          (t.lane l).next = some (ui + bs.length) ∧
          (t.lane l).good = if bs.take 34 = comma then (if (s.dev.lane l).next = some ui then (s.dev.lane l).good + 1 else 1) else 0) ∧
        ((s.dev.lane l).aligned = true → (s.dev.lane l).burst = 0 →
          (bad → exec (.cellRx l slot ui) s = .next { s with dev := broken (s.dev.slotNote p l ui bs true) } ∧
            ((s.dev.slotNote p l ui bs true).lane l).bad = (s.dev.lane l).bad + 1) ∧
          (¬ bad →
            (let n := s.dev.slotNote p l ui bs false
             (n.lane l).bad = 0 ∧ (n.lane l).next = some (ui + bs.length) ∧
             (decodeSlot idx (bs.drop 34) = none → exec (.cellRx l slot ui) s = .next { s with dev :=
               (broken (n.count (Reg.LAN_CODEERR_LO ((l : Nat) / 4) ((l : Nat) % 4)) 1)) }) ∧
             ∀ d, decodeSlot idx (bs.drop 34) = some d →
               (let ws := bitsWords 85 d
                let h := (ws.getD 0 0).toNat
                (cellOk ws = false → exec (.cellRx l slot ui) s = .next { s with dev :=
                  (broken (n.count (Reg.FAB_BADCELL_LO p) 1)) }) ∧
                (cellOk ws = true → bits h 23 22 = 1 → (s.dev.fport p).unacked = [] →
                  exec (.cellRx l slot ui) s = .next { s with dev := (n.count (Reg.FAB_CELLRX_LO p) 1) }) ∧
                (cellOk ws = true → bits h 23 22 = 0 → (s.dev.fport p).up = true → (s.dev.fport p).unacked = [] →
                  bits h 21 15 = (s.dev.fport p).rx → (s.dev.fport p).stream = none → bits h 6 0 = 0 →
                  exec (.cellRx l slot ui) s = .next { s with dev := ((n.count (Reg.FAB_CELLRX_LO p) 1).onFport p fun x =>
                    { x with rxData := x.rxData + 1, rx := (x.rx + 1) % 128, nakDone := false }) }))))))) ∧
     (s.dev.allAligned p = true → (s.dev.fport p).up = true → (s.dev.fport p).round = [] →
       (let n := s.dev.fportLanesN p
        let k := (s.dev.fport p).unacked.length
        let sent (d : Dev) (c : Nat) : Prop :=
          d.get48 (Reg.FAB_CELLTX_LO p) = min (s.dev.get48 (Reg.FAB_CELLTX_LO p) + c) (2 ^ 48 - 1)
        (∃ t, exec (.idleCellTimer p) s = .next { s with dev := t } ∧ sent t n ∧ (t.fport p).round = [] ∧
          (t.fport p).rounds = ((s.dev.fport p).rounds + 1) % 2 ^ 48 ∧ (t.fport p).hdrAt = t.elapsed ∧ (t.fport p).rxData = 0 ∧
          ((s.dev.fport p).rxData < 8 → (s.dev.fport p).hdrAt + 1000 * nsUnit ≤ t.elapsed) ∧
          ((t.fport p).rounds % 16384 ≠ 0 → t.out.length = s.dev.out.length + n)) ∧
        ((s.dev.fport p).unacked ≠ [] →
          ∃ t, exec (.replayTimeout p) s = .next { s with dev := t } ∧
            t.get48 (Reg.FAB_REPLAY_LO p) = min (s.dev.get48 (Reg.FAB_REPLAY_LO p) + 1) (2 ^ 48 - 1) ∧
            ((s.dev.fport p).runs + 1 < max 1 (s.dev.fget Reg.FAB_LCFG Reg.FAB_LCFG_REPLAYMAX_f) →
              sent t ((k + n - 1) / n * n) ∧ (t.fport p).unacked = (s.dev.fport p).unacked ∧
              (t.fport p).runs = (s.dev.fport p).runs + 1) ∧
            (max 1 (s.dev.fget Reg.FAB_LCFG Reg.FAB_LCFG_REPLAYMAX_f) ≤ (s.dev.fport p).runs + 1 →
              (t.fport p).up = false ∧ (t.fport p).unacked = [])))) ∧
     (∀ k a, (s.dev.fport p).up = true → k ∈ s.dev.fportLanes p → (s.dev.lane k).aligned = false → (s.dev.lane k).lostAt = some a →
       ∃ t, exec (.portDownTimeout p) s = .next { s with dev := t } ∧ (t.fport p).up = false ∧ (t.fport p).unacked = []) ∧
     (s.dev.fportEn p = true → (s.dev.fport p).failed = false →
       ∃ t, exec (.helloTimer p) s = .next { s with dev := t } ∧ (t.fport p).helloAt = t.elapsed ∧
         (s.dev.fport p).helloAt + (if (s.dev.fport p).up then 10000000 else 100000) * nsUnit ≤ t.elapsed)) ∧
  (∀ (p : Fin 16) (b : Bead) (s : State),
     (∀ e, (s.dev.fport p).linkIn.find? (fun e => e.1 == b && b.op == 0x30) = some e → s.dev.fportEn p = true →
       (s.dev.fport p).failed = false → (s.dev.fport p).up = false →
       (let fails (cause : Nat) : Prop := ∃ t, exec (.helloRx p b) s = .next { s with dev := t } ∧ (t.fport p).failed = true ∧
          (t.fport p).up = false ∧ t.fget (Reg.FAB_PSTAT p) Reg.FAB_PSTAT_CAUSE_f = cause
        let own := serialAt b 0 = s.dev.serial
        let lanes := bits (b.pay 4) 3 2 = s.dev.fget (Reg.FAB_PCFG p) Reg.FAB_PCFG_LANES_f
        let vers := bits (b.pay 4) 23 16 &&& s.dev.bvOffer ≠ 0 ∧ bits (b.pay 4) 15 8 &&& s.dev.lvOffer ≠ 0
        (own → fails 3) ∧
        (¬ own → b.pay 8 = 0 → (s.dev.quad (s.dev.firstLane p / 4)).swap = none →
          (¬ lanes → fails 2) ∧ (lanes → ¬ vers → fails 1) ∧
          (lanes → vers → bits (b.pay 4) 1 1 = 1 → serialAt b 5 = s.dev.serial → s.dev.allAligned p = true →
            (s.dev.fport p).desk = true →
            ∃ t, exec (.helloRx p b) s = .next { s with dev := t } ∧ (t.fport p).up = true ∧
              (t.fport p).peer = some (serialAt b 0))))) ∧
     ((s.dev.fport p).up = true → s.dev.allAligned p = true → s.dev.fbit (Reg.FAB_PCFG p) Reg.FAB_PCFG_TSEN_f = true →
       (s.dev.fport p).round = [] →
       ∃ (t : Dev) (x : Bead) (h : Word) (long : Nat), exec (.tsyncTimer p) s = .next { s with dev := t } ∧
         (t.fport p).tseq = ((s.dev.fport p).tseq + 1) % 16 ∧ (t.fport p).tsyncAt = t.elapsed ∧
         x.op = 0x31 ∧ x.ver = (if s.dev.fget (Reg.FAB_PSTAT p) Reg.FAB_PSTAT_BVER_f = 1 then 1 else 2) ∧
         bits (x.pay 0) 3 0 = (s.dev.fport p).tseq % 16 ∧ bits h.toNat 23 22 = 2 ∧
         ∀ k, (s.dev.fportLanes p)[0]? = some k → s.dev.fbit (Reg.LAN_LCFG (k / 4) (k % 4)) Reg.LAN_LCFG_TXPOL_f = false →
           t.out[s.dev.out.length]? = some (.slot k (comma ++ filledSlot 0 (cellBits (cellWords h (beadAll x))) long))) ∧
     (∀ e, (s.dev.fport p).linkIn.find? (fun e => e.1 == b && b.op == 0x31) = some e →
       (let t4 := tsOf ((e.2.1 : Int) - s.dev.dly (Reg.FAB_RXDLY p))
        ∃ t, exec (.tsyncRx p b) s = .next { s with dev := t } ∧ (t.fport p).tlast = some (tsAt b 1, (t4, e.2.2)) ∧
          t.fget (Reg.FAB_TSTAT p) Reg.FAB_TSTAT_TSEQ_f = bits (b.pay 0) 3 0 ∧
          ∀ x y : Int, (∃ i, i < (b.payload.drop 5).length ∧ (b.payload.drop 5).getD i 0 ≠ 0) → 0 ≤ x → x < 2 ^ 24 →
            tsDiff t4 (tsAt b 5).1 - tsDiff (tsAt b 1).1 (tsAt b 9).1 = 2 ^ 13 * x →
            tsDiff (tsAt b 9).1 (tsAt b 5).1 - tsDiff t4 (tsAt b 1).1 = 2 ^ 13 * y →
            ((t.rget (Reg.FAB_TDLY p)).toNat : Int) = x ∧
            (t.rget (Reg.FAB_TOFS p)).toInt = max (-(2 ^ 23)) (min (2 ^ 23 - 1)
              (y - sx 16 (s.dev.fget (Reg.FAB_ASYM p) Reg.FAB_ASYM_ASYM_f) * 2)) ∧
            t.fget (Reg.FAB_TSTAT p) Reg.FAB_TSTAT_VALID_f = 1)))

/-- LSA_TIMER, LSA_RX, NUMBER_TIMER, NUMBER_RX: LSAs and NUMBER beads at their times and on arrival; ROUTE_WRITE and
ROUTE_SETTLE_END: route entries with their settling; BEAD_ROUTE: a bead goes to its unit or its port; BCAST_RX: flooding by
prefix; POOLCMD_TALLY and POOLCMD_COLD_RESET of those that may give them (R459 to R465, R469, R473). Model's choices in part:
log 143, 144, 145, 146, 148, 149, 151. -/
def Obligations.FabricNetwork : Prop :=
  ∀ (p : Fin 16) (k : Fin 1024) (w : Word) (b : Bead) (s : State),
    (s.dev.fbit Reg.FAB_GCTL Reg.FAB_GCTL_EN_f = true →
      ∃ t, exec .lsaTimer s = .next { s with dev := t } ∧ t.fab.lsaAt = t.elapsed ∧ s.dev.fab.lsaAt + secUnit ≤ t.elapsed) ∧
    (b.op = 0x38 → s.dev.fab.flooded.contains b = true →
      ∃ t, exec (.lsaRx b) s = .next { s with dev := t } ∧ lsaOf b s.dev.elapsed ∈ t.fab.lsdb) ∧
    (s.dev.isFounder = true →
      ∃ t, exec .numberTimer s = .next { s with dev := t } ∧ t.fab.numAt = t.elapsed ∧ s.dev.fab.numAt + secUnit ≤ t.elapsed) ∧
    (∀ e n, b.op = 0x39 → s.dev.fab.flooded.contains b = true → serialAt b 0 = s.dev.fser →
      ((List.range ((b.payload.length - 4) / 4)).map fun i => (serialAt b (4 + 4 * i), b.pay (7 + 4 * i))).find?
        (fun r => r.1 == s.dev.serial) = some e → bits e.2 23 23 = 1 → bits e.2 9 0 = n →
      (let f : Fabric := { s.dev.fab with flooded := s.dev.fab.flooded.erase b }
       let d : Dev := { s.dev with fab := f }
       (d.takeNumber (some n)).numbered = true ∧ (d.takeNumber (some n)).devnum = n ∧
       exec (.numberRx b) s = .next { s with dev :=
         (if s.dev.numbered = true ∧ s.dev.devnum = n then d.takeNumber (some n) else (d.takeNumber (some n)).linksChanged) })) ∧
    (∃ t, exec (.routeWrite k w) s = .next { s with dev := t } ∧ t.rget (Reg.FAB_RT k) = w ∧
      ((∀ x, x ∈ s.dev.usedPorts (s.dev.rget (Reg.FAB_RT k)) ↔ x ∈ s.dev.usedPorts w) → t.fab = s.dev.fab) ∧
      (¬ (∀ x, x ∈ s.dev.usedPorts (s.dev.rget (Reg.FAB_RT k)) ↔ x ∈ s.dev.usedPorts w) →
        (∀ h ∈ s.dev.fab.held, h.1 ≠ k) → t.fab.held = s.dev.fab.held ++
          [((k : Nat), s.dev.elapsed + s.dev.fget Reg.FAB_RCFG Reg.FAB_RCFG_SETTLE_f * 10000 * nsUnit, [])])) ∧
    (∀ a l, s.dev.fab.held.find? (fun h => h.1 == (k : Nat)) = some ((k : Nat), a, l) →
      ∃ d, exec (.routeSettleEnd k) s = .next { s with dev := l.foldl (fun d b => d.routeBead b) d } ∧ a ≤ d.elapsed ∧
        d.fab.held = s.dev.fab.held.filter fun h => h.1 != (k : Nat)) ∧
    (s.dev.net.contains b = true → s.dev.numbered = true → b.bcast = false →
      (let d := s.dev.take b
       (b.ddev = s.dev.devnum → unitListed b.dunit = true → b.rsp = true ∨ unitTakes b.dunit b.op = true →
         exec (.beadRoute b) s = .next s) ∧
       (b.ddev = s.dev.devnum → unitListed b.dunit = false → exec (.beadRoute b) s = .next { s with dev := d.badDest b 2 }) ∧
       (∀ x, b.ddev ≠ s.dev.devnum → b.hops < 15 → (∀ h ∈ s.dev.fab.held, h.1 ≠ b.ddev) →
         s.dev.slotFor b (s.dev.tier (s.dev.rget (Reg.FAB_RT b.ddev))) = some x →
         exec (.beadRoute b) s = .next { s with dev := d.portQueue x (hop b) }) ∧
       (b.ddev ≠ s.dev.devnum → b.hops = 15 → b.request = false →
         exec (.beadRoute b) s = .next { s with dev := d.count Reg.FAB_HOPDROP_LO 1 }))) ∧
    (s.dev.fab.bcastIn.contains ((p : Nat), b) = true →
      (s.dev.floodNew b = false →
        ∃ t, exec (.bcastRx p b) s = .next { s with dev := t } ∧ t.fab.flooded = s.dev.fab.flooded ∧
          t.fab.floods = s.dev.fab.floods ∧ t.fab.bcastIn = s.dev.fab.bcastIn.erase ((p : Nat), b)) ∧
      (s.dev.floodNew b = true →
        ∃ t, exec (.bcastRx p b) s = .next { s with dev := t } ∧ t.fab.flooded = s.dev.fab.flooded ++ [b] ∧
          floodPrefix b ∈ t.fab.floods ∧ t.floodNew b = false)) ∧
    (b.op = 0x3A → s.dev.fab.flooded.contains b = true →
      (let f : Fabric := { s.dev.fab with flooded := s.dev.fab.flooded.erase b }
       let d : Dev := { s.dev with fab := f }
       (d.poolMay b = true → d.poolHere b = true →
         (bits (b.pay 4) 23 20 = 0 → exec (.poolcmdTally b) s = .next { s with dev :=
           (((d.rset Reg.TLY_AT_S (word (b.pay 5))).rset Reg.TLY_AT_NSL (word (b.pay 6))).tlyArmWrite
             (word (2 ^ 23 + bits (b.pay 7) 5 0))) }) ∧
         (bits (b.pay 4) 23 20 = 1 → exec (.poolcmdColdReset b) s = .next { s with dev := d.coldReset 2 b.sdev })) ∧
       (d.poolMay b = false →
         (bits (b.pay 4) 23 20 = 0 → exec (.poolcmdTally b) s = .next { s with dev :=
           ((d.count Reg.FAB_PCMDDENY_LO 1).raise 0x708 b.sdev) }) ∧
         (bits (b.pay 4) 23 20 = 1 → exec (.poolcmdColdReset b) s = .next { s with dev :=
           ((d.count Reg.FAB_PCMDDENY_LO 1).raise 0x708 b.sdev) }))))

/-- A response names its request's source as destination, copies VER, OP, SEQ, TAG and DLV, carries the device's number and the unit
that answers, and its check word is right (R446, R447). REGRD, REGWR, MEMRD, MEMWR at the register and memory servers: a served
request is answered with its words or, where it is a write with WACK = 1, an empty response or the mask of failed beats; one
that is not served with DENIED; a read or write of registers that fails half-way with BUSERR and how far it came (R444, R467,
R468). Model's choices in part: log 152, 153. -/
def Obligations.UnitServers : Prop :=
  (∀ (d : Dev) (b : Bead) (err : Bool) (ws : List Word), ws.length ≤ 64 → b.ver = 1 ∨ b.ver = 2 →
     ∃ r, (d.answer b err ws).net = d.net ++ [r] ∧ r.ok = true ∧ r.ver = b.ver ∧ r.op = b.op ∧ r.seq = b.seq ∧ r.tag = b.tag ∧
       r.dlv = b.dlv ∧ r.rsp = true ∧ r.err = err ∧ r.ddev = b.sdev ∧ r.dunit = b.sunit ∧ r.sdev = d.devnum ∧ r.sunit = b.dunit ∧
       r.payload = ws) ∧
  (∀ (b : Bead) (s : State), b.ok = true → s.dev.unitAway b.dunit = false → b.rsp = false →
     (let d := s.dev.take b
      (b.dunit = 0x230 → b.op = 1 →
        (let n := bits (b.pay 1) 5 0
         (b.len < 2 ∨ n = 0 ∨ d.regServed b (b.pay 0) n false = false →
           exec (.regrd b) s = .next { s with dev := d.answerErr b 4 }) ∧
         (∀ ws q, 2 ≤ b.len → n ≠ 0 → d.regServed b (b.pay 0) n false = true →
           (d.regReadN (d.reqOf b) (b.pay 0) n = (ws, true, q) → exec (.regrd b) s = .next { s with dev := q.answer b false ws }) ∧
           (d.regReadN (d.reqOf b) (b.pay 0) n = (ws, false, q) →
             exec (.regrd b) s = .next { s with dev := q.answer b true [word (5 * 2 ^ 16), word ws.length] })))) ∧
      (b.dunit = 0x230 → b.op = 2 →
        (let ws := b.payload.drop 1
         (ws = [] ∨ d.regServed b (b.pay 0) ws.length true = false →
           exec (.regwr b) s = .next { s with dev := d.answerErr b 4 }) ∧
         (∀ n q, ws ≠ [] → d.regServed b (b.pay 0) ws.length true = true →
           (d.regWriteN (d.reqOf b) (b.pay 0) ws = (n, true, q) → exec (.regwr b) s = .next { s with dev :=
             (if b.wack then q.answer b false [] else q) }) ∧
           (d.regWriteN (d.reqOf b) (b.pay 0) ws = (n, false, q) →
             exec (.regwr b) s = .next { s with dev := q.answer b true [word (5 * 2 ^ 16), word n] })))) ∧
      (b.dunit = 0x231 → s.dev.reqReady (s.dev.reqOf b) b.memAddr = true →
        (b.op = 8 →
          (b.len < 3 ∨ 64 < b.pay 2 ∨ d.memServed b b.memAddr (b.pay 2) false = false →
            exec (.memrd b) s = .next { s with dev := d.answerErr b 4 }) ∧
          (∀ ws q, 3 ≤ b.len → b.pay 2 ≤ 64 → d.memServed b b.memAddr (b.pay 2) false = true →
            d.reqReadN (d.reqOf b) b.memAddr (b.pay 2) = (ws, true, q) →
            exec (.memrd b) s = .next { s with dev := q.answer b false ws })) ∧
        (b.op = 9 → 4 ≤ b.len → b.pay 2 ≤ 61 → b.len = 3 + b.pay 2 →
          (d.memServed b b.memAddr (b.pay 2) true = false → exec (.memwr b) s = .next { s with dev := d.answerErr b 4 }) ∧
          (d.memServed b b.memAddr (b.pay 2) true = true →
            ∃ m q, d.memBeats b b.memAddr (b.pay 2) (fun r s a d l => s.reqWrite r a d l) = (m, q) ∧
              exec (.memwr b) s = .next { s with dev := (if b.wack then q.answer b false [word m] else q) })))))

/-! ### Power, modes and supplies -/

/-- Chip modes: MODE_ENTRY, MODE_COMMIT once every domain concerned is quiescent, PWR_ENTRY_TIMEOUT's abort at the end of
PWR_ENTRY_TMO, and PAD_RELEASE (R484, R485). PWR_GRPCMD, with MODE_COMMIT and PWR_ENTRY_TIMEOUT of a group: a command of OFF or
RETAIN waits for the group's domains, one at a time; it takes effect when they are quiescent and ends with ERR at the end of
PWR_ENTRY_TMO; one that names a domain it may not is refused with ERR (R481). Model's choices in part: log 155, 156, 157. -/
def Obligations.ModesAndGroups : Prop :=
  (∀ (m : Nat) (w : Word) (s : State),
     ((s.dev.core 112).hold = some .waitMode → s.dev.pwr.entry = none →
       m = s.dev.fget Reg.PWR_MODE Reg.PWR_MODE_MODE_f → m ≠ s.dev.pwr.mode → (m < 2 ∨ s.dev.pwr.wakeReq = false) →
       exec .modeEntry s = .next { s with dev := { s.dev with pwr := { s.dev.pwr with entry := some m, entryAt := s.dev.elapsed } } }) ∧
     ((s.dev.core 112).hold = some .waitMode → s.dev.pwr.entry = none →
       m = s.dev.fget Reg.PWR_MODE Reg.PWR_MODE_MODE_f → m ≠ s.dev.pwr.mode → 2 ≤ m → s.dev.pwr.wakeReq = true →
       ∃ t, exec .modeEntry s = .next { s with dev := t } ∧ t.pwr.wakeReq = false ∧ t.pwr.entry = none ∧
         t.pwr.mode = s.dev.pwr.mode ∧ (t.core 112).st = .run ∧ (t.core 112).hold = none) ∧
     (s.dev.pwr.entry = some m → m ≤ 3 → s.dev.firstBusy (s.dev.leaving m) = none →
       ∃ t, exec (.modeCommit false) s = .next { s with dev := t } ∧ t.pwr.mode = m ∧ t.pwr.entry = none ∧
         (m = 2 → t.pwr.held = true) ∧ (m = 3 → t.pwr.held = true)) ∧
     (∀ x, s.dev.pwr.entry = some m → s.dev.firstBusy (s.dev.leaving m) = some x →
       exec (.modeCommit false) s = .next s ∧
       ∃ t, exec (.pwrEntryTimeout false) s = .next { s with dev := t } ∧ t.pwr.mode = s.dev.pwr.mode ∧ t.pwr.entry = none ∧
         t.fget Reg.PWR_MODE Reg.PWR_MODE_ABORT_f = 1 ∧ s.dev.pwr.entryAt + s.dev.entryTmo ≤ t.elapsed ∧
         (s.dev.dom 207 = .on → t.evq = s.dev.evq ++ [(0x807, x)]) ∧
         ((s.dev.core 112).hold = some .waitMode → (t.core 112).st = .run ∧ (t.core 112).hold = none)) ∧
     (getF w Reg.PWR_PAD_RELEASE_GO_f = 1 →
       exec (.padRelease w) s = .next { s with dev := { s.dev with pwr := { s.dev.pwr with held := false } } }) ∧
     (getF w Reg.PWR_PAD_RELEASE_GO_f = 0 → exec (.padRelease w) s = .next s)) ∧
  (∀ (w : Word) (s : State) (g st : Nat), getF w Reg.PWR_GRPCMD_GROUP_f = g → getF w Reg.PWR_GRPCMD_STATE_f = st →
     getF w Reg.PWR_GRPCMD_GO_f = 1 →
     (s.dev.pwr.grpBusy = none → (s.dev.groupDoms g).any grpRefuses = false → st = 0 ∨ st = 2 →
       ∃ t, exec (.pwrGrpcmd w) s = .next { s with dev := t } ∧ t.pwr.grpBusy = some (g, st) ∧ t.pwr.grpAt = s.dev.elapsed ∧
         t.doms = s.dev.doms) ∧
     (s.dev.pwr.grpBusy = none → (s.dev.groupDoms g).any grpRefuses = false → st = 1 →
       ∃ t, exec (.pwrGrpcmd w) s = .next { s with dev := t } ∧ t.pwr.grpBusy = none ∧ SMap.get t.pwr.grpCmd 1 g = 1) ∧
     (s.dev.pwr.grpBusy ≠ none ∨ (s.dev.groupDoms g).any grpRefuses = true →
       ∃ t, exec (.pwrGrpcmd w) s = .next { s with dev := t } ∧ t.pwr = s.dev.pwr ∧ t.doms = s.dev.doms ∧
         t.fget Reg.PWR_GRPCMD Reg.PWR_GRPCMD_ERR_f = 1) ∧
     (s.dev.pwr.grpBusy = some (g, st) → s.dev.firstBusy (s.dev.groupDoms g) = none →
       ∃ t, exec (.modeCommit true) s = .next { s with dev := t } ∧ t.pwr.grpBusy = none ∧ SMap.get t.pwr.grpCmd 1 g = st) ∧
     ∀ x, s.dev.pwr.grpBusy = some (g, st) → s.dev.firstBusy (s.dev.groupDoms g) = some x →
       exec (.modeCommit true) s = .next s ∧
       ∃ t, exec (.pwrEntryTimeout true) s = .next { s with dev := t } ∧ t.pwr.grpBusy = none ∧ t.pwr.grpCmd = s.dev.pwr.grpCmd ∧
         t.fget Reg.PWR_GRPCMD Reg.PWR_GRPCMD_ERR_f = 1 ∧ s.dev.pwr.grpAt + s.dev.entryTmo ≤ t.elapsed)

/-- The wake sequence: WAKE_N_REQUEST, with WAKE_PG_RISE and WAKE_REG_TIMEOUT the power-good awaited of the main set and then of the
backup set, WAKE_SETTLE_END and the code, WAKE_RETRY_TIMER, WAKE_OSC_TIMEOUT, WAKE_DOMAINS_UP (R486 to R489). That a wake
request outside RETAIN and OFF is kept is R484. Model's choices in part: log 5, 158, 205. -/
def Obligations.WakeSequence : Prop :=
  ∀ (k : Wake) (bootsel : Fin 4) (s : State),
    (s.dev.fget Reg.PWR_WAKECFG Reg.PWR_WAKECFG_WAKEN_f = 1 → s.dev.pwr.wake = none →
      ∃ t, exec .wakeNRequest s = .next { s with dev := t } ∧
        (s.dev.pwr.mode = 2 → t.pwr.wake = some ⟨.retain, .pgMain, s.dev.elapsed, s.dev.elapsed, 0⟩) ∧
        (s.dev.pwr.mode = 3 → t.pwr.wake = some ⟨.off, .pgMain, s.dev.elapsed, s.dev.elapsed, 0⟩) ∧
        (2 ≤ s.dev.pwr.mode → s.dev.pwr.mode ≤ 3 → t.pwr.main.en = true ∧ t.pwr.back.en = false) ∧
        (s.dev.pwr.mode ≤ 1 → t = { s.dev with pwr := { s.dev.pwr with wakeReq := true } })) ∧
    (s.dev.fget Reg.PWR_WAKECFG Reg.PWR_WAKECFG_WAKEN_f = 1 → s.dev.pwr.wake = some k → k.stage = .retry →
      ∃ t, exec .wakeNRequest s = .next { s with dev := t } ∧
        t.pwr.wake = some ⟨k.source, .pgMain, s.dev.elapsed, s.dev.elapsed, 0⟩ ∧ t.pwr.main.en = true ∧
        t.fget Reg.SUP_RETRY Reg.SUP_RETRY_ATTEMPT_f = 0) ∧
    (s.dev.fget Reg.PWR_WAKECFG Reg.PWR_WAKECFG_WAKEN_f = 0 → exec .wakeNRequest s = .next s) ∧
    (s.dev.pwr.wake = some k → k.stage = .pgMain →
      (∃ t, exec (.wakePgRise false) s = .next { s with dev := t } ∧ 
        t.pwr.wake = some { k with stage := .settle, since := s.dev.elapsed } ∧ t.selBack = false ∧ t.pwr.main.pg = true) ∧
      ∃ t, exec .wakeRegTimeout s = .next { s with dev := t } ∧ 
        k.since + s.dev.regTmo ≤ t.elapsed ∧ t.pwr.wake = some { k with stage := .pgBack, since := t.elapsed } ∧
        t.pwr.main.en = false ∧ t.pwr.back.en = true ∧ t.fget Reg.SUP_CTL Reg.SUP_CTL_MAINEN_f = 0) ∧
    (s.dev.pwr.wake = some k → k.stage = .pgBack →
      (∃ t, exec (.wakePgRise true) s = .next { s with dev := t } ∧ 
        t.pwr.wake = some { k with stage := .settle, since := s.dev.elapsed } ∧ t.selBack = true ∧ t.pwr.back.pg = true) ∧
      ∃ t, exec .wakeRegTimeout s = .next { s with dev := t } ∧ 
        k.since + s.dev.regTmo ≤ t.elapsed ∧ t.pwr.wake = some { k with stage := .retry, since := t.elapsed } ∧
        t.pwr.main.en = false ∧ t.pwr.back.en = false ∧ t.fget Reg.SUP_FAULT Reg.SUP_FAULT_WAKE_FAIL_f = 1 ∧
        t.pwr.retryWait = (if k.tried < s.dev.fget Reg.PWR_WAKE_RETRY_MAX Reg.PWR_WAKE_RETRY_MAX_MAX_f
          then min 64 (2 ^ k.tried) else 0)) ∧
    (s.dev.pwr.wake = some k → k.stage = .retry → s.dev.pwr.retryWait ≠ 0 →
      ∃ t, exec .wakeRetryTimer s = .next { s with dev := t } ∧
        k.since + s.dev.pwr.retryWait * secUnit ≤ t.elapsed ∧
        t.pwr.wake = some ⟨k.source, .pgMain, t.elapsed, t.elapsed, k.tried + 1⟩ ∧ t.pwr.main.en = true) ∧
    (s.dev.pwr.wake = some k → k.stage = .settle → s.dev.pwr.avs = none →
      ∃ t, exec .wakeSettleEnd s = .next { s with dev := t } ∧ t.pwr.wake = some { k with stage := .sent } ∧
        k.since + 100000 * nsUnit ≤ t.elapsed ∧
        t.out = s.dev.out ++ [.avsWrite s.dev.selBack (if k.source = .retain then s.dev.code else 160)]) ∧
    (s.dev.pwr.wake = some k → k.stage = .ready → s.dev.tim.refOk = false →
      ∃ t, exec .wakeOscTimeout s = .next { s with dev := t } ∧ t.pwr.wake = some { k with stage := .checked } ∧
        k.t0 + ms (max 1 (s.dev.fget Reg.PWR_WAKE_OSC_TMO Reg.PWR_WAKE_OSC_TMO_TMO_f)) ≤ t.elapsed ∧
        (s.dev.dom 207 = .on → t.evq = s.dev.evq ++ [(0x803, 0)])) ∧
    (s.dev.pwr.wake = some k → k.stage = .checked ∨ k.stage = .ready ∧ s.dev.tim.refOk = true →
      ∃ t, exec (.wakeDomainsUp bootsel) s = .next { s with dev := t } ∧ t.pwr.wake = none ∧
        t.pwr.mode = (if k.source = .retain then s.dev.fget Reg.PWR_WAKECFG Reg.PWR_WAKECFG_TGT_f else 0) ∧
        (k.source ≠ .retain → t.sec.bootsel = bootsel))

/-- Supply sets, RAIL_LOW, SUP_SWBACK, SUP_SWTEST, SUP_ENABLE_WRITE, BROWNOUT, AVS_READBACK_TIMER, AVS_ALERT, STANDBY_SET_FAIL and
STANDBY_SET_GOOD: the switch to a set that has been good for PWR_SWITCHBACK_HOLD when a rail of the active set becomes low, none
when there is no such set; the switches that SUP_CTL asks for; the enables; brown-out; read-back and alerts of AVSBus (R490 to
R494, R497). Model's choices in part: log 159, 161. -/
def Obligations.SupplySwitching : Prop :=
  ∀ (back pg fm fb : Bool) (mm mb : Nat) (w : Word) (s : State),
    (back = s.dev.selBack → s.dev.goodHeld (!back) = true →
      ∃ t, exec (.railLow back pg) s = .next { s with dev := t } ∧ t.selBack = !back ∧
        t.fget Reg.SUP_FAULT Reg.SUP_FAULT_SWITCHED_f = 1 ∧
        t.get48 Reg.SUP_SWCNT_LO = min (s.dev.get48 Reg.SUP_SWCNT_LO + 1) (2 ^ 48 - 1) ∧ (t.sup back).good = false) ∧
    (back = s.dev.selBack → s.dev.goodHeld (!back) = false →
      ∃ t, exec (.railLow back pg) s = .next { s with dev := t } ∧ t.selBack = back ∧
        t.fget Reg.SUP_FAULT Reg.SUP_FAULT_NOBACKUP_f = 1 ∧ (t.sup back).good = false) ∧
    (back ≠ s.dev.selBack →
      ∃ t, exec (.railLow back pg) s = .next { s with dev := t } ∧ (t.sup back).good = false ∧ t.selBack = s.dev.selBack ∧
        t.sup (!back) = s.dev.sup (!back) ∧
        ((s.dev.sup back).good = true → s.dev.pwr.mode ≤ 1 → s.dev.pwr.wake = none →
          t.fget Reg.SUP_FAULT Reg.SUP_FAULT_NOBACKUP_f = 1) ∧
        ((s.dev.sup back).good = false ∨ 1 < s.dev.pwr.mode ∨ s.dev.pwr.wake ≠ none → t.regs = s.dev.regs)) ∧
    (getF w Reg.SUP_CTL_SWBACK_f = 1 → getF w Reg.SUP_CTL_SWTEST_f = 0 →
      getF w Reg.SUP_CTL_MAINEN_f = s.dev.fget Reg.SUP_CTL Reg.SUP_CTL_MAINEN_f →
      getF w Reg.SUP_CTL_BACKEN_f = s.dev.fget Reg.SUP_CTL Reg.SUP_CTL_BACKEN_f →
      (s.dev.selBack = true → s.dev.goodHeld false = true →
        ∃ t, exec (.supSwback w) s = .next { s with dev := t } ∧ t.selBack = false) ∧
      (s.dev.selBack = false ∨ s.dev.goodHeld false = false →
        ∃ t, exec (.supSwback w) s = .next { s with dev := t } ∧ t.selBack = s.dev.selBack ∧
          t.fget Reg.SUP_FAULT Reg.SUP_FAULT_ERR_f = 1)) ∧
    (getF w Reg.SUP_CTL_SWBACK_f = 0 → getF w Reg.SUP_CTL_SWTEST_f = 1 →
      getF w Reg.SUP_CTL_MAINEN_f = s.dev.fget Reg.SUP_CTL Reg.SUP_CTL_MAINEN_f →
      getF w Reg.SUP_CTL_BACKEN_f = s.dev.fget Reg.SUP_CTL Reg.SUP_CTL_BACKEN_f →
      (s.dev.selBack = false → s.dev.goodHeld true = true →
        ∃ t, exec (.supSwtest w) s = .next { s with dev := t } ∧ t.selBack = true) ∧
      (s.dev.selBack = true ∨ s.dev.goodHeld true = false →
        ∃ t, exec (.supSwtest w) s = .next { s with dev := t } ∧ t.selBack = s.dev.selBack ∧
          t.fget Reg.SUP_FAULT Reg.SUP_FAULT_ERR_f = 1)) ∧
    (getF w Reg.SUP_CTL_SWBACK_f = 0 → getF w Reg.SUP_CTL_SWTEST_f = 0 → getF w Reg.SUP_CTL_MAINEN_f = 1 → s.dev.selBack = false →
      s.dev.fget Reg.SUP_CTL Reg.SUP_CTL_MAINEN_f = 1 →
      (s.dev.fget Reg.SUP_CTL Reg.SUP_CTL_BACKEN_f = 0 → getF w Reg.SUP_CTL_BACKEN_f = 1 →
        ∃ t, exec (.supEnableWrite w) s = .next { s with dev := t } ∧ t.pwr.back.en = true ∧
          t.fget Reg.SUP_CTL Reg.SUP_CTL_BACKEN_f = 1) ∧
      (s.dev.fget Reg.SUP_CTL Reg.SUP_CTL_BACKEN_f = 1 → getF w Reg.SUP_CTL_BACKEN_f = 0 →
        ∃ t, exec (.supEnableWrite w) s = .next { s with dev := t } ∧ t.pwr.back = supOff ∧
          t.fget Reg.SUP_CTL Reg.SUP_CTL_BACKEN_f = 0)) ∧
    (getF w Reg.SUP_CTL_SWBACK_f = 0 → getF w Reg.SUP_CTL_SWTEST_f = 0 → getF w Reg.SUP_CTL_MAINEN_f = 0 → s.dev.selBack = false →
      s.dev.fget Reg.SUP_CTL Reg.SUP_CTL_MAINEN_f = 1 →
      getF w Reg.SUP_CTL_BACKEN_f = s.dev.fget Reg.SUP_CTL Reg.SUP_CTL_BACKEN_f →
      ∃ t, exec (.supEnableWrite w) s = .next { s with dev := t } ∧ t.pwr = s.dev.pwr ∧
        t.fget Reg.SUP_CTL Reg.SUP_CTL_MAINEN_f = 1 ∧ t.fget Reg.SUP_FAULT Reg.SUP_FAULT_ERR_f = 1) ∧
    ((s.dev.sup s.dev.selBack).en = true →
      ∃ t, exec .brownout s = .next { s with dev := t } ∧ t.pwr.mode = 3 ∧ t.pwr.held = true ∧
        t.fget Reg.SUP_FAULT Reg.SUP_FAULT_BROWNOUT_f = 1 ∧ t.fget Reg.RST_CAUSE Reg.RST_CAUSE_CLASS_f = 3 ∧
        t.fget Reg.RST_CAUSE Reg.RST_CAUSE_CODE_f = 8 ∧ t.rget Reg.RST_PREV = s.dev.rget Reg.RST_CAUSE ∧ t.time = s.dev.time ∧
        t.sec.otp = s.dev.sec.otp ∧ t.pwr.wake = some ⟨.brownout, .pgMain, s.dev.elapsed, s.dev.elapsed, 0⟩) ∧
    (∃ t, exec (.avsReadbackTimer mm mb fm fb) s = .next { s with dev := t } ∧ t.pwr.mvMain = mm % 65536 ∧ t.pwr.mvBack = mb % 65536 ∧
      s.dev.pwr.readAt + ms 10 ≤ t.elapsed ∧ t.pwr.readAt = t.elapsed ∧
      (t.pwr.main.avs = true ↔ (s.dev.code : Int) * 5 - 15 ≤ mm ∧ (mm : Int) ≤ s.dev.code * 5 + 15) ∧
      (t.pwr.back.avs = true ↔ (s.dev.code : Int) * 5 - 15 ≤ mb ∧ (mb : Int) ≤ s.dev.code * 5 + 15) ∧
      (fm = true ∨ fb = true → t.fget Reg.SUP_FAULT Reg.SUP_FAULT_AVSERR_f = 1) ∧
      (fm = false → fb = false →
        t.fget Reg.SUP_FAULT Reg.SUP_FAULT_AVSERR_f = s.dev.fget Reg.SUP_FAULT Reg.SUP_FAULT_AVSERR_f)) ∧
    (∃ t, exec (.avsAlert back) s = .next { s with dev := t } ∧ t.fget Reg.SUP_FAULT Reg.SUP_FAULT_AVSERR_f = 1 ∧ t.pwr = s.dev.pwr ∧
      (s.dev.dom 207 = .on → t.evq = s.dev.evq ++ [(0x805, if back then 1 else 0)])) ∧
    (s.dev.pwr.mode ≤ 1 →
      ∃ t, exec .standbySetFail s = .next { s with dev := t } ∧ (t.sup (!s.dev.selBack)).good = false ∧
        t.selBack = s.dev.selBack ∧
        ((s.dev.sup (!s.dev.selBack)).good = true → s.dev.pwr.wake = none → t.fget Reg.SUP_FAULT Reg.SUP_FAULT_NOBACKUP_f = 1)) ∧
    ((s.dev.sup (!s.dev.selBack)).en = true →
      ∃ t, exec .standbySetGood s = .next { s with dev := t } ∧ (t.sup (!s.dev.selBack)).good = true ∧
        t.sup s.dev.selBack = s.dev.sup s.dev.selBack ∧
        t.out = s.dev.out ++ [.avsWrite (!s.dev.selBack) s.dev.code])

/-! ### The security island -/

/-- The boot chain, SEC_SELFTEST_END, BOOT_IMAGE_FETCHED, HOSTWAIT_EXPIRE, BOOTREQ_TIMER, BOOTGO, BOOT_ORDER_RESTART, SEC_BOOTOK and
BOOT_WDT_EXPIRE: self-test, the candidates in order, the firmware image that starts the Abacist, SEC_BOOTOK, the boot watchdog
(R510 to R513). Model's choices in part: log 163, 164, 173, 174, 175. -/
def Obligations.BootChain : Prop :=
  ∀ (e : Nat) (fl : List (Nat × List Nat)) (ws : List Word) (b : Bead) (r : Req) (w : Word) (s : State),
    let next (t : Dev) : Prop :=
      if s.dev.sec.idx + 1 < s.dev.bootOrder.length then t.sec.idx = s.dev.sec.idx + 1 ∧ t.sec.atEnd = false else t.sec.atEnd = true
    (s.dev.sec.stage = 0 →
      exec (.secSelftestEnd (some e)) s =
        .next { s with dev := ({ s.dev with sec := { s.dev.sec with stage := 4 } } : Dev).raise 0x907 e }) ∧
    (s.dev.sec.stage = 0 →
      ∃ t, exec (.secSelftestEnd none) s = .next { s with dev := t } ∧ t.sec.stage = 1 ∧
        (s.dev.lc ≠ 4 → t.sec.waitFrom = some s.dev.elapsed ∧
          t.sec.idx = s.dev.fget Reg.SEC_BOOTREC Reg.SEC_BOOTREC_START_f % s.dev.bootOrder.length) ∧
        (s.dev.lc = 0 → s.dev.supplyOk = true → s.dev.otpWritten 280 = false → ∀ i, i < 11 → t.otpWritten (280 + i) = true)) ∧
    (s.dev.rm.initDone = true → s.dev.candidate = some 0 ∨ s.dev.candidate = some 1 →
      (let k := if s.dev.candidate = some 1 then 1 else 0
       (flashImage fl k = none → ∃ t, exec (.bootImageFetched fl) s = .next { s with dev := t } ∧ next t) ∧
       (flashImage fl k = some ws → ∀ d d1 d2 h m nw, (s.dev.memWriteN staging (ws.take stagingLen)).2 = d → d.memReadN staging 16 = (h, true, d1) →
        fwLayout h = some nw → d1.memReadN staging (16 + nw + manifestLen) = (m, true, d2) →
        (manifestOf (m.drop (16 + nw))).magic = 0x4D4E46 → (manifestOf (m.drop (16 + nw))).clear = true →
        d2.verify m (16 + nw) d2.fwSigner = 0 →
        ∃ t, exec (.bootImageFetched fl) s = .next { s with dev := t } ∧ t.sec.stage = 2 ∧ t.sec.wdtFrom = s.dev.elapsed ∧
          (t.core 112).st = .run ∧ (t.core 112).pc = bits (m.getD 2 0).toNat 15 0))) ∧
    (s.dev.bootNet = true →
      (∃ t, exec .hostwaitExpire s = .next { s with dev := t } ∧ next t ∧
        s.dev.sec.waitFrom.getD 0 + ms (1000 * s.dev.policy 4 5) ≤ t.elapsed) ∧
      ∃ t, exec .bootreqTimer s = .next { s with dev := t } ∧ s.dev.sec.reqAt + ms 100 ≤ t.elapsed ∧ t.sec.reqAt = t.elapsed ∧
        (s.dev.candidate = some 2 → t.out = s.dev.out ++ [.frame (s.dev.policy 9 0 % 16) s.dev.bootreqFrame])) ∧
    (b.dunit = 0x7E → b.ok = true → b.op = 0x20 → b.rsp = false → s.dev.unitAway 0x7E = false →
      s.dev.candidate = some 2 ∨ s.dev.candidate = some 3 ∧ b.hops = 0 →
      exec (.bootgo b) s = .next { s with dev := (s.dev.take b).fwVerify (b.pay 0 % stagingLen) }) ∧
    (b.dunit = 0x7E → b.ok = true → b.op = 0x20 → b.rsp = false → s.dev.unitAway 0x7E = false → s.dev.candidate = some 3 →
      b.hops ≠ 0 → exec (.bootgo b) s = .next { s with dev := s.dev.take b }) ∧
    (s.dev.sec.stage = 1 → s.dev.sec.atEnd = true →
      ∃ t, exec .bootOrderRestart s = .next { s with dev := t } ∧ t.sec.idx = 0 ∧ t.sec.atEnd = false ∧
        s.dev.sec.waitFrom.getD 0 + ms 1000 ≤ t.elapsed) ∧
    (r.trusted = true → getF w Reg.SEC_BOOTOK_OK_f = 1 → s.dev.sec.stage = 2 →
      ∃ t, exec (.secBootok r w) s = .next { s with dev := t } ∧ t.sec.stage = 3 ∧
        t.fget Reg.SEC_BOOTREC Reg.SEC_BOOTREC_COUNT_f = 0 ∧
        t.fget Reg.SEC_BOOTREC Reg.SEC_BOOTREC_START_f = s.dev.fget Reg.SEC_BOOTREC Reg.SEC_BOOTREC_START_f) ∧
    (s.dev.sec.stage = 2 → ∀ n, n = s.dev.fget Reg.SEC_BOOTREC Reg.SEC_BOOTREC_COUNT_f + 1 →
      ∃ t, exec .bootWdtExpire s = .next { s with dev := t } ∧ t.time = 0 ∧ t.sec.stage = 0 ∧
        t.fget Reg.RST_CAUSE Reg.RST_CAUSE_CLASS_f = 1 ∧ t.fget Reg.RST_CAUSE Reg.RST_CAUSE_CODE_f = 4 ∧
        (n < s.dev.policy 2 3 → n < 16 → t.fget Reg.SEC_BOOTREC Reg.SEC_BOOTREC_COUNT_f = n) ∧
        (s.dev.policy 2 3 ≤ n → t.fget Reg.SEC_BOOTREC Reg.SEC_BOOTREC_COUNT_f = 0 ∧
          t.fget Reg.SEC_BOOTREC Reg.SEC_BOOTREC_START_f =
            (s.dev.fget Reg.SEC_BOOTREC Reg.SEC_BOOTREC_START_f + 1) % s.dev.bootOrder.length))

/-- CMD_WRITE_SLOT, CMD_REVOKE, CMD_ADVANCE, CMD_LIFECYCLE, CMD_DEBUG, CMD_POLICY and CMD_SCRAP: a signed command that passes every
check has its effect on OTP or on the debug scopes; LIFECYCLE and SCRAP end in a C reset; a requester that is not trusted gets a
bus error (R505 to R509, R520, R527). The other operations of SEC_CMD, SEC_ATTEST, SEC_FETCH and SAK_INSTALL: ATTEST writes a
report and needs a loaded image and the island's keys, FETCH writes what flash holds, SAKINSTALL installs an association (R513,
R515, R519, R521). Model's choices in part: log 162, 163, 164, 165, 166, 167, 168. -/
def Obligations.SignedAndIslandCommands : Prop :=
  (∀ (r : Req) (w : Word) (s : State),
     (r.trusted = false → ∀ i ∈ [Instr.cmdWriteSlot r w, .cmdRevoke r w, .cmdAdvance r w, .cmdLifecycle r w, .cmdDebug r w,
         .cmdPolicy r w, .cmdScrap r w, .secAttest r w, .sakInstall r w, .secFetch r w []],
       exec i s = .next { s with dev := s.dev.emit (.busError r (0x30000000 + Reg.SEC_CMD)) }) ∧
     (r.trusted = true → getF w Reg.SEC_CMD_GO_f = 1 → getF w Reg.SEC_CMD_OP_f = 0 → s.dev.verifying = false →
       ∀ kind h ws d, s.dev.cmdKind = kind → Dev.cmdReady (s.dev.fput Reg.SEC_CMD Reg.SEC_CMD_OP_f 0) d h ws kind →
         (let arg := (h.getD 11 0).toNat
          let slot := bits arg 2 0
          let ctr := bits arg 23 19
          let body (i : Nat) : Nat := (ws.getD (16 + i) 0).toNat
          let otp (t : Dev) (k : Nat) : Option Nat := SMap.get t.sec.otp none k
          let done (t : Dev) : Prop :=
            t.fget Reg.SEC_CMDSTAT Reg.SEC_CMDSTAT_STATE_f = 2 ∧ t.fget Reg.SEC_CMDSTAT Reg.SEC_CMDSTAT_CAUSE_f = 0
          (kind = 1 → ∃ t, exec (.cmdWriteSlot r w) s = .next { s with dev := t } ∧ done t ∧
            ∀ i, i < 32 → otp t (16 + 32 * slot + i) = some (body i)) ∧
          (kind = 2 → ∃ t, exec (.cmdRevoke r w) s = .next { s with dev := t } ∧ done t ∧ t.slotRev slot = true ∧
            ∀ k, k ≠ 272 + slot → otp t k = otp s.dev k) ∧
          (kind = 3 → ∃ t, exec (.cmdAdvance r w) s = .next { s with dev := t } ∧ done t ∧
            ∃ row, 291 + 6 * ctr ≤ row ∧ row < 297 + 6 * ctr ∧ t.otpWritten row = true ∧
              (otp s.dev row = none → otp t row = some (body 0)) ∧ ∀ k, k ≠ row → otp t k = otp s.dev k) ∧
          (kind = 4 → ∃ t, exec (.cmdLifecycle r w) s = .next { s with dev := t } ∧ t.time = 0 ∧
            t.fget Reg.RST_CAUSE Reg.RST_CAUSE_CODE_f = 7 ∧
            ∀ k, (k < slot → otp s.dev k = none → s.dev.otpBad k = false → otp t k = some (0x5AC300 + k)) ∧
              (slot ≤ k → otp t k = otp s.dev k)) ∧
          (kind = 5 → ∃ t, exec (.cmdDebug r w) s = .next { s with dev := t } ∧ done t ∧ t.scopes = s.dev.scopes ||| slot ∧
            t.sec.otp = s.dev.sec.otp ∧ (2 ≤ slot → t.sec.sessions = [] ∧ t.brg.sas = [])) ∧
          (kind = 6 → ∃ t, exec (.cmdPolicy r w) s = .next { s with dev := t } ∧ done t ∧
            (∀ i, 2 * i + 1 < bits (h.getD 2 0).toNat 11 0 → t.otpWritten (body (2 * i)) = true) ∧
            ∀ k, k < 483 → otp t k = otp s.dev k) ∧
          (kind = 7 → ∃ t, exec (.cmdScrap r w) s = .next { s with dev := t } ∧ t.time = 0 ∧
            t.fget Reg.RST_CAUSE Reg.RST_CAUSE_CODE_f = 7 ∧
            ∀ k, (k < 4 → otp s.dev k = none → s.dev.otpBad k = false → otp t k = some (0x5AC300 + k)) ∧
              (4 ≤ k → otp t k = otp s.dev k))))) ∧
  (∀ (r : Req) (w : Word) (fl : List (Nat × List Nat)) (img : List Word) (s : State) (d : Dev), r.trusted = true → getF w Reg.SEC_CMD_GO_f = 1 →
     s.dev.verifying = false → d = s.dev.fput Reg.SEC_CMD Reg.SEC_CMD_OP_f (getF w Reg.SEC_CMD_OP_f) →
     (let ends (t : Dev) (cause : Nat) : Prop :=
        t.fget Reg.SEC_CMDSTAT Reg.SEC_CMDSTAT_STATE_f = (if cause = 0 then 2 else 3) ∧
          t.fget Reg.SEC_CMDSTAT Reg.SEC_CMDSTAT_CAUSE_f = cause
      (getF w Reg.SEC_CMD_OP_f = 1 → s.dev.noKey = true →
        ∃ t, exec (.secAttest r w) s = .next { s with dev := t } ∧ ends t 12) ∧
      (getF w Reg.SEC_CMD_OP_f = 1 → s.dev.noKey = false → s.dev.fget Reg.STC_STAT Reg.STC_STAT_STATE_f = 4 →
        ∀ f i nonce e e2, s.dev.sec.fw = some f → s.dev.sec.img = some i → d.memReadN d.cmdBuf 11 = (nonce, true, e) →
          ({ e with fresh := e.fresh + 1 } : Dev).memWriteN d.cmdBuf (({ e with fresh := e.fresh + 1 } : Dev).attestWords nonce f i)
            = (true, e2) →
          ∃ t, exec (.secAttest r w) s = .next { s with dev := t } ∧ ends t 0 ∧ t.rm = e2.rm ∧ t.lm = e2.lm) ∧
      (getF w Reg.SEC_CMD_OP_f = 2 → flashImage fl (if s.dev.sec.cand = 1 then 3 else 2) = some img → ∀ e, ({ d with fresh := d.fresh + 1 } : Dev).memWriteN d.cmdBuf img = (true, e) →
        ∃ t, exec (.secFetch r w fl) s = .next { s with dev := t } ∧ ends t 0 ∧ t.rm = e.rm ∧ t.lm = e.lm) ∧
      (getF w Reg.SEC_CMD_OP_f = 3 → ∀ ws e, d.memReadN d.cmdBuf Config.sakLen = (ws, true, e) →
        ∃ t, exec (.sakInstall r w) s = .next { s with dev := t } ∧ ends t 0 ∧ saOf ws ∈ t.brg.sas ∧
          ∀ x ∈ t.brg.sas, x ≠ saOf ws → ¬ (x.port = (saOf ws).port ∧ x.tx = (saOf ws).tx ∧ x.chan = (saOf ws).chan ∧
            x.an = (saOf ws).an))))

/-- SESSION_OPEN, SESSION_ACCEPT, SESSION_CLOSE and SESSION_BEAD: OPEN takes the lowest free number, ACCEPT keys the session, CLOSE
by its host ends it, a bead is served once and a replayed one is discarded with SEC_SESSION_FAIL (R516, R517). TAMPER_DETECT: a
detection (of sensor 6 the 16th failure within 1 s) is latched; the response zeroises keys, or zeroises and resets, or scraps
the device as well (R521 to R523). Model's choices in part: log 163, 170, 171, 172. -/
def Obligations.SessionsAndTamper : Prop :=
  (∀ (b : Bead) (buf n slot : Nat) (ct keys sigs : List Nat) (s : State) (d : Dev), b.dunit = 0x7E → b.ok = true → b.op = 0x20 →
     b.rsp = false → s.dev.unitAway 0x7E = false → s.dev.verifying = false → d = s.dev.take b →
     (s.dev.noKey = true →
       exec (.sessionOpen b buf) s = .next { s with dev := d.emit (.session b.sunit 0 12 []) }) ∧
     (s.dev.noKey = false → 3 ≤ s.dev.sec.cdi.length → n < 4 → s.dev.session n = none → (∀ k, k < n → s.dev.session k ≠ none) →
       ∃ t x, exec (.sessionOpen b buf) s = .next { s with dev := t } ∧ t.session n = some x ∧ x.host = b.sunit ∧ x.rx = none ∧
         x.tx = 0 ∧ x.dk ≠ none ∧ t.out.getLast? = some (.session b.sunit n 0 [])) ∧
     (∀ x dk, s.dev.session n = some x → x.dk = some dk → s.dev.noKey = false → x.host = b.sunit →
       slotClass slot (if s.dev.lc = 3 then 0 else 1) = true → s.dev.slotLive slot = true →
       bytesWords (sha3 (keys.take 32)) = (s.dev.slotDigest slot false).map word →
       bytesWords (sha3 (keys.drop 32)) = (s.dev.slotDigest slot true).map word →
       (let m := sha3 (x.ek ++ ct)
        Config.edVerify (keys.take 32) m (sigs.take 64) = true → Config.mlVerify (keys.drop 32) m (sigs.drop 64) = true →
        ∃ t y, exec (.sessionAccept b n slot ct keys sigs) s = .next { s with dev := t } ∧ t.session n = some y ∧ y.dk = none ∧
          y.host = x.host ∧ y.h2d = (sha3 (ascii "FL-H2D" ++ Config.kemDecaps dk ct ++ sha3 x.ek ++ sha3 ct)).take 32 ∧
          y.d2h = (sha3 (ascii "FL-D2H" ++ Config.kemDecaps dk ct ++ sha3 x.ek ++ sha3 ct)).take 32)) ∧
     (∀ x, s.dev.session n = some x → x.host = b.sunit →
       ∃ t, exec (.sessionClose b n) s = .next { s with dev := t } ∧ t.session n = none ∧
         ∀ k, k ≠ n → t.session k = s.dev.session k) ∧
     (∀ x, s.dev.session n = some x → x.host ≠ b.sunit →
       exec (.sessionClose b n) s = .next { s with dev := d.emit (.session b.sunit n 12 []) }) ∧
     (n = bits (b.pay 0) 23 22 → ∀ x k, s.dev.session n = some x → x.rx = some k → b.pay 1 + b.pay 2 * 2 ^ 24 ≤ k →
       exec (.sessionBead b) s = .next { s with dev := d.raise 0x906 n }) ∧
     (n = bits (b.pay 0) 23 22 → ∀ x ctr ct plain, s.dev.session n = some x → x.dk = none → x.host = b.sunit →
       ctr = b.pay 1 + b.pay 2 * 2 ^ 24 → (∀ k, x.rx = some k → k < ctr) → ctr < 2 ^ 48 - 1 →
       9 ≤ b.payload.length → b.payload.length ≤ 64 → ct = (b.payload.drop 3).take (b.payload.length - 9) →
       Config.gcmOpen x.h2d (sessionIv 0x48 ctr) (wordBytes ct) (bytesN ((b.payload.drop 3).drop ct.length) 16) = some plain →
       ∀ c q z, (d.sessionPut { x with rx := some ctr }).sessionOp plain = (c, false, q) → q.session n = some z →
         exec (.sessionBead b) s = .next { s with dev := q.sessionReply b z c })) ∧
  (∀ (k : Fin 7) (s : State),
     (s.dev.tamperDue k = false → exec (.tamperDetect k) s = .next s) ∧
     (s.dev.tamperDue k = true →
      let resp := bits (s.dev.rget Reg.SEC_TAMPCFG).toNat (2 * k + 1) (2 * k)
      (resp = 0 → ∃ t, exec (.tamperDetect k) s = .next { s with dev := t } ∧
        t.rget Reg.SEC_TAMPSTAT = s.dev.rget Reg.SEC_TAMPSTAT ||| word (2 ^ (k : Nat)) ∧
        t.sec = { s.dev.sec with fails := if (k : Nat) = 6 then [] else s.dev.sec.fails } ∧
        (s.dev.dom 207 = .on → t.evq = s.dev.evq ++ [(0x903, (k : Nat))])) ∧
      (resp = 1 → ∃ t, exec (.tamperDetect k) s = .next { s with dev := t } ∧
        t.rget Reg.SEC_TAMPSTAT = s.dev.rget Reg.SEC_TAMPSTAT ||| word (2 ^ (k : Nat)) ∧ t.sec.sessions = [] ∧ t.sec.cdi = [] ∧
        t.brg.sas = [] ∧ t.sec.udsClosed = true ∧ t.scopes = 0 ∧ t.noKey = true ∧ t.sec.otp = s.dev.sec.otp ∧
        (s.dev.dom 207 = .on → t.evq = s.dev.evq ++ [(0x903, (k : Nat)), (0x904, 0)])) ∧
      (resp = 2 → ∃ t, exec (.tamperDetect k) s = .next { s with dev := t } ∧ t.time = 0 ∧ t.sec.sessions = [] ∧ t.sec.cdi = [] ∧
        t.brg.sas = [] ∧ t.fget Reg.RST_CAUSE Reg.RST_CAUSE_CLASS_f = 1 ∧ t.fget Reg.RST_CAUSE Reg.RST_CAUSE_CODE_f = 5 ∧
        t.sec.otp = s.dev.sec.otp) ∧
      (resp = 3 → ∃ t, exec (.tamperDetect k) s = .next { s with dev := t } ∧ t.time = 0 ∧ t.brg.sas = [] ∧
        t.fget Reg.RST_CAUSE Reg.RST_CAUSE_CLASS_f = 1 ∧ t.fget Reg.RST_CAUSE Reg.RST_CAUSE_CODE_f = 5 ∧
        (s.dev.supplyOk = true → (∀ r, r < 4 → SMap.get s.dev.sec.otp none r = none ∧ s.dev.otpBad r = false) →
          ∀ r, r < 4 → SMap.get t.sec.otp none r = some (0x5AC300 + r)) ∧
        (s.dev.supplyOk = false → t.sec.otp = s.dev.sec.otp))))

/-! ### Resets and registers -/

/-- VSTBY_RISE, RESET_N_LOW and RESET_N_RELEASE: P and C resets; RST_CMD_WARM, RST_CMD_COLD and RST_CMD_UNIT;
WARM_RESPONSES_COLLECTED: the end of a W reset; AWDT_EXPIRE and AWDT_KICK: the Abacist watchdog (R526 to R534, R557). Model's
choices in part: log 160, 161, 171, 177. -/
def Obligations.ResetCommands : Prop :=
  ∀ (r : Req) (w : Word) (low : Bool) (s : State),
    (∃ t, exec (.vstbyRise low) s = .next { s with dev := t } ∧ t.time = 0 ∧ t.net = [] ∧ t.evq = [] ∧ t.cores = [] ∧
      t.sec.otp = s.dev.sec.otp ∧ t.sec.stage = 0 ∧ t.rget Reg.RST_CAUSE = 0 ∧ t.pwr.resetN = low ∧
      ∃ k, t.pwr.wake = some k ∧ k.source = .power 0 ∧ k.stage = (if low then .hold else .pgMain)) ∧
    (∃ t, exec .resetNLow s = .next { s with dev := t } ∧ s.dev.coldFrom t 1 0 ∧ t.pwr.resetN = true ∧ t.pwr.main.en = false ∧
      ∃ k, t.pwr.wake = some k ∧ k.stage = .hold) ∧
    (∀ k, s.dev.pwr.wake = some k → k.stage = .hold →
      ∃ t, exec .resetNRelease s = .next { s with dev := t } ∧ t.pwr.resetN = false ∧ t.pwr.main.en = true ∧
        t.pwr.wake = some ⟨k.source, .pgMain, s.dev.elapsed, s.dev.elapsed, 0⟩) ∧
    (r.trusted = false → ∀ i ∈ [Instr.rstCmdWarm r w, .rstCmdCold r w, .rstCmdUnit r w],
      exec i s = .next { s with dev := s.dev.emit (.busError r (0x30000000 + Reg.RST_CMD)) }) ∧
    (r.trusted = true → getF w Reg.RST_CMD_GO_f = 1 → getF w Reg.RST_CMD_CLASS_f = 0 →
      (s.dev.pwr.mode = 0 → s.dev.stc.wbusy = false →
        ∃ t, exec (.rstCmdWarm r w) s = .next { s with dev := t } ∧ t.stc.wbusy = true ∧ t.time = s.dev.time ∧
          ∀ n, n < 64 → t.listOn n = false) ∧
      (s.dev.pwr.mode ≠ 0 ∨ s.dev.stc.wbusy = true →
        ∃ t, exec (.rstCmdWarm r w) s = .next { s with dev := t } ∧ t.stc = s.dev.stc ∧
          t.fget Reg.RST_STAT Reg.RST_STAT_ERR_f = 1)) ∧
    (r.trusted = true → getF w Reg.RST_CMD_GO_f = 1 → getF w Reg.RST_CMD_CLASS_f = 1 →
      (s.dev.pwr.wake = none → ∃ t, exec (.rstCmdCold r w) s = .next { s with dev := t } ∧ s.dev.coldFrom t 3 0)) ∧
    (r.trusted = true → getF w Reg.RST_CMD_GO_f = 1 → getF w Reg.RST_CMD_CLASS_f = 2 →
      (∀ u, u = getF w Reg.RST_CMD_UNIT_f → u < 112 → s.dev.pwr.mode = 0 → s.dev.stc.wbusy = false → s.dev.dom u = .on →
        s.dev.fenced u = false →
        ∃ t, exec (.rstCmdUnit r w) s = .next { s with dev := t } ∧ (t.core u).st = .stopped ∧ (t.core u).csr = [] ∧
          (t.core u).pc = s.dev.fget (Reg.RCK_CTL u) Reg.RCK_CTL_ENTRY_f ∧ t.lm = s.dev.lm ∧ t.time = s.dev.time) ∧
      (s.dev.pwr.mode ≠ 0 ∨ s.dev.stc.wbusy = true →
        exec (.rstCmdUnit r w) s = .next { s with dev := s.dev.fset Reg.RST_STAT Reg.RST_STAT_ERR_f true })) ∧
    (s.dev.stc.wbusy = true → s.dev.stc.op ≠ .warm →
      ∃ t, exec .warmResponsesCollected s = .next { s with dev := t } ∧ t.time = s.dev.time ∧ t.regions = [] ∧ t.carriers = [] ∧
        t.sec.otp = s.dev.sec.otp ∧ t.fget Reg.RST_CAUSE Reg.RST_CAUSE_CLASS_f = 2 ∧ t.fget Reg.RST_CAUSE Reg.RST_CAUSE_CODE_f = 10 ∧
        t.get48 Reg.RST_WCNT_LO = min (s.dev.get48 Reg.RST_WCNT_LO + 1) (2 ^ 48 - 1) ∧
        ((∀ k, k < 15 → s.dev.fget (Reg.STC_RET k) Reg.STC_RET_VALID_f = 0) → t.stc.wbusy = false ∧ (t.core 112).st = .run) ∧
        ((∃ k, k < 15 ∧ s.dev.fget (Reg.STC_RET k) Reg.STC_RET_VALID_f = 1) → t.stc.wbusy = true ∧ t.stc.op = .warm ∧
          t.fget Reg.STC_STAT Reg.STC_STAT_STATE_f = 3 ∧ t.locked = false)) ∧
    (s.dev.fget Reg.RST_AWDT Reg.RST_AWDT_EN_f = 1 → s.dev.pwr.mode = 0 →
      ∃ t, exec .awdtExpire s = .next { s with dev := t } ∧ t.fget Reg.RST_AWDT Reg.RST_AWDT_EXP_f = 1 ∧ (t.core 112).st = .run ∧
        (t.core 112).pc = s.dev.fget (Reg.RCK_CTL 112) Reg.RCK_CTL_ENTRY_f ∧ t.awdt = (t.elapsed, none) ∧
        s.dev.awdt.1 + ms (max 1 (s.dev.fget Reg.RST_AWDT Reg.RST_AWDT_TMO_f)) ≤ t.elapsed) ∧
    (getF w Reg.RST_AWDT_KICK_f = 1 → getF w Reg.RST_AWDT_EN_f = 1 →
      ∃ t, exec (.awdtKick w) s = .next { s with dev := t } ∧ t.awdt = (s.dev.elapsed, if s.dev.pwr.mode = 0 then none else some 0) ∧
        t.fget Reg.RST_AWDT Reg.RST_AWDT_EN_f = 1 ∧
        t.fget Reg.RST_AWDT Reg.RST_AWDT_TMO_f = getF w Reg.RST_AWDT_TMO_f ∧
        (getF w Reg.RST_AWDT_EXP_f = 1 → t.fget Reg.RST_AWDT Reg.RST_AWDT_EXP_f = 0) ∧
        (getF w Reg.RST_AWDT_EXP_f = 0 →
          t.fget Reg.RST_AWDT Reg.RST_AWDT_EXP_f = s.dev.fget Reg.RST_AWDT Reg.RST_AWDT_EXP_f))

/-- REG_WRITE: a write that names no window, or to a register in part or by a requester that may not write it, ends in a bus error
and changes nothing; one of an unassigned offset or of the shadow view is ignored; a field takes the written value by its access
type, and the RWL fields of a locked register stay (R11 to R13, R355, R546). The registers named last are those whose write has
no effect of its own. Model's choices in part: log 12, 13, 97. -/
def Obligations.RegisterWrites : Prop :=
  ∀ (r : Req) (o : Nat) (w : Word) (lanes : Fin 8) (s : State),
    (let reg := regSpec (if shadowed o = true then o - shadowBase else o)
     let refused := exec (.regWrite r o w lanes) s = .next { s with dev := (s.dev.emit (.busError r (0x30000000 + o))) }
     let ignored := exec (.regWrite r o w lanes) s = .next s
     (implemented o = false → shadowed o = false → refused) ∧
     (implemented o = true ∨ shadowed o = true →
       (reg = none → (s.dev.mayAccess r o = true → ignored) ∧ (s.dev.mayAccess r o = false → refused)) ∧
       (reg ≠ none → ((lanes : Nat) ≠ 7 → refused) ∧
         ((lanes : Nat) = 7 → (shadowed o = true → ignored) ∧ (shadowed o = false → s.dev.mayWrite r o = false → refused))))) ∧
    ((lanes : Nat) = 7 → shadowed o = false → implemented o = true → s.dev.mayWrite r o = true →
      o / 0x10000 ∈ [2, 8, 13, 15, 16, 19, 20, 21] ∨ (o / 0x10000 = 3 ∧ o % 16 ∈ [1, 2]) ∨ (o / 0x10000 = 5 ∧ o ≠ Reg.MEM_FLUSH) ∨
        (o / 0x10000 = 18 ∧ o ≠ Reg.SUP_CTL) →
      ∀ spec, regSpec o = some spec → (∀ f ∈ spec.fields, f.acc ≠ .cnt) →
        ∃ t, exec (.regWrite r o w lanes) s = .next { s with dev := t } ∧ (∀ a, a ≠ o → t.rget a = s.dev.rget a) ∧
          ∀ f ∈ spec.fields,
            (f.acc = .rw → t.fget o f.bits = getF w f.bits) ∧
            (f.acc = .rwl → t.fget o f.bits = if s.dev.lockedAt o then s.dev.fget o f.bits else getF w f.bits) ∧
            (f.acc = .ro ∨ f.acc = .wo → t.fget o f.bits = s.dev.fget o f.bits) ∧
            (f.acc = .w1c → ∀ i, t.fget o f.bits / 2 ^ i % 2 =
              if getF w f.bits / 2 ^ i % 2 = 1 then 0 else s.dev.fget o f.bits / 2 ^ i % 2))

/-! ### Reset state and invariants -/

/-- What reset leaves: an empty queue; of the device the counter at 0, mode RUN, TIME_VALID clear, the domains of R530 step 4, no
bead, no queue entry, no running list, no instance, the loader EMPTY and unlocked, every core stopped, the island in STAGE ROM
with nothing written in OTP, and RESET_CAUSE to come (R14, R368, R526, R530, R535). The counter of the time base is in range at
reset (R364). Model's choices in part: log 8, 9, 10. -/
def Obligations.ResetValues : Prop :=
  (State.reset.pending = [] ∧
     (let d := State.reset.dev
      d.time = 0 ∧ d.pwr.mode = 0 ∧ d.timeValid = false ∧ d.net = [] ∧ d.queues = [] ∧ d.brx.insts = [] ∧ d.evq = [(0xA01, 0)] ∧
        d.sec.stage = 0 ∧ d.sec.otp = [] ∧ d.locked = false ∧ d.fget Reg.STC_STAT Reg.STC_STAT_STATE_f = 0 ∧
        (∀ n, n < 113 → (d.core n).st = .stopped ∧ (d.core n).machine = true) ∧
        (∀ k, d.dom k = .on ↔ (126 ≤ k ∧ k ≤ 157) ∨ k = 204 ∨ (207 ≤ k ∧ k ≤ 211)) ∧
        (∀ a, d.rget a = resetWord a))) ∧
  (State.reset.dev.time < timeMod)

/-- OTP is written once: whatever a step does, a row that holds a value keeps it (R501). The counter of the time base stays below
2^48 seconds at every step (R364). -/
def Obligations.InvariantsOfSteps : Prop :=
  (∀ (s t : State) (k v : Nat), step s = .next t → SMap.get s.dev.sec.otp none k = some v → SMap.get t.dev.sec.otp none k = some v) ∧
  (∀ s t : State, s.dev.time < timeMod → step s = .next t → t.dev.time < timeMod)
end

