-- ==== Sys2Proof/Laws/Issue.lean ====
section
/-! SUPPORT. What the issue of a Reckoner instruction does, once: on a core that takes it, the body acts on the device after the
fetch, and a reserved word takes ILLEGAL there. -/

namespace Sys2Proof.Machine

/-- Issue on a core that takes the instruction. -/
theorem Dev.issue_takes {s d : Dev} {n len : Nat} (h : s.takes n len d) (hl : len = 1 ∨ len = 2) (w : Word) (ill : Bool)
    (body : Dev → Dev) : s.issue n len w ill body = if ill then d.illegal n w else body d := by
  obtain ⟨h1, -, h2⟩ := h
  unfold Dev.fetched at h2
  unfold Dev.issue
  simp only [h1, if_true]
  split at h2
  · cases h2
  · rename_i x e hx
    rw [hx]
    rcases hl with rfl | rfl
    · simp only [OfNat.one_ne_ofNat, if_false, Option.some.injEq] at h2
      subst h2
      simp
    · simp only [if_true] at h2
      split at h2
      · cases h2
      · rename_i y g hy
        simp only [Option.some.injEq] at h2
        subst h2
        simp [hy]

/-- A row's command on a core that takes an instruction: nothing runs ahead of it and the row's own body acts. -/
theorem Dev.rckRow_takes {s d : Dev} {n len : Nat} (h : s.takes n len d) (w e : Word) (body : Dev → Dev) :
    s.rckRow n w e true body = body s := by
  obtain ⟨h1, h2, -⟩ := h
  have hd : s.decodes n = false := by
    simp only [Dev.issues, Bool.and_eq_true, beq_iff_eq] at h1
    simp [Dev.decodes, h1.1.1.1.1.1.2]
  simp [Dev.rckRow, Dev.runAhead, h1, h2, hd]

/-- A legal instruction acts on the device after the fetch. -/
theorem Dev.issue_legal {s d : Dev} {n len : Nat} (h : s.takes n len d) (hl : len = 1 ∨ len = 2) (w : Word) (ill : Bool)
    (hi : ill = false) (body : Dev → Dev) : s.issue n len w ill body = body d := by
  rw [Dev.issue_takes h hl, hi]
  simp

/-- A legal register-only instruction changes the core and completes. -/
theorem Dev.issueReg_legal {s d : Dev} {n len : Nat} (h : s.takes n len d) (hl : len = 1 ∨ len = 2) (w : Word) (ill : Bool)
    (hi : ill = false) (f : Core → Core) : s.issueReg n len w ill f = d.onCore n fun c => (f c).done len :=
  Dev.issue_legal h hl w ill hi _

/-- A legal vector instruction outside the memory group changes the core and completes. -/
theorem Dev.issueVec_legal {s d : Dev} {n len : Nat} (h : s.takes n len d) (hl : len = 1 ∨ len = 2) (w : Word) (typed ill : Bool)
    (hv : s.vecOk n typed) (hi : ill = false) (f : Core → Core) :
    s.issueVec n len w typed ill f = d.onCore n fun c => (f c).done len := by
  obtain ⟨h1, h2, h3⟩ := hv
  unfold Dev.issueVec
  apply Dev.issueReg_legal h hl
  subst hi
  cases typed <;> simp_all [notAbacist]

end Sys2Proof.Machine
end

