-- ==== Sys2Proof/Laws/SMap.lean ====
section
/-! SUPPORT. The laws of sparse maps: a read after a write, and the canonical form kept by every operation. -/

namespace Sys2Proof.Machine

variable {α : Type}

@[simp] theorem SMap.get_nil (d : α) (k : Nat) : SMap.get [] d k = d := rfl

/-- A deleted key reads as the default. -/
@[simp] theorem SMap.get_del_same (m : SMap α) (d : α) (k : Nat) : SMap.get (SMap.del m k) d k = d := by
  induction m with
  | nil => rfl
  | cons e t ih =>
    obtain ⟨i, v⟩ := e
    by_cases h : i = k <;> simp [SMap.del, SMap.get, h, ih]

/-- Deleting a key leaves every other. -/
theorem SMap.get_del_other (m : SMap α) (d : α) {k j : Nat} (h : j ≠ k) : SMap.get (SMap.del m k) d j = SMap.get m d j := by
  induction m with
  | nil => rfl
  | cons e t ih =>
    obtain ⟨i, v⟩ := e
    by_cases hk : i = k
    · subst hk
      simp [SMap.del, SMap.get, ih, Ne.symm h]
    · have hd : SMap.del ((i, v) :: t) k = (i, v) :: SMap.del t k := by simp [SMap.del, hk]
      rw [hd]
      simp [SMap.get, ih]

/-- Where `k` is not listed, an entry put in reads back. -/
theorem SMap.get_ins_same (m : SMap α) (d v : α) (k : Nat) (h : ∀ e ∈ m, e.1 ≠ k) : SMap.get (SMap.ins m k v) d k = v := by
  induction m with
  | nil => simp [SMap.ins, SMap.get]
  | cons e t ih =>
    obtain ⟨i, w⟩ := e
    by_cases hk : k < i
    · simp [SMap.ins, SMap.get, hk]
    · have hi : i ≠ k := h (i, w) (by simp)
      simp [SMap.ins, SMap.get, hk, hi, ih fun e he => h e (by simp [he])]

/-- Putting an entry in leaves every other key. -/
theorem SMap.get_ins_other (m : SMap α) (d v : α) {k j : Nat} (h : j ≠ k) : SMap.get (SMap.ins m k v) d j = SMap.get m d j := by
  induction m with
  | nil => simp [SMap.ins, SMap.get, Ne.symm h]
  | cons e t ih =>
    obtain ⟨i, w⟩ := e
    by_cases hk : k < i
    · simp [SMap.ins, SMap.get, hk, Ne.symm h]
    · have hd : SMap.ins ((i, w) :: t) k v = (i, w) :: SMap.ins t k v := by simp [SMap.ins, hk]
      rw [hd]
      simp [SMap.get, ih]

/-- No entry of the map without `k` has key `k`. -/
theorem SMap.del_keys (m : SMap α) (k : Nat) : ∀ e ∈ SMap.del m k, e.1 ≠ k := by
  induction m with
  | nil => simp [SMap.del]
  | cons e t ih =>
    obtain ⟨i, v⟩ := e
    by_cases h : i = k
    · simpa [SMap.del, h] using ih
    · intro e he
      simp only [SMap.del, h, if_false, List.mem_cons] at he
      rcases he with rfl | he
      · exact h
      · exact ih e he

/-- A key that is set reads back as it was set. -/
@[simp] theorem SMap.get_set_same [DecidableEq α] (m : SMap α) (d v : α) (k : Nat) : SMap.get (SMap.set m d k v) d k = v := by
  by_cases h : v = d
  · simp [SMap.set, h]
  · simp [SMap.set, h, SMap.get_ins_same _ d v k (SMap.del_keys m k)]

/-- Setting a key leaves every other, whatever an unlisted key reads as. -/
theorem SMap.get_set_other [DecidableEq α] (m : SMap α) (d d' v : α) {k j : Nat} (h : j ≠ k) :
    SMap.get (SMap.set m d k v) d' j = SMap.get m d' j := by
  by_cases hv : v = d
  · simp [SMap.set, hv, SMap.get_del_other m d' h]
  · simp [SMap.set, hv, SMap.get_ins_other _ d' v h, SMap.get_del_other m d' h]

/-! ### The canonical form -/

/-- A lower bound may be lowered. -/
theorem SMap.wfFrom_mono [DecidableEq α] {d : Nat → α} {lo lo' : Nat} {m : SMap α} (h : SMap.wfFrom d lo m = true) (hl : lo' ≤ lo) :
    SMap.wfFrom d lo' m = true := by
  cases m with
  | nil => rfl
  | cons e t =>
    obtain ⟨i, v⟩ := e
    simp only [SMap.wfFrom, Bool.and_eq_true, decide_eq_true_eq] at h ⊢
    exact ⟨⟨le_trans hl h.1.1, h.1.2⟩, h.2⟩

/-- A sublist of a canonical map is canonical. -/
theorem SMap.wfFrom_sublist [DecidableEq α] {d : Nat → α} {m n : SMap α} (h : List.Sublist n m) :
    ∀ {lo : Nat}, SMap.wfFrom d lo m = true → SMap.wfFrom d lo n = true := by
  induction h with
  | slnil => exact fun h => h
  | cons e h ih =>
    intro lo hm
    obtain ⟨i, v⟩ := e
    simp only [SMap.wfFrom, Bool.and_eq_true, decide_eq_true_eq] at hm
    exact SMap.wfFrom_mono (ih hm.2) (by omega)
  | cons_cons e h ih =>
    intro lo hm
    obtain ⟨i, v⟩ := e
    simp only [SMap.wfFrom, Bool.and_eq_true, decide_eq_true_eq] at hm ⊢
    exact ⟨hm.1, ih hm.2⟩

/-- The map without a key is a sublist. -/
theorem SMap.del_sublist (m : SMap α) (k : Nat) : List.Sublist (SMap.del m k) m := by
  induction m with
  | nil => exact List.Sublist.slnil
  | cons e t ih =>
    obtain ⟨i, v⟩ := e
    by_cases h : i = k
    · simpa [SMap.del, h] using ih.cons (k, v)
    · simpa [SMap.del, h] using ih

/-- An entry that is no default put into a canonical map without its key keeps the form. -/
theorem SMap.wfFrom_ins [DecidableEq α] {d : Nat → α} {k : Nat} {v : α} (hv : v ≠ d k) :
    ∀ (m : SMap α) (lo : Nat), SMap.wfFrom d lo m = true → lo ≤ k → (∀ e ∈ m, e.1 ≠ k) → SMap.wfFrom d lo (SMap.ins m k v) = true
  | [], lo, _, hl, _ => by simp [SMap.ins, SMap.wfFrom, hl, hv]
  | (i, w) :: t, lo, hm, hl, hk => by
    have hi : i ≠ k := hk (i, w) (by simp)
    simp only [SMap.wfFrom, Bool.and_eq_true, decide_eq_true_eq] at hm
    by_cases h : k < i
    · simp only [SMap.ins, h, if_true, SMap.wfFrom, Bool.and_eq_true, decide_eq_true_eq]
      exact ⟨⟨hl, by simpa using hv⟩, ⟨by omega, hm.1.2⟩, hm.2⟩
    · simp only [SMap.ins, h, if_false, SMap.wfFrom, Bool.and_eq_true, decide_eq_true_eq]
      exact ⟨hm.1, SMap.wfFrom_ins hv t (i + 1) hm.2 (by omega) fun e he => hk e (by simp [he])⟩

/-- Setting a key keeps the canonical form. -/
theorem SMap.wf_set [DecidableEq α] {d : Nat → α} {m : SMap α} (h : SMap.wf d m = true) (k : Nat) (v : α) :
    SMap.wf d (SMap.set m (d k) k v) = true := by
  have hd : SMap.wfFrom d 0 (SMap.del m k) = true := SMap.wfFrom_sublist (SMap.del_sublist m k) h
  by_cases hv : v = d k
  · simpa [SMap.set, hv, SMap.wf] using hd
  · simp only [SMap.set, hv, if_false, SMap.wf]
    exact SMap.wfFrom_ins hv _ 0 hd (Nat.zero_le k) (SMap.del_keys m k)

/-- Dropping keys keeps the canonical form. -/
theorem SMap.wf_drop [DecidableEq α] {d : Nat → α} {m : SMap α} (h : SMap.wf d m = true) (p : Nat → Bool) :
    SMap.wf d (SMap.drop m p) = true := SMap.wfFrom_sublist List.filter_sublist h

/-- A dropped key reads as the default, another as before. -/
theorem SMap.get_drop (m : SMap α) (d : α) (p : Nat → Bool) (k : Nat) :
    SMap.get (SMap.drop m p) d k = if p k then d else SMap.get m d k := by
  induction m with
  | nil => simp [SMap.drop]
  | cons e t ih =>
    obtain ⟨i, v⟩ := e
    simp only [SMap.drop] at ih
    by_cases hp : p i = true <;> by_cases hk : i = k
    · subst hk
      simp [SMap.drop, hp, ih]
    · simp [SMap.drop, SMap.get, hp, hk, ih]
    · subst hk
      simp [SMap.drop, SMap.get, hp]
    · simp [SMap.drop, SMap.get, hp, hk, ih]

end Sys2Proof.Machine
end

