-- ==== Sys2Proof/Laws/Memory.lean ====
section
/-! SUPPORT. The laws of byte memories: a read after a write, and the canonical form kept by every memory operation. -/

namespace Sys2Proof.Machine

@[simp] theorem cellGet_cellSet_same (m : List Host.Cell) (k : Nat) (b : Byte) : cellGet (cellSet m k b) k = b := by
  simp [cellGet, cellSet]

theorem cellGet_cellSet_other (m : List Host.Cell) {k j : Nat} (h : j ≠ k) (b : Byte) :
    cellGet (cellSet m k b) j = cellGet m j := SMap.get_set_other m _ _ b h

/-- Writing a byte keeps the canonical form. -/
theorem cellSet_wf {m : List Host.Cell} (h : Memory.wf m = true) (k : Nat) (b : Byte) : Memory.wf (cellSet m k b) = true :=
  SMap.wf_set h k b

/-- Writing lanes of a word keeps the canonical form. -/
theorem wordSet_wf {m : List Host.Cell} (h : Memory.wf m = true) (a : Nat) (w : Word) (lanes : Nat) :
    Memory.wf (wordSet m a w lanes) = true := by
  have step : ∀ (c : Bool) (m : List Host.Cell) (k : Nat) (b : Byte), Memory.wf m = true →
      Memory.wf (if c = true then cellSet m k b else m) = true := by
    intro c m k b hm
    split
    · exact cellSet_wf hm k b
    · exact hm
  exact step _ _ _ _ (step _ _ _ _ (step _ _ _ _ h))

/-- Dropping words keeps the canonical form. -/
theorem cellsDrop_wf {m : List Host.Cell} (h : Memory.wf m = true) (a n : Nat) : Memory.wf (cellsDrop m a n) = true :=
  SMap.wf_drop h _

/-- Replacing words keeps the canonical form. -/
theorem cellsIn_wf {m : List Host.Cell} (h : Memory.wf m = true) (a n : Nat) (c : List Host.Cell) :
    Memory.wf (cellsIn m a n c) = true := by
  have aux : ∀ (c m : List Host.Cell), Memory.wf m = true →
      Memory.wf (c.foldl (fun m e => cellSet m (3 * a + e.1) e.2) m) = true := by
    intro c
    induction c with
    | nil => exact fun _ h => h
    | cons e t ih => exact fun m h => ih _ (cellSet_wf h _ _)
  exact aux c _ (cellsDrop_wf h a n)

/-- Inverting data bits keeps the canonical form. -/
theorem flipData_wf (ps : List Nat) : ∀ {c : List Host.Cell}, Memory.wf c = true → Memory.wf (flipData c ps) = true := by
  induction ps with
  | nil => exact fun h => h
  | cons p t ih =>
    intro c h
    have hs : flipData c (p :: t) = flipData (if p < 12288 then
        cellSet c (p / 24 * 3 + p % 24 / 8) (cellGet c (p / 24 * 3 + p % 24 / 8) ^^^ BitVec.ofNat 8 (2 ^ (p % 8))) else c) t := rfl
    rw [hs]
    split
    · exact ih (cellSet_wf h _ _)
    · exact ih h

/-- The memories of the device are canonical. -/
def Dev.memWf (d : Dev) : Bool := Memory.wf d.lm && Memory.wf d.ab && Memory.wf d.rm.store && Memory.wf d.rm.winData

/-- The memories after reset are canonical. -/
theorem reset_memWf : State.reset.dev.memWf = true := by decide +kernel

/-- A store to local memory keeps them so. -/
theorem Dev.lmWrite_memWf {d : Dev} (h : d.memWf = true) (n w : Nat) (x : Word) (l : Nat) : (d.lmWrite n w x l).memWf = true := by
  simp only [Dev.memWf, Bool.and_eq_true] at h ⊢
  exact ⟨⟨⟨wordSet_wf h.1.1.1 _ _ _, h.1.1.2⟩, h.1.2⟩, h.2⟩

/-- Writing a word's lanes leaves the bytes of every other word. -/
theorem cellGet_wordSet_other (m : List Host.Cell) (a : Nat) (w : Word) (lanes : Nat) {k : Nat} (h : k / 3 ≠ a) :
    cellGet (wordSet m a w lanes) k = cellGet m k := by
  have h0 : k ≠ 3 * a := by omega
  have h1 : k ≠ 3 * a + 1 := by omega
  have h2 : k ≠ 3 * a + 2 := by omega
  simp only [wordSet]
  split <;> split <;> split <;> simp only [cellGet_cellSet_other _ h0, cellGet_cellSet_other _ h1, cellGet_cellSet_other _ h2]

/-- Another word reads as before. -/
theorem wordGet_wordSet_other (m : List Host.Cell) {a b : Nat} (h : b ≠ a) (w : Word) (lanes : Nat) :
    wordGet (wordSet m a w lanes) b = wordGet m b := by
  simp only [wordGet]
  rw [cellGet_wordSet_other m a w lanes (by omega), cellGet_wordSet_other m a w lanes (by omega),
    cellGet_wordSet_other m a w lanes (by omega)]

/-- A word written with every lane reads back. -/
theorem wordGet_wordSet_same (m : List Host.Cell) (a : Nat) (w : Word) : wordGet (wordSet m a w allLanes) a = w := by
  have e0 : bits allLanes 0 0 = 1 := by decide
  have e1 : bits allLanes 1 1 = 1 := by decide
  have e2 : bits allLanes 2 2 = 1 := by decide
  have h : w.toNat < 2 ^ 24 := w.isLt
  simp only [wordGet, wordSet, e0, e1, e2, beq_self_eq_true, if_true]
  rw [cellGet_cellSet_other _ (by omega : 3 * a ≠ 3 * a + 2), cellGet_cellSet_other _ (by omega : 3 * a ≠ 3 * a + 1),
    cellGet_cellSet_same, cellGet_cellSet_other _ (by omega : 3 * a + 1 ≠ 3 * a + 2), cellGet_cellSet_same, cellGet_cellSet_same]
  apply BitVec.eq_of_toNat_eq
  simp only [lane, word, BitVec.toNat_ofNat]
  omega

end Sys2Proof.Machine
end

