-- ==== Sys2Proof/Laws/State.lean ====
section
/-! SUPPORT. The fields of the device after each of its basic updates: one lemma per field and update, so that no proof unfolds a
record update; then what an update says of its own field. -/

namespace Sys2Proof.Machine

variable (s : Dev)

theorem Dev.with_regs_fresh (m : SMap Word) : Dev.fresh { s with regs := m } = s.fresh := rfl
theorem Dev.with_regs_time (m : SMap Word) : Dev.time { s with regs := m } = s.time := rfl
theorem Dev.with_regs_elapsed (m : SMap Word) : Dev.elapsed { s with regs := m } = s.elapsed := rfl
theorem Dev.with_regs_shadow (m : SMap Word) : Dev.shadow { s with regs := m } = s.shadow := rfl
theorem Dev.with_regs_doms (m : SMap Word) : Dev.doms { s with regs := m } = s.doms := rfl
theorem Dev.with_regs_net (m : SMap Word) : Dev.net { s with regs := m } = s.net := rfl
theorem Dev.with_regs_evq (m : SMap Word) : Dev.evq { s with regs := m } = s.evq := rfl
theorem Dev.with_regs_tail (m : SMap Word) : Dev.tail { s with regs := m } = s.tail := rfl
theorem Dev.with_regs_arb (m : SMap Word) : Dev.arb { s with regs := m } = s.arb := rfl
theorem Dev.with_regs_evSeen (m : SMap Word) : Dev.evSeen { s with regs := m } = s.evSeen := rfl
theorem Dev.with_regs_out (m : SMap Word) : Dev.out { s with regs := m } = s.out := rfl
theorem Dev.with_regs_lm (m : SMap Word) : Dev.lm { s with regs := m } = s.lm := rfl
theorem Dev.with_regs_lmErr (m : SMap Word) : Dev.lmErr { s with regs := m } = s.lmErr := rfl
theorem Dev.with_regs_ab (m : SMap Word) : Dev.ab { s with regs := m } = s.ab := rfl
theorem Dev.with_regs_abErr (m : SMap Word) : Dev.abErr { s with regs := m } = s.abErr := rfl
theorem Dev.with_regs_rm (m : SMap Word) : Dev.rm { s with regs := m } = s.rm := rfl
theorem Dev.with_regs_queues (m : SMap Word) : Dev.queues { s with regs := m } = s.queues := rfl
theorem Dev.with_regs_cores (m : SMap Word) : Dev.cores { s with regs := m } = s.cores := rfl
theorem Dev.with_regs_cmx (m : SMap Word) : Dev.cmx { s with regs := m } = s.cmx := rfl
theorem Dev.with_regs_regions (m : SMap Word) : Dev.regions { s with regs := m } = s.regions := rfl
theorem Dev.with_regs_pwr (m : SMap Word) : Dev.pwr { s with regs := m } = s.pwr := rfl
theorem Dev.with_regs_tim (m : SMap Word) : Dev.tim { s with regs := m } = s.tim := rfl
theorem Dev.with_regs_tly (m : SMap Word) : Dev.tly { s with regs := m } = s.tly := rfl
theorem Dev.with_regs_lnc (m : SMap Word) : Dev.lnc { s with regs := m } = s.lnc := rfl
theorem Dev.with_regs_jobs (m : SMap Word) : Dev.jobs { s with regs := m } = s.jobs := rfl
theorem Dev.with_regs_carriers (m : SMap Word) : Dev.carriers { s with regs := m } = s.carriers := rfl
theorem Dev.with_regs_brx (m : SMap Word) : Dev.brx { s with regs := m } = s.brx := rfl
theorem Dev.with_regs_dma (m : SMap Word) : Dev.dma { s with regs := m } = s.dma := rfl
theorem Dev.with_regs_brg (m : SMap Word) : Dev.brg { s with regs := m } = s.brg := rfl
theorem Dev.with_regs_dfe (m : SMap Word) : Dev.dfe { s with regs := m } = s.dfe := rfl
theorem Dev.with_regs_lan (m : SMap Word) : Dev.lan { s with regs := m } = s.lan := rfl
theorem Dev.with_regs_fab (m : SMap Word) : Dev.fab { s with regs := m } = s.fab := rfl
theorem Dev.with_regs_stc (m : SMap Word) : Dev.stc { s with regs := m } = s.stc := rfl
theorem Dev.with_regs_sec (m : SMap Word) : Dev.sec { s with regs := m } = s.sec := rfl
theorem Dev.with_regs_awdt (m : SMap Word) : Dev.awdt { s with regs := m } = s.awdt := rfl

@[simp] theorem Dev.rset_fresh (a : Nat) (w : Word) : (s.rset a w).fresh = s.fresh := s.with_regs_fresh _
@[simp] theorem Dev.rset_time (a : Nat) (w : Word) : (s.rset a w).time = s.time := s.with_regs_time _
@[simp] theorem Dev.rset_elapsed (a : Nat) (w : Word) : (s.rset a w).elapsed = s.elapsed := s.with_regs_elapsed _
@[simp] theorem Dev.rset_shadow (a : Nat) (w : Word) : (s.rset a w).shadow = s.shadow := s.with_regs_shadow _
@[simp] theorem Dev.rset_doms (a : Nat) (w : Word) : (s.rset a w).doms = s.doms := s.with_regs_doms _
@[simp] theorem Dev.rset_net (a : Nat) (w : Word) : (s.rset a w).net = s.net := s.with_regs_net _
@[simp] theorem Dev.rset_evq (a : Nat) (w : Word) : (s.rset a w).evq = s.evq := s.with_regs_evq _
@[simp] theorem Dev.rset_tail (a : Nat) (w : Word) : (s.rset a w).tail = s.tail := s.with_regs_tail _
@[simp] theorem Dev.rset_arb (a : Nat) (w : Word) : (s.rset a w).arb = s.arb := s.with_regs_arb _
@[simp] theorem Dev.rset_evSeen (a : Nat) (w : Word) : (s.rset a w).evSeen = s.evSeen := s.with_regs_evSeen _
@[simp] theorem Dev.rset_out (a : Nat) (w : Word) : (s.rset a w).out = s.out := s.with_regs_out _
@[simp] theorem Dev.rset_lm (a : Nat) (w : Word) : (s.rset a w).lm = s.lm := s.with_regs_lm _
@[simp] theorem Dev.rset_lmErr (a : Nat) (w : Word) : (s.rset a w).lmErr = s.lmErr := s.with_regs_lmErr _
@[simp] theorem Dev.rset_ab (a : Nat) (w : Word) : (s.rset a w).ab = s.ab := s.with_regs_ab _
@[simp] theorem Dev.rset_abErr (a : Nat) (w : Word) : (s.rset a w).abErr = s.abErr := s.with_regs_abErr _
@[simp] theorem Dev.rset_rm (a : Nat) (w : Word) : (s.rset a w).rm = s.rm := s.with_regs_rm _
@[simp] theorem Dev.rset_queues (a : Nat) (w : Word) : (s.rset a w).queues = s.queues := s.with_regs_queues _
@[simp] theorem Dev.rset_cores (a : Nat) (w : Word) : (s.rset a w).cores = s.cores := s.with_regs_cores _
@[simp] theorem Dev.rset_cmx (a : Nat) (w : Word) : (s.rset a w).cmx = s.cmx := s.with_regs_cmx _
@[simp] theorem Dev.rset_regions (a : Nat) (w : Word) : (s.rset a w).regions = s.regions := s.with_regs_regions _
@[simp] theorem Dev.rset_pwr (a : Nat) (w : Word) : (s.rset a w).pwr = s.pwr := s.with_regs_pwr _
@[simp] theorem Dev.rset_tim (a : Nat) (w : Word) : (s.rset a w).tim = s.tim := s.with_regs_tim _
@[simp] theorem Dev.rset_tly (a : Nat) (w : Word) : (s.rset a w).tly = s.tly := s.with_regs_tly _
@[simp] theorem Dev.rset_lnc (a : Nat) (w : Word) : (s.rset a w).lnc = s.lnc := s.with_regs_lnc _
@[simp] theorem Dev.rset_jobs (a : Nat) (w : Word) : (s.rset a w).jobs = s.jobs := s.with_regs_jobs _
@[simp] theorem Dev.rset_carriers (a : Nat) (w : Word) : (s.rset a w).carriers = s.carriers := s.with_regs_carriers _
@[simp] theorem Dev.rset_brx (a : Nat) (w : Word) : (s.rset a w).brx = s.brx := s.with_regs_brx _
@[simp] theorem Dev.rset_dma (a : Nat) (w : Word) : (s.rset a w).dma = s.dma := s.with_regs_dma _
@[simp] theorem Dev.rset_brg (a : Nat) (w : Word) : (s.rset a w).brg = s.brg := s.with_regs_brg _
@[simp] theorem Dev.rset_dfe (a : Nat) (w : Word) : (s.rset a w).dfe = s.dfe := s.with_regs_dfe _
@[simp] theorem Dev.rset_lan (a : Nat) (w : Word) : (s.rset a w).lan = s.lan := s.with_regs_lan _
@[simp] theorem Dev.rset_fab (a : Nat) (w : Word) : (s.rset a w).fab = s.fab := s.with_regs_fab _
@[simp] theorem Dev.rset_stc (a : Nat) (w : Word) : (s.rset a w).stc = s.stc := s.with_regs_stc _
@[simp] theorem Dev.rset_sec (a : Nat) (w : Word) : (s.rset a w).sec = s.sec := s.with_regs_sec _
@[simp] theorem Dev.rset_awdt (a : Nat) (w : Word) : (s.rset a w).awdt = s.awdt := s.with_regs_awdt _

@[simp] theorem Dev.fput_fresh (a : Nat) (f : Fld) (v : Nat) : (s.fput a f v).fresh = s.fresh := s.rset_fresh a _
@[simp] theorem Dev.fput_time (a : Nat) (f : Fld) (v : Nat) : (s.fput a f v).time = s.time := s.rset_time a _
@[simp] theorem Dev.fput_elapsed (a : Nat) (f : Fld) (v : Nat) : (s.fput a f v).elapsed = s.elapsed := s.rset_elapsed a _
@[simp] theorem Dev.fput_shadow (a : Nat) (f : Fld) (v : Nat) : (s.fput a f v).shadow = s.shadow := s.rset_shadow a _
@[simp] theorem Dev.fput_doms (a : Nat) (f : Fld) (v : Nat) : (s.fput a f v).doms = s.doms := s.rset_doms a _
@[simp] theorem Dev.fput_net (a : Nat) (f : Fld) (v : Nat) : (s.fput a f v).net = s.net := s.rset_net a _
@[simp] theorem Dev.fput_evq (a : Nat) (f : Fld) (v : Nat) : (s.fput a f v).evq = s.evq := s.rset_evq a _
@[simp] theorem Dev.fput_tail (a : Nat) (f : Fld) (v : Nat) : (s.fput a f v).tail = s.tail := s.rset_tail a _
@[simp] theorem Dev.fput_arb (a : Nat) (f : Fld) (v : Nat) : (s.fput a f v).arb = s.arb := s.rset_arb a _
@[simp] theorem Dev.fput_evSeen (a : Nat) (f : Fld) (v : Nat) : (s.fput a f v).evSeen = s.evSeen := s.rset_evSeen a _
@[simp] theorem Dev.fput_out (a : Nat) (f : Fld) (v : Nat) : (s.fput a f v).out = s.out := s.rset_out a _
@[simp] theorem Dev.fput_lm (a : Nat) (f : Fld) (v : Nat) : (s.fput a f v).lm = s.lm := s.rset_lm a _
@[simp] theorem Dev.fput_lmErr (a : Nat) (f : Fld) (v : Nat) : (s.fput a f v).lmErr = s.lmErr := s.rset_lmErr a _
@[simp] theorem Dev.fput_ab (a : Nat) (f : Fld) (v : Nat) : (s.fput a f v).ab = s.ab := s.rset_ab a _
@[simp] theorem Dev.fput_abErr (a : Nat) (f : Fld) (v : Nat) : (s.fput a f v).abErr = s.abErr := s.rset_abErr a _
@[simp] theorem Dev.fput_rm (a : Nat) (f : Fld) (v : Nat) : (s.fput a f v).rm = s.rm := s.rset_rm a _
@[simp] theorem Dev.fput_queues (a : Nat) (f : Fld) (v : Nat) : (s.fput a f v).queues = s.queues := s.rset_queues a _
@[simp] theorem Dev.fput_cores (a : Nat) (f : Fld) (v : Nat) : (s.fput a f v).cores = s.cores := s.rset_cores a _
@[simp] theorem Dev.fput_cmx (a : Nat) (f : Fld) (v : Nat) : (s.fput a f v).cmx = s.cmx := s.rset_cmx a _
@[simp] theorem Dev.fput_regions (a : Nat) (f : Fld) (v : Nat) : (s.fput a f v).regions = s.regions := s.rset_regions a _
@[simp] theorem Dev.fput_pwr (a : Nat) (f : Fld) (v : Nat) : (s.fput a f v).pwr = s.pwr := s.rset_pwr a _
@[simp] theorem Dev.fput_tim (a : Nat) (f : Fld) (v : Nat) : (s.fput a f v).tim = s.tim := s.rset_tim a _
@[simp] theorem Dev.fput_tly (a : Nat) (f : Fld) (v : Nat) : (s.fput a f v).tly = s.tly := s.rset_tly a _
@[simp] theorem Dev.fput_lnc (a : Nat) (f : Fld) (v : Nat) : (s.fput a f v).lnc = s.lnc := s.rset_lnc a _
@[simp] theorem Dev.fput_jobs (a : Nat) (f : Fld) (v : Nat) : (s.fput a f v).jobs = s.jobs := s.rset_jobs a _
@[simp] theorem Dev.fput_carriers (a : Nat) (f : Fld) (v : Nat) : (s.fput a f v).carriers = s.carriers := s.rset_carriers a _
@[simp] theorem Dev.fput_brx (a : Nat) (f : Fld) (v : Nat) : (s.fput a f v).brx = s.brx := s.rset_brx a _
@[simp] theorem Dev.fput_dma (a : Nat) (f : Fld) (v : Nat) : (s.fput a f v).dma = s.dma := s.rset_dma a _
@[simp] theorem Dev.fput_brg (a : Nat) (f : Fld) (v : Nat) : (s.fput a f v).brg = s.brg := s.rset_brg a _
@[simp] theorem Dev.fput_dfe (a : Nat) (f : Fld) (v : Nat) : (s.fput a f v).dfe = s.dfe := s.rset_dfe a _
@[simp] theorem Dev.fput_lan (a : Nat) (f : Fld) (v : Nat) : (s.fput a f v).lan = s.lan := s.rset_lan a _
@[simp] theorem Dev.fput_fab (a : Nat) (f : Fld) (v : Nat) : (s.fput a f v).fab = s.fab := s.rset_fab a _
@[simp] theorem Dev.fput_stc (a : Nat) (f : Fld) (v : Nat) : (s.fput a f v).stc = s.stc := s.rset_stc a _
@[simp] theorem Dev.fput_sec (a : Nat) (f : Fld) (v : Nat) : (s.fput a f v).sec = s.sec := s.rset_sec a _
@[simp] theorem Dev.fput_awdt (a : Nat) (f : Fld) (v : Nat) : (s.fput a f v).awdt = s.awdt := s.rset_awdt a _

@[simp] theorem Dev.fset_fresh (a : Nat) (f : Fld) (b : Bool) : (s.fset a f b).fresh = s.fresh := s.fput_fresh a f _
@[simp] theorem Dev.fset_time (a : Nat) (f : Fld) (b : Bool) : (s.fset a f b).time = s.time := s.fput_time a f _
@[simp] theorem Dev.fset_elapsed (a : Nat) (f : Fld) (b : Bool) : (s.fset a f b).elapsed = s.elapsed := s.fput_elapsed a f _
@[simp] theorem Dev.fset_shadow (a : Nat) (f : Fld) (b : Bool) : (s.fset a f b).shadow = s.shadow := s.fput_shadow a f _
@[simp] theorem Dev.fset_doms (a : Nat) (f : Fld) (b : Bool) : (s.fset a f b).doms = s.doms := s.fput_doms a f _
@[simp] theorem Dev.fset_net (a : Nat) (f : Fld) (b : Bool) : (s.fset a f b).net = s.net := s.fput_net a f _
@[simp] theorem Dev.fset_evq (a : Nat) (f : Fld) (b : Bool) : (s.fset a f b).evq = s.evq := s.fput_evq a f _
@[simp] theorem Dev.fset_tail (a : Nat) (f : Fld) (b : Bool) : (s.fset a f b).tail = s.tail := s.fput_tail a f _
@[simp] theorem Dev.fset_arb (a : Nat) (f : Fld) (b : Bool) : (s.fset a f b).arb = s.arb := s.fput_arb a f _
@[simp] theorem Dev.fset_evSeen (a : Nat) (f : Fld) (b : Bool) : (s.fset a f b).evSeen = s.evSeen := s.fput_evSeen a f _
@[simp] theorem Dev.fset_out (a : Nat) (f : Fld) (b : Bool) : (s.fset a f b).out = s.out := s.fput_out a f _
@[simp] theorem Dev.fset_lm (a : Nat) (f : Fld) (b : Bool) : (s.fset a f b).lm = s.lm := s.fput_lm a f _
@[simp] theorem Dev.fset_lmErr (a : Nat) (f : Fld) (b : Bool) : (s.fset a f b).lmErr = s.lmErr := s.fput_lmErr a f _
@[simp] theorem Dev.fset_ab (a : Nat) (f : Fld) (b : Bool) : (s.fset a f b).ab = s.ab := s.fput_ab a f _
@[simp] theorem Dev.fset_abErr (a : Nat) (f : Fld) (b : Bool) : (s.fset a f b).abErr = s.abErr := s.fput_abErr a f _
@[simp] theorem Dev.fset_rm (a : Nat) (f : Fld) (b : Bool) : (s.fset a f b).rm = s.rm := s.fput_rm a f _
@[simp] theorem Dev.fset_queues (a : Nat) (f : Fld) (b : Bool) : (s.fset a f b).queues = s.queues := s.fput_queues a f _
@[simp] theorem Dev.fset_cores (a : Nat) (f : Fld) (b : Bool) : (s.fset a f b).cores = s.cores := s.fput_cores a f _
@[simp] theorem Dev.fset_cmx (a : Nat) (f : Fld) (b : Bool) : (s.fset a f b).cmx = s.cmx := s.fput_cmx a f _
@[simp] theorem Dev.fset_regions (a : Nat) (f : Fld) (b : Bool) : (s.fset a f b).regions = s.regions := s.fput_regions a f _
@[simp] theorem Dev.fset_pwr (a : Nat) (f : Fld) (b : Bool) : (s.fset a f b).pwr = s.pwr := s.fput_pwr a f _
@[simp] theorem Dev.fset_tim (a : Nat) (f : Fld) (b : Bool) : (s.fset a f b).tim = s.tim := s.fput_tim a f _
@[simp] theorem Dev.fset_tly (a : Nat) (f : Fld) (b : Bool) : (s.fset a f b).tly = s.tly := s.fput_tly a f _
@[simp] theorem Dev.fset_lnc (a : Nat) (f : Fld) (b : Bool) : (s.fset a f b).lnc = s.lnc := s.fput_lnc a f _
@[simp] theorem Dev.fset_jobs (a : Nat) (f : Fld) (b : Bool) : (s.fset a f b).jobs = s.jobs := s.fput_jobs a f _
@[simp] theorem Dev.fset_carriers (a : Nat) (f : Fld) (b : Bool) : (s.fset a f b).carriers = s.carriers := s.fput_carriers a f _
@[simp] theorem Dev.fset_brx (a : Nat) (f : Fld) (b : Bool) : (s.fset a f b).brx = s.brx := s.fput_brx a f _
@[simp] theorem Dev.fset_dma (a : Nat) (f : Fld) (b : Bool) : (s.fset a f b).dma = s.dma := s.fput_dma a f _
@[simp] theorem Dev.fset_brg (a : Nat) (f : Fld) (b : Bool) : (s.fset a f b).brg = s.brg := s.fput_brg a f _
@[simp] theorem Dev.fset_dfe (a : Nat) (f : Fld) (b : Bool) : (s.fset a f b).dfe = s.dfe := s.fput_dfe a f _
@[simp] theorem Dev.fset_lan (a : Nat) (f : Fld) (b : Bool) : (s.fset a f b).lan = s.lan := s.fput_lan a f _
@[simp] theorem Dev.fset_fab (a : Nat) (f : Fld) (b : Bool) : (s.fset a f b).fab = s.fab := s.fput_fab a f _
@[simp] theorem Dev.fset_stc (a : Nat) (f : Fld) (b : Bool) : (s.fset a f b).stc = s.stc := s.fput_stc a f _
@[simp] theorem Dev.fset_sec (a : Nat) (f : Fld) (b : Bool) : (s.fset a f b).sec = s.sec := s.fput_sec a f _
@[simp] theorem Dev.fset_awdt (a : Nat) (f : Fld) (b : Bool) : (s.fset a f b).awdt = s.awdt := s.fput_awdt a f _

@[simp] theorem Dev.put48_fresh (a n : Nat) : (s.put48 a n).fresh = s.fresh := (Dev.rset_fresh _ _ _).trans (s.rset_fresh a _)
@[simp] theorem Dev.put48_time (a n : Nat) : (s.put48 a n).time = s.time := (Dev.rset_time _ _ _).trans (s.rset_time a _)
@[simp] theorem Dev.put48_elapsed (a n : Nat) : (s.put48 a n).elapsed = s.elapsed := (Dev.rset_elapsed _ _ _).trans (s.rset_elapsed a _)
@[simp] theorem Dev.put48_shadow (a n : Nat) : (s.put48 a n).shadow = s.shadow := (Dev.rset_shadow _ _ _).trans (s.rset_shadow a _)
@[simp] theorem Dev.put48_doms (a n : Nat) : (s.put48 a n).doms = s.doms := (Dev.rset_doms _ _ _).trans (s.rset_doms a _)
@[simp] theorem Dev.put48_net (a n : Nat) : (s.put48 a n).net = s.net := (Dev.rset_net _ _ _).trans (s.rset_net a _)
@[simp] theorem Dev.put48_evq (a n : Nat) : (s.put48 a n).evq = s.evq := (Dev.rset_evq _ _ _).trans (s.rset_evq a _)
@[simp] theorem Dev.put48_tail (a n : Nat) : (s.put48 a n).tail = s.tail := (Dev.rset_tail _ _ _).trans (s.rset_tail a _)
@[simp] theorem Dev.put48_arb (a n : Nat) : (s.put48 a n).arb = s.arb := (Dev.rset_arb _ _ _).trans (s.rset_arb a _)
@[simp] theorem Dev.put48_evSeen (a n : Nat) : (s.put48 a n).evSeen = s.evSeen := (Dev.rset_evSeen _ _ _).trans (s.rset_evSeen a _)
@[simp] theorem Dev.put48_out (a n : Nat) : (s.put48 a n).out = s.out := (Dev.rset_out _ _ _).trans (s.rset_out a _)
@[simp] theorem Dev.put48_lm (a n : Nat) : (s.put48 a n).lm = s.lm := (Dev.rset_lm _ _ _).trans (s.rset_lm a _)
@[simp] theorem Dev.put48_lmErr (a n : Nat) : (s.put48 a n).lmErr = s.lmErr := (Dev.rset_lmErr _ _ _).trans (s.rset_lmErr a _)
@[simp] theorem Dev.put48_ab (a n : Nat) : (s.put48 a n).ab = s.ab := (Dev.rset_ab _ _ _).trans (s.rset_ab a _)
@[simp] theorem Dev.put48_abErr (a n : Nat) : (s.put48 a n).abErr = s.abErr := (Dev.rset_abErr _ _ _).trans (s.rset_abErr a _)
@[simp] theorem Dev.put48_rm (a n : Nat) : (s.put48 a n).rm = s.rm := (Dev.rset_rm _ _ _).trans (s.rset_rm a _)
@[simp] theorem Dev.put48_queues (a n : Nat) : (s.put48 a n).queues = s.queues := (Dev.rset_queues _ _ _).trans (s.rset_queues a _)
@[simp] theorem Dev.put48_cores (a n : Nat) : (s.put48 a n).cores = s.cores := (Dev.rset_cores _ _ _).trans (s.rset_cores a _)
@[simp] theorem Dev.put48_cmx (a n : Nat) : (s.put48 a n).cmx = s.cmx := (Dev.rset_cmx _ _ _).trans (s.rset_cmx a _)
@[simp] theorem Dev.put48_regions (a n : Nat) : (s.put48 a n).regions = s.regions := (Dev.rset_regions _ _ _).trans (s.rset_regions a _)
@[simp] theorem Dev.put48_pwr (a n : Nat) : (s.put48 a n).pwr = s.pwr := (Dev.rset_pwr _ _ _).trans (s.rset_pwr a _)
@[simp] theorem Dev.put48_tim (a n : Nat) : (s.put48 a n).tim = s.tim := (Dev.rset_tim _ _ _).trans (s.rset_tim a _)
@[simp] theorem Dev.put48_tly (a n : Nat) : (s.put48 a n).tly = s.tly := (Dev.rset_tly _ _ _).trans (s.rset_tly a _)
@[simp] theorem Dev.put48_lnc (a n : Nat) : (s.put48 a n).lnc = s.lnc := (Dev.rset_lnc _ _ _).trans (s.rset_lnc a _)
@[simp] theorem Dev.put48_jobs (a n : Nat) : (s.put48 a n).jobs = s.jobs := (Dev.rset_jobs _ _ _).trans (s.rset_jobs a _)
@[simp] theorem Dev.put48_carriers (a n : Nat) : (s.put48 a n).carriers = s.carriers := (Dev.rset_carriers _ _ _).trans (s.rset_carriers a _)
@[simp] theorem Dev.put48_brx (a n : Nat) : (s.put48 a n).brx = s.brx := (Dev.rset_brx _ _ _).trans (s.rset_brx a _)
@[simp] theorem Dev.put48_dma (a n : Nat) : (s.put48 a n).dma = s.dma := (Dev.rset_dma _ _ _).trans (s.rset_dma a _)
@[simp] theorem Dev.put48_brg (a n : Nat) : (s.put48 a n).brg = s.brg := (Dev.rset_brg _ _ _).trans (s.rset_brg a _)
@[simp] theorem Dev.put48_dfe (a n : Nat) : (s.put48 a n).dfe = s.dfe := (Dev.rset_dfe _ _ _).trans (s.rset_dfe a _)
@[simp] theorem Dev.put48_lan (a n : Nat) : (s.put48 a n).lan = s.lan := (Dev.rset_lan _ _ _).trans (s.rset_lan a _)
@[simp] theorem Dev.put48_fab (a n : Nat) : (s.put48 a n).fab = s.fab := (Dev.rset_fab _ _ _).trans (s.rset_fab a _)
@[simp] theorem Dev.put48_stc (a n : Nat) : (s.put48 a n).stc = s.stc := (Dev.rset_stc _ _ _).trans (s.rset_stc a _)
@[simp] theorem Dev.put48_sec (a n : Nat) : (s.put48 a n).sec = s.sec := (Dev.rset_sec _ _ _).trans (s.rset_sec a _)
@[simp] theorem Dev.put48_awdt (a n : Nat) : (s.put48 a n).awdt = s.awdt := (Dev.rset_awdt _ _ _).trans (s.rset_awdt a _)

@[simp] theorem Dev.count_fresh (a n : Nat) : (s.count a n).fresh = s.fresh := s.put48_fresh a _
@[simp] theorem Dev.count_time (a n : Nat) : (s.count a n).time = s.time := s.put48_time a _
@[simp] theorem Dev.count_elapsed (a n : Nat) : (s.count a n).elapsed = s.elapsed := s.put48_elapsed a _
@[simp] theorem Dev.count_shadow (a n : Nat) : (s.count a n).shadow = s.shadow := s.put48_shadow a _
@[simp] theorem Dev.count_doms (a n : Nat) : (s.count a n).doms = s.doms := s.put48_doms a _
@[simp] theorem Dev.count_net (a n : Nat) : (s.count a n).net = s.net := s.put48_net a _
@[simp] theorem Dev.count_evq (a n : Nat) : (s.count a n).evq = s.evq := s.put48_evq a _
@[simp] theorem Dev.count_tail (a n : Nat) : (s.count a n).tail = s.tail := s.put48_tail a _
@[simp] theorem Dev.count_arb (a n : Nat) : (s.count a n).arb = s.arb := s.put48_arb a _
@[simp] theorem Dev.count_evSeen (a n : Nat) : (s.count a n).evSeen = s.evSeen := s.put48_evSeen a _
@[simp] theorem Dev.count_out (a n : Nat) : (s.count a n).out = s.out := s.put48_out a _
@[simp] theorem Dev.count_lm (a n : Nat) : (s.count a n).lm = s.lm := s.put48_lm a _
@[simp] theorem Dev.count_lmErr (a n : Nat) : (s.count a n).lmErr = s.lmErr := s.put48_lmErr a _
@[simp] theorem Dev.count_ab (a n : Nat) : (s.count a n).ab = s.ab := s.put48_ab a _
@[simp] theorem Dev.count_abErr (a n : Nat) : (s.count a n).abErr = s.abErr := s.put48_abErr a _
@[simp] theorem Dev.count_rm (a n : Nat) : (s.count a n).rm = s.rm := s.put48_rm a _
@[simp] theorem Dev.count_queues (a n : Nat) : (s.count a n).queues = s.queues := s.put48_queues a _
@[simp] theorem Dev.count_cores (a n : Nat) : (s.count a n).cores = s.cores := s.put48_cores a _
@[simp] theorem Dev.count_cmx (a n : Nat) : (s.count a n).cmx = s.cmx := s.put48_cmx a _
@[simp] theorem Dev.count_regions (a n : Nat) : (s.count a n).regions = s.regions := s.put48_regions a _
@[simp] theorem Dev.count_pwr (a n : Nat) : (s.count a n).pwr = s.pwr := s.put48_pwr a _
@[simp] theorem Dev.count_tim (a n : Nat) : (s.count a n).tim = s.tim := s.put48_tim a _
@[simp] theorem Dev.count_tly (a n : Nat) : (s.count a n).tly = s.tly := s.put48_tly a _
@[simp] theorem Dev.count_lnc (a n : Nat) : (s.count a n).lnc = s.lnc := s.put48_lnc a _
@[simp] theorem Dev.count_jobs (a n : Nat) : (s.count a n).jobs = s.jobs := s.put48_jobs a _
@[simp] theorem Dev.count_carriers (a n : Nat) : (s.count a n).carriers = s.carriers := s.put48_carriers a _
@[simp] theorem Dev.count_brx (a n : Nat) : (s.count a n).brx = s.brx := s.put48_brx a _
@[simp] theorem Dev.count_dma (a n : Nat) : (s.count a n).dma = s.dma := s.put48_dma a _
@[simp] theorem Dev.count_brg (a n : Nat) : (s.count a n).brg = s.brg := s.put48_brg a _
@[simp] theorem Dev.count_dfe (a n : Nat) : (s.count a n).dfe = s.dfe := s.put48_dfe a _
@[simp] theorem Dev.count_lan (a n : Nat) : (s.count a n).lan = s.lan := s.put48_lan a _
@[simp] theorem Dev.count_fab (a n : Nat) : (s.count a n).fab = s.fab := s.put48_fab a _
@[simp] theorem Dev.count_stc (a n : Nat) : (s.count a n).stc = s.stc := s.put48_stc a _
@[simp] theorem Dev.count_sec (a n : Nat) : (s.count a n).sec = s.sec := s.put48_sec a _
@[simp] theorem Dev.count_awdt (a n : Nat) : (s.count a n).awdt = s.awdt := s.put48_awdt a _

theorem Dev.with_doms_fresh (m : SMap DomSt) : Dev.fresh { s with doms := m } = s.fresh := rfl
theorem Dev.with_doms_time (m : SMap DomSt) : Dev.time { s with doms := m } = s.time := rfl
theorem Dev.with_doms_elapsed (m : SMap DomSt) : Dev.elapsed { s with doms := m } = s.elapsed := rfl
theorem Dev.with_doms_regs (m : SMap DomSt) : Dev.regs { s with doms := m } = s.regs := rfl
theorem Dev.with_doms_shadow (m : SMap DomSt) : Dev.shadow { s with doms := m } = s.shadow := rfl
theorem Dev.with_doms_net (m : SMap DomSt) : Dev.net { s with doms := m } = s.net := rfl
theorem Dev.with_doms_evq (m : SMap DomSt) : Dev.evq { s with doms := m } = s.evq := rfl
theorem Dev.with_doms_tail (m : SMap DomSt) : Dev.tail { s with doms := m } = s.tail := rfl
theorem Dev.with_doms_arb (m : SMap DomSt) : Dev.arb { s with doms := m } = s.arb := rfl
theorem Dev.with_doms_evSeen (m : SMap DomSt) : Dev.evSeen { s with doms := m } = s.evSeen := rfl
theorem Dev.with_doms_out (m : SMap DomSt) : Dev.out { s with doms := m } = s.out := rfl
theorem Dev.with_doms_lm (m : SMap DomSt) : Dev.lm { s with doms := m } = s.lm := rfl
theorem Dev.with_doms_lmErr (m : SMap DomSt) : Dev.lmErr { s with doms := m } = s.lmErr := rfl
theorem Dev.with_doms_ab (m : SMap DomSt) : Dev.ab { s with doms := m } = s.ab := rfl
theorem Dev.with_doms_abErr (m : SMap DomSt) : Dev.abErr { s with doms := m } = s.abErr := rfl
theorem Dev.with_doms_rm (m : SMap DomSt) : Dev.rm { s with doms := m } = s.rm := rfl
theorem Dev.with_doms_queues (m : SMap DomSt) : Dev.queues { s with doms := m } = s.queues := rfl
theorem Dev.with_doms_cores (m : SMap DomSt) : Dev.cores { s with doms := m } = s.cores := rfl
theorem Dev.with_doms_cmx (m : SMap DomSt) : Dev.cmx { s with doms := m } = s.cmx := rfl
theorem Dev.with_doms_regions (m : SMap DomSt) : Dev.regions { s with doms := m } = s.regions := rfl
theorem Dev.with_doms_pwr (m : SMap DomSt) : Dev.pwr { s with doms := m } = s.pwr := rfl
theorem Dev.with_doms_tim (m : SMap DomSt) : Dev.tim { s with doms := m } = s.tim := rfl
theorem Dev.with_doms_tly (m : SMap DomSt) : Dev.tly { s with doms := m } = s.tly := rfl
theorem Dev.with_doms_lnc (m : SMap DomSt) : Dev.lnc { s with doms := m } = s.lnc := rfl
theorem Dev.with_doms_jobs (m : SMap DomSt) : Dev.jobs { s with doms := m } = s.jobs := rfl
theorem Dev.with_doms_carriers (m : SMap DomSt) : Dev.carriers { s with doms := m } = s.carriers := rfl
theorem Dev.with_doms_brx (m : SMap DomSt) : Dev.brx { s with doms := m } = s.brx := rfl
theorem Dev.with_doms_dma (m : SMap DomSt) : Dev.dma { s with doms := m } = s.dma := rfl
theorem Dev.with_doms_brg (m : SMap DomSt) : Dev.brg { s with doms := m } = s.brg := rfl
theorem Dev.with_doms_dfe (m : SMap DomSt) : Dev.dfe { s with doms := m } = s.dfe := rfl
theorem Dev.with_doms_lan (m : SMap DomSt) : Dev.lan { s with doms := m } = s.lan := rfl
theorem Dev.with_doms_fab (m : SMap DomSt) : Dev.fab { s with doms := m } = s.fab := rfl
theorem Dev.with_doms_stc (m : SMap DomSt) : Dev.stc { s with doms := m } = s.stc := rfl
theorem Dev.with_doms_sec (m : SMap DomSt) : Dev.sec { s with doms := m } = s.sec := rfl
theorem Dev.with_doms_awdt (m : SMap DomSt) : Dev.awdt { s with doms := m } = s.awdt := rfl

@[simp] theorem Dev.setDom_fresh (k : Nat) (x : DomSt) : (s.setDom k x).fresh = s.fresh := s.with_doms_fresh _
@[simp] theorem Dev.setDom_time (k : Nat) (x : DomSt) : (s.setDom k x).time = s.time := s.with_doms_time _
@[simp] theorem Dev.setDom_elapsed (k : Nat) (x : DomSt) : (s.setDom k x).elapsed = s.elapsed := s.with_doms_elapsed _
@[simp] theorem Dev.setDom_regs (k : Nat) (x : DomSt) : (s.setDom k x).regs = s.regs := s.with_doms_regs _
@[simp] theorem Dev.setDom_shadow (k : Nat) (x : DomSt) : (s.setDom k x).shadow = s.shadow := s.with_doms_shadow _
@[simp] theorem Dev.setDom_net (k : Nat) (x : DomSt) : (s.setDom k x).net = s.net := s.with_doms_net _
@[simp] theorem Dev.setDom_evq (k : Nat) (x : DomSt) : (s.setDom k x).evq = s.evq := s.with_doms_evq _
@[simp] theorem Dev.setDom_tail (k : Nat) (x : DomSt) : (s.setDom k x).tail = s.tail := s.with_doms_tail _
@[simp] theorem Dev.setDom_arb (k : Nat) (x : DomSt) : (s.setDom k x).arb = s.arb := s.with_doms_arb _
@[simp] theorem Dev.setDom_evSeen (k : Nat) (x : DomSt) : (s.setDom k x).evSeen = s.evSeen := s.with_doms_evSeen _
@[simp] theorem Dev.setDom_out (k : Nat) (x : DomSt) : (s.setDom k x).out = s.out := s.with_doms_out _
@[simp] theorem Dev.setDom_lm (k : Nat) (x : DomSt) : (s.setDom k x).lm = s.lm := s.with_doms_lm _
@[simp] theorem Dev.setDom_lmErr (k : Nat) (x : DomSt) : (s.setDom k x).lmErr = s.lmErr := s.with_doms_lmErr _
@[simp] theorem Dev.setDom_ab (k : Nat) (x : DomSt) : (s.setDom k x).ab = s.ab := s.with_doms_ab _
@[simp] theorem Dev.setDom_abErr (k : Nat) (x : DomSt) : (s.setDom k x).abErr = s.abErr := s.with_doms_abErr _
@[simp] theorem Dev.setDom_rm (k : Nat) (x : DomSt) : (s.setDom k x).rm = s.rm := s.with_doms_rm _
@[simp] theorem Dev.setDom_queues (k : Nat) (x : DomSt) : (s.setDom k x).queues = s.queues := s.with_doms_queues _
@[simp] theorem Dev.setDom_cores (k : Nat) (x : DomSt) : (s.setDom k x).cores = s.cores := s.with_doms_cores _
@[simp] theorem Dev.setDom_cmx (k : Nat) (x : DomSt) : (s.setDom k x).cmx = s.cmx := s.with_doms_cmx _
@[simp] theorem Dev.setDom_regions (k : Nat) (x : DomSt) : (s.setDom k x).regions = s.regions := s.with_doms_regions _
@[simp] theorem Dev.setDom_pwr (k : Nat) (x : DomSt) : (s.setDom k x).pwr = s.pwr := s.with_doms_pwr _
@[simp] theorem Dev.setDom_tim (k : Nat) (x : DomSt) : (s.setDom k x).tim = s.tim := s.with_doms_tim _
@[simp] theorem Dev.setDom_tly (k : Nat) (x : DomSt) : (s.setDom k x).tly = s.tly := s.with_doms_tly _
@[simp] theorem Dev.setDom_lnc (k : Nat) (x : DomSt) : (s.setDom k x).lnc = s.lnc := s.with_doms_lnc _
@[simp] theorem Dev.setDom_jobs (k : Nat) (x : DomSt) : (s.setDom k x).jobs = s.jobs := s.with_doms_jobs _
@[simp] theorem Dev.setDom_carriers (k : Nat) (x : DomSt) : (s.setDom k x).carriers = s.carriers := s.with_doms_carriers _
@[simp] theorem Dev.setDom_brx (k : Nat) (x : DomSt) : (s.setDom k x).brx = s.brx := s.with_doms_brx _
@[simp] theorem Dev.setDom_dma (k : Nat) (x : DomSt) : (s.setDom k x).dma = s.dma := s.with_doms_dma _
@[simp] theorem Dev.setDom_brg (k : Nat) (x : DomSt) : (s.setDom k x).brg = s.brg := s.with_doms_brg _
@[simp] theorem Dev.setDom_dfe (k : Nat) (x : DomSt) : (s.setDom k x).dfe = s.dfe := s.with_doms_dfe _
@[simp] theorem Dev.setDom_lan (k : Nat) (x : DomSt) : (s.setDom k x).lan = s.lan := s.with_doms_lan _
@[simp] theorem Dev.setDom_fab (k : Nat) (x : DomSt) : (s.setDom k x).fab = s.fab := s.with_doms_fab _
@[simp] theorem Dev.setDom_stc (k : Nat) (x : DomSt) : (s.setDom k x).stc = s.stc := s.with_doms_stc _
@[simp] theorem Dev.setDom_sec (k : Nat) (x : DomSt) : (s.setDom k x).sec = s.sec := s.with_doms_sec _
@[simp] theorem Dev.setDom_awdt (k : Nat) (x : DomSt) : (s.setDom k x).awdt = s.awdt := s.with_doms_awdt _

@[simp] theorem Dev.send_fresh (b : Bead) : (s.send b).fresh = s.fresh := rfl
@[simp] theorem Dev.send_time (b : Bead) : (s.send b).time = s.time := rfl
@[simp] theorem Dev.send_elapsed (b : Bead) : (s.send b).elapsed = s.elapsed := rfl
@[simp] theorem Dev.send_regs (b : Bead) : (s.send b).regs = s.regs := rfl
@[simp] theorem Dev.send_shadow (b : Bead) : (s.send b).shadow = s.shadow := rfl
@[simp] theorem Dev.send_doms (b : Bead) : (s.send b).doms = s.doms := rfl
@[simp] theorem Dev.send_evq (b : Bead) : (s.send b).evq = s.evq := rfl
@[simp] theorem Dev.send_tail (b : Bead) : (s.send b).tail = s.tail := rfl
@[simp] theorem Dev.send_arb (b : Bead) : (s.send b).arb = s.arb := rfl
@[simp] theorem Dev.send_evSeen (b : Bead) : (s.send b).evSeen = s.evSeen := rfl
@[simp] theorem Dev.send_out (b : Bead) : (s.send b).out = s.out := rfl
@[simp] theorem Dev.send_lm (b : Bead) : (s.send b).lm = s.lm := rfl
@[simp] theorem Dev.send_lmErr (b : Bead) : (s.send b).lmErr = s.lmErr := rfl
@[simp] theorem Dev.send_ab (b : Bead) : (s.send b).ab = s.ab := rfl
@[simp] theorem Dev.send_abErr (b : Bead) : (s.send b).abErr = s.abErr := rfl
@[simp] theorem Dev.send_rm (b : Bead) : (s.send b).rm = s.rm := rfl
@[simp] theorem Dev.send_queues (b : Bead) : (s.send b).queues = s.queues := rfl
@[simp] theorem Dev.send_cores (b : Bead) : (s.send b).cores = s.cores := rfl
@[simp] theorem Dev.send_cmx (b : Bead) : (s.send b).cmx = s.cmx := rfl
@[simp] theorem Dev.send_regions (b : Bead) : (s.send b).regions = s.regions := rfl
@[simp] theorem Dev.send_pwr (b : Bead) : (s.send b).pwr = s.pwr := rfl
@[simp] theorem Dev.send_tim (b : Bead) : (s.send b).tim = s.tim := rfl
@[simp] theorem Dev.send_tly (b : Bead) : (s.send b).tly = s.tly := rfl
@[simp] theorem Dev.send_lnc (b : Bead) : (s.send b).lnc = s.lnc := rfl
@[simp] theorem Dev.send_jobs (b : Bead) : (s.send b).jobs = s.jobs := rfl
@[simp] theorem Dev.send_carriers (b : Bead) : (s.send b).carriers = s.carriers := rfl
@[simp] theorem Dev.send_brx (b : Bead) : (s.send b).brx = s.brx := rfl
@[simp] theorem Dev.send_dma (b : Bead) : (s.send b).dma = s.dma := rfl
@[simp] theorem Dev.send_brg (b : Bead) : (s.send b).brg = s.brg := rfl
@[simp] theorem Dev.send_dfe (b : Bead) : (s.send b).dfe = s.dfe := rfl
@[simp] theorem Dev.send_lan (b : Bead) : (s.send b).lan = s.lan := rfl
@[simp] theorem Dev.send_fab (b : Bead) : (s.send b).fab = s.fab := rfl
@[simp] theorem Dev.send_stc (b : Bead) : (s.send b).stc = s.stc := rfl
@[simp] theorem Dev.send_sec (b : Bead) : (s.send b).sec = s.sec := rfl
@[simp] theorem Dev.send_awdt (b : Bead) : (s.send b).awdt = s.awdt := rfl

@[simp] theorem Dev.emit_fresh (o : Output) : (s.emit o).fresh = s.fresh := rfl
@[simp] theorem Dev.emit_time (o : Output) : (s.emit o).time = s.time := rfl
@[simp] theorem Dev.emit_elapsed (o : Output) : (s.emit o).elapsed = s.elapsed := rfl
@[simp] theorem Dev.emit_regs (o : Output) : (s.emit o).regs = s.regs := rfl
@[simp] theorem Dev.emit_shadow (o : Output) : (s.emit o).shadow = s.shadow := rfl
@[simp] theorem Dev.emit_doms (o : Output) : (s.emit o).doms = s.doms := rfl
@[simp] theorem Dev.emit_net (o : Output) : (s.emit o).net = s.net := rfl
@[simp] theorem Dev.emit_evq (o : Output) : (s.emit o).evq = s.evq := rfl
@[simp] theorem Dev.emit_tail (o : Output) : (s.emit o).tail = s.tail := rfl
@[simp] theorem Dev.emit_arb (o : Output) : (s.emit o).arb = s.arb := rfl
@[simp] theorem Dev.emit_evSeen (o : Output) : (s.emit o).evSeen = s.evSeen := rfl
@[simp] theorem Dev.emit_lm (o : Output) : (s.emit o).lm = s.lm := rfl
@[simp] theorem Dev.emit_lmErr (o : Output) : (s.emit o).lmErr = s.lmErr := rfl
@[simp] theorem Dev.emit_ab (o : Output) : (s.emit o).ab = s.ab := rfl
@[simp] theorem Dev.emit_abErr (o : Output) : (s.emit o).abErr = s.abErr := rfl
@[simp] theorem Dev.emit_rm (o : Output) : (s.emit o).rm = s.rm := rfl
@[simp] theorem Dev.emit_queues (o : Output) : (s.emit o).queues = s.queues := rfl
@[simp] theorem Dev.emit_cores (o : Output) : (s.emit o).cores = s.cores := rfl
@[simp] theorem Dev.emit_cmx (o : Output) : (s.emit o).cmx = s.cmx := rfl
@[simp] theorem Dev.emit_regions (o : Output) : (s.emit o).regions = s.regions := rfl
@[simp] theorem Dev.emit_pwr (o : Output) : (s.emit o).pwr = s.pwr := rfl
@[simp] theorem Dev.emit_tim (o : Output) : (s.emit o).tim = s.tim := rfl
@[simp] theorem Dev.emit_tly (o : Output) : (s.emit o).tly = s.tly := rfl
@[simp] theorem Dev.emit_lnc (o : Output) : (s.emit o).lnc = s.lnc := rfl
@[simp] theorem Dev.emit_jobs (o : Output) : (s.emit o).jobs = s.jobs := rfl
@[simp] theorem Dev.emit_carriers (o : Output) : (s.emit o).carriers = s.carriers := rfl
@[simp] theorem Dev.emit_brx (o : Output) : (s.emit o).brx = s.brx := rfl
@[simp] theorem Dev.emit_dma (o : Output) : (s.emit o).dma = s.dma := rfl
@[simp] theorem Dev.emit_brg (o : Output) : (s.emit o).brg = s.brg := rfl
@[simp] theorem Dev.emit_dfe (o : Output) : (s.emit o).dfe = s.dfe := rfl
@[simp] theorem Dev.emit_lan (o : Output) : (s.emit o).lan = s.lan := rfl
@[simp] theorem Dev.emit_fab (o : Output) : (s.emit o).fab = s.fab := rfl
@[simp] theorem Dev.emit_stc (o : Output) : (s.emit o).stc = s.stc := rfl
@[simp] theorem Dev.emit_sec (o : Output) : (s.emit o).sec = s.sec := rfl
@[simp] theorem Dev.emit_awdt (o : Output) : (s.emit o).awdt = s.awdt := rfl

theorem Dev.with_cores_fresh (m : SMap Core) : Dev.fresh { s with cores := m } = s.fresh := rfl
theorem Dev.with_cores_time (m : SMap Core) : Dev.time { s with cores := m } = s.time := rfl
theorem Dev.with_cores_elapsed (m : SMap Core) : Dev.elapsed { s with cores := m } = s.elapsed := rfl
theorem Dev.with_cores_regs (m : SMap Core) : Dev.regs { s with cores := m } = s.regs := rfl
theorem Dev.with_cores_shadow (m : SMap Core) : Dev.shadow { s with cores := m } = s.shadow := rfl
theorem Dev.with_cores_doms (m : SMap Core) : Dev.doms { s with cores := m } = s.doms := rfl
theorem Dev.with_cores_net (m : SMap Core) : Dev.net { s with cores := m } = s.net := rfl
theorem Dev.with_cores_evq (m : SMap Core) : Dev.evq { s with cores := m } = s.evq := rfl
theorem Dev.with_cores_tail (m : SMap Core) : Dev.tail { s with cores := m } = s.tail := rfl
theorem Dev.with_cores_arb (m : SMap Core) : Dev.arb { s with cores := m } = s.arb := rfl
theorem Dev.with_cores_evSeen (m : SMap Core) : Dev.evSeen { s with cores := m } = s.evSeen := rfl
theorem Dev.with_cores_out (m : SMap Core) : Dev.out { s with cores := m } = s.out := rfl
theorem Dev.with_cores_lm (m : SMap Core) : Dev.lm { s with cores := m } = s.lm := rfl
theorem Dev.with_cores_lmErr (m : SMap Core) : Dev.lmErr { s with cores := m } = s.lmErr := rfl
theorem Dev.with_cores_ab (m : SMap Core) : Dev.ab { s with cores := m } = s.ab := rfl
theorem Dev.with_cores_abErr (m : SMap Core) : Dev.abErr { s with cores := m } = s.abErr := rfl
theorem Dev.with_cores_rm (m : SMap Core) : Dev.rm { s with cores := m } = s.rm := rfl
theorem Dev.with_cores_queues (m : SMap Core) : Dev.queues { s with cores := m } = s.queues := rfl
theorem Dev.with_cores_cmx (m : SMap Core) : Dev.cmx { s with cores := m } = s.cmx := rfl
theorem Dev.with_cores_regions (m : SMap Core) : Dev.regions { s with cores := m } = s.regions := rfl
theorem Dev.with_cores_pwr (m : SMap Core) : Dev.pwr { s with cores := m } = s.pwr := rfl
theorem Dev.with_cores_tim (m : SMap Core) : Dev.tim { s with cores := m } = s.tim := rfl
theorem Dev.with_cores_tly (m : SMap Core) : Dev.tly { s with cores := m } = s.tly := rfl
theorem Dev.with_cores_lnc (m : SMap Core) : Dev.lnc { s with cores := m } = s.lnc := rfl
theorem Dev.with_cores_jobs (m : SMap Core) : Dev.jobs { s with cores := m } = s.jobs := rfl
theorem Dev.with_cores_carriers (m : SMap Core) : Dev.carriers { s with cores := m } = s.carriers := rfl
theorem Dev.with_cores_brx (m : SMap Core) : Dev.brx { s with cores := m } = s.brx := rfl
theorem Dev.with_cores_dma (m : SMap Core) : Dev.dma { s with cores := m } = s.dma := rfl
theorem Dev.with_cores_brg (m : SMap Core) : Dev.brg { s with cores := m } = s.brg := rfl
theorem Dev.with_cores_dfe (m : SMap Core) : Dev.dfe { s with cores := m } = s.dfe := rfl
theorem Dev.with_cores_lan (m : SMap Core) : Dev.lan { s with cores := m } = s.lan := rfl
theorem Dev.with_cores_fab (m : SMap Core) : Dev.fab { s with cores := m } = s.fab := rfl
theorem Dev.with_cores_stc (m : SMap Core) : Dev.stc { s with cores := m } = s.stc := rfl
theorem Dev.with_cores_sec (m : SMap Core) : Dev.sec { s with cores := m } = s.sec := rfl
theorem Dev.with_cores_awdt (m : SMap Core) : Dev.awdt { s with cores := m } = s.awdt := rfl

@[simp] theorem Dev.setCore_fresh (n : Nat) (c : Core) : (s.setCore n c).fresh = s.fresh := s.with_cores_fresh _
@[simp] theorem Dev.setCore_time (n : Nat) (c : Core) : (s.setCore n c).time = s.time := s.with_cores_time _
@[simp] theorem Dev.setCore_elapsed (n : Nat) (c : Core) : (s.setCore n c).elapsed = s.elapsed := s.with_cores_elapsed _
@[simp] theorem Dev.setCore_regs (n : Nat) (c : Core) : (s.setCore n c).regs = s.regs := s.with_cores_regs _
@[simp] theorem Dev.setCore_shadow (n : Nat) (c : Core) : (s.setCore n c).shadow = s.shadow := s.with_cores_shadow _
@[simp] theorem Dev.setCore_doms (n : Nat) (c : Core) : (s.setCore n c).doms = s.doms := s.with_cores_doms _
@[simp] theorem Dev.setCore_net (n : Nat) (c : Core) : (s.setCore n c).net = s.net := s.with_cores_net _
@[simp] theorem Dev.setCore_evq (n : Nat) (c : Core) : (s.setCore n c).evq = s.evq := s.with_cores_evq _
@[simp] theorem Dev.setCore_tail (n : Nat) (c : Core) : (s.setCore n c).tail = s.tail := s.with_cores_tail _
@[simp] theorem Dev.setCore_arb (n : Nat) (c : Core) : (s.setCore n c).arb = s.arb := s.with_cores_arb _
@[simp] theorem Dev.setCore_evSeen (n : Nat) (c : Core) : (s.setCore n c).evSeen = s.evSeen := s.with_cores_evSeen _
@[simp] theorem Dev.setCore_out (n : Nat) (c : Core) : (s.setCore n c).out = s.out := s.with_cores_out _
@[simp] theorem Dev.setCore_lm (n : Nat) (c : Core) : (s.setCore n c).lm = s.lm := s.with_cores_lm _
@[simp] theorem Dev.setCore_lmErr (n : Nat) (c : Core) : (s.setCore n c).lmErr = s.lmErr := s.with_cores_lmErr _
@[simp] theorem Dev.setCore_ab (n : Nat) (c : Core) : (s.setCore n c).ab = s.ab := s.with_cores_ab _
@[simp] theorem Dev.setCore_abErr (n : Nat) (c : Core) : (s.setCore n c).abErr = s.abErr := s.with_cores_abErr _
@[simp] theorem Dev.setCore_rm (n : Nat) (c : Core) : (s.setCore n c).rm = s.rm := s.with_cores_rm _
@[simp] theorem Dev.setCore_queues (n : Nat) (c : Core) : (s.setCore n c).queues = s.queues := s.with_cores_queues _
@[simp] theorem Dev.setCore_cmx (n : Nat) (c : Core) : (s.setCore n c).cmx = s.cmx := s.with_cores_cmx _
@[simp] theorem Dev.setCore_regions (n : Nat) (c : Core) : (s.setCore n c).regions = s.regions := s.with_cores_regions _
@[simp] theorem Dev.setCore_pwr (n : Nat) (c : Core) : (s.setCore n c).pwr = s.pwr := s.with_cores_pwr _
@[simp] theorem Dev.setCore_tim (n : Nat) (c : Core) : (s.setCore n c).tim = s.tim := s.with_cores_tim _
@[simp] theorem Dev.setCore_tly (n : Nat) (c : Core) : (s.setCore n c).tly = s.tly := s.with_cores_tly _
@[simp] theorem Dev.setCore_lnc (n : Nat) (c : Core) : (s.setCore n c).lnc = s.lnc := s.with_cores_lnc _
@[simp] theorem Dev.setCore_jobs (n : Nat) (c : Core) : (s.setCore n c).jobs = s.jobs := s.with_cores_jobs _
@[simp] theorem Dev.setCore_carriers (n : Nat) (c : Core) : (s.setCore n c).carriers = s.carriers := s.with_cores_carriers _
@[simp] theorem Dev.setCore_brx (n : Nat) (c : Core) : (s.setCore n c).brx = s.brx := s.with_cores_brx _
@[simp] theorem Dev.setCore_dma (n : Nat) (c : Core) : (s.setCore n c).dma = s.dma := s.with_cores_dma _
@[simp] theorem Dev.setCore_brg (n : Nat) (c : Core) : (s.setCore n c).brg = s.brg := s.with_cores_brg _
@[simp] theorem Dev.setCore_dfe (n : Nat) (c : Core) : (s.setCore n c).dfe = s.dfe := s.with_cores_dfe _
@[simp] theorem Dev.setCore_lan (n : Nat) (c : Core) : (s.setCore n c).lan = s.lan := s.with_cores_lan _
@[simp] theorem Dev.setCore_fab (n : Nat) (c : Core) : (s.setCore n c).fab = s.fab := s.with_cores_fab _
@[simp] theorem Dev.setCore_stc (n : Nat) (c : Core) : (s.setCore n c).stc = s.stc := s.with_cores_stc _
@[simp] theorem Dev.setCore_sec (n : Nat) (c : Core) : (s.setCore n c).sec = s.sec := s.with_cores_sec _
@[simp] theorem Dev.setCore_awdt (n : Nat) (c : Core) : (s.setCore n c).awdt = s.awdt := s.with_cores_awdt _

@[simp] theorem Dev.onCore_fresh (n : Nat) (f : Core → Core) : (s.onCore n f).fresh = s.fresh := s.setCore_fresh n _
@[simp] theorem Dev.onCore_time (n : Nat) (f : Core → Core) : (s.onCore n f).time = s.time := s.setCore_time n _
@[simp] theorem Dev.onCore_elapsed (n : Nat) (f : Core → Core) : (s.onCore n f).elapsed = s.elapsed := s.setCore_elapsed n _
@[simp] theorem Dev.onCore_regs (n : Nat) (f : Core → Core) : (s.onCore n f).regs = s.regs := s.setCore_regs n _
@[simp] theorem Dev.onCore_shadow (n : Nat) (f : Core → Core) : (s.onCore n f).shadow = s.shadow := s.setCore_shadow n _
@[simp] theorem Dev.onCore_doms (n : Nat) (f : Core → Core) : (s.onCore n f).doms = s.doms := s.setCore_doms n _
@[simp] theorem Dev.onCore_net (n : Nat) (f : Core → Core) : (s.onCore n f).net = s.net := s.setCore_net n _
@[simp] theorem Dev.onCore_evq (n : Nat) (f : Core → Core) : (s.onCore n f).evq = s.evq := s.setCore_evq n _
@[simp] theorem Dev.onCore_tail (n : Nat) (f : Core → Core) : (s.onCore n f).tail = s.tail := s.setCore_tail n _
@[simp] theorem Dev.onCore_arb (n : Nat) (f : Core → Core) : (s.onCore n f).arb = s.arb := s.setCore_arb n _
@[simp] theorem Dev.onCore_evSeen (n : Nat) (f : Core → Core) : (s.onCore n f).evSeen = s.evSeen := s.setCore_evSeen n _
@[simp] theorem Dev.onCore_out (n : Nat) (f : Core → Core) : (s.onCore n f).out = s.out := s.setCore_out n _
@[simp] theorem Dev.onCore_lm (n : Nat) (f : Core → Core) : (s.onCore n f).lm = s.lm := s.setCore_lm n _
@[simp] theorem Dev.onCore_lmErr (n : Nat) (f : Core → Core) : (s.onCore n f).lmErr = s.lmErr := s.setCore_lmErr n _
@[simp] theorem Dev.onCore_ab (n : Nat) (f : Core → Core) : (s.onCore n f).ab = s.ab := s.setCore_ab n _
@[simp] theorem Dev.onCore_abErr (n : Nat) (f : Core → Core) : (s.onCore n f).abErr = s.abErr := s.setCore_abErr n _
@[simp] theorem Dev.onCore_rm (n : Nat) (f : Core → Core) : (s.onCore n f).rm = s.rm := s.setCore_rm n _
@[simp] theorem Dev.onCore_queues (n : Nat) (f : Core → Core) : (s.onCore n f).queues = s.queues := s.setCore_queues n _
@[simp] theorem Dev.onCore_cmx (n : Nat) (f : Core → Core) : (s.onCore n f).cmx = s.cmx := s.setCore_cmx n _
@[simp] theorem Dev.onCore_regions (n : Nat) (f : Core → Core) : (s.onCore n f).regions = s.regions := s.setCore_regions n _
@[simp] theorem Dev.onCore_pwr (n : Nat) (f : Core → Core) : (s.onCore n f).pwr = s.pwr := s.setCore_pwr n _
@[simp] theorem Dev.onCore_tim (n : Nat) (f : Core → Core) : (s.onCore n f).tim = s.tim := s.setCore_tim n _
@[simp] theorem Dev.onCore_tly (n : Nat) (f : Core → Core) : (s.onCore n f).tly = s.tly := s.setCore_tly n _
@[simp] theorem Dev.onCore_lnc (n : Nat) (f : Core → Core) : (s.onCore n f).lnc = s.lnc := s.setCore_lnc n _
@[simp] theorem Dev.onCore_jobs (n : Nat) (f : Core → Core) : (s.onCore n f).jobs = s.jobs := s.setCore_jobs n _
@[simp] theorem Dev.onCore_carriers (n : Nat) (f : Core → Core) : (s.onCore n f).carriers = s.carriers := s.setCore_carriers n _
@[simp] theorem Dev.onCore_brx (n : Nat) (f : Core → Core) : (s.onCore n f).brx = s.brx := s.setCore_brx n _
@[simp] theorem Dev.onCore_dma (n : Nat) (f : Core → Core) : (s.onCore n f).dma = s.dma := s.setCore_dma n _
@[simp] theorem Dev.onCore_brg (n : Nat) (f : Core → Core) : (s.onCore n f).brg = s.brg := s.setCore_brg n _
@[simp] theorem Dev.onCore_dfe (n : Nat) (f : Core → Core) : (s.onCore n f).dfe = s.dfe := s.setCore_dfe n _
@[simp] theorem Dev.onCore_lan (n : Nat) (f : Core → Core) : (s.onCore n f).lan = s.lan := s.setCore_lan n _
@[simp] theorem Dev.onCore_fab (n : Nat) (f : Core → Core) : (s.onCore n f).fab = s.fab := s.setCore_fab n _
@[simp] theorem Dev.onCore_stc (n : Nat) (f : Core → Core) : (s.onCore n f).stc = s.stc := s.setCore_stc n _
@[simp] theorem Dev.onCore_sec (n : Nat) (f : Core → Core) : (s.onCore n f).sec = s.sec := s.setCore_sec n _
@[simp] theorem Dev.onCore_awdt (n : Nat) (f : Core → Core) : (s.onCore n f).awdt = s.awdt := s.setCore_awdt n _

theorem Dev.withLm_fresh (m : List Host.Cell) (e : SMap Nat) : Dev.fresh { s with lm := m, lmErr := e } = s.fresh := rfl
theorem Dev.withLm_time (m : List Host.Cell) (e : SMap Nat) : Dev.time { s with lm := m, lmErr := e } = s.time := rfl
theorem Dev.withLm_elapsed (m : List Host.Cell) (e : SMap Nat) : Dev.elapsed { s with lm := m, lmErr := e } = s.elapsed := rfl
theorem Dev.withLm_regs (m : List Host.Cell) (e : SMap Nat) : Dev.regs { s with lm := m, lmErr := e } = s.regs := rfl
theorem Dev.withLm_shadow (m : List Host.Cell) (e : SMap Nat) : Dev.shadow { s with lm := m, lmErr := e } = s.shadow := rfl
theorem Dev.withLm_doms (m : List Host.Cell) (e : SMap Nat) : Dev.doms { s with lm := m, lmErr := e } = s.doms := rfl
theorem Dev.withLm_net (m : List Host.Cell) (e : SMap Nat) : Dev.net { s with lm := m, lmErr := e } = s.net := rfl
theorem Dev.withLm_evq (m : List Host.Cell) (e : SMap Nat) : Dev.evq { s with lm := m, lmErr := e } = s.evq := rfl
theorem Dev.withLm_tail (m : List Host.Cell) (e : SMap Nat) : Dev.tail { s with lm := m, lmErr := e } = s.tail := rfl
theorem Dev.withLm_arb (m : List Host.Cell) (e : SMap Nat) : Dev.arb { s with lm := m, lmErr := e } = s.arb := rfl
theorem Dev.withLm_evSeen (m : List Host.Cell) (e : SMap Nat) : Dev.evSeen { s with lm := m, lmErr := e } = s.evSeen := rfl
theorem Dev.withLm_out (m : List Host.Cell) (e : SMap Nat) : Dev.out { s with lm := m, lmErr := e } = s.out := rfl
theorem Dev.withLm_ab (m : List Host.Cell) (e : SMap Nat) : Dev.ab { s with lm := m, lmErr := e } = s.ab := rfl
theorem Dev.withLm_abErr (m : List Host.Cell) (e : SMap Nat) : Dev.abErr { s with lm := m, lmErr := e } = s.abErr := rfl
theorem Dev.withLm_rm (m : List Host.Cell) (e : SMap Nat) : Dev.rm { s with lm := m, lmErr := e } = s.rm := rfl
theorem Dev.withLm_queues (m : List Host.Cell) (e : SMap Nat) : Dev.queues { s with lm := m, lmErr := e } = s.queues := rfl
theorem Dev.withLm_cores (m : List Host.Cell) (e : SMap Nat) : Dev.cores { s with lm := m, lmErr := e } = s.cores := rfl
theorem Dev.withLm_cmx (m : List Host.Cell) (e : SMap Nat) : Dev.cmx { s with lm := m, lmErr := e } = s.cmx := rfl
theorem Dev.withLm_regions (m : List Host.Cell) (e : SMap Nat) : Dev.regions { s with lm := m, lmErr := e } = s.regions := rfl
theorem Dev.withLm_pwr (m : List Host.Cell) (e : SMap Nat) : Dev.pwr { s with lm := m, lmErr := e } = s.pwr := rfl
theorem Dev.withLm_tim (m : List Host.Cell) (e : SMap Nat) : Dev.tim { s with lm := m, lmErr := e } = s.tim := rfl
theorem Dev.withLm_tly (m : List Host.Cell) (e : SMap Nat) : Dev.tly { s with lm := m, lmErr := e } = s.tly := rfl
theorem Dev.withLm_lnc (m : List Host.Cell) (e : SMap Nat) : Dev.lnc { s with lm := m, lmErr := e } = s.lnc := rfl
theorem Dev.withLm_jobs (m : List Host.Cell) (e : SMap Nat) : Dev.jobs { s with lm := m, lmErr := e } = s.jobs := rfl
theorem Dev.withLm_carriers (m : List Host.Cell) (e : SMap Nat) : Dev.carriers { s with lm := m, lmErr := e } = s.carriers := rfl
theorem Dev.withLm_brx (m : List Host.Cell) (e : SMap Nat) : Dev.brx { s with lm := m, lmErr := e } = s.brx := rfl
theorem Dev.withLm_dma (m : List Host.Cell) (e : SMap Nat) : Dev.dma { s with lm := m, lmErr := e } = s.dma := rfl
theorem Dev.withLm_brg (m : List Host.Cell) (e : SMap Nat) : Dev.brg { s with lm := m, lmErr := e } = s.brg := rfl
theorem Dev.withLm_dfe (m : List Host.Cell) (e : SMap Nat) : Dev.dfe { s with lm := m, lmErr := e } = s.dfe := rfl
theorem Dev.withLm_lan (m : List Host.Cell) (e : SMap Nat) : Dev.lan { s with lm := m, lmErr := e } = s.lan := rfl
theorem Dev.withLm_fab (m : List Host.Cell) (e : SMap Nat) : Dev.fab { s with lm := m, lmErr := e } = s.fab := rfl
theorem Dev.withLm_stc (m : List Host.Cell) (e : SMap Nat) : Dev.stc { s with lm := m, lmErr := e } = s.stc := rfl
theorem Dev.withLm_sec (m : List Host.Cell) (e : SMap Nat) : Dev.sec { s with lm := m, lmErr := e } = s.sec := rfl
theorem Dev.withLm_awdt (m : List Host.Cell) (e : SMap Nat) : Dev.awdt { s with lm := m, lmErr := e } = s.awdt := rfl

@[simp] theorem Dev.lmWrite_fresh (n w : Nat) (x : Word) (l : Nat) : (s.lmWrite n w x l).fresh = s.fresh := s.withLm_fresh _ _
@[simp] theorem Dev.lmWrite_time (n w : Nat) (x : Word) (l : Nat) : (s.lmWrite n w x l).time = s.time := s.withLm_time _ _
@[simp] theorem Dev.lmWrite_elapsed (n w : Nat) (x : Word) (l : Nat) : (s.lmWrite n w x l).elapsed = s.elapsed := s.withLm_elapsed _ _
@[simp] theorem Dev.lmWrite_regs (n w : Nat) (x : Word) (l : Nat) : (s.lmWrite n w x l).regs = s.regs := s.withLm_regs _ _
@[simp] theorem Dev.lmWrite_shadow (n w : Nat) (x : Word) (l : Nat) : (s.lmWrite n w x l).shadow = s.shadow := s.withLm_shadow _ _
@[simp] theorem Dev.lmWrite_doms (n w : Nat) (x : Word) (l : Nat) : (s.lmWrite n w x l).doms = s.doms := s.withLm_doms _ _
@[simp] theorem Dev.lmWrite_net (n w : Nat) (x : Word) (l : Nat) : (s.lmWrite n w x l).net = s.net := s.withLm_net _ _
@[simp] theorem Dev.lmWrite_evq (n w : Nat) (x : Word) (l : Nat) : (s.lmWrite n w x l).evq = s.evq := s.withLm_evq _ _
@[simp] theorem Dev.lmWrite_tail (n w : Nat) (x : Word) (l : Nat) : (s.lmWrite n w x l).tail = s.tail := s.withLm_tail _ _
@[simp] theorem Dev.lmWrite_arb (n w : Nat) (x : Word) (l : Nat) : (s.lmWrite n w x l).arb = s.arb := s.withLm_arb _ _
@[simp] theorem Dev.lmWrite_evSeen (n w : Nat) (x : Word) (l : Nat) : (s.lmWrite n w x l).evSeen = s.evSeen := s.withLm_evSeen _ _
@[simp] theorem Dev.lmWrite_out (n w : Nat) (x : Word) (l : Nat) : (s.lmWrite n w x l).out = s.out := s.withLm_out _ _
@[simp] theorem Dev.lmWrite_ab (n w : Nat) (x : Word) (l : Nat) : (s.lmWrite n w x l).ab = s.ab := s.withLm_ab _ _
@[simp] theorem Dev.lmWrite_abErr (n w : Nat) (x : Word) (l : Nat) : (s.lmWrite n w x l).abErr = s.abErr := s.withLm_abErr _ _
@[simp] theorem Dev.lmWrite_rm (n w : Nat) (x : Word) (l : Nat) : (s.lmWrite n w x l).rm = s.rm := s.withLm_rm _ _
@[simp] theorem Dev.lmWrite_queues (n w : Nat) (x : Word) (l : Nat) : (s.lmWrite n w x l).queues = s.queues := s.withLm_queues _ _
@[simp] theorem Dev.lmWrite_cores (n w : Nat) (x : Word) (l : Nat) : (s.lmWrite n w x l).cores = s.cores := s.withLm_cores _ _
@[simp] theorem Dev.lmWrite_cmx (n w : Nat) (x : Word) (l : Nat) : (s.lmWrite n w x l).cmx = s.cmx := s.withLm_cmx _ _
@[simp] theorem Dev.lmWrite_regions (n w : Nat) (x : Word) (l : Nat) : (s.lmWrite n w x l).regions = s.regions := s.withLm_regions _ _
@[simp] theorem Dev.lmWrite_pwr (n w : Nat) (x : Word) (l : Nat) : (s.lmWrite n w x l).pwr = s.pwr := s.withLm_pwr _ _
@[simp] theorem Dev.lmWrite_tim (n w : Nat) (x : Word) (l : Nat) : (s.lmWrite n w x l).tim = s.tim := s.withLm_tim _ _
@[simp] theorem Dev.lmWrite_tly (n w : Nat) (x : Word) (l : Nat) : (s.lmWrite n w x l).tly = s.tly := s.withLm_tly _ _
@[simp] theorem Dev.lmWrite_lnc (n w : Nat) (x : Word) (l : Nat) : (s.lmWrite n w x l).lnc = s.lnc := s.withLm_lnc _ _
@[simp] theorem Dev.lmWrite_jobs (n w : Nat) (x : Word) (l : Nat) : (s.lmWrite n w x l).jobs = s.jobs := s.withLm_jobs _ _
@[simp] theorem Dev.lmWrite_carriers (n w : Nat) (x : Word) (l : Nat) : (s.lmWrite n w x l).carriers = s.carriers := s.withLm_carriers _ _
@[simp] theorem Dev.lmWrite_brx (n w : Nat) (x : Word) (l : Nat) : (s.lmWrite n w x l).brx = s.brx := s.withLm_brx _ _
@[simp] theorem Dev.lmWrite_dma (n w : Nat) (x : Word) (l : Nat) : (s.lmWrite n w x l).dma = s.dma := s.withLm_dma _ _
@[simp] theorem Dev.lmWrite_brg (n w : Nat) (x : Word) (l : Nat) : (s.lmWrite n w x l).brg = s.brg := s.withLm_brg _ _
@[simp] theorem Dev.lmWrite_dfe (n w : Nat) (x : Word) (l : Nat) : (s.lmWrite n w x l).dfe = s.dfe := s.withLm_dfe _ _
@[simp] theorem Dev.lmWrite_lan (n w : Nat) (x : Word) (l : Nat) : (s.lmWrite n w x l).lan = s.lan := s.withLm_lan _ _
@[simp] theorem Dev.lmWrite_fab (n w : Nat) (x : Word) (l : Nat) : (s.lmWrite n w x l).fab = s.fab := s.withLm_fab _ _
@[simp] theorem Dev.lmWrite_stc (n w : Nat) (x : Word) (l : Nat) : (s.lmWrite n w x l).stc = s.stc := s.withLm_stc _ _
@[simp] theorem Dev.lmWrite_sec (n w : Nat) (x : Word) (l : Nat) : (s.lmWrite n w x l).sec = s.sec := s.withLm_sec _ _
@[simp] theorem Dev.lmWrite_awdt (n w : Nat) (x : Word) (l : Nat) : (s.lmWrite n w x l).awdt = s.awdt := s.withLm_awdt _ _

theorem Dev.with_cmx_fresh (m : SMap Cmx) : Dev.fresh { s with cmx := m } = s.fresh := rfl
theorem Dev.with_cmx_time (m : SMap Cmx) : Dev.time { s with cmx := m } = s.time := rfl
theorem Dev.with_cmx_elapsed (m : SMap Cmx) : Dev.elapsed { s with cmx := m } = s.elapsed := rfl
theorem Dev.with_cmx_regs (m : SMap Cmx) : Dev.regs { s with cmx := m } = s.regs := rfl
theorem Dev.with_cmx_shadow (m : SMap Cmx) : Dev.shadow { s with cmx := m } = s.shadow := rfl
theorem Dev.with_cmx_doms (m : SMap Cmx) : Dev.doms { s with cmx := m } = s.doms := rfl
theorem Dev.with_cmx_net (m : SMap Cmx) : Dev.net { s with cmx := m } = s.net := rfl
theorem Dev.with_cmx_evq (m : SMap Cmx) : Dev.evq { s with cmx := m } = s.evq := rfl
theorem Dev.with_cmx_tail (m : SMap Cmx) : Dev.tail { s with cmx := m } = s.tail := rfl
theorem Dev.with_cmx_arb (m : SMap Cmx) : Dev.arb { s with cmx := m } = s.arb := rfl
theorem Dev.with_cmx_evSeen (m : SMap Cmx) : Dev.evSeen { s with cmx := m } = s.evSeen := rfl
theorem Dev.with_cmx_out (m : SMap Cmx) : Dev.out { s with cmx := m } = s.out := rfl
theorem Dev.with_cmx_lm (m : SMap Cmx) : Dev.lm { s with cmx := m } = s.lm := rfl
theorem Dev.with_cmx_lmErr (m : SMap Cmx) : Dev.lmErr { s with cmx := m } = s.lmErr := rfl
theorem Dev.with_cmx_ab (m : SMap Cmx) : Dev.ab { s with cmx := m } = s.ab := rfl
theorem Dev.with_cmx_abErr (m : SMap Cmx) : Dev.abErr { s with cmx := m } = s.abErr := rfl
theorem Dev.with_cmx_rm (m : SMap Cmx) : Dev.rm { s with cmx := m } = s.rm := rfl
theorem Dev.with_cmx_queues (m : SMap Cmx) : Dev.queues { s with cmx := m } = s.queues := rfl
theorem Dev.with_cmx_cores (m : SMap Cmx) : Dev.cores { s with cmx := m } = s.cores := rfl
theorem Dev.with_cmx_regions (m : SMap Cmx) : Dev.regions { s with cmx := m } = s.regions := rfl
theorem Dev.with_cmx_pwr (m : SMap Cmx) : Dev.pwr { s with cmx := m } = s.pwr := rfl
theorem Dev.with_cmx_tim (m : SMap Cmx) : Dev.tim { s with cmx := m } = s.tim := rfl
theorem Dev.with_cmx_tly (m : SMap Cmx) : Dev.tly { s with cmx := m } = s.tly := rfl
theorem Dev.with_cmx_lnc (m : SMap Cmx) : Dev.lnc { s with cmx := m } = s.lnc := rfl
theorem Dev.with_cmx_jobs (m : SMap Cmx) : Dev.jobs { s with cmx := m } = s.jobs := rfl
theorem Dev.with_cmx_carriers (m : SMap Cmx) : Dev.carriers { s with cmx := m } = s.carriers := rfl
theorem Dev.with_cmx_brx (m : SMap Cmx) : Dev.brx { s with cmx := m } = s.brx := rfl
theorem Dev.with_cmx_dma (m : SMap Cmx) : Dev.dma { s with cmx := m } = s.dma := rfl
theorem Dev.with_cmx_brg (m : SMap Cmx) : Dev.brg { s with cmx := m } = s.brg := rfl
theorem Dev.with_cmx_dfe (m : SMap Cmx) : Dev.dfe { s with cmx := m } = s.dfe := rfl
theorem Dev.with_cmx_lan (m : SMap Cmx) : Dev.lan { s with cmx := m } = s.lan := rfl
theorem Dev.with_cmx_fab (m : SMap Cmx) : Dev.fab { s with cmx := m } = s.fab := rfl
theorem Dev.with_cmx_stc (m : SMap Cmx) : Dev.stc { s with cmx := m } = s.stc := rfl
theorem Dev.with_cmx_sec (m : SMap Cmx) : Dev.sec { s with cmx := m } = s.sec := rfl
theorem Dev.with_cmx_awdt (m : SMap Cmx) : Dev.awdt { s with cmx := m } = s.awdt := rfl

@[simp] theorem Dev.setCmx_fresh (r : Nat) (c : Cmx) : (s.setCmx r c).fresh = s.fresh := s.with_cmx_fresh _
@[simp] theorem Dev.setCmx_time (r : Nat) (c : Cmx) : (s.setCmx r c).time = s.time := s.with_cmx_time _
@[simp] theorem Dev.setCmx_elapsed (r : Nat) (c : Cmx) : (s.setCmx r c).elapsed = s.elapsed := s.with_cmx_elapsed _
@[simp] theorem Dev.setCmx_regs (r : Nat) (c : Cmx) : (s.setCmx r c).regs = s.regs := s.with_cmx_regs _
@[simp] theorem Dev.setCmx_shadow (r : Nat) (c : Cmx) : (s.setCmx r c).shadow = s.shadow := s.with_cmx_shadow _
@[simp] theorem Dev.setCmx_doms (r : Nat) (c : Cmx) : (s.setCmx r c).doms = s.doms := s.with_cmx_doms _
@[simp] theorem Dev.setCmx_net (r : Nat) (c : Cmx) : (s.setCmx r c).net = s.net := s.with_cmx_net _
@[simp] theorem Dev.setCmx_evq (r : Nat) (c : Cmx) : (s.setCmx r c).evq = s.evq := s.with_cmx_evq _
@[simp] theorem Dev.setCmx_tail (r : Nat) (c : Cmx) : (s.setCmx r c).tail = s.tail := s.with_cmx_tail _
@[simp] theorem Dev.setCmx_arb (r : Nat) (c : Cmx) : (s.setCmx r c).arb = s.arb := s.with_cmx_arb _
@[simp] theorem Dev.setCmx_evSeen (r : Nat) (c : Cmx) : (s.setCmx r c).evSeen = s.evSeen := s.with_cmx_evSeen _
@[simp] theorem Dev.setCmx_out (r : Nat) (c : Cmx) : (s.setCmx r c).out = s.out := s.with_cmx_out _
@[simp] theorem Dev.setCmx_lm (r : Nat) (c : Cmx) : (s.setCmx r c).lm = s.lm := s.with_cmx_lm _
@[simp] theorem Dev.setCmx_lmErr (r : Nat) (c : Cmx) : (s.setCmx r c).lmErr = s.lmErr := s.with_cmx_lmErr _
@[simp] theorem Dev.setCmx_ab (r : Nat) (c : Cmx) : (s.setCmx r c).ab = s.ab := s.with_cmx_ab _
@[simp] theorem Dev.setCmx_abErr (r : Nat) (c : Cmx) : (s.setCmx r c).abErr = s.abErr := s.with_cmx_abErr _
@[simp] theorem Dev.setCmx_rm (r : Nat) (c : Cmx) : (s.setCmx r c).rm = s.rm := s.with_cmx_rm _
@[simp] theorem Dev.setCmx_queues (r : Nat) (c : Cmx) : (s.setCmx r c).queues = s.queues := s.with_cmx_queues _
@[simp] theorem Dev.setCmx_cores (r : Nat) (c : Cmx) : (s.setCmx r c).cores = s.cores := s.with_cmx_cores _
@[simp] theorem Dev.setCmx_regions (r : Nat) (c : Cmx) : (s.setCmx r c).regions = s.regions := s.with_cmx_regions _
@[simp] theorem Dev.setCmx_pwr (r : Nat) (c : Cmx) : (s.setCmx r c).pwr = s.pwr := s.with_cmx_pwr _
@[simp] theorem Dev.setCmx_tim (r : Nat) (c : Cmx) : (s.setCmx r c).tim = s.tim := s.with_cmx_tim _
@[simp] theorem Dev.setCmx_tly (r : Nat) (c : Cmx) : (s.setCmx r c).tly = s.tly := s.with_cmx_tly _
@[simp] theorem Dev.setCmx_lnc (r : Nat) (c : Cmx) : (s.setCmx r c).lnc = s.lnc := s.with_cmx_lnc _
@[simp] theorem Dev.setCmx_jobs (r : Nat) (c : Cmx) : (s.setCmx r c).jobs = s.jobs := s.with_cmx_jobs _
@[simp] theorem Dev.setCmx_carriers (r : Nat) (c : Cmx) : (s.setCmx r c).carriers = s.carriers := s.with_cmx_carriers _
@[simp] theorem Dev.setCmx_brx (r : Nat) (c : Cmx) : (s.setCmx r c).brx = s.brx := s.with_cmx_brx _
@[simp] theorem Dev.setCmx_dma (r : Nat) (c : Cmx) : (s.setCmx r c).dma = s.dma := s.with_cmx_dma _
@[simp] theorem Dev.setCmx_brg (r : Nat) (c : Cmx) : (s.setCmx r c).brg = s.brg := s.with_cmx_brg _
@[simp] theorem Dev.setCmx_dfe (r : Nat) (c : Cmx) : (s.setCmx r c).dfe = s.dfe := s.with_cmx_dfe _
@[simp] theorem Dev.setCmx_lan (r : Nat) (c : Cmx) : (s.setCmx r c).lan = s.lan := s.with_cmx_lan _
@[simp] theorem Dev.setCmx_fab (r : Nat) (c : Cmx) : (s.setCmx r c).fab = s.fab := s.with_cmx_fab _
@[simp] theorem Dev.setCmx_stc (r : Nat) (c : Cmx) : (s.setCmx r c).stc = s.stc := s.with_cmx_stc _
@[simp] theorem Dev.setCmx_sec (r : Nat) (c : Cmx) : (s.setCmx r c).sec = s.sec := s.with_cmx_sec _
@[simp] theorem Dev.setCmx_awdt (r : Nat) (c : Cmx) : (s.setCmx r c).awdt = s.awdt := s.with_cmx_awdt _

theorem Dev.with_queues_fresh (m : SMap Queue) : Dev.fresh { s with queues := m } = s.fresh := rfl
theorem Dev.with_queues_time (m : SMap Queue) : Dev.time { s with queues := m } = s.time := rfl
theorem Dev.with_queues_elapsed (m : SMap Queue) : Dev.elapsed { s with queues := m } = s.elapsed := rfl
theorem Dev.with_queues_regs (m : SMap Queue) : Dev.regs { s with queues := m } = s.regs := rfl
theorem Dev.with_queues_shadow (m : SMap Queue) : Dev.shadow { s with queues := m } = s.shadow := rfl
theorem Dev.with_queues_doms (m : SMap Queue) : Dev.doms { s with queues := m } = s.doms := rfl
theorem Dev.with_queues_net (m : SMap Queue) : Dev.net { s with queues := m } = s.net := rfl
theorem Dev.with_queues_evq (m : SMap Queue) : Dev.evq { s with queues := m } = s.evq := rfl
theorem Dev.with_queues_tail (m : SMap Queue) : Dev.tail { s with queues := m } = s.tail := rfl
theorem Dev.with_queues_arb (m : SMap Queue) : Dev.arb { s with queues := m } = s.arb := rfl
theorem Dev.with_queues_evSeen (m : SMap Queue) : Dev.evSeen { s with queues := m } = s.evSeen := rfl
theorem Dev.with_queues_out (m : SMap Queue) : Dev.out { s with queues := m } = s.out := rfl
theorem Dev.with_queues_lm (m : SMap Queue) : Dev.lm { s with queues := m } = s.lm := rfl
theorem Dev.with_queues_lmErr (m : SMap Queue) : Dev.lmErr { s with queues := m } = s.lmErr := rfl
theorem Dev.with_queues_ab (m : SMap Queue) : Dev.ab { s with queues := m } = s.ab := rfl
theorem Dev.with_queues_abErr (m : SMap Queue) : Dev.abErr { s with queues := m } = s.abErr := rfl
theorem Dev.with_queues_rm (m : SMap Queue) : Dev.rm { s with queues := m } = s.rm := rfl
theorem Dev.with_queues_cores (m : SMap Queue) : Dev.cores { s with queues := m } = s.cores := rfl
theorem Dev.with_queues_cmx (m : SMap Queue) : Dev.cmx { s with queues := m } = s.cmx := rfl
theorem Dev.with_queues_regions (m : SMap Queue) : Dev.regions { s with queues := m } = s.regions := rfl
theorem Dev.with_queues_pwr (m : SMap Queue) : Dev.pwr { s with queues := m } = s.pwr := rfl
theorem Dev.with_queues_tim (m : SMap Queue) : Dev.tim { s with queues := m } = s.tim := rfl
theorem Dev.with_queues_tly (m : SMap Queue) : Dev.tly { s with queues := m } = s.tly := rfl
theorem Dev.with_queues_lnc (m : SMap Queue) : Dev.lnc { s with queues := m } = s.lnc := rfl
theorem Dev.with_queues_jobs (m : SMap Queue) : Dev.jobs { s with queues := m } = s.jobs := rfl
theorem Dev.with_queues_carriers (m : SMap Queue) : Dev.carriers { s with queues := m } = s.carriers := rfl
theorem Dev.with_queues_brx (m : SMap Queue) : Dev.brx { s with queues := m } = s.brx := rfl
theorem Dev.with_queues_dma (m : SMap Queue) : Dev.dma { s with queues := m } = s.dma := rfl
theorem Dev.with_queues_brg (m : SMap Queue) : Dev.brg { s with queues := m } = s.brg := rfl
theorem Dev.with_queues_dfe (m : SMap Queue) : Dev.dfe { s with queues := m } = s.dfe := rfl
theorem Dev.with_queues_lan (m : SMap Queue) : Dev.lan { s with queues := m } = s.lan := rfl
theorem Dev.with_queues_fab (m : SMap Queue) : Dev.fab { s with queues := m } = s.fab := rfl
theorem Dev.with_queues_stc (m : SMap Queue) : Dev.stc { s with queues := m } = s.stc := rfl
theorem Dev.with_queues_sec (m : SMap Queue) : Dev.sec { s with queues := m } = s.sec := rfl
theorem Dev.with_queues_awdt (m : SMap Queue) : Dev.awdt { s with queues := m } = s.awdt := rfl

@[simp] theorem Dev.setQueue_fresh (n : Nat) (q : Queue) : (s.setQueue n q).fresh = s.fresh := s.with_queues_fresh _
@[simp] theorem Dev.setQueue_time (n : Nat) (q : Queue) : (s.setQueue n q).time = s.time := s.with_queues_time _
@[simp] theorem Dev.setQueue_elapsed (n : Nat) (q : Queue) : (s.setQueue n q).elapsed = s.elapsed := s.with_queues_elapsed _
@[simp] theorem Dev.setQueue_regs (n : Nat) (q : Queue) : (s.setQueue n q).regs = s.regs := s.with_queues_regs _
@[simp] theorem Dev.setQueue_shadow (n : Nat) (q : Queue) : (s.setQueue n q).shadow = s.shadow := s.with_queues_shadow _
@[simp] theorem Dev.setQueue_doms (n : Nat) (q : Queue) : (s.setQueue n q).doms = s.doms := s.with_queues_doms _
@[simp] theorem Dev.setQueue_net (n : Nat) (q : Queue) : (s.setQueue n q).net = s.net := s.with_queues_net _
@[simp] theorem Dev.setQueue_evq (n : Nat) (q : Queue) : (s.setQueue n q).evq = s.evq := s.with_queues_evq _
@[simp] theorem Dev.setQueue_tail (n : Nat) (q : Queue) : (s.setQueue n q).tail = s.tail := s.with_queues_tail _
@[simp] theorem Dev.setQueue_arb (n : Nat) (q : Queue) : (s.setQueue n q).arb = s.arb := s.with_queues_arb _
@[simp] theorem Dev.setQueue_evSeen (n : Nat) (q : Queue) : (s.setQueue n q).evSeen = s.evSeen := s.with_queues_evSeen _
@[simp] theorem Dev.setQueue_out (n : Nat) (q : Queue) : (s.setQueue n q).out = s.out := s.with_queues_out _
@[simp] theorem Dev.setQueue_lm (n : Nat) (q : Queue) : (s.setQueue n q).lm = s.lm := s.with_queues_lm _
@[simp] theorem Dev.setQueue_lmErr (n : Nat) (q : Queue) : (s.setQueue n q).lmErr = s.lmErr := s.with_queues_lmErr _
@[simp] theorem Dev.setQueue_ab (n : Nat) (q : Queue) : (s.setQueue n q).ab = s.ab := s.with_queues_ab _
@[simp] theorem Dev.setQueue_abErr (n : Nat) (q : Queue) : (s.setQueue n q).abErr = s.abErr := s.with_queues_abErr _
@[simp] theorem Dev.setQueue_rm (n : Nat) (q : Queue) : (s.setQueue n q).rm = s.rm := s.with_queues_rm _
@[simp] theorem Dev.setQueue_cores (n : Nat) (q : Queue) : (s.setQueue n q).cores = s.cores := s.with_queues_cores _
@[simp] theorem Dev.setQueue_cmx (n : Nat) (q : Queue) : (s.setQueue n q).cmx = s.cmx := s.with_queues_cmx _
@[simp] theorem Dev.setQueue_regions (n : Nat) (q : Queue) : (s.setQueue n q).regions = s.regions := s.with_queues_regions _
@[simp] theorem Dev.setQueue_pwr (n : Nat) (q : Queue) : (s.setQueue n q).pwr = s.pwr := s.with_queues_pwr _
@[simp] theorem Dev.setQueue_tim (n : Nat) (q : Queue) : (s.setQueue n q).tim = s.tim := s.with_queues_tim _
@[simp] theorem Dev.setQueue_tly (n : Nat) (q : Queue) : (s.setQueue n q).tly = s.tly := s.with_queues_tly _
@[simp] theorem Dev.setQueue_lnc (n : Nat) (q : Queue) : (s.setQueue n q).lnc = s.lnc := s.with_queues_lnc _
@[simp] theorem Dev.setQueue_jobs (n : Nat) (q : Queue) : (s.setQueue n q).jobs = s.jobs := s.with_queues_jobs _
@[simp] theorem Dev.setQueue_carriers (n : Nat) (q : Queue) : (s.setQueue n q).carriers = s.carriers := s.with_queues_carriers _
@[simp] theorem Dev.setQueue_brx (n : Nat) (q : Queue) : (s.setQueue n q).brx = s.brx := s.with_queues_brx _
@[simp] theorem Dev.setQueue_dma (n : Nat) (q : Queue) : (s.setQueue n q).dma = s.dma := s.with_queues_dma _
@[simp] theorem Dev.setQueue_brg (n : Nat) (q : Queue) : (s.setQueue n q).brg = s.brg := s.with_queues_brg _
@[simp] theorem Dev.setQueue_dfe (n : Nat) (q : Queue) : (s.setQueue n q).dfe = s.dfe := s.with_queues_dfe _
@[simp] theorem Dev.setQueue_lan (n : Nat) (q : Queue) : (s.setQueue n q).lan = s.lan := s.with_queues_lan _
@[simp] theorem Dev.setQueue_fab (n : Nat) (q : Queue) : (s.setQueue n q).fab = s.fab := s.with_queues_fab _
@[simp] theorem Dev.setQueue_stc (n : Nat) (q : Queue) : (s.setQueue n q).stc = s.stc := s.with_queues_stc _
@[simp] theorem Dev.setQueue_sec (n : Nat) (q : Queue) : (s.setQueue n q).sec = s.sec := s.with_queues_sec _
@[simp] theorem Dev.setQueue_awdt (n : Nat) (q : Queue) : (s.setQueue n q).awdt = s.awdt := s.with_queues_awdt _

@[simp] theorem Dev.onLane_fresh (l : Nat) (f : Lane → Lane) : (s.onLane l f).fresh = s.fresh := rfl
@[simp] theorem Dev.onLane_time (l : Nat) (f : Lane → Lane) : (s.onLane l f).time = s.time := rfl
@[simp] theorem Dev.onLane_elapsed (l : Nat) (f : Lane → Lane) : (s.onLane l f).elapsed = s.elapsed := rfl
@[simp] theorem Dev.onLane_regs (l : Nat) (f : Lane → Lane) : (s.onLane l f).regs = s.regs := rfl
@[simp] theorem Dev.onLane_shadow (l : Nat) (f : Lane → Lane) : (s.onLane l f).shadow = s.shadow := rfl
@[simp] theorem Dev.onLane_doms (l : Nat) (f : Lane → Lane) : (s.onLane l f).doms = s.doms := rfl
@[simp] theorem Dev.onLane_net (l : Nat) (f : Lane → Lane) : (s.onLane l f).net = s.net := rfl
@[simp] theorem Dev.onLane_evq (l : Nat) (f : Lane → Lane) : (s.onLane l f).evq = s.evq := rfl
@[simp] theorem Dev.onLane_tail (l : Nat) (f : Lane → Lane) : (s.onLane l f).tail = s.tail := rfl
@[simp] theorem Dev.onLane_arb (l : Nat) (f : Lane → Lane) : (s.onLane l f).arb = s.arb := rfl
@[simp] theorem Dev.onLane_evSeen (l : Nat) (f : Lane → Lane) : (s.onLane l f).evSeen = s.evSeen := rfl
@[simp] theorem Dev.onLane_out (l : Nat) (f : Lane → Lane) : (s.onLane l f).out = s.out := rfl
@[simp] theorem Dev.onLane_lm (l : Nat) (f : Lane → Lane) : (s.onLane l f).lm = s.lm := rfl
@[simp] theorem Dev.onLane_lmErr (l : Nat) (f : Lane → Lane) : (s.onLane l f).lmErr = s.lmErr := rfl
@[simp] theorem Dev.onLane_ab (l : Nat) (f : Lane → Lane) : (s.onLane l f).ab = s.ab := rfl
@[simp] theorem Dev.onLane_abErr (l : Nat) (f : Lane → Lane) : (s.onLane l f).abErr = s.abErr := rfl
@[simp] theorem Dev.onLane_rm (l : Nat) (f : Lane → Lane) : (s.onLane l f).rm = s.rm := rfl
@[simp] theorem Dev.onLane_queues (l : Nat) (f : Lane → Lane) : (s.onLane l f).queues = s.queues := rfl
@[simp] theorem Dev.onLane_cores (l : Nat) (f : Lane → Lane) : (s.onLane l f).cores = s.cores := rfl
@[simp] theorem Dev.onLane_cmx (l : Nat) (f : Lane → Lane) : (s.onLane l f).cmx = s.cmx := rfl
@[simp] theorem Dev.onLane_regions (l : Nat) (f : Lane → Lane) : (s.onLane l f).regions = s.regions := rfl
@[simp] theorem Dev.onLane_pwr (l : Nat) (f : Lane → Lane) : (s.onLane l f).pwr = s.pwr := rfl
@[simp] theorem Dev.onLane_tim (l : Nat) (f : Lane → Lane) : (s.onLane l f).tim = s.tim := rfl
@[simp] theorem Dev.onLane_tly (l : Nat) (f : Lane → Lane) : (s.onLane l f).tly = s.tly := rfl
@[simp] theorem Dev.onLane_lnc (l : Nat) (f : Lane → Lane) : (s.onLane l f).lnc = s.lnc := rfl
@[simp] theorem Dev.onLane_jobs (l : Nat) (f : Lane → Lane) : (s.onLane l f).jobs = s.jobs := rfl
@[simp] theorem Dev.onLane_carriers (l : Nat) (f : Lane → Lane) : (s.onLane l f).carriers = s.carriers := rfl
@[simp] theorem Dev.onLane_brx (l : Nat) (f : Lane → Lane) : (s.onLane l f).brx = s.brx := rfl
@[simp] theorem Dev.onLane_dma (l : Nat) (f : Lane → Lane) : (s.onLane l f).dma = s.dma := rfl
@[simp] theorem Dev.onLane_brg (l : Nat) (f : Lane → Lane) : (s.onLane l f).brg = s.brg := rfl
@[simp] theorem Dev.onLane_dfe (l : Nat) (f : Lane → Lane) : (s.onLane l f).dfe = s.dfe := rfl
@[simp] theorem Dev.onLane_fab (l : Nat) (f : Lane → Lane) : (s.onLane l f).fab = s.fab := rfl
@[simp] theorem Dev.onLane_stc (l : Nat) (f : Lane → Lane) : (s.onLane l f).stc = s.stc := rfl
@[simp] theorem Dev.onLane_sec (l : Nat) (f : Lane → Lane) : (s.onLane l f).sec = s.sec := rfl
@[simp] theorem Dev.onLane_awdt (l : Nat) (f : Lane → Lane) : (s.onLane l f).awdt = s.awdt := rfl

@[simp] theorem Dev.onQuad_fresh (q : Nat) (f : Quad → Quad) : (s.onQuad q f).fresh = s.fresh := rfl
@[simp] theorem Dev.onQuad_time (q : Nat) (f : Quad → Quad) : (s.onQuad q f).time = s.time := rfl
@[simp] theorem Dev.onQuad_elapsed (q : Nat) (f : Quad → Quad) : (s.onQuad q f).elapsed = s.elapsed := rfl
@[simp] theorem Dev.onQuad_regs (q : Nat) (f : Quad → Quad) : (s.onQuad q f).regs = s.regs := rfl
@[simp] theorem Dev.onQuad_shadow (q : Nat) (f : Quad → Quad) : (s.onQuad q f).shadow = s.shadow := rfl
@[simp] theorem Dev.onQuad_doms (q : Nat) (f : Quad → Quad) : (s.onQuad q f).doms = s.doms := rfl
@[simp] theorem Dev.onQuad_net (q : Nat) (f : Quad → Quad) : (s.onQuad q f).net = s.net := rfl
@[simp] theorem Dev.onQuad_evq (q : Nat) (f : Quad → Quad) : (s.onQuad q f).evq = s.evq := rfl
@[simp] theorem Dev.onQuad_tail (q : Nat) (f : Quad → Quad) : (s.onQuad q f).tail = s.tail := rfl
@[simp] theorem Dev.onQuad_arb (q : Nat) (f : Quad → Quad) : (s.onQuad q f).arb = s.arb := rfl
@[simp] theorem Dev.onQuad_evSeen (q : Nat) (f : Quad → Quad) : (s.onQuad q f).evSeen = s.evSeen := rfl
@[simp] theorem Dev.onQuad_out (q : Nat) (f : Quad → Quad) : (s.onQuad q f).out = s.out := rfl
@[simp] theorem Dev.onQuad_lm (q : Nat) (f : Quad → Quad) : (s.onQuad q f).lm = s.lm := rfl
@[simp] theorem Dev.onQuad_lmErr (q : Nat) (f : Quad → Quad) : (s.onQuad q f).lmErr = s.lmErr := rfl
@[simp] theorem Dev.onQuad_ab (q : Nat) (f : Quad → Quad) : (s.onQuad q f).ab = s.ab := rfl
@[simp] theorem Dev.onQuad_abErr (q : Nat) (f : Quad → Quad) : (s.onQuad q f).abErr = s.abErr := rfl
@[simp] theorem Dev.onQuad_rm (q : Nat) (f : Quad → Quad) : (s.onQuad q f).rm = s.rm := rfl
@[simp] theorem Dev.onQuad_queues (q : Nat) (f : Quad → Quad) : (s.onQuad q f).queues = s.queues := rfl
@[simp] theorem Dev.onQuad_cores (q : Nat) (f : Quad → Quad) : (s.onQuad q f).cores = s.cores := rfl
@[simp] theorem Dev.onQuad_cmx (q : Nat) (f : Quad → Quad) : (s.onQuad q f).cmx = s.cmx := rfl
@[simp] theorem Dev.onQuad_regions (q : Nat) (f : Quad → Quad) : (s.onQuad q f).regions = s.regions := rfl
@[simp] theorem Dev.onQuad_pwr (q : Nat) (f : Quad → Quad) : (s.onQuad q f).pwr = s.pwr := rfl
@[simp] theorem Dev.onQuad_tim (q : Nat) (f : Quad → Quad) : (s.onQuad q f).tim = s.tim := rfl
@[simp] theorem Dev.onQuad_tly (q : Nat) (f : Quad → Quad) : (s.onQuad q f).tly = s.tly := rfl
@[simp] theorem Dev.onQuad_lnc (q : Nat) (f : Quad → Quad) : (s.onQuad q f).lnc = s.lnc := rfl
@[simp] theorem Dev.onQuad_jobs (q : Nat) (f : Quad → Quad) : (s.onQuad q f).jobs = s.jobs := rfl
@[simp] theorem Dev.onQuad_carriers (q : Nat) (f : Quad → Quad) : (s.onQuad q f).carriers = s.carriers := rfl
@[simp] theorem Dev.onQuad_brx (q : Nat) (f : Quad → Quad) : (s.onQuad q f).brx = s.brx := rfl
@[simp] theorem Dev.onQuad_dma (q : Nat) (f : Quad → Quad) : (s.onQuad q f).dma = s.dma := rfl
@[simp] theorem Dev.onQuad_brg (q : Nat) (f : Quad → Quad) : (s.onQuad q f).brg = s.brg := rfl
@[simp] theorem Dev.onQuad_dfe (q : Nat) (f : Quad → Quad) : (s.onQuad q f).dfe = s.dfe := rfl
@[simp] theorem Dev.onQuad_fab (q : Nat) (f : Quad → Quad) : (s.onQuad q f).fab = s.fab := rfl
@[simp] theorem Dev.onQuad_stc (q : Nat) (f : Quad → Quad) : (s.onQuad q f).stc = s.stc := rfl
@[simp] theorem Dev.onQuad_sec (q : Nat) (f : Quad → Quad) : (s.onQuad q f).sec = s.sec := rfl
@[simp] theorem Dev.onQuad_awdt (q : Nat) (f : Quad → Quad) : (s.onQuad q f).awdt = s.awdt := rfl

@[simp] theorem Dev.setDma_fresh (e c : Nat) (x : DmaCh) : (s.setDma e c x).fresh = s.fresh := rfl
@[simp] theorem Dev.setDma_time (e c : Nat) (x : DmaCh) : (s.setDma e c x).time = s.time := rfl
@[simp] theorem Dev.setDma_elapsed (e c : Nat) (x : DmaCh) : (s.setDma e c x).elapsed = s.elapsed := rfl
@[simp] theorem Dev.setDma_regs (e c : Nat) (x : DmaCh) : (s.setDma e c x).regs = s.regs := rfl
@[simp] theorem Dev.setDma_shadow (e c : Nat) (x : DmaCh) : (s.setDma e c x).shadow = s.shadow := rfl
@[simp] theorem Dev.setDma_doms (e c : Nat) (x : DmaCh) : (s.setDma e c x).doms = s.doms := rfl
@[simp] theorem Dev.setDma_net (e c : Nat) (x : DmaCh) : (s.setDma e c x).net = s.net := rfl
@[simp] theorem Dev.setDma_evq (e c : Nat) (x : DmaCh) : (s.setDma e c x).evq = s.evq := rfl
@[simp] theorem Dev.setDma_tail (e c : Nat) (x : DmaCh) : (s.setDma e c x).tail = s.tail := rfl
@[simp] theorem Dev.setDma_arb (e c : Nat) (x : DmaCh) : (s.setDma e c x).arb = s.arb := rfl
@[simp] theorem Dev.setDma_evSeen (e c : Nat) (x : DmaCh) : (s.setDma e c x).evSeen = s.evSeen := rfl
@[simp] theorem Dev.setDma_out (e c : Nat) (x : DmaCh) : (s.setDma e c x).out = s.out := rfl
@[simp] theorem Dev.setDma_lm (e c : Nat) (x : DmaCh) : (s.setDma e c x).lm = s.lm := rfl
@[simp] theorem Dev.setDma_lmErr (e c : Nat) (x : DmaCh) : (s.setDma e c x).lmErr = s.lmErr := rfl
@[simp] theorem Dev.setDma_ab (e c : Nat) (x : DmaCh) : (s.setDma e c x).ab = s.ab := rfl
@[simp] theorem Dev.setDma_abErr (e c : Nat) (x : DmaCh) : (s.setDma e c x).abErr = s.abErr := rfl
@[simp] theorem Dev.setDma_rm (e c : Nat) (x : DmaCh) : (s.setDma e c x).rm = s.rm := rfl
@[simp] theorem Dev.setDma_queues (e c : Nat) (x : DmaCh) : (s.setDma e c x).queues = s.queues := rfl
@[simp] theorem Dev.setDma_cores (e c : Nat) (x : DmaCh) : (s.setDma e c x).cores = s.cores := rfl
@[simp] theorem Dev.setDma_cmx (e c : Nat) (x : DmaCh) : (s.setDma e c x).cmx = s.cmx := rfl
@[simp] theorem Dev.setDma_regions (e c : Nat) (x : DmaCh) : (s.setDma e c x).regions = s.regions := rfl
@[simp] theorem Dev.setDma_pwr (e c : Nat) (x : DmaCh) : (s.setDma e c x).pwr = s.pwr := rfl
@[simp] theorem Dev.setDma_tim (e c : Nat) (x : DmaCh) : (s.setDma e c x).tim = s.tim := rfl
@[simp] theorem Dev.setDma_tly (e c : Nat) (x : DmaCh) : (s.setDma e c x).tly = s.tly := rfl
@[simp] theorem Dev.setDma_lnc (e c : Nat) (x : DmaCh) : (s.setDma e c x).lnc = s.lnc := rfl
@[simp] theorem Dev.setDma_jobs (e c : Nat) (x : DmaCh) : (s.setDma e c x).jobs = s.jobs := rfl
@[simp] theorem Dev.setDma_carriers (e c : Nat) (x : DmaCh) : (s.setDma e c x).carriers = s.carriers := rfl
@[simp] theorem Dev.setDma_brx (e c : Nat) (x : DmaCh) : (s.setDma e c x).brx = s.brx := rfl
@[simp] theorem Dev.setDma_brg (e c : Nat) (x : DmaCh) : (s.setDma e c x).brg = s.brg := rfl
@[simp] theorem Dev.setDma_dfe (e c : Nat) (x : DmaCh) : (s.setDma e c x).dfe = s.dfe := rfl
@[simp] theorem Dev.setDma_lan (e c : Nat) (x : DmaCh) : (s.setDma e c x).lan = s.lan := rfl
@[simp] theorem Dev.setDma_fab (e c : Nat) (x : DmaCh) : (s.setDma e c x).fab = s.fab := rfl
@[simp] theorem Dev.setDma_stc (e c : Nat) (x : DmaCh) : (s.setDma e c x).stc = s.stc := rfl
@[simp] theorem Dev.setDma_sec (e c : Nat) (x : DmaCh) : (s.setDma e c x).sec = s.sec := rfl
@[simp] theorem Dev.setDma_awdt (e c : Nat) (x : DmaCh) : (s.setDma e c x).awdt = s.awdt := rfl

@[simp] theorem Dev.setJobs_fresh (u : Nat) (js : List Job) : (s.setJobs u js).fresh = s.fresh := rfl
@[simp] theorem Dev.setJobs_time (u : Nat) (js : List Job) : (s.setJobs u js).time = s.time := rfl
@[simp] theorem Dev.setJobs_elapsed (u : Nat) (js : List Job) : (s.setJobs u js).elapsed = s.elapsed := rfl
@[simp] theorem Dev.setJobs_regs (u : Nat) (js : List Job) : (s.setJobs u js).regs = s.regs := rfl
@[simp] theorem Dev.setJobs_shadow (u : Nat) (js : List Job) : (s.setJobs u js).shadow = s.shadow := rfl
@[simp] theorem Dev.setJobs_doms (u : Nat) (js : List Job) : (s.setJobs u js).doms = s.doms := rfl
@[simp] theorem Dev.setJobs_net (u : Nat) (js : List Job) : (s.setJobs u js).net = s.net := rfl
@[simp] theorem Dev.setJobs_evq (u : Nat) (js : List Job) : (s.setJobs u js).evq = s.evq := rfl
@[simp] theorem Dev.setJobs_tail (u : Nat) (js : List Job) : (s.setJobs u js).tail = s.tail := rfl
@[simp] theorem Dev.setJobs_arb (u : Nat) (js : List Job) : (s.setJobs u js).arb = s.arb := rfl
@[simp] theorem Dev.setJobs_evSeen (u : Nat) (js : List Job) : (s.setJobs u js).evSeen = s.evSeen := rfl
@[simp] theorem Dev.setJobs_out (u : Nat) (js : List Job) : (s.setJobs u js).out = s.out := rfl
@[simp] theorem Dev.setJobs_lm (u : Nat) (js : List Job) : (s.setJobs u js).lm = s.lm := rfl
@[simp] theorem Dev.setJobs_lmErr (u : Nat) (js : List Job) : (s.setJobs u js).lmErr = s.lmErr := rfl
@[simp] theorem Dev.setJobs_ab (u : Nat) (js : List Job) : (s.setJobs u js).ab = s.ab := rfl
@[simp] theorem Dev.setJobs_abErr (u : Nat) (js : List Job) : (s.setJobs u js).abErr = s.abErr := rfl
@[simp] theorem Dev.setJobs_rm (u : Nat) (js : List Job) : (s.setJobs u js).rm = s.rm := rfl
@[simp] theorem Dev.setJobs_queues (u : Nat) (js : List Job) : (s.setJobs u js).queues = s.queues := rfl
@[simp] theorem Dev.setJobs_cores (u : Nat) (js : List Job) : (s.setJobs u js).cores = s.cores := rfl
@[simp] theorem Dev.setJobs_cmx (u : Nat) (js : List Job) : (s.setJobs u js).cmx = s.cmx := rfl
@[simp] theorem Dev.setJobs_regions (u : Nat) (js : List Job) : (s.setJobs u js).regions = s.regions := rfl
@[simp] theorem Dev.setJobs_pwr (u : Nat) (js : List Job) : (s.setJobs u js).pwr = s.pwr := rfl
@[simp] theorem Dev.setJobs_tim (u : Nat) (js : List Job) : (s.setJobs u js).tim = s.tim := rfl
@[simp] theorem Dev.setJobs_tly (u : Nat) (js : List Job) : (s.setJobs u js).tly = s.tly := rfl
@[simp] theorem Dev.setJobs_lnc (u : Nat) (js : List Job) : (s.setJobs u js).lnc = s.lnc := rfl
@[simp] theorem Dev.setJobs_carriers (u : Nat) (js : List Job) : (s.setJobs u js).carriers = s.carriers := rfl
@[simp] theorem Dev.setJobs_brx (u : Nat) (js : List Job) : (s.setJobs u js).brx = s.brx := rfl
@[simp] theorem Dev.setJobs_dma (u : Nat) (js : List Job) : (s.setJobs u js).dma = s.dma := rfl
@[simp] theorem Dev.setJobs_brg (u : Nat) (js : List Job) : (s.setJobs u js).brg = s.brg := rfl
@[simp] theorem Dev.setJobs_dfe (u : Nat) (js : List Job) : (s.setJobs u js).dfe = s.dfe := rfl
@[simp] theorem Dev.setJobs_lan (u : Nat) (js : List Job) : (s.setJobs u js).lan = s.lan := rfl
@[simp] theorem Dev.setJobs_fab (u : Nat) (js : List Job) : (s.setJobs u js).fab = s.fab := rfl
@[simp] theorem Dev.setJobs_stc (u : Nat) (js : List Job) : (s.setJobs u js).stc = s.stc := rfl
@[simp] theorem Dev.setJobs_sec (u : Nat) (js : List Job) : (s.setJobs u js).sec = s.sec := rfl
@[simp] theorem Dev.setJobs_awdt (u : Nat) (js : List Job) : (s.setJobs u js).awdt = s.awdt := rfl

@[simp] theorem Dev.onArb_fresh (f : Arbiter → Arbiter) : (s.onArb f).fresh = s.fresh := rfl
@[simp] theorem Dev.onArb_time (f : Arbiter → Arbiter) : (s.onArb f).time = s.time := rfl
@[simp] theorem Dev.onArb_elapsed (f : Arbiter → Arbiter) : (s.onArb f).elapsed = s.elapsed := rfl
@[simp] theorem Dev.onArb_regs (f : Arbiter → Arbiter) : (s.onArb f).regs = s.regs := rfl
@[simp] theorem Dev.onArb_shadow (f : Arbiter → Arbiter) : (s.onArb f).shadow = s.shadow := rfl
@[simp] theorem Dev.onArb_doms (f : Arbiter → Arbiter) : (s.onArb f).doms = s.doms := rfl
@[simp] theorem Dev.onArb_net (f : Arbiter → Arbiter) : (s.onArb f).net = s.net := rfl
@[simp] theorem Dev.onArb_evq (f : Arbiter → Arbiter) : (s.onArb f).evq = s.evq := rfl
@[simp] theorem Dev.onArb_tail (f : Arbiter → Arbiter) : (s.onArb f).tail = s.tail := rfl
@[simp] theorem Dev.onArb_evSeen (f : Arbiter → Arbiter) : (s.onArb f).evSeen = s.evSeen := rfl
@[simp] theorem Dev.onArb_out (f : Arbiter → Arbiter) : (s.onArb f).out = s.out := rfl
@[simp] theorem Dev.onArb_lm (f : Arbiter → Arbiter) : (s.onArb f).lm = s.lm := rfl
@[simp] theorem Dev.onArb_lmErr (f : Arbiter → Arbiter) : (s.onArb f).lmErr = s.lmErr := rfl
@[simp] theorem Dev.onArb_ab (f : Arbiter → Arbiter) : (s.onArb f).ab = s.ab := rfl
@[simp] theorem Dev.onArb_abErr (f : Arbiter → Arbiter) : (s.onArb f).abErr = s.abErr := rfl
@[simp] theorem Dev.onArb_rm (f : Arbiter → Arbiter) : (s.onArb f).rm = s.rm := rfl
@[simp] theorem Dev.onArb_queues (f : Arbiter → Arbiter) : (s.onArb f).queues = s.queues := rfl
@[simp] theorem Dev.onArb_cores (f : Arbiter → Arbiter) : (s.onArb f).cores = s.cores := rfl
@[simp] theorem Dev.onArb_cmx (f : Arbiter → Arbiter) : (s.onArb f).cmx = s.cmx := rfl
@[simp] theorem Dev.onArb_regions (f : Arbiter → Arbiter) : (s.onArb f).regions = s.regions := rfl
@[simp] theorem Dev.onArb_pwr (f : Arbiter → Arbiter) : (s.onArb f).pwr = s.pwr := rfl
@[simp] theorem Dev.onArb_tim (f : Arbiter → Arbiter) : (s.onArb f).tim = s.tim := rfl
@[simp] theorem Dev.onArb_tly (f : Arbiter → Arbiter) : (s.onArb f).tly = s.tly := rfl
@[simp] theorem Dev.onArb_lnc (f : Arbiter → Arbiter) : (s.onArb f).lnc = s.lnc := rfl
@[simp] theorem Dev.onArb_jobs (f : Arbiter → Arbiter) : (s.onArb f).jobs = s.jobs := rfl
@[simp] theorem Dev.onArb_carriers (f : Arbiter → Arbiter) : (s.onArb f).carriers = s.carriers := rfl
@[simp] theorem Dev.onArb_brx (f : Arbiter → Arbiter) : (s.onArb f).brx = s.brx := rfl
@[simp] theorem Dev.onArb_dma (f : Arbiter → Arbiter) : (s.onArb f).dma = s.dma := rfl
@[simp] theorem Dev.onArb_brg (f : Arbiter → Arbiter) : (s.onArb f).brg = s.brg := rfl
@[simp] theorem Dev.onArb_dfe (f : Arbiter → Arbiter) : (s.onArb f).dfe = s.dfe := rfl
@[simp] theorem Dev.onArb_lan (f : Arbiter → Arbiter) : (s.onArb f).lan = s.lan := rfl
@[simp] theorem Dev.onArb_fab (f : Arbiter → Arbiter) : (s.onArb f).fab = s.fab := rfl
@[simp] theorem Dev.onArb_stc (f : Arbiter → Arbiter) : (s.onArb f).stc = s.stc := rfl
@[simp] theorem Dev.onArb_sec (f : Arbiter → Arbiter) : (s.onArb f).sec = s.sec := rfl
@[simp] theorem Dev.onArb_awdt (f : Arbiter → Arbiter) : (s.onArb f).awdt = s.awdt := rfl

@[simp] theorem Dev.onRm_fresh (f : RMem → RMem) : (s.onRm f).fresh = s.fresh := rfl
@[simp] theorem Dev.onRm_time (f : RMem → RMem) : (s.onRm f).time = s.time := rfl
@[simp] theorem Dev.onRm_elapsed (f : RMem → RMem) : (s.onRm f).elapsed = s.elapsed := rfl
@[simp] theorem Dev.onRm_regs (f : RMem → RMem) : (s.onRm f).regs = s.regs := rfl
@[simp] theorem Dev.onRm_shadow (f : RMem → RMem) : (s.onRm f).shadow = s.shadow := rfl
@[simp] theorem Dev.onRm_doms (f : RMem → RMem) : (s.onRm f).doms = s.doms := rfl
@[simp] theorem Dev.onRm_net (f : RMem → RMem) : (s.onRm f).net = s.net := rfl
@[simp] theorem Dev.onRm_evq (f : RMem → RMem) : (s.onRm f).evq = s.evq := rfl
@[simp] theorem Dev.onRm_tail (f : RMem → RMem) : (s.onRm f).tail = s.tail := rfl
@[simp] theorem Dev.onRm_arb (f : RMem → RMem) : (s.onRm f).arb = s.arb := rfl
@[simp] theorem Dev.onRm_evSeen (f : RMem → RMem) : (s.onRm f).evSeen = s.evSeen := rfl
@[simp] theorem Dev.onRm_out (f : RMem → RMem) : (s.onRm f).out = s.out := rfl
@[simp] theorem Dev.onRm_lm (f : RMem → RMem) : (s.onRm f).lm = s.lm := rfl
@[simp] theorem Dev.onRm_lmErr (f : RMem → RMem) : (s.onRm f).lmErr = s.lmErr := rfl
@[simp] theorem Dev.onRm_ab (f : RMem → RMem) : (s.onRm f).ab = s.ab := rfl
@[simp] theorem Dev.onRm_abErr (f : RMem → RMem) : (s.onRm f).abErr = s.abErr := rfl
@[simp] theorem Dev.onRm_queues (f : RMem → RMem) : (s.onRm f).queues = s.queues := rfl
@[simp] theorem Dev.onRm_cores (f : RMem → RMem) : (s.onRm f).cores = s.cores := rfl
@[simp] theorem Dev.onRm_cmx (f : RMem → RMem) : (s.onRm f).cmx = s.cmx := rfl
@[simp] theorem Dev.onRm_regions (f : RMem → RMem) : (s.onRm f).regions = s.regions := rfl
@[simp] theorem Dev.onRm_pwr (f : RMem → RMem) : (s.onRm f).pwr = s.pwr := rfl
@[simp] theorem Dev.onRm_tim (f : RMem → RMem) : (s.onRm f).tim = s.tim := rfl
@[simp] theorem Dev.onRm_tly (f : RMem → RMem) : (s.onRm f).tly = s.tly := rfl
@[simp] theorem Dev.onRm_lnc (f : RMem → RMem) : (s.onRm f).lnc = s.lnc := rfl
@[simp] theorem Dev.onRm_jobs (f : RMem → RMem) : (s.onRm f).jobs = s.jobs := rfl
@[simp] theorem Dev.onRm_carriers (f : RMem → RMem) : (s.onRm f).carriers = s.carriers := rfl
@[simp] theorem Dev.onRm_brx (f : RMem → RMem) : (s.onRm f).brx = s.brx := rfl
@[simp] theorem Dev.onRm_dma (f : RMem → RMem) : (s.onRm f).dma = s.dma := rfl
@[simp] theorem Dev.onRm_brg (f : RMem → RMem) : (s.onRm f).brg = s.brg := rfl
@[simp] theorem Dev.onRm_dfe (f : RMem → RMem) : (s.onRm f).dfe = s.dfe := rfl
@[simp] theorem Dev.onRm_lan (f : RMem → RMem) : (s.onRm f).lan = s.lan := rfl
@[simp] theorem Dev.onRm_fab (f : RMem → RMem) : (s.onRm f).fab = s.fab := rfl
@[simp] theorem Dev.onRm_stc (f : RMem → RMem) : (s.onRm f).stc = s.stc := rfl
@[simp] theorem Dev.onRm_sec (f : RMem → RMem) : (s.onRm f).sec = s.sec := rfl
@[simp] theorem Dev.onRm_awdt (f : RMem → RMem) : (s.onRm f).awdt = s.awdt := rfl

@[simp] theorem Dev.onPwr_fresh (f : Pwr → Pwr) : (s.onPwr f).fresh = s.fresh := rfl
@[simp] theorem Dev.onPwr_time (f : Pwr → Pwr) : (s.onPwr f).time = s.time := rfl
@[simp] theorem Dev.onPwr_elapsed (f : Pwr → Pwr) : (s.onPwr f).elapsed = s.elapsed := rfl
@[simp] theorem Dev.onPwr_regs (f : Pwr → Pwr) : (s.onPwr f).regs = s.regs := rfl
@[simp] theorem Dev.onPwr_shadow (f : Pwr → Pwr) : (s.onPwr f).shadow = s.shadow := rfl
@[simp] theorem Dev.onPwr_doms (f : Pwr → Pwr) : (s.onPwr f).doms = s.doms := rfl
@[simp] theorem Dev.onPwr_net (f : Pwr → Pwr) : (s.onPwr f).net = s.net := rfl
@[simp] theorem Dev.onPwr_evq (f : Pwr → Pwr) : (s.onPwr f).evq = s.evq := rfl
@[simp] theorem Dev.onPwr_tail (f : Pwr → Pwr) : (s.onPwr f).tail = s.tail := rfl
@[simp] theorem Dev.onPwr_arb (f : Pwr → Pwr) : (s.onPwr f).arb = s.arb := rfl
@[simp] theorem Dev.onPwr_evSeen (f : Pwr → Pwr) : (s.onPwr f).evSeen = s.evSeen := rfl
@[simp] theorem Dev.onPwr_out (f : Pwr → Pwr) : (s.onPwr f).out = s.out := rfl
@[simp] theorem Dev.onPwr_lm (f : Pwr → Pwr) : (s.onPwr f).lm = s.lm := rfl
@[simp] theorem Dev.onPwr_lmErr (f : Pwr → Pwr) : (s.onPwr f).lmErr = s.lmErr := rfl
@[simp] theorem Dev.onPwr_ab (f : Pwr → Pwr) : (s.onPwr f).ab = s.ab := rfl
@[simp] theorem Dev.onPwr_abErr (f : Pwr → Pwr) : (s.onPwr f).abErr = s.abErr := rfl
@[simp] theorem Dev.onPwr_rm (f : Pwr → Pwr) : (s.onPwr f).rm = s.rm := rfl
@[simp] theorem Dev.onPwr_queues (f : Pwr → Pwr) : (s.onPwr f).queues = s.queues := rfl
@[simp] theorem Dev.onPwr_cores (f : Pwr → Pwr) : (s.onPwr f).cores = s.cores := rfl
@[simp] theorem Dev.onPwr_cmx (f : Pwr → Pwr) : (s.onPwr f).cmx = s.cmx := rfl
@[simp] theorem Dev.onPwr_regions (f : Pwr → Pwr) : (s.onPwr f).regions = s.regions := rfl
@[simp] theorem Dev.onPwr_tim (f : Pwr → Pwr) : (s.onPwr f).tim = s.tim := rfl
@[simp] theorem Dev.onPwr_tly (f : Pwr → Pwr) : (s.onPwr f).tly = s.tly := rfl
@[simp] theorem Dev.onPwr_lnc (f : Pwr → Pwr) : (s.onPwr f).lnc = s.lnc := rfl
@[simp] theorem Dev.onPwr_jobs (f : Pwr → Pwr) : (s.onPwr f).jobs = s.jobs := rfl
@[simp] theorem Dev.onPwr_carriers (f : Pwr → Pwr) : (s.onPwr f).carriers = s.carriers := rfl
@[simp] theorem Dev.onPwr_brx (f : Pwr → Pwr) : (s.onPwr f).brx = s.brx := rfl
@[simp] theorem Dev.onPwr_dma (f : Pwr → Pwr) : (s.onPwr f).dma = s.dma := rfl
@[simp] theorem Dev.onPwr_brg (f : Pwr → Pwr) : (s.onPwr f).brg = s.brg := rfl
@[simp] theorem Dev.onPwr_dfe (f : Pwr → Pwr) : (s.onPwr f).dfe = s.dfe := rfl
@[simp] theorem Dev.onPwr_lan (f : Pwr → Pwr) : (s.onPwr f).lan = s.lan := rfl
@[simp] theorem Dev.onPwr_fab (f : Pwr → Pwr) : (s.onPwr f).fab = s.fab := rfl
@[simp] theorem Dev.onPwr_stc (f : Pwr → Pwr) : (s.onPwr f).stc = s.stc := rfl
@[simp] theorem Dev.onPwr_sec (f : Pwr → Pwr) : (s.onPwr f).sec = s.sec := rfl
@[simp] theorem Dev.onPwr_awdt (f : Pwr → Pwr) : (s.onPwr f).awdt = s.awdt := rfl

@[simp] theorem Dev.onTim_fresh (f : TimeBase → TimeBase) : (s.onTim f).fresh = s.fresh := rfl
@[simp] theorem Dev.onTim_time (f : TimeBase → TimeBase) : (s.onTim f).time = s.time := rfl
@[simp] theorem Dev.onTim_elapsed (f : TimeBase → TimeBase) : (s.onTim f).elapsed = s.elapsed := rfl
@[simp] theorem Dev.onTim_regs (f : TimeBase → TimeBase) : (s.onTim f).regs = s.regs := rfl
@[simp] theorem Dev.onTim_shadow (f : TimeBase → TimeBase) : (s.onTim f).shadow = s.shadow := rfl
@[simp] theorem Dev.onTim_doms (f : TimeBase → TimeBase) : (s.onTim f).doms = s.doms := rfl
@[simp] theorem Dev.onTim_net (f : TimeBase → TimeBase) : (s.onTim f).net = s.net := rfl
@[simp] theorem Dev.onTim_evq (f : TimeBase → TimeBase) : (s.onTim f).evq = s.evq := rfl
@[simp] theorem Dev.onTim_tail (f : TimeBase → TimeBase) : (s.onTim f).tail = s.tail := rfl
@[simp] theorem Dev.onTim_arb (f : TimeBase → TimeBase) : (s.onTim f).arb = s.arb := rfl
@[simp] theorem Dev.onTim_evSeen (f : TimeBase → TimeBase) : (s.onTim f).evSeen = s.evSeen := rfl
@[simp] theorem Dev.onTim_out (f : TimeBase → TimeBase) : (s.onTim f).out = s.out := rfl
@[simp] theorem Dev.onTim_lm (f : TimeBase → TimeBase) : (s.onTim f).lm = s.lm := rfl
@[simp] theorem Dev.onTim_lmErr (f : TimeBase → TimeBase) : (s.onTim f).lmErr = s.lmErr := rfl
@[simp] theorem Dev.onTim_ab (f : TimeBase → TimeBase) : (s.onTim f).ab = s.ab := rfl
@[simp] theorem Dev.onTim_abErr (f : TimeBase → TimeBase) : (s.onTim f).abErr = s.abErr := rfl
@[simp] theorem Dev.onTim_rm (f : TimeBase → TimeBase) : (s.onTim f).rm = s.rm := rfl
@[simp] theorem Dev.onTim_queues (f : TimeBase → TimeBase) : (s.onTim f).queues = s.queues := rfl
@[simp] theorem Dev.onTim_cores (f : TimeBase → TimeBase) : (s.onTim f).cores = s.cores := rfl
@[simp] theorem Dev.onTim_cmx (f : TimeBase → TimeBase) : (s.onTim f).cmx = s.cmx := rfl
@[simp] theorem Dev.onTim_regions (f : TimeBase → TimeBase) : (s.onTim f).regions = s.regions := rfl
@[simp] theorem Dev.onTim_pwr (f : TimeBase → TimeBase) : (s.onTim f).pwr = s.pwr := rfl
@[simp] theorem Dev.onTim_tly (f : TimeBase → TimeBase) : (s.onTim f).tly = s.tly := rfl
@[simp] theorem Dev.onTim_lnc (f : TimeBase → TimeBase) : (s.onTim f).lnc = s.lnc := rfl
@[simp] theorem Dev.onTim_jobs (f : TimeBase → TimeBase) : (s.onTim f).jobs = s.jobs := rfl
@[simp] theorem Dev.onTim_carriers (f : TimeBase → TimeBase) : (s.onTim f).carriers = s.carriers := rfl
@[simp] theorem Dev.onTim_brx (f : TimeBase → TimeBase) : (s.onTim f).brx = s.brx := rfl
@[simp] theorem Dev.onTim_dma (f : TimeBase → TimeBase) : (s.onTim f).dma = s.dma := rfl
@[simp] theorem Dev.onTim_brg (f : TimeBase → TimeBase) : (s.onTim f).brg = s.brg := rfl
@[simp] theorem Dev.onTim_dfe (f : TimeBase → TimeBase) : (s.onTim f).dfe = s.dfe := rfl
@[simp] theorem Dev.onTim_lan (f : TimeBase → TimeBase) : (s.onTim f).lan = s.lan := rfl
@[simp] theorem Dev.onTim_fab (f : TimeBase → TimeBase) : (s.onTim f).fab = s.fab := rfl
@[simp] theorem Dev.onTim_stc (f : TimeBase → TimeBase) : (s.onTim f).stc = s.stc := rfl
@[simp] theorem Dev.onTim_sec (f : TimeBase → TimeBase) : (s.onTim f).sec = s.sec := rfl
@[simp] theorem Dev.onTim_awdt (f : TimeBase → TimeBase) : (s.onTim f).awdt = s.awdt := rfl

@[simp] theorem Dev.onTly_fresh (f : Tally → Tally) : (s.onTly f).fresh = s.fresh := rfl
@[simp] theorem Dev.onTly_time (f : Tally → Tally) : (s.onTly f).time = s.time := rfl
@[simp] theorem Dev.onTly_elapsed (f : Tally → Tally) : (s.onTly f).elapsed = s.elapsed := rfl
@[simp] theorem Dev.onTly_regs (f : Tally → Tally) : (s.onTly f).regs = s.regs := rfl
@[simp] theorem Dev.onTly_shadow (f : Tally → Tally) : (s.onTly f).shadow = s.shadow := rfl
@[simp] theorem Dev.onTly_doms (f : Tally → Tally) : (s.onTly f).doms = s.doms := rfl
@[simp] theorem Dev.onTly_net (f : Tally → Tally) : (s.onTly f).net = s.net := rfl
@[simp] theorem Dev.onTly_evq (f : Tally → Tally) : (s.onTly f).evq = s.evq := rfl
@[simp] theorem Dev.onTly_tail (f : Tally → Tally) : (s.onTly f).tail = s.tail := rfl
@[simp] theorem Dev.onTly_arb (f : Tally → Tally) : (s.onTly f).arb = s.arb := rfl
@[simp] theorem Dev.onTly_evSeen (f : Tally → Tally) : (s.onTly f).evSeen = s.evSeen := rfl
@[simp] theorem Dev.onTly_out (f : Tally → Tally) : (s.onTly f).out = s.out := rfl
@[simp] theorem Dev.onTly_lm (f : Tally → Tally) : (s.onTly f).lm = s.lm := rfl
@[simp] theorem Dev.onTly_lmErr (f : Tally → Tally) : (s.onTly f).lmErr = s.lmErr := rfl
@[simp] theorem Dev.onTly_ab (f : Tally → Tally) : (s.onTly f).ab = s.ab := rfl
@[simp] theorem Dev.onTly_abErr (f : Tally → Tally) : (s.onTly f).abErr = s.abErr := rfl
@[simp] theorem Dev.onTly_rm (f : Tally → Tally) : (s.onTly f).rm = s.rm := rfl
@[simp] theorem Dev.onTly_queues (f : Tally → Tally) : (s.onTly f).queues = s.queues := rfl
@[simp] theorem Dev.onTly_cores (f : Tally → Tally) : (s.onTly f).cores = s.cores := rfl
@[simp] theorem Dev.onTly_cmx (f : Tally → Tally) : (s.onTly f).cmx = s.cmx := rfl
@[simp] theorem Dev.onTly_regions (f : Tally → Tally) : (s.onTly f).regions = s.regions := rfl
@[simp] theorem Dev.onTly_pwr (f : Tally → Tally) : (s.onTly f).pwr = s.pwr := rfl
@[simp] theorem Dev.onTly_tim (f : Tally → Tally) : (s.onTly f).tim = s.tim := rfl
@[simp] theorem Dev.onTly_lnc (f : Tally → Tally) : (s.onTly f).lnc = s.lnc := rfl
@[simp] theorem Dev.onTly_jobs (f : Tally → Tally) : (s.onTly f).jobs = s.jobs := rfl
@[simp] theorem Dev.onTly_carriers (f : Tally → Tally) : (s.onTly f).carriers = s.carriers := rfl
@[simp] theorem Dev.onTly_brx (f : Tally → Tally) : (s.onTly f).brx = s.brx := rfl
@[simp] theorem Dev.onTly_dma (f : Tally → Tally) : (s.onTly f).dma = s.dma := rfl
@[simp] theorem Dev.onTly_brg (f : Tally → Tally) : (s.onTly f).brg = s.brg := rfl
@[simp] theorem Dev.onTly_dfe (f : Tally → Tally) : (s.onTly f).dfe = s.dfe := rfl
@[simp] theorem Dev.onTly_lan (f : Tally → Tally) : (s.onTly f).lan = s.lan := rfl
@[simp] theorem Dev.onTly_fab (f : Tally → Tally) : (s.onTly f).fab = s.fab := rfl
@[simp] theorem Dev.onTly_stc (f : Tally → Tally) : (s.onTly f).stc = s.stc := rfl
@[simp] theorem Dev.onTly_sec (f : Tally → Tally) : (s.onTly f).sec = s.sec := rfl
@[simp] theorem Dev.onTly_awdt (f : Tally → Tally) : (s.onTly f).awdt = s.awdt := rfl

@[simp] theorem Dev.onLnc_fresh (f : Launcher → Launcher) : (s.onLnc f).fresh = s.fresh := rfl
@[simp] theorem Dev.onLnc_time (f : Launcher → Launcher) : (s.onLnc f).time = s.time := rfl
@[simp] theorem Dev.onLnc_elapsed (f : Launcher → Launcher) : (s.onLnc f).elapsed = s.elapsed := rfl
@[simp] theorem Dev.onLnc_regs (f : Launcher → Launcher) : (s.onLnc f).regs = s.regs := rfl
@[simp] theorem Dev.onLnc_shadow (f : Launcher → Launcher) : (s.onLnc f).shadow = s.shadow := rfl
@[simp] theorem Dev.onLnc_doms (f : Launcher → Launcher) : (s.onLnc f).doms = s.doms := rfl
@[simp] theorem Dev.onLnc_net (f : Launcher → Launcher) : (s.onLnc f).net = s.net := rfl
@[simp] theorem Dev.onLnc_evq (f : Launcher → Launcher) : (s.onLnc f).evq = s.evq := rfl
@[simp] theorem Dev.onLnc_tail (f : Launcher → Launcher) : (s.onLnc f).tail = s.tail := rfl
@[simp] theorem Dev.onLnc_arb (f : Launcher → Launcher) : (s.onLnc f).arb = s.arb := rfl
@[simp] theorem Dev.onLnc_evSeen (f : Launcher → Launcher) : (s.onLnc f).evSeen = s.evSeen := rfl
@[simp] theorem Dev.onLnc_out (f : Launcher → Launcher) : (s.onLnc f).out = s.out := rfl
@[simp] theorem Dev.onLnc_lm (f : Launcher → Launcher) : (s.onLnc f).lm = s.lm := rfl
@[simp] theorem Dev.onLnc_lmErr (f : Launcher → Launcher) : (s.onLnc f).lmErr = s.lmErr := rfl
@[simp] theorem Dev.onLnc_ab (f : Launcher → Launcher) : (s.onLnc f).ab = s.ab := rfl
@[simp] theorem Dev.onLnc_abErr (f : Launcher → Launcher) : (s.onLnc f).abErr = s.abErr := rfl
@[simp] theorem Dev.onLnc_rm (f : Launcher → Launcher) : (s.onLnc f).rm = s.rm := rfl
@[simp] theorem Dev.onLnc_queues (f : Launcher → Launcher) : (s.onLnc f).queues = s.queues := rfl
@[simp] theorem Dev.onLnc_cores (f : Launcher → Launcher) : (s.onLnc f).cores = s.cores := rfl
@[simp] theorem Dev.onLnc_cmx (f : Launcher → Launcher) : (s.onLnc f).cmx = s.cmx := rfl
@[simp] theorem Dev.onLnc_regions (f : Launcher → Launcher) : (s.onLnc f).regions = s.regions := rfl
@[simp] theorem Dev.onLnc_pwr (f : Launcher → Launcher) : (s.onLnc f).pwr = s.pwr := rfl
@[simp] theorem Dev.onLnc_tim (f : Launcher → Launcher) : (s.onLnc f).tim = s.tim := rfl
@[simp] theorem Dev.onLnc_tly (f : Launcher → Launcher) : (s.onLnc f).tly = s.tly := rfl
@[simp] theorem Dev.onLnc_jobs (f : Launcher → Launcher) : (s.onLnc f).jobs = s.jobs := rfl
@[simp] theorem Dev.onLnc_carriers (f : Launcher → Launcher) : (s.onLnc f).carriers = s.carriers := rfl
@[simp] theorem Dev.onLnc_brx (f : Launcher → Launcher) : (s.onLnc f).brx = s.brx := rfl
@[simp] theorem Dev.onLnc_dma (f : Launcher → Launcher) : (s.onLnc f).dma = s.dma := rfl
@[simp] theorem Dev.onLnc_brg (f : Launcher → Launcher) : (s.onLnc f).brg = s.brg := rfl
@[simp] theorem Dev.onLnc_dfe (f : Launcher → Launcher) : (s.onLnc f).dfe = s.dfe := rfl
@[simp] theorem Dev.onLnc_lan (f : Launcher → Launcher) : (s.onLnc f).lan = s.lan := rfl
@[simp] theorem Dev.onLnc_fab (f : Launcher → Launcher) : (s.onLnc f).fab = s.fab := rfl
@[simp] theorem Dev.onLnc_stc (f : Launcher → Launcher) : (s.onLnc f).stc = s.stc := rfl
@[simp] theorem Dev.onLnc_sec (f : Launcher → Launcher) : (s.onLnc f).sec = s.sec := rfl
@[simp] theorem Dev.onLnc_awdt (f : Launcher → Launcher) : (s.onLnc f).awdt = s.awdt := rfl

@[simp] theorem Dev.onBrx_fresh (f : Brx → Brx) : (s.onBrx f).fresh = s.fresh := rfl
@[simp] theorem Dev.onBrx_time (f : Brx → Brx) : (s.onBrx f).time = s.time := rfl
@[simp] theorem Dev.onBrx_elapsed (f : Brx → Brx) : (s.onBrx f).elapsed = s.elapsed := rfl
@[simp] theorem Dev.onBrx_regs (f : Brx → Brx) : (s.onBrx f).regs = s.regs := rfl
@[simp] theorem Dev.onBrx_shadow (f : Brx → Brx) : (s.onBrx f).shadow = s.shadow := rfl
@[simp] theorem Dev.onBrx_doms (f : Brx → Brx) : (s.onBrx f).doms = s.doms := rfl
@[simp] theorem Dev.onBrx_net (f : Brx → Brx) : (s.onBrx f).net = s.net := rfl
@[simp] theorem Dev.onBrx_evq (f : Brx → Brx) : (s.onBrx f).evq = s.evq := rfl
@[simp] theorem Dev.onBrx_tail (f : Brx → Brx) : (s.onBrx f).tail = s.tail := rfl
@[simp] theorem Dev.onBrx_arb (f : Brx → Brx) : (s.onBrx f).arb = s.arb := rfl
@[simp] theorem Dev.onBrx_evSeen (f : Brx → Brx) : (s.onBrx f).evSeen = s.evSeen := rfl
@[simp] theorem Dev.onBrx_out (f : Brx → Brx) : (s.onBrx f).out = s.out := rfl
@[simp] theorem Dev.onBrx_lm (f : Brx → Brx) : (s.onBrx f).lm = s.lm := rfl
@[simp] theorem Dev.onBrx_lmErr (f : Brx → Brx) : (s.onBrx f).lmErr = s.lmErr := rfl
@[simp] theorem Dev.onBrx_ab (f : Brx → Brx) : (s.onBrx f).ab = s.ab := rfl
@[simp] theorem Dev.onBrx_abErr (f : Brx → Brx) : (s.onBrx f).abErr = s.abErr := rfl
@[simp] theorem Dev.onBrx_rm (f : Brx → Brx) : (s.onBrx f).rm = s.rm := rfl
@[simp] theorem Dev.onBrx_queues (f : Brx → Brx) : (s.onBrx f).queues = s.queues := rfl
@[simp] theorem Dev.onBrx_cores (f : Brx → Brx) : (s.onBrx f).cores = s.cores := rfl
@[simp] theorem Dev.onBrx_cmx (f : Brx → Brx) : (s.onBrx f).cmx = s.cmx := rfl
@[simp] theorem Dev.onBrx_regions (f : Brx → Brx) : (s.onBrx f).regions = s.regions := rfl
@[simp] theorem Dev.onBrx_pwr (f : Brx → Brx) : (s.onBrx f).pwr = s.pwr := rfl
@[simp] theorem Dev.onBrx_tim (f : Brx → Brx) : (s.onBrx f).tim = s.tim := rfl
@[simp] theorem Dev.onBrx_tly (f : Brx → Brx) : (s.onBrx f).tly = s.tly := rfl
@[simp] theorem Dev.onBrx_lnc (f : Brx → Brx) : (s.onBrx f).lnc = s.lnc := rfl
@[simp] theorem Dev.onBrx_jobs (f : Brx → Brx) : (s.onBrx f).jobs = s.jobs := rfl
@[simp] theorem Dev.onBrx_carriers (f : Brx → Brx) : (s.onBrx f).carriers = s.carriers := rfl
@[simp] theorem Dev.onBrx_dma (f : Brx → Brx) : (s.onBrx f).dma = s.dma := rfl
@[simp] theorem Dev.onBrx_brg (f : Brx → Brx) : (s.onBrx f).brg = s.brg := rfl
@[simp] theorem Dev.onBrx_dfe (f : Brx → Brx) : (s.onBrx f).dfe = s.dfe := rfl
@[simp] theorem Dev.onBrx_lan (f : Brx → Brx) : (s.onBrx f).lan = s.lan := rfl
@[simp] theorem Dev.onBrx_fab (f : Brx → Brx) : (s.onBrx f).fab = s.fab := rfl
@[simp] theorem Dev.onBrx_stc (f : Brx → Brx) : (s.onBrx f).stc = s.stc := rfl
@[simp] theorem Dev.onBrx_sec (f : Brx → Brx) : (s.onBrx f).sec = s.sec := rfl
@[simp] theorem Dev.onBrx_awdt (f : Brx → Brx) : (s.onBrx f).awdt = s.awdt := rfl

@[simp] theorem Dev.onBrg_fresh (f : Bridge → Bridge) : (s.onBrg f).fresh = s.fresh := rfl
@[simp] theorem Dev.onBrg_time (f : Bridge → Bridge) : (s.onBrg f).time = s.time := rfl
@[simp] theorem Dev.onBrg_elapsed (f : Bridge → Bridge) : (s.onBrg f).elapsed = s.elapsed := rfl
@[simp] theorem Dev.onBrg_regs (f : Bridge → Bridge) : (s.onBrg f).regs = s.regs := rfl
@[simp] theorem Dev.onBrg_shadow (f : Bridge → Bridge) : (s.onBrg f).shadow = s.shadow := rfl
@[simp] theorem Dev.onBrg_doms (f : Bridge → Bridge) : (s.onBrg f).doms = s.doms := rfl
@[simp] theorem Dev.onBrg_net (f : Bridge → Bridge) : (s.onBrg f).net = s.net := rfl
@[simp] theorem Dev.onBrg_evq (f : Bridge → Bridge) : (s.onBrg f).evq = s.evq := rfl
@[simp] theorem Dev.onBrg_tail (f : Bridge → Bridge) : (s.onBrg f).tail = s.tail := rfl
@[simp] theorem Dev.onBrg_arb (f : Bridge → Bridge) : (s.onBrg f).arb = s.arb := rfl
@[simp] theorem Dev.onBrg_evSeen (f : Bridge → Bridge) : (s.onBrg f).evSeen = s.evSeen := rfl
@[simp] theorem Dev.onBrg_out (f : Bridge → Bridge) : (s.onBrg f).out = s.out := rfl
@[simp] theorem Dev.onBrg_lm (f : Bridge → Bridge) : (s.onBrg f).lm = s.lm := rfl
@[simp] theorem Dev.onBrg_lmErr (f : Bridge → Bridge) : (s.onBrg f).lmErr = s.lmErr := rfl
@[simp] theorem Dev.onBrg_ab (f : Bridge → Bridge) : (s.onBrg f).ab = s.ab := rfl
@[simp] theorem Dev.onBrg_abErr (f : Bridge → Bridge) : (s.onBrg f).abErr = s.abErr := rfl
@[simp] theorem Dev.onBrg_rm (f : Bridge → Bridge) : (s.onBrg f).rm = s.rm := rfl
@[simp] theorem Dev.onBrg_queues (f : Bridge → Bridge) : (s.onBrg f).queues = s.queues := rfl
@[simp] theorem Dev.onBrg_cores (f : Bridge → Bridge) : (s.onBrg f).cores = s.cores := rfl
@[simp] theorem Dev.onBrg_cmx (f : Bridge → Bridge) : (s.onBrg f).cmx = s.cmx := rfl
@[simp] theorem Dev.onBrg_regions (f : Bridge → Bridge) : (s.onBrg f).regions = s.regions := rfl
@[simp] theorem Dev.onBrg_pwr (f : Bridge → Bridge) : (s.onBrg f).pwr = s.pwr := rfl
@[simp] theorem Dev.onBrg_tim (f : Bridge → Bridge) : (s.onBrg f).tim = s.tim := rfl
@[simp] theorem Dev.onBrg_tly (f : Bridge → Bridge) : (s.onBrg f).tly = s.tly := rfl
@[simp] theorem Dev.onBrg_lnc (f : Bridge → Bridge) : (s.onBrg f).lnc = s.lnc := rfl
@[simp] theorem Dev.onBrg_jobs (f : Bridge → Bridge) : (s.onBrg f).jobs = s.jobs := rfl
@[simp] theorem Dev.onBrg_carriers (f : Bridge → Bridge) : (s.onBrg f).carriers = s.carriers := rfl
@[simp] theorem Dev.onBrg_brx (f : Bridge → Bridge) : (s.onBrg f).brx = s.brx := rfl
@[simp] theorem Dev.onBrg_dma (f : Bridge → Bridge) : (s.onBrg f).dma = s.dma := rfl
@[simp] theorem Dev.onBrg_dfe (f : Bridge → Bridge) : (s.onBrg f).dfe = s.dfe := rfl
@[simp] theorem Dev.onBrg_lan (f : Bridge → Bridge) : (s.onBrg f).lan = s.lan := rfl
@[simp] theorem Dev.onBrg_fab (f : Bridge → Bridge) : (s.onBrg f).fab = s.fab := rfl
@[simp] theorem Dev.onBrg_stc (f : Bridge → Bridge) : (s.onBrg f).stc = s.stc := rfl
@[simp] theorem Dev.onBrg_sec (f : Bridge → Bridge) : (s.onBrg f).sec = s.sec := rfl
@[simp] theorem Dev.onBrg_awdt (f : Bridge → Bridge) : (s.onBrg f).awdt = s.awdt := rfl

@[simp] theorem Dev.onDfe_fresh (f : Dfe → Dfe) : (s.onDfe f).fresh = s.fresh := rfl
@[simp] theorem Dev.onDfe_time (f : Dfe → Dfe) : (s.onDfe f).time = s.time := rfl
@[simp] theorem Dev.onDfe_elapsed (f : Dfe → Dfe) : (s.onDfe f).elapsed = s.elapsed := rfl
@[simp] theorem Dev.onDfe_regs (f : Dfe → Dfe) : (s.onDfe f).regs = s.regs := rfl
@[simp] theorem Dev.onDfe_shadow (f : Dfe → Dfe) : (s.onDfe f).shadow = s.shadow := rfl
@[simp] theorem Dev.onDfe_doms (f : Dfe → Dfe) : (s.onDfe f).doms = s.doms := rfl
@[simp] theorem Dev.onDfe_net (f : Dfe → Dfe) : (s.onDfe f).net = s.net := rfl
@[simp] theorem Dev.onDfe_evq (f : Dfe → Dfe) : (s.onDfe f).evq = s.evq := rfl
@[simp] theorem Dev.onDfe_tail (f : Dfe → Dfe) : (s.onDfe f).tail = s.tail := rfl
@[simp] theorem Dev.onDfe_arb (f : Dfe → Dfe) : (s.onDfe f).arb = s.arb := rfl
@[simp] theorem Dev.onDfe_evSeen (f : Dfe → Dfe) : (s.onDfe f).evSeen = s.evSeen := rfl
@[simp] theorem Dev.onDfe_out (f : Dfe → Dfe) : (s.onDfe f).out = s.out := rfl
@[simp] theorem Dev.onDfe_lm (f : Dfe → Dfe) : (s.onDfe f).lm = s.lm := rfl
@[simp] theorem Dev.onDfe_lmErr (f : Dfe → Dfe) : (s.onDfe f).lmErr = s.lmErr := rfl
@[simp] theorem Dev.onDfe_ab (f : Dfe → Dfe) : (s.onDfe f).ab = s.ab := rfl
@[simp] theorem Dev.onDfe_abErr (f : Dfe → Dfe) : (s.onDfe f).abErr = s.abErr := rfl
@[simp] theorem Dev.onDfe_rm (f : Dfe → Dfe) : (s.onDfe f).rm = s.rm := rfl
@[simp] theorem Dev.onDfe_queues (f : Dfe → Dfe) : (s.onDfe f).queues = s.queues := rfl
@[simp] theorem Dev.onDfe_cores (f : Dfe → Dfe) : (s.onDfe f).cores = s.cores := rfl
@[simp] theorem Dev.onDfe_cmx (f : Dfe → Dfe) : (s.onDfe f).cmx = s.cmx := rfl
@[simp] theorem Dev.onDfe_regions (f : Dfe → Dfe) : (s.onDfe f).regions = s.regions := rfl
@[simp] theorem Dev.onDfe_pwr (f : Dfe → Dfe) : (s.onDfe f).pwr = s.pwr := rfl
@[simp] theorem Dev.onDfe_tim (f : Dfe → Dfe) : (s.onDfe f).tim = s.tim := rfl
@[simp] theorem Dev.onDfe_tly (f : Dfe → Dfe) : (s.onDfe f).tly = s.tly := rfl
@[simp] theorem Dev.onDfe_lnc (f : Dfe → Dfe) : (s.onDfe f).lnc = s.lnc := rfl
@[simp] theorem Dev.onDfe_jobs (f : Dfe → Dfe) : (s.onDfe f).jobs = s.jobs := rfl
@[simp] theorem Dev.onDfe_carriers (f : Dfe → Dfe) : (s.onDfe f).carriers = s.carriers := rfl
@[simp] theorem Dev.onDfe_brx (f : Dfe → Dfe) : (s.onDfe f).brx = s.brx := rfl
@[simp] theorem Dev.onDfe_dma (f : Dfe → Dfe) : (s.onDfe f).dma = s.dma := rfl
@[simp] theorem Dev.onDfe_brg (f : Dfe → Dfe) : (s.onDfe f).brg = s.brg := rfl
@[simp] theorem Dev.onDfe_lan (f : Dfe → Dfe) : (s.onDfe f).lan = s.lan := rfl
@[simp] theorem Dev.onDfe_fab (f : Dfe → Dfe) : (s.onDfe f).fab = s.fab := rfl
@[simp] theorem Dev.onDfe_stc (f : Dfe → Dfe) : (s.onDfe f).stc = s.stc := rfl
@[simp] theorem Dev.onDfe_sec (f : Dfe → Dfe) : (s.onDfe f).sec = s.sec := rfl
@[simp] theorem Dev.onDfe_awdt (f : Dfe → Dfe) : (s.onDfe f).awdt = s.awdt := rfl

@[simp] theorem Dev.onFab_fresh (f : Fabric → Fabric) : (s.onFab f).fresh = s.fresh := rfl
@[simp] theorem Dev.onFab_time (f : Fabric → Fabric) : (s.onFab f).time = s.time := rfl
@[simp] theorem Dev.onFab_elapsed (f : Fabric → Fabric) : (s.onFab f).elapsed = s.elapsed := rfl
@[simp] theorem Dev.onFab_regs (f : Fabric → Fabric) : (s.onFab f).regs = s.regs := rfl
@[simp] theorem Dev.onFab_shadow (f : Fabric → Fabric) : (s.onFab f).shadow = s.shadow := rfl
@[simp] theorem Dev.onFab_doms (f : Fabric → Fabric) : (s.onFab f).doms = s.doms := rfl
@[simp] theorem Dev.onFab_net (f : Fabric → Fabric) : (s.onFab f).net = s.net := rfl
@[simp] theorem Dev.onFab_evq (f : Fabric → Fabric) : (s.onFab f).evq = s.evq := rfl
@[simp] theorem Dev.onFab_tail (f : Fabric → Fabric) : (s.onFab f).tail = s.tail := rfl
@[simp] theorem Dev.onFab_arb (f : Fabric → Fabric) : (s.onFab f).arb = s.arb := rfl
@[simp] theorem Dev.onFab_evSeen (f : Fabric → Fabric) : (s.onFab f).evSeen = s.evSeen := rfl
@[simp] theorem Dev.onFab_out (f : Fabric → Fabric) : (s.onFab f).out = s.out := rfl
@[simp] theorem Dev.onFab_lm (f : Fabric → Fabric) : (s.onFab f).lm = s.lm := rfl
@[simp] theorem Dev.onFab_lmErr (f : Fabric → Fabric) : (s.onFab f).lmErr = s.lmErr := rfl
@[simp] theorem Dev.onFab_ab (f : Fabric → Fabric) : (s.onFab f).ab = s.ab := rfl
@[simp] theorem Dev.onFab_abErr (f : Fabric → Fabric) : (s.onFab f).abErr = s.abErr := rfl
@[simp] theorem Dev.onFab_rm (f : Fabric → Fabric) : (s.onFab f).rm = s.rm := rfl
@[simp] theorem Dev.onFab_queues (f : Fabric → Fabric) : (s.onFab f).queues = s.queues := rfl
@[simp] theorem Dev.onFab_cores (f : Fabric → Fabric) : (s.onFab f).cores = s.cores := rfl
@[simp] theorem Dev.onFab_cmx (f : Fabric → Fabric) : (s.onFab f).cmx = s.cmx := rfl
@[simp] theorem Dev.onFab_regions (f : Fabric → Fabric) : (s.onFab f).regions = s.regions := rfl
@[simp] theorem Dev.onFab_pwr (f : Fabric → Fabric) : (s.onFab f).pwr = s.pwr := rfl
@[simp] theorem Dev.onFab_tim (f : Fabric → Fabric) : (s.onFab f).tim = s.tim := rfl
@[simp] theorem Dev.onFab_tly (f : Fabric → Fabric) : (s.onFab f).tly = s.tly := rfl
@[simp] theorem Dev.onFab_lnc (f : Fabric → Fabric) : (s.onFab f).lnc = s.lnc := rfl
@[simp] theorem Dev.onFab_jobs (f : Fabric → Fabric) : (s.onFab f).jobs = s.jobs := rfl
@[simp] theorem Dev.onFab_carriers (f : Fabric → Fabric) : (s.onFab f).carriers = s.carriers := rfl
@[simp] theorem Dev.onFab_brx (f : Fabric → Fabric) : (s.onFab f).brx = s.brx := rfl
@[simp] theorem Dev.onFab_dma (f : Fabric → Fabric) : (s.onFab f).dma = s.dma := rfl
@[simp] theorem Dev.onFab_brg (f : Fabric → Fabric) : (s.onFab f).brg = s.brg := rfl
@[simp] theorem Dev.onFab_dfe (f : Fabric → Fabric) : (s.onFab f).dfe = s.dfe := rfl
@[simp] theorem Dev.onFab_lan (f : Fabric → Fabric) : (s.onFab f).lan = s.lan := rfl
@[simp] theorem Dev.onFab_stc (f : Fabric → Fabric) : (s.onFab f).stc = s.stc := rfl
@[simp] theorem Dev.onFab_sec (f : Fabric → Fabric) : (s.onFab f).sec = s.sec := rfl
@[simp] theorem Dev.onFab_awdt (f : Fabric → Fabric) : (s.onFab f).awdt = s.awdt := rfl

@[simp] theorem Dev.onStc_fresh (f : Stc → Stc) : (s.onStc f).fresh = s.fresh := rfl
@[simp] theorem Dev.onStc_time (f : Stc → Stc) : (s.onStc f).time = s.time := rfl
@[simp] theorem Dev.onStc_elapsed (f : Stc → Stc) : (s.onStc f).elapsed = s.elapsed := rfl
@[simp] theorem Dev.onStc_regs (f : Stc → Stc) : (s.onStc f).regs = s.regs := rfl
@[simp] theorem Dev.onStc_shadow (f : Stc → Stc) : (s.onStc f).shadow = s.shadow := rfl
@[simp] theorem Dev.onStc_doms (f : Stc → Stc) : (s.onStc f).doms = s.doms := rfl
@[simp] theorem Dev.onStc_net (f : Stc → Stc) : (s.onStc f).net = s.net := rfl
@[simp] theorem Dev.onStc_evq (f : Stc → Stc) : (s.onStc f).evq = s.evq := rfl
@[simp] theorem Dev.onStc_tail (f : Stc → Stc) : (s.onStc f).tail = s.tail := rfl
@[simp] theorem Dev.onStc_arb (f : Stc → Stc) : (s.onStc f).arb = s.arb := rfl
@[simp] theorem Dev.onStc_evSeen (f : Stc → Stc) : (s.onStc f).evSeen = s.evSeen := rfl
@[simp] theorem Dev.onStc_out (f : Stc → Stc) : (s.onStc f).out = s.out := rfl
@[simp] theorem Dev.onStc_lm (f : Stc → Stc) : (s.onStc f).lm = s.lm := rfl
@[simp] theorem Dev.onStc_lmErr (f : Stc → Stc) : (s.onStc f).lmErr = s.lmErr := rfl
@[simp] theorem Dev.onStc_ab (f : Stc → Stc) : (s.onStc f).ab = s.ab := rfl
@[simp] theorem Dev.onStc_abErr (f : Stc → Stc) : (s.onStc f).abErr = s.abErr := rfl
@[simp] theorem Dev.onStc_rm (f : Stc → Stc) : (s.onStc f).rm = s.rm := rfl
@[simp] theorem Dev.onStc_queues (f : Stc → Stc) : (s.onStc f).queues = s.queues := rfl
@[simp] theorem Dev.onStc_cores (f : Stc → Stc) : (s.onStc f).cores = s.cores := rfl
@[simp] theorem Dev.onStc_cmx (f : Stc → Stc) : (s.onStc f).cmx = s.cmx := rfl
@[simp] theorem Dev.onStc_regions (f : Stc → Stc) : (s.onStc f).regions = s.regions := rfl
@[simp] theorem Dev.onStc_pwr (f : Stc → Stc) : (s.onStc f).pwr = s.pwr := rfl
@[simp] theorem Dev.onStc_tim (f : Stc → Stc) : (s.onStc f).tim = s.tim := rfl
@[simp] theorem Dev.onStc_tly (f : Stc → Stc) : (s.onStc f).tly = s.tly := rfl
@[simp] theorem Dev.onStc_lnc (f : Stc → Stc) : (s.onStc f).lnc = s.lnc := rfl
@[simp] theorem Dev.onStc_jobs (f : Stc → Stc) : (s.onStc f).jobs = s.jobs := rfl
@[simp] theorem Dev.onStc_carriers (f : Stc → Stc) : (s.onStc f).carriers = s.carriers := rfl
@[simp] theorem Dev.onStc_brx (f : Stc → Stc) : (s.onStc f).brx = s.brx := rfl
@[simp] theorem Dev.onStc_dma (f : Stc → Stc) : (s.onStc f).dma = s.dma := rfl
@[simp] theorem Dev.onStc_brg (f : Stc → Stc) : (s.onStc f).brg = s.brg := rfl
@[simp] theorem Dev.onStc_dfe (f : Stc → Stc) : (s.onStc f).dfe = s.dfe := rfl
@[simp] theorem Dev.onStc_lan (f : Stc → Stc) : (s.onStc f).lan = s.lan := rfl
@[simp] theorem Dev.onStc_fab (f : Stc → Stc) : (s.onStc f).fab = s.fab := rfl
@[simp] theorem Dev.onStc_sec (f : Stc → Stc) : (s.onStc f).sec = s.sec := rfl
@[simp] theorem Dev.onStc_awdt (f : Stc → Stc) : (s.onStc f).awdt = s.awdt := rfl

@[simp] theorem Dev.onSec_fresh (f : Sec → Sec) : (s.onSec f).fresh = s.fresh := rfl
@[simp] theorem Dev.onSec_time (f : Sec → Sec) : (s.onSec f).time = s.time := rfl
@[simp] theorem Dev.onSec_elapsed (f : Sec → Sec) : (s.onSec f).elapsed = s.elapsed := rfl
@[simp] theorem Dev.onSec_regs (f : Sec → Sec) : (s.onSec f).regs = s.regs := rfl
@[simp] theorem Dev.onSec_shadow (f : Sec → Sec) : (s.onSec f).shadow = s.shadow := rfl
@[simp] theorem Dev.onSec_doms (f : Sec → Sec) : (s.onSec f).doms = s.doms := rfl
@[simp] theorem Dev.onSec_net (f : Sec → Sec) : (s.onSec f).net = s.net := rfl
@[simp] theorem Dev.onSec_evq (f : Sec → Sec) : (s.onSec f).evq = s.evq := rfl
@[simp] theorem Dev.onSec_tail (f : Sec → Sec) : (s.onSec f).tail = s.tail := rfl
@[simp] theorem Dev.onSec_arb (f : Sec → Sec) : (s.onSec f).arb = s.arb := rfl
@[simp] theorem Dev.onSec_evSeen (f : Sec → Sec) : (s.onSec f).evSeen = s.evSeen := rfl
@[simp] theorem Dev.onSec_out (f : Sec → Sec) : (s.onSec f).out = s.out := rfl
@[simp] theorem Dev.onSec_lm (f : Sec → Sec) : (s.onSec f).lm = s.lm := rfl
@[simp] theorem Dev.onSec_lmErr (f : Sec → Sec) : (s.onSec f).lmErr = s.lmErr := rfl
@[simp] theorem Dev.onSec_ab (f : Sec → Sec) : (s.onSec f).ab = s.ab := rfl
@[simp] theorem Dev.onSec_abErr (f : Sec → Sec) : (s.onSec f).abErr = s.abErr := rfl
@[simp] theorem Dev.onSec_rm (f : Sec → Sec) : (s.onSec f).rm = s.rm := rfl
@[simp] theorem Dev.onSec_queues (f : Sec → Sec) : (s.onSec f).queues = s.queues := rfl
@[simp] theorem Dev.onSec_cores (f : Sec → Sec) : (s.onSec f).cores = s.cores := rfl
@[simp] theorem Dev.onSec_cmx (f : Sec → Sec) : (s.onSec f).cmx = s.cmx := rfl
@[simp] theorem Dev.onSec_regions (f : Sec → Sec) : (s.onSec f).regions = s.regions := rfl
@[simp] theorem Dev.onSec_pwr (f : Sec → Sec) : (s.onSec f).pwr = s.pwr := rfl
@[simp] theorem Dev.onSec_tim (f : Sec → Sec) : (s.onSec f).tim = s.tim := rfl
@[simp] theorem Dev.onSec_tly (f : Sec → Sec) : (s.onSec f).tly = s.tly := rfl
@[simp] theorem Dev.onSec_lnc (f : Sec → Sec) : (s.onSec f).lnc = s.lnc := rfl
@[simp] theorem Dev.onSec_jobs (f : Sec → Sec) : (s.onSec f).jobs = s.jobs := rfl
@[simp] theorem Dev.onSec_carriers (f : Sec → Sec) : (s.onSec f).carriers = s.carriers := rfl
@[simp] theorem Dev.onSec_brx (f : Sec → Sec) : (s.onSec f).brx = s.brx := rfl
@[simp] theorem Dev.onSec_dma (f : Sec → Sec) : (s.onSec f).dma = s.dma := rfl
@[simp] theorem Dev.onSec_brg (f : Sec → Sec) : (s.onSec f).brg = s.brg := rfl
@[simp] theorem Dev.onSec_dfe (f : Sec → Sec) : (s.onSec f).dfe = s.dfe := rfl
@[simp] theorem Dev.onSec_lan (f : Sec → Sec) : (s.onSec f).lan = s.lan := rfl
@[simp] theorem Dev.onSec_fab (f : Sec → Sec) : (s.onSec f).fab = s.fab := rfl
@[simp] theorem Dev.onSec_stc (f : Sec → Sec) : (s.onSec f).stc = s.stc := rfl
@[simp] theorem Dev.onSec_awdt (f : Sec → Sec) : (s.onSec f).awdt = s.awdt := rfl

/-! ### What an update writes -/

@[simp] theorem Dev.rget_rset_same (a : Nat) (w : Word) : (s.rset a w).rget a = w := SMap.get_set_same _ _ _ _

theorem Dev.rget_rset_other {a b : Nat} (h : b ≠ a) (w : Word) : (s.rset a w).rget b = s.rget b := SMap.get_set_other _ _ _ _ h

theorem Dev.rget_fput_other {a b : Nat} (h : b ≠ a) (f : Fld) (v : Nat) : (s.fput a f v).rget b = s.rget b := s.rget_rset_other h _

@[simp] theorem Dev.core_setCore_same (n : Nat) (c : Core) : (s.setCore n c).core n = c := SMap.get_set_same _ _ _ _

theorem Dev.core_setCore_other {n k : Nat} (h : k ≠ n) (c : Core) : (s.setCore n c).core k = s.core k :=
  SMap.get_set_other _ _ _ _ h

@[simp] theorem Dev.core_onCore_same (n : Nat) (f : Core → Core) : (s.onCore n f).core n = f (s.core n) := s.core_setCore_same _ _

theorem Dev.core_onCore_other {n k : Nat} (h : k ≠ n) (f : Core → Core) : (s.onCore n f).core k = s.core k :=
  s.core_setCore_other h _

@[simp] theorem Dev.dom_setDom_same (k : Nat) (x : DomSt) : (s.setDom k x).dom k = x := SMap.get_set_same _ _ _ _

theorem Dev.dom_setDom_other {j k : Nat} (h : j ≠ k) (x : DomSt) : (s.setDom k x).dom j = s.dom j := SMap.get_set_other _ _ _ _ h

@[simp] theorem Dev.send_net (b : Bead) : (s.send b).net = s.net ++ [b] := rfl

@[simp] theorem Dev.emit_out (o : Output) : (s.emit o).out = s.out ++ [o] := rfl

/-- A free value is taken and counted; nothing else of the device changes. -/
theorem Dev.free_eq : s.free = (Config.free s.fresh, { s with fresh := s.fresh + 1 }) := rfl

/-- The queue and the device after a command that acts on the device. -/
@[simp] theorem State.act_eq (s : State) (f : Dev → Dev) : s.act f = .next { s with dev := f s.dev } := rfl

/-- A step with a command waiting runs it on the rest of the queue. -/
theorem step_cons (c : Instr) (t : List Instr) (d : Dev) : step ⟨c :: t, d⟩ = exec c ⟨t, d⟩ := rfl

/-- A step with no command waiting is one edge of TCLK. -/
theorem step_nil (d : Dev) : step ⟨[], d⟩ = .next ⟨[], d.tclk⟩ := rfl

/-- OTP is written only by the operations of the island: a first write stays. -/
theorem Dev.otpRow_once (r v k : Nat) {x : Nat} (h : SMap.get s.sec.otp none k = some x) :
    SMap.get (s.otpWrite r v).sec.otp none k = some x := by
  unfold Dev.otpWrite
  split
  · exact h
  · rename_i hr
    by_cases hk : k = r
    · subst hk
      simp [Dev.otpWritten, h] at hr
    · simpa [Dev.onSec, SMap.get_set_other _ _ _ _ hk] using h

end Sys2Proof.Machine
end

