-- ==== Sys2Proof/Laws/Ops.lean ====
section
/-! SUPPORT. What the shared operations do, once each: events, elapsed time, beads that arrive, guarded registers, local memory,
exceptions. -/

namespace Sys2Proof.Machine

/-- While domain 207 is ON an event goes to the arbiter and nothing else changes. -/
theorem Dev.raise_on {s : Dev} (h : s.dom 207 = .on) (code unit : Nat) :
    s.raise code unit = { s with evq := s.evq ++ [(code, unit)] } := by simp [Dev.raise, h]

/-- While domain 207 is not ON an event goes to the island's tail. -/
theorem Dev.raise_off {s : Dev} (h : s.dom 207 ≠ .on) (code unit : Nat) : s.raise code unit = s.tailEvent code unit := by
  simp [Dev.raise, h]

/-- A timer whose end has passed changes nothing. -/
theorem Dev.pass_past {s : Dev} {e : Nat} (h : e ≤ s.elapsed) : s.pass e = s := by
  simp [Dev.pass, Nat.not_lt.mpr h]

/-- After a timer, elapsed time is at its end or beyond. -/
theorem Dev.pass_elapsed (s : Dev) (e : Nat) : (s.pass e).elapsed = max s.elapsed e := by
  unfold Dev.pass
  split
  · show e = max s.elapsed e
    omega
  · omega

/-- The shared time stays in range. -/
theorem Dev.pass_time_lt {s : Dev} (h : s.time < timeMod) (e : Nat) : (s.pass e).time < timeMod := by
  unfold Dev.pass
  split
  · exact Nat.mod_lt _ (by decide)
  · exact h

/-- An undamaged bead that reaches a unit that is present and takes it is served. -/
theorem Dev.arrive_served {s : Dev} {b : Bead} (h1 : b.ok = true) (h2 : s.unitAway b.dunit = false) (k : Dev → Dev) :
    s.arrive b true k = k (s.take b) := by
  have h3 : (s.take b).unitAway b.dunit = false := h2
  simp [Dev.arrive, h1, h3]

/-- A bead of an operation that the unit does not take is answered as to a bad destination. -/
theorem Dev.arrive_other {s : Dev} {b : Bead} (h1 : b.ok = true) (h2 : s.unitAway b.dunit = false) (k : Dev → Dev) :
    s.arrive b false k = (s.take b).badDest b 3 := by
  have h3 : (s.take b).unitAway b.dunit = false := h2
  simp [Dev.arrive, h1, h3]

/-- A bead with a damaged check word is counted and lost. -/
theorem Dev.arrive_bad {s : Dev} {b : Bead} (h1 : b.ok = false) (takes : Bool) (k : Dev → Dev) :
    s.arrive b takes k = (s.take b).count Reg.FAB_BADDST_LO 1 := by simp [Dev.arrive, h1]

/-- A good word of local memory reads as stored and changes nothing. -/
theorem Dev.lmRead_good {s : Dev} {n w : Nat} (h : SMap.get s.lmErr 0 (lmAddr n w) = 0) :
    s.lmRead n w = (some (wordGet s.lm (lmAddr n w)), s) := by simp [Dev.lmRead, h]

/-- A word with a double-bit error gives no value: it is counted and reported. -/
theorem Dev.lmRead_double {s : Dev} {n w k : Nat} (h : SMap.get s.lmErr 0 (lmAddr n w) = k + 2) :
    s.lmRead n w = (none, (s.count (Reg.RCK_LMUE_LO n) 1).raise 0x303 (coreEvt n)) := by simp [Dev.lmRead, h]

/-- A stored word reads back. -/
theorem Dev.lmRead_lmWrite (s : Dev) (n w : Nat) (x : Word) : ((s.lmWrite n w x allLanes).lmRead n w).1 = some x := by
  have h : SMap.get (s.lmWrite n w x allLanes).lmErr 0 (lmAddr n w) = 0 := SMap.get_del_same _ _ _
  rw [Dev.lmRead_good h]
  exact congrArg some (wordGet_wordSet_same s.lm (lmAddr n w) x)

/-- A trap at machine level inside a handler halts the core (R241). -/
theorem Dev.trap_inh {s : Dev} {n : Nat} (h : ((s.squash n).core n).inh = true) (code badl badh : Nat) :
    s.trap n code badl badh = (((s.squash n).rset (Reg.RCK_HALT n) (word (code * 2 ^ 20 + ((s.squash n).core n).pc))).setCore n
      { (s.squash n).core n with st := .halted, hold := none }).raise 0x302 (coreEvt n) := by
  unfold Dev.trap
  simp only [h, if_true]

/-- Any other trap enters the handler. -/
theorem Dev.trap_enter {s : Dev} {n : Nat} (h : ((s.squash n).core n).inh = false) (code badl badh : Nat) :
    s.trap n code badl badh = (s.squash n).setCore n (((s.squash n).core n).enter ((s.squash n).core n).pc code badl badh true) := by
  unfold Dev.trap
  simp only [h, if_false, Bool.false_eq_true]

end Sys2Proof.Machine
end

