-- ==== Sys2Proof/Laws/PerInstr.lean ====
section
/-! SUPPORT. One lemma for each command: the word of a well-formed instruction carries the key of its row (R217 to R220). -/

set_option Elab.async false

namespace Sys2Proof.Laws.Wf
open Sys2Proof.Machine

/-- The words of a well-formed instruction carry its row's key. -/
def Statement (i : Instr) : Prop :=
  i.wf = true → ∀ x k, i.words = some x → i.key = some k → rowKey x.1 x.2 = k

theorem of_none {i : Instr} (h : i.words = none) : Statement i := by
  intro _ x k hx
  rw [h] at hx
  cases hx

theorem of_word {i : Instr} {x : Word × Word} {k : Nat × Nat} (hx : i.words = some x) (hk : i.key = some k)
    (h : i.wf = true → rowKey x.1 x.2 = k) : Statement i := by
  intro hw y l hy hl
  rw [hx] at hy
  rw [hk] at hl
  cases hy
  cases hl
  exact h hw

theorem alu (c : Fin 113) (w : Word) : Statement (.alu c w) := by
  exact of_word rfl rfl fun h => by change (ib w 23 18 == 0) = true at h; simp_all [rowKey]

theorem alux (c : Fin 113) (w : Word) : Statement (.alux c w) := by
  exact of_word rfl rfl fun h => by change (ib w 23 18 == 1) = true at h; simp_all [rowKey]

theorem addi (c : Fin 113) (w : Word) : Statement (.addi c w) := by
  exact of_word rfl rfl fun h => by change (ib w 23 18 == 2) = true at h; simp_all [rowKey]

theorem andi (c : Fin 113) (w : Word) : Statement (.andi c w) := by
  exact of_word rfl rfl fun h => by change (ib w 23 18 == 3) = true at h; simp_all [rowKey]

theorem shi (c : Fin 113) (w : Word) : Statement (.shi c w) := by
  exact of_word rfl rfl fun h => by change (ib w 23 18 == 4) = true at h; simp_all [rowKey]

theorem movi (c : Fin 113) (w : Word) : Statement (.movi c w) := by
  exact of_word rfl rfl fun h => by change (ib w 23 18 == 5) = true at h; simp_all [rowKey]

theorem ldw (c : Fin 113) (w : Word) : Statement (.ldw c w) := by
  exact of_word rfl rfl fun h => by change (ib w 23 18 == 6) = true at h; simp_all [rowKey]

theorem stw (c : Fin 113) (w : Word) : Statement (.stw c w) := by
  exact of_word rfl rfl fun h => by change (ib w 23 18 == 7) = true at h; simp_all [rowKey]

theorem palu (c : Fin 113) (w : Word) : Statement (.palu c w) := by
  exact of_word rfl rfl fun h => by change (ib w 23 18 == 8) = true at h; simp_all [rowKey]

theorem paddi (c : Fin 113) (w : Word) : Statement (.paddi c w) := by
  exact of_word rfl rfl fun h => by change (ib w 23 18 == 9) = true at h; simp_all [rowKey]

theorem br (c : Fin 113) (w : Word) : Statement (.br c w) := by
  exact of_word rfl rfl fun h => by change (ib w 23 18 == 10) = true at h; simp_all [rowKey]

theorem j (c : Fin 113) (w : Word) : Statement (.j c w) := by
  exact of_word rfl rfl fun h => by change (ib w 23 18 == 11) = true at h; simp_all [rowKey]

theorem jr (c : Fin 113) (w : Word) : Statement (.jr c w) := by
  exact of_word rfl rfl fun h => by change (ib w 23 18 == 12 && iF w == 0) = true at h; simp_all [rowKey]

theorem jalr (c : Fin 113) (w : Word) : Statement (.jalr c w) := by
  exact of_word rfl rfl fun h => by change (ib w 23 18 == 12 && iF w == 1) = true at h; simp_all [rowKey]

theorem csrr (c : Fin 113) (w : Word) : Statement (.csrr c w) := by
  exact of_word rfl rfl fun h => by change (ib w 23 18 == 13 && iF w == 0) = true at h; simp_all [rowKey]

theorem csrw (c : Fin 113) (w : Word) : Statement (.csrw c w) := by
  exact of_word rfl rfl fun h => by change (ib w 23 18 == 13 && iF w == 1) = true at h; simp_all [rowKey]

theorem csrs (c : Fin 113) (w : Word) : Statement (.csrs c w) := by
  exact of_word rfl rfl fun h => by change (ib w 23 18 == 13 && iF w == 2) = true at h; simp_all [rowKey]

theorem csrc (c : Fin 113) (w : Word) : Statement (.csrc c w) := by
  exact of_word rfl rfl fun h => by change (ib w 23 18 == 13 && iF w == 3) = true at h; simp_all [rowKey]

theorem ecall (c : Fin 113) (w : Word) : Statement (.ecall c w) := by
  exact of_word rfl rfl fun h => by change (ib w 23 18 == 13 && iF w == 4) = true at h; simp_all [rowKey]

theorem eret (c : Fin 113) (w : Word) : Statement (.eret c w) := by
  exact of_word rfl rfl fun h => by change (ib w 23 18 == 13 && iF w == 5) = true at h; simp_all [rowKey]

theorem waitm (c : Fin 113) (w : Word) : Statement (.waitm c w) := by
  exact of_word rfl rfl fun h => by change (ib w 23 18 == 13 && iF w == 6) = true at h; simp_all [rowKey]

theorem fenceW (c : Fin 113) (w : Word) : Statement (.fenceW c w) := by
  exact of_word rfl rfl fun h => by change (ib w 23 18 == 14 && iF w == 0) = true at h; simp_all [rowKey]

theorem fenceRw (c : Fin 113) (w : Word) : Statement (.fenceRw c w) := by
  exact of_word rfl rfl fun h => by change (ib w 23 18 == 14 && iF w == 1) = true at h; simp_all [rowKey]

theorem fenceI (c : Fin 113) (w : Word) : Statement (.fenceI c w) := by
  exact of_word rfl rfl fun h => by change (ib w 23 18 == 14 && iF w == 2) = true at h; simp_all [rowKey]

theorem kop (c : Fin 113) (w : Word) : Statement (.kop c w) := by
  exact of_word rfl rfl fun h => by change (ib w 23 18 == 15) = true at h; simp_all [rowKey]

theorem vadd (c : Fin 113) (w : Word) : Statement (.vadd c w) := by
  exact of_word rfl rfl fun h => by change (ib w 23 18 == 16) = true at h; simp_all [rowKey]

theorem vsub (c : Fin 113) (w : Word) : Statement (.vsub c w) := by
  exact of_word rfl rfl fun h => by change (ib w 23 18 == 17) = true at h; simp_all [rowKey]

theorem vmul (c : Fin 113) (w : Word) : Statement (.vmul c w) := by
  exact of_word rfl rfl fun h => by change (ib w 23 18 == 18) = true at h; simp_all [rowKey]

theorem vmulj (c : Fin 113) (w : Word) : Statement (.vmulj c w) := by
  exact of_word rfl rfl fun h => by change (ib w 23 18 == 19) = true at h; simp_all [rowKey]

theorem vmac (c : Fin 113) (w : Word) : Statement (.vmac c w) := by
  exact of_word rfl rfl fun h => by change (ib w 23 18 == 20) = true at h; simp_all [rowKey]

theorem vmacj (c : Fin 113) (w : Word) : Statement (.vmacj c w) := by
  exact of_word rfl rfl fun h => by change (ib w 23 18 == 21) = true at h; simp_all [rowKey]

theorem vpow (c : Fin 113) (w : Word) : Statement (.vpow c w) := by
  exact of_word rfl rfl fun h => by change (ib w 23 18 == 22) = true at h; simp_all [rowKey]

theorem vsel (c : Fin 113) (w : Word) : Statement (.vsel c w) := by
  exact of_word rfl rfl fun h => by change (ib w 23 18 == 23) = true at h; simp_all [rowKey]

theorem vld (c : Fin 113) (w : Word) : Statement (.vld c w) := by
  exact of_word rfl rfl fun h => by change (ib w 23 18 == 24) = true at h; simp_all [rowKey]

theorem vst (c : Fin 113) (w : Word) : Statement (.vst c w) := by
  exact of_word rfl rfl fun h => by change (ib w 23 18 == 25) = true at h; simp_all [rowKey]

theorem vshi (c : Fin 113) (w : Word) : Statement (.vshi c w) := by
  exact of_word rfl rfl fun h => by change (ib w 23 18 == 26) = true at h; simp_all [rowKey]

theorem vext (c : Fin 113) (w : Word) : Statement (.vext c w) := by
  exact of_word rfl rfl fun h => by change (ib w 23 18 == 27) = true at h; simp_all [rowKey]

theorem vcmp (c : Fin 113) (w : Word) : Statement (.vcmp c w) := by
  exact of_word rfl rfl fun h => by change (ib w 23 18 == 28) = true at h; simp_all [rowKey]

theorem vbc (c : Fin 113) (w : Word) : Statement (.vbc c w) := by
  exact of_word rfl rfl fun h => by change (ib w 23 18 == 29) = true at h; simp_all [rowKey]

theorem li (c : Fin 113) (w : Word) (e : Word) : Statement (.li c w e) := by
  exact of_word rfl rfl fun h => by change (ib w 23 18 == 32) = true at h; simp_all [rowKey]

theorem lip (c : Fin 113) (w : Word) (e : Word) : Statement (.lip c w e) := by
  exact of_word rfl rfl fun h => by change (ib w 23 18 == 33) = true at h; simp_all [rowKey]

theorem bcc (c : Fin 113) (w : Word) (e : Word) : Statement (.bcc c w e) := by
  exact of_word rfl rfl fun h => by change (ib w 23 18 == 34) = true at h; simp_all [rowKey]

theorem jmp (c : Fin 113) (w : Word) (e : Word) : Statement (.jmp c w e) := by
  exact of_word rfl rfl fun h => by change (ib w 23 18 == 35) = true at h; simp_all [rowKey]

theorem ldb (c : Fin 113) (w : Word) (e : Word) : Statement (.ldb c w e) := by
  exact of_word rfl rfl fun h => by change (ib w 23 18 == 36 && ib w 8 8 == 0) = true at h; simp_all [rowKey]

theorem stb (c : Fin 113) (w : Word) (e : Word) : Statement (.stb c w e) := by
  exact of_word rfl rfl fun h => by change (ib w 23 18 == 36 && ib w 8 8 == 1) = true at h; simp_all [rowKey]

theorem vlds (c : Fin 113) (w : Word) (e : Word) : Statement (.vlds c w e) := by
  exact of_word rfl rfl fun h => by change (ib w 23 18 == 37) = true at h; simp_all [rowKey]

theorem vsts (c : Fin 113) (w : Word) (e : Word) : Statement (.vsts c w e) := by
  exact of_word rfl rfl fun h => by change (ib w 23 18 == 38) = true at h; simp_all [rowKey]

theorem vgath (c : Fin 113) (w : Word) (e : Word) : Statement (.vgath c w e) := by
  exact of_word rfl rfl fun h => by change (ib w 23 18 == 39) = true at h; simp_all [rowKey]

theorem vscat (c : Fin 113) (w : Word) (e : Word) : Statement (.vscat c w e) := by
  exact of_word rfl rfl fun h => by change (ib w 23 18 == 40) = true at h; simp_all [rowKey]

theorem vlog (c : Fin 113) (w : Word) (e : Word) : Statement (.vlog c w e) := by
  exact of_word rfl rfl fun h => by change (ib w 23 18 == 41) = true at h; simp_all [rowKey]

theorem varx (c : Fin 113) (w : Word) (e : Word) : Statement (.varx c w e) := by
  exact of_word rfl rfl fun h => by change (ib w 23 18 == 42) = true at h; simp_all [rowKey]

theorem vcvt (c : Fin 113) (w : Word) (e : Word) : Statement (.vcvt c w e) := by
  exact of_word rfl rfl fun h => by change (ib w 23 18 == 43) = true at h; simp_all [rowKey]

theorem vexp (c : Fin 113) (w : Word) (e : Word) : Statement (.vexp c w e) := by
  exact of_word rfl rfl fun h => by change (ib w 23 18 == 44 && ib e 1 0 == 0) = true at h; simp_all [rowKey]

theorem vshlv (c : Fin 113) (w : Word) (e : Word) : Statement (.vshlv c w e) := by
  exact of_word rfl rfl fun h => by change (ib w 23 18 == 44 && ib e 1 0 == 1) = true at h; simp_all [rowKey]

theorem vshrv (c : Fin 113) (w : Word) (e : Word) : Statement (.vshrv c w e) := by
  exact of_word rfl rfl fun h => by change (ib w 23 18 == 44 && ib e 1 0 == 2) = true at h; simp_all [rowKey]

theorem vperm (c : Fin 113) (w : Word) (e : Word) : Statement (.vperm c w e) := by
  exact of_word rfl rfl fun h => by change (ib w 23 18 == 45) = true at h; simp_all [rowKey]

theorem aclr (c : Fin 113) (w : Word) (e : Word) : Statement (.aclr c w e) := by
  exact of_word rfl rfl fun h => by change (ib w 23 18 == 46 && ib e 1 0 == 0) = true at h; simp_all [rowKey]

theorem ared (c : Fin 113) (w : Word) (e : Word) : Statement (.ared c w e) := by
  exact of_word rfl rfl fun h => by change (ib w 23 18 == 46 && ib e 1 0 == 1) = true at h; simp_all [rowKey]

theorem amov (c : Fin 113) (w : Word) (e : Word) : Statement (.amov c w e) := by
  exact of_word rfl rfl fun h => by change (ib w 23 18 == 46 && ib e 1 0 == 2) = true at h; simp_all [rowKey]

theorem vget (c : Fin 113) (w : Word) (e : Word) : Statement (.vget c w e) := by
  exact of_word rfl rfl fun h => by change (ib w 23 18 == 47 && ib e 4 4 == 0) = true at h; simp_all [rowKey]

theorem vput (c : Fin 113) (w : Word) (e : Word) : Statement (.vput c w e) := by
  exact of_word rfl rfl fun h => by change (ib w 23 18 == 47 && ib e 4 4 == 1) = true at h; simp_all [rowKey]

theorem bsend (c : Fin 113) (w : Word) (e : Word) : Statement (.bsend c w e) := by
  exact of_word rfl rfl fun h => by change (ib w 23 18 == 48) = true at h; simp_all [rowKey]

theorem qpop (c : Fin 113) (w : Word) (e : Word) : Statement (.qpop c w e) := by
  exact of_word rfl rfl fun h => by change (ib w 23 18 == 49 && ib e 11 10 == 0) = true at h; simp_all [rowKey]

theorem qtry (c : Fin 113) (w : Word) (e : Word) : Statement (.qtry c w e) := by
  exact of_word rfl rfl fun h => by change (ib w 23 18 == 49 && ib e 11 10 == 1) = true at h; simp_all [rowKey]

theorem qpush (c : Fin 113) (w : Word) (e : Word) : Statement (.qpush c w e) := by
  exact of_word rfl rfl fun h => by change (ib w 23 18 == 49 && ib e 11 10 == 2) = true at h; simp_all [rowKey]

theorem cmxacq (c : Fin 113) (w : Word) (e : Word) : Statement (.cmxacq c w e) := by
  exact of_word rfl rfl fun h => by change (ib w 23 18 == 52 && ib e 3 0 == 0) = true at h; simp_all [rowKey]

theorem cmxacqt (c : Fin 113) (w : Word) (e : Word) : Statement (.cmxacqt c w e) := by
  exact of_word rfl rfl fun h => by change (ib w 23 18 == 52 && ib e 3 0 == 1) = true at h; simp_all [rowKey]

theorem cmxrel (c : Fin 113) (w : Word) (e : Word) : Statement (.cmxrel c w e) := by
  exact of_word rfl rfl fun h => by change (ib w 23 18 == 52 && ib e 3 0 == 2) = true at h; simp_all [rowKey]

theorem cmxsave (c : Fin 113) (w : Word) (e : Word) : Statement (.cmxsave c w e) := by
  exact of_word rfl rfl fun h => by change (ib w 23 18 == 52 && ib e 3 0 == 3) = true at h; simp_all [rowKey]

theorem cmxrestore (c : Fin 113) (w : Word) (e : Word) : Statement (.cmxrestore c w e) := by
  exact of_word rfl rfl fun h => by change (ib w 23 18 == 52 && ib e 3 0 == 4) = true at h; simp_all [rowKey]

theorem cmxsync (c : Fin 113) (w : Word) (e : Word) : Statement (.cmxsync c w e) := by
  exact of_word rfl rfl fun h => by change (ib w 23 18 == 52 && ib e 3 0 == 5) = true at h; simp_all [rowKey]

theorem cmxlerr (c : Fin 113) (w : Word) (e : Word) : Statement (.cmxlerr c w e) := by
  exact of_word rfl rfl fun h => by change (ib w 23 18 == 52 && ib e 3 0 == 6) = true at h; simp_all [rowKey]

theorem cmxput (c : Fin 113) (w : Word) (e : Word) : Statement (.cmxput c w e) := by
  exact of_word rfl rfl fun h => by change (ib w 23 18 == 53) = true at h; simp_all [rowKey]

theorem cmxget (c : Fin 113) (w : Word) (e : Word) : Statement (.cmxget c w e) := by
  exact of_word rfl rfl fun h => by change (ib w 23 18 == 54) = true at h; simp_all [rowKey]

theorem cmxShape (c : Fin 113) (w : Word) (e : Word) : Statement (.cmxShape c w e) := by
  exact of_word rfl rfl fun h => by change (ib w 23 18 == 55 && ib e 23 20 == 0) = true at h; simp_all [rowKey]

theorem cmxCopy (c : Fin 113) (w : Word) (e : Word) : Statement (.cmxCopy c w e) := by
  exact of_word rfl rfl fun h => by change (ib w 23 18 == 55 && ib e 23 20 == 1) = true at h; simp_all [rowKey]

theorem cmxAdd (c : Fin 113) (w : Word) (e : Word) : Statement (.cmxAdd c w e) := by
  exact of_word rfl rfl fun h => by change (ib w 23 18 == 55 && ib e 23 20 == 2) = true at h; simp_all [rowKey]

theorem cmxSub (c : Fin 113) (w : Word) (e : Word) : Statement (.cmxSub c w e) := by
  exact of_word rfl rfl fun h => by change (ib w 23 18 == 55 && ib e 23 20 == 3) = true at h; simp_all [rowKey]

theorem cmxMul (c : Fin 113) (w : Word) (e : Word) : Statement (.cmxMul c w e) := by
  exact of_word rfl rfl fun h => by change (ib w 23 18 == 55 && ib e 23 20 == 4) = true at h; simp_all [rowKey]

theorem cmxChol (c : Fin 113) (w : Word) (e : Word) : Statement (.cmxChol c w e) := by
  exact of_word rfl rfl fun h => by change (ib w 23 18 == 55 && ib e 23 20 == 5) = true at h; simp_all [rowKey]

theorem cmxTrsl (c : Fin 113) (w : Word) (e : Word) : Statement (.cmxTrsl c w e) := by
  exact of_word rfl rfl fun h => by change (ib w 23 18 == 55 && ib e 23 20 == 6) = true at h; simp_all [rowKey]

theorem cmxInv (c : Fin 113) (w : Word) (e : Word) : Statement (.cmxInv c w e) := by
  exact of_word rfl rfl fun h => by change (ib w 23 18 == 55 && ib e 23 20 == 7) = true at h; simp_all [rowKey]

theorem cmxQr (c : Fin 113) (w : Word) (e : Word) : Statement (.cmxQr c w e) := by
  exact of_word rfl rfl fun h => by change (ib w 23 18 == 55 && ib e 23 20 == 8) = true at h; simp_all [rowKey]

theorem interruptTaken (c : Fin 113) : Statement (.interruptTaken c) := by
  exact of_none rfl

theorem loadResponse (c : Fin 113) : Statement (.loadResponse c) := by
  exact of_none rfl

theorem storeResponse (c : Fin 113) (k : Fin 16) : Statement (.storeResponse c k) := by
  exact of_none rfl

theorem inboxBead (b : Bead) : Statement (.inboxBead b) := by
  exact of_none rfl

theorem waitWake (c : Fin 113) : Statement (.waitWake c) := by
  exact of_none rfl

theorem rodRetainEntry (r : Fin 14) : Statement (.rodRetainEntry r) := by
  exact of_none rfl

theorem cmxacqGrant (r : Fin 14) : Statement (.cmxacqGrant r) := by
  exact of_none rfl

theorem qpopResume (c : Fin 113) : Statement (.qpopResume c) := by
  exact of_none rfl

theorem qpushResume (c : Fin 113) : Statement (.qpushResume c) := by
  exact of_none rfl

theorem cmxCommit (r : Fin 14) : Statement (.cmxCommit r) := by
  exact of_none rfl

theorem rckRunWrite (c : Fin 113) (w : Word) : Statement (.rckRunWrite c w) := by
  exact of_none rfl

theorem rckRst (c : Fin 113) (w : Word) : Statement (.rckRst c w) := by
  exact of_none rfl

theorem rckSoftSet (c : Fin 113) (w : Word) : Statement (.rckSoftSet c w) := by
  exact of_none rfl

theorem cmxRst (r : Fin 14) (w : Word) : Statement (.cmxRst r w) := by
  exact of_none rfl

theorem cmxFrel (r : Fin 14) (w : Word) : Statement (.cmxFrel r w) := by
  exact of_none rfl

theorem localMemInitDone (c : Fin 113) : Statement (.localMemInitDone c) := by
  exact of_none rfl

theorem lncGctlEnWrite (w : Word) : Statement (.lncGctlEnWrite w) := by
  exact of_none rfl

theorem listEnable (n : Fin 64) (w : Word) : Statement (.listEnable n w) := by
  exact of_none rfl

theorem listDisable (n : Fin 64) (w : Word) : Statement (.listDisable n w) := by
  exact of_none rfl

theorem launchInject : Statement .launchInject := by
  exact of_none rfl

theorem fedEntryArrival (n : Fin 64) : Statement (.fedEntryArrival n) := by
  exact of_none rfl

theorem launchHoldEnd : Statement .launchHoldEnd := by
  exact of_none rfl

theorem counterClear (o : Nat) (w : Word) : Statement (.counterClear o w) := by
  exact of_none rfl

theorem jobArrival (b : Bead) : Statement (.jobArrival b) := by
  exact of_none rfl

theorem jobTake (n : Fin 64) : Statement (.jobTake n) := by
  exact of_none rfl

theorem headDeadlineExpire (n : Fin 64) : Statement (.headDeadlineExpire n) := by
  exact of_none rfl

theorem slackWindowEnd : Statement .slackWindowEnd := by
  exact of_none rfl

theorem avsStepAck : Statement .avsStepAck := by
  exact of_none rfl

theorem avsStepTimeout : Statement .avsStepTimeout := by
  exact of_none rfl

theorem pwrServoCtlWrite (w : Word) : Statement (.pwrServoCtlWrite w) := by
  exact of_none rfl

theorem pwrVsetWrite (w : Word) : Statement (.pwrVsetWrite w) := by
  exact of_none rfl

theorem pwrSlackPost (w : Word) : Statement (.pwrSlackPost w) := by
  exact of_none rfl

theorem spcJobEnd (n : Fin 24) (p : Fin 4) : Statement (.spcJobEnd n p) := by
  exact of_none rfl

theorem radJobEnd (n : Fin 8) : Statement (.radJobEnd n) := by
  exact of_none rfl

theorem trbJobEnd (n : Fin 12) : Statement (.trbJobEnd n) := by
  exact of_none rfl

theorem trlJobEnd (n : Fin 16) : Statement (.trlJobEnd n) := by
  exact of_none rfl

theorem encJobEnd (n : Fin 8) : Statement (.encJobEnd n) := by
  exact of_none rfl

theorem jesdLinkError (k : Fin 4) (mb : Option (List (List Nat × Nat))) (a : Nat) (b : Nat) : Statement (.jesdLinkError k mb a b) := by
  exact of_none rfl

theorem subframeGainStep (u : Fin 8) (t : Fin 256) (n : Nat) (n0 : Nat) (xs : List (Int × Int)) : Statement (.subframeGainStep u t n n0 xs) := by
  exact of_none rfl

theorem txSegmentRead (u : Fin 8) (t : Fin 128) (n : Nat) : Statement (.txSegmentRead u t n) := by
  exact of_none rfl

theorem ecpriMessageRx (f : FhFrame) : Statement (.ecpriMessageRx f) := by
  exact of_none rfl

theorem fhZeroFill (u : Fin 8) (t : Fin 256) (k : Nat) (n : Nat) : Statement (.fhZeroFill u t k n) := by
  exact of_none rfl

theorem oranUplaneRx (f : FhFrame) (ext : Bool) : Statement (.oranUplaneRx f ext) := by
  exact of_none rfl

theorem oranSection3Rx (f : FhFrame) (ext : Bool) : Statement (.oranSection3Rx f ext) := by
  exact of_none rfl

theorem fhTxMessage (u : Fin 8) (t : Fin 128) (n : Nat) (k : Nat) : Statement (.fhTxMessage u t n k) := by
  exact of_none rfl

theorem ecpriDelayRequest (f : FhFrame) : Statement (.ecpriDelayRequest f) := by
  exact of_none rfl

theorem delayMeasureRequest (b : Bead) : Statement (.delayMeasureRequest b) := by
  exact of_none rfl

theorem delayMeasureAnswer (f : FhFrame) : Statement (.delayMeasureAnswer f) := by
  exact of_none rfl

theorem delayMeasureTimeout (tag : Nat) : Statement (.delayMeasureTimeout tag) := by
  exact of_none rfl

theorem nfBlockEnd (u : Fin 8) (t : Fin 256) (n : Nat) (n0 : Nat) (xs : List (Int × Int)) : Statement (.nfBlockEnd u t n n0 xs) := by
  exact of_none rfl

theorem nfStaleTimeout (u : Fin 8) (t : Fin 256) : Statement (.nfStaleTimeout u t) := by
  exact of_none rfl

theorem crossing (det : Fin 16) (slot : Fin 16) (tau : Nat) (fi : Int) (k0 : Nat) (rx : List (List (Int × Int))) : Statement (.crossing det slot tau fi k0 rx) := by
  exact of_none rfl

theorem syncCheck (x : Fin 2048) (k0 : Nat) (rx : List (List (Int × Int))) : Statement (.syncCheck x k0 rx) := by
  exact of_none rfl

theorem headerDecode (x : Fin 2048) : Statement (.headerDecode x) := by
  exact of_none rfl

theorem pilotUpdate (x : Fin 2048) (k0 : Nat) (rx : List (List (Int × Int))) : Statement (.pilotUpdate x k0 rx) := by
  exact of_none rfl

theorem closingPilot (x : Fin 2048) : Statement (.closingPilot x) := by
  exact of_none rfl

theorem instanceDecodeResult (x : Fin 2048) (b : Bead) : Statement (.instanceDecodeResult x b) := by
  exact of_none rfl

theorem partnerEnded (x : Fin 2048) : Statement (.partnerEnded x) := by
  exact of_none rfl

theorem sicholdExpire (x : Fin 2048) : Statement (.sicholdExpire x) := by
  exact of_none rfl

theorem ackRequestBead (b : Bead) (rseq : Nat) (dev : Nat) (rate : Nat) (rep : Nat) (more : Nat) (bytes : List Nat) : Statement (.ackRequestBead b rseq dev rate rep more bytes) := by
  exact of_none rfl

theorem ackCutoff (rseq : Nat) : Statement (.ackCutoff rseq) := by
  exact of_none rfl

theorem ackLaunch (rseq : Nat) : Statement (.ackLaunch rseq) := by
  exact of_none rfl

theorem jnoticeRx (b : Bead) : Statement (.jnoticeRx b) := by
  exact of_none rfl

theorem jointElection (x : Fin 2048) : Statement (.jointElection x) := by
  exact of_none rfl

theorem jsampleRx (b : Bead) : Statement (.jsampleRx b) := by
  exact of_none rfl

theorem jacceptRx (b : Bead) : Statement (.jacceptRx b) := by
  exact of_none rfl

theorem jointWaitExpire (x : Fin 2048) : Statement (.jointWaitExpire x) := by
  exact of_none rfl

theorem carrierSearchDisable (det : Fin 16) (slot : Fin 16) : Statement (.carrierSearchDisable det slot) := by
  exact of_none rfl

theorem hostItemBead (b : Bead) (h : HostItem) : Statement (.hostItemBead b h) := by
  exact of_none rfl

theorem carrierStatusBead (carrier : Nat) (n : Nat) : Statement (.carrierStatusBead carrier n) := by
  exact of_none rfl

theorem memRequest (a : MemAccess) : Statement (.memRequest a) := by
  exact of_none rfl

theorem pageDecodeEnd (b : Fin 32) : Statement (.pageDecodeEnd b) := by
  exact of_none rfl

theorem scrubStep : Statement .scrubStep := by
  exact of_none rfl

theorem scrubCtlWrite (w : Word) : Statement (.scrubCtlWrite w) := by
  exact of_none rfl

theorem reencodeCmd (w : Word) : Statement (.reencodeCmd w) := by
  exact of_none rfl

theorem reencodePage : Statement .reencodePage := by
  exact of_none rfl

theorem remapCmd (w : Word) : Statement (.remapCmd w) := by
  exact of_none rfl

theorem flipArm (w : Word) : Statement (.flipArm w) := by
  exact of_none rfl

theorem flushCmd (w : Word) : Statement (.flushCmd w) := by
  exact of_none rfl

theorem flushDone : Statement .flushDone := by
  exact of_none rfl

theorem memInitDone : Statement .memInitDone := by
  exact of_none rfl

theorem dmaStart (r : Req) (e : Fin 2) (c : Fin 64) (w : Word) : Statement (.dmaStart r e c w) := by
  exact of_none rfl

theorem dmaStartLoad (r : Req) (e : Fin 2) (c : Fin 64) (w : Word) : Statement (.dmaStartLoad r e c w) := by
  exact of_none rfl

theorem dmaStop (r : Req) (e : Fin 2) (c : Fin 64) (w : Word) : Statement (.dmaStop r e c w) := by
  exact of_none rfl

theorem dmaDescLoaded (e : Fin 2) (c : Fin 64) : Statement (.dmaDescLoaded e c) := by
  exact of_none rfl

theorem dmaBeatIssue (e : Fin 2) (write : Bool) : Statement (.dmaBeatIssue e write) := by
  exact of_none rfl

theorem dmaReadResponse (e : Fin 2) (c : Fin 64) (j : Nat) (remote : Option Bead) : Statement (.dmaReadResponse e c j remote) := by
  exact of_none rfl

theorem dmaWriteResponse (e : Fin 2) (c : Fin 64) (j : Nat) (remote : Option Bead) : Statement (.dmaWriteResponse e c j remote) := by
  exact of_none rfl

theorem dmaRemoteTimeout (e : Fin 2) (c : Fin 64) (tag : Nat) : Statement (.dmaRemoteTimeout e c tag) := by
  exact of_none rfl

theorem queueBeadRx (b : Bead) : Statement (.queueBeadRx b) := by
  exact of_none rfl

theorem queReset (n : Fin 1024) : Statement (.queReset n) := by
  exact of_none rfl

theorem stcFullLoad (w : Word) : Statement (.stcFullLoad w) := by
  exact of_none rfl

theorem stcSliceLoad (w : Word) : Statement (.stcSliceLoad w) := by
  exact of_none rfl

theorem stcVerifyEnd : Statement .stcVerifyEnd := by
  exact of_none rfl

theorem stcApplyEnd : Statement .stcApplyEnd := by
  exact of_none rfl

theorem stcDrainack (r : Req) (w : Word) : Statement (.stcDrainack r w) := by
  exact of_none rfl

theorem stcDrainTimeout : Statement .stcDrainTimeout := by
  exact of_none rfl

theorem stcFence (r : Req) (w : Word) : Statement (.stcFence r w) := by
  exact of_none rfl

theorem timCmdSet (r : Req) : Statement (.timCmdSet r) := by
  exact of_none rfl

theorem timCmdSetpps (r : Req) : Statement (.timCmdSetpps r) := by
  exact of_none rfl

theorem timCmdStep (r : Req) : Statement (.timCmdStep r) := by
  exact of_none rfl

theorem timCmdSlew (r : Req) : Statement (.timCmdSlew r) := by
  exact of_none rfl

theorem timCmdCancel (r : Req) : Statement (.timCmdCancel r) := by
  exact of_none rfl

theorem slewEnd : Statement .slewEnd := by
  exact of_none rfl

theorem timIncCommit (r : Req) (w : Word) : Statement (.timIncCommit r w) := by
  exact of_none rfl

theorem timMultChange (r : Req) (w : Word) : Statement (.timMultChange r w) := by
  exact of_none rfl

theorem timValidWrite (r : Req) (w : Word) : Statement (.timValidWrite r w) := by
  exact of_none rfl

theorem refLoss : Statement .refLoss := by
  exact of_none rfl

theorem refRelock (hz : Nat) : Statement (.refRelock hz) := by
  exact of_none rfl

theorem ppsInEdge (rising : Bool) (width : Nat) (err : Int) : Statement (.ppsInEdge rising width err) := by
  exact of_none rfl

theorem ppsInTimeout : Statement .ppsInTimeout := by
  exact of_none rfl

theorem ppsOutPulse : Statement .ppsOutPulse := by
  exact of_none rfl

theorem compareDue (k : Fin 16) : Statement (.compareDue k) := by
  exact of_none rfl

theorem compareTargetCommit (k : Fin 16) (w : Word) : Statement (.compareTargetCommit k w) := by
  exact of_none rfl

theorem tlyArm (w : Word) : Statement (.tlyArm w) := by
  exact of_none rfl

theorem tlyTargetDue : Statement .tlyTargetDue := by
  exact of_none rfl

theorem tlyComplete : Statement .tlyComplete := by
  exact of_none rfl

theorem eventAccept : Statement .eventAccept := by
  exact of_none rfl

theorem evtTailAdvance (w : Word) : Statement (.evtTailAdvance w) := by
  exact of_none rfl

theorem portLinkChange (p : Fin 16) (up : Bool) (andone : Bool) (feclock : Bool) (peer : Nat) : Statement (.portLinkChange p up andone feclock peer) := by
  exact of_none rfl

theorem frameReceived (p : Fin 16) (l : List Nat) (fcsOk : Bool) (back : Nat) (err : Int) (sc : Nat) : Statement (.frameReceived p l fcsOk back err sc) := by
  exact of_none rfl

theorem egressSelect (p : Fin 16) : Statement (.egressSelect p) := by
  exact of_none rfl

theorem frameTxEnd (p : Fin 16) (err : Int) : Statement (.frameTxEnd p err) := by
  exact of_none rfl

theorem gateIntervalEnd (p : Fin 16) : Statement (.gateIntervalEnd p) := by
  exact of_none rfl

theorem gclSubmit (p : Fin 16) (w : Word) : Statement (.gclSubmit p w) := by
  exact of_none rfl

theorem gclChange (p : Fin 16) : Statement (.gclChange p) := by
  exact of_none rfl

theorem shaperRefill (p : Fin 16) : Statement (.shaperRefill p) := by
  exact of_none rfl

theorem txframeBead (b : Bead) : Statement (.txframeBead b) := by
  exact of_none rfl

theorem beadToHost (b : Bead) : Statement (.beadToHost b) := by
  exact of_none rfl

theorem beadFrameHoldExpire (h : Fin 16) : Statement (.beadFrameHoldExpire h) := by
  exact of_none rfl

theorem fdbRead (w : Word) : Statement (.fdbRead w) := by
  exact of_none rfl

theorem fdbWrite (w : Word) : Statement (.fdbWrite w) := by
  exact of_none rfl

theorem fdbDelete (w : Word) : Statement (.fdbDelete w) := by
  exact of_none rfl

theorem fdbFlush (w : Word) : Statement (.fdbFlush w) := by
  exact of_none rfl

theorem fdbAgeOut (vid : Nat) (mac : Nat) : Statement (.fdbAgeOut vid mac) := by
  exact of_none rfl

theorem laneRetrain (l : Fin 64) (w : Word) : Statement (.laneRetrain l w) := by
  exact of_none rfl

theorem laneTrainDone (l : Fin 64) : Statement (.laneTrainDone l) := by
  exact of_none rfl

theorem laneRst (l : Fin 64) (w : Word) : Statement (.laneRst l w) := by
  exact of_none rfl

theorem laneAlign (l : Fin 64) : Statement (.laneAlign l) := by
  exact of_none rfl

theorem laneAlignLoss (l : Fin 64) : Statement (.laneAlignLoss l) := by
  exact of_none rfl

theorem portDeskew (p : Fin 16) (arrivals : List Nat) : Statement (.portDeskew p arrivals) := by
  exact of_none rfl

theorem laneMarkerRx (l : Fin 64) (ui : Nat) (slot : List Bool) : Statement (.laneMarkerRx l ui slot) := by
  exact of_none rfl

theorem quadRefLoss (q : Fin 16) : Statement (.quadRefLoss q) := by
  exact of_none rfl

theorem quadRefReturn (q : Fin 16) (hz : Nat) : Statement (.quadRefReturn q hz) := by
  exact of_none rfl

theorem laneLockLoss (l : Fin 64) : Statement (.laneLockLoss l) := by
  exact of_none rfl

theorem laneSignalDetect (l : Fin 64) : Statement (.laneSignalDetect l) := by
  exact of_none rfl

theorem laneExitTimeout (l : Fin 64) : Statement (.laneExitTimeout l) := by
  exact of_none rfl

theorem eyeGo (q : Fin 16) (w : Word) : Statement (.eyeGo q w) := by
  exact of_none rfl

theorem eyePointEnd (q : Fin 16) (n : Nat) (e : Nat) : Statement (.eyePointEnd q n e) := by
  exact of_none rfl

theorem spareGo (q : Fin 16) (w : Word) : Statement (.spareGo q w) := by
  exact of_none rfl

theorem spareAuto (l : Fin 64) : Statement (.spareAuto l) := by
  exact of_none rfl

theorem cellRx (l : Fin 64) (slot : List Bool) (ui : Nat) : Statement (.cellRx l slot ui) := by
  exact of_none rfl

theorem idleCellTimer (p : Fin 16) : Statement (.idleCellTimer p) := by
  exact of_none rfl

theorem replayTimeout (p : Fin 16) : Statement (.replayTimeout p) := by
  exact of_none rfl

theorem portDownTimeout (p : Fin 16) : Statement (.portDownTimeout p) := by
  exact of_none rfl

theorem helloTimer (p : Fin 16) : Statement (.helloTimer p) := by
  exact of_none rfl

theorem helloRx (p : Fin 16) (b : Bead) : Statement (.helloRx p b) := by
  exact of_none rfl

theorem lsaTimer : Statement .lsaTimer := by
  exact of_none rfl

theorem lsaRx (b : Bead) : Statement (.lsaRx b) := by
  exact of_none rfl

theorem numberTimer : Statement .numberTimer := by
  exact of_none rfl

theorem numberRx (b : Bead) : Statement (.numberRx b) := by
  exact of_none rfl

theorem routeWrite (t : Fin 1024) (w : Word) : Statement (.routeWrite t w) := by
  exact of_none rfl

theorem routeSettleEnd (t : Fin 1024) : Statement (.routeSettleEnd t) := by
  exact of_none rfl

theorem beadRoute (b : Bead) : Statement (.beadRoute b) := by
  exact of_none rfl

theorem regrd (b : Bead) : Statement (.regrd b) := by
  exact of_none rfl

theorem regwr (b : Bead) : Statement (.regwr b) := by
  exact of_none rfl

theorem memrd (b : Bead) : Statement (.memrd b) := by
  exact of_none rfl

theorem memwr (b : Bead) : Statement (.memwr b) := by
  exact of_none rfl

theorem bcastRx (p : Fin 16) (b : Bead) : Statement (.bcastRx p b) := by
  exact of_none rfl

theorem tsyncTimer (p : Fin 16) : Statement (.tsyncTimer p) := by
  exact of_none rfl

theorem tsyncRx (p : Fin 16) (b : Bead) : Statement (.tsyncRx p b) := by
  exact of_none rfl

theorem poolcmdTally (b : Bead) : Statement (.poolcmdTally b) := by
  exact of_none rfl

theorem poolcmdColdReset (b : Bead) : Statement (.poolcmdColdReset b) := by
  exact of_none rfl

theorem modeEntry : Statement .modeEntry := by
  exact of_none rfl

theorem modeCommit (grp : Bool) : Statement (.modeCommit grp) := by
  exact of_none rfl

theorem pwrEntryTimeout (grp : Bool) : Statement (.pwrEntryTimeout grp) := by
  exact of_none rfl

theorem pwrGrpcmd (w : Word) : Statement (.pwrGrpcmd w) := by
  exact of_none rfl

theorem padRelease (w : Word) : Statement (.padRelease w) := by
  exact of_none rfl

theorem wakeNRequest : Statement .wakeNRequest := by
  exact of_none rfl

theorem wakeRetryTimer : Statement .wakeRetryTimer := by
  exact of_none rfl

theorem wakePgRise (back : Bool) : Statement (.wakePgRise back) := by
  exact of_none rfl

theorem wakeRegTimeout : Statement .wakeRegTimeout := by
  exact of_none rfl

theorem wakeSettleEnd : Statement .wakeSettleEnd := by
  exact of_none rfl

theorem wakeOscTimeout : Statement .wakeOscTimeout := by
  exact of_none rfl

theorem wakeDomainsUp (bootsel : Fin 4) : Statement (.wakeDomainsUp bootsel) := by
  exact of_none rfl

theorem railLow (back : Bool) (pg : Bool) : Statement (.railLow back pg) := by
  exact of_none rfl

theorem supSwback (w : Word) : Statement (.supSwback w) := by
  exact of_none rfl

theorem supSwtest (w : Word) : Statement (.supSwtest w) := by
  exact of_none rfl

theorem supEnableWrite (w : Word) : Statement (.supEnableWrite w) := by
  exact of_none rfl

theorem brownout : Statement .brownout := by
  exact of_none rfl

theorem avsReadbackTimer (mvMain : Nat) (mvBack : Nat) (faultMain : Bool) (faultBack : Bool) : Statement (.avsReadbackTimer mvMain mvBack faultMain faultBack) := by
  exact of_none rfl

theorem avsAlert (back : Bool) : Statement (.avsAlert back) := by
  exact of_none rfl

theorem secSelftestEnd (bad : Option Nat) : Statement (.secSelftestEnd bad) := by
  exact of_none rfl

theorem bootImageFetched (flash : List (Nat × List Nat)) : Statement (.bootImageFetched flash) := by
  exact of_none rfl

theorem hostwaitExpire : Statement .hostwaitExpire := by
  exact of_none rfl

theorem bootreqTimer : Statement .bootreqTimer := by
  exact of_none rfl

theorem bootgo (b : Bead) : Statement (.bootgo b) := by
  exact of_none rfl

theorem secBootok (r : Req) (w : Word) : Statement (.secBootok r w) := by
  exact of_none rfl

theorem bootWdtExpire : Statement .bootWdtExpire := by
  exact of_none rfl

theorem cmdWriteSlot (r : Req) (w : Word) : Statement (.cmdWriteSlot r w) := by
  exact of_none rfl

theorem cmdRevoke (r : Req) (w : Word) : Statement (.cmdRevoke r w) := by
  exact of_none rfl

theorem cmdAdvance (r : Req) (w : Word) : Statement (.cmdAdvance r w) := by
  exact of_none rfl

theorem cmdLifecycle (r : Req) (w : Word) : Statement (.cmdLifecycle r w) := by
  exact of_none rfl

theorem cmdDebug (r : Req) (w : Word) : Statement (.cmdDebug r w) := by
  exact of_none rfl

theorem cmdPolicy (r : Req) (w : Word) : Statement (.cmdPolicy r w) := by
  exact of_none rfl

theorem cmdScrap (r : Req) (w : Word) : Statement (.cmdScrap r w) := by
  exact of_none rfl

theorem secAttest (r : Req) (w : Word) : Statement (.secAttest r w) := by
  exact of_none rfl

theorem secFetch (r : Req) (w : Word) (flash : List (Nat × List Nat)) : Statement (.secFetch r w flash) := by
  exact of_none rfl

theorem sakInstall (r : Req) (w : Word) : Statement (.sakInstall r w) := by
  exact of_none rfl

theorem sessionOpen (b : Bead) (buf : Nat) : Statement (.sessionOpen b buf) := by
  exact of_none rfl

theorem sessionAccept (b : Bead) (n : Nat) (slot : Nat) (ct : List Nat) (keys : List Nat) (sigs : List Nat) : Statement (.sessionAccept b n slot ct keys sigs) := by
  exact of_none rfl

theorem sessionClose (b : Bead) (n : Nat) : Statement (.sessionClose b n) := by
  exact of_none rfl

theorem sessionBead (b : Bead) : Statement (.sessionBead b) := by
  exact of_none rfl

theorem tamperDetect (sensor : Fin 7) : Statement (.tamperDetect sensor) := by
  exact of_none rfl

theorem vstbyRise (low : Bool) : Statement (.vstbyRise low) := by
  exact of_none rfl

theorem resetNLow : Statement .resetNLow := by
  exact of_none rfl

theorem resetNRelease : Statement .resetNRelease := by
  exact of_none rfl

theorem rstCmdWarm (r : Req) (w : Word) : Statement (.rstCmdWarm r w) := by
  exact of_none rfl

theorem rstCmdCold (r : Req) (w : Word) : Statement (.rstCmdCold r w) := by
  exact of_none rfl

theorem rstCmdUnit (r : Req) (w : Word) : Statement (.rstCmdUnit r w) := by
  exact of_none rfl

theorem warmResponsesCollected : Statement .warmResponsesCollected := by
  exact of_none rfl

theorem awdtExpire : Statement .awdtExpire := by
  exact of_none rfl

theorem awdtKick (w : Word) : Statement (.awdtKick w) := by
  exact of_none rfl

theorem regWrite (r : Req) (o : Nat) (w : Word) (lanes : Fin 8) : Statement (.regWrite r o w lanes) := by
  exact of_none rfl

theorem sysrefEdge (k : Fin 4) (n : Nat) : Statement (.sysrefEdge k n) := by
  exact of_none rfl

theorem jesdLinkUp (k : Fin 4) (t : Nat) : Statement (.jesdLinkUp k t) := by
  exact of_none rfl

theorem frameLaunchDue (p : Fin 16) : Statement (.frameLaunchDue p) := by
  exact of_none rfl

theorem standbySetFail : Statement .standbySetFail := by
  exact of_none rfl

theorem standbySetGood : Statement .standbySetGood := by
  exact of_none rfl

theorem eyeGapEnd (q : Fin 16) : Statement (.eyeGapEnd q) := by
  exact of_none rfl

theorem bootOrderRestart : Statement .bootOrderRestart := by
  exact of_none rfl

end Sys2Proof.Laws.Wf
end

