-- ==== Sys2Proof/Tests/Slice0.lean ====
section
/-! SUPPORT. Tests of single commands on small states, expected results taken from the spec, and for every statement with hypotheses a
witness: states and operands that meet them. The states are built on the reset state by the helpers at the top. -/

set_option Elab.async false

namespace Sys2Proof.Tests
open Sys2Proof Sys2Proof.Machine

/-! ### Helpers -/

/-- The device of an answer. -/
def after (o : Host.Outcome State Fault Refusal) : Dev :=
  match o with
  | .next t => t.dev
  | _ => devBoot

/-- A state with an empty queue. -/
def st (d : Dev) : State := ⟨[], d⟩

/-- A first instruction word by its fields: opcode [23:18], d [17:13], a [12:8], b [7:3], F [2:0] (R217). -/
def iw (op d a b f : Nat) : Word := word (op * 2 ^ 18 + d * 2 ^ 13 + a * 2 ^ 8 + b * 2 ^ 3 + f)

/-- A device on which core `n` runs with state `k`. -/
def running (d : Dev) (n : Nat) (k : Core) : Dev :=
  ((d.setDom (if n = 112 then 210 else n) .on).fset (Reg.RCK_CTL n) Reg.RCK_CTL_RUN_f true).setCore n { k with st := .run }

/-- A register word with one field set. -/
def fw (f : Fld) (v : Nat) : Word := putF 0 f v

/-- Core 3 at PC 5 with g1 = 7, g2 = -1 and g3 = 0x400000. -/
def core3 : Core := { coreDef with pc := 5, g := [(1, 7#24), (2, 0xFFFFFF#24), (3, 0x400000#24)] }

/-- The reset device with core 3 running. -/
def dev3 : Dev := running devBoot 3 core3

/-- The reset device with core 3 running in complex elements of 16 bits. -/
def vec3 : Dev := running devBoot 3 { core3 with csr := [(0, 0x400000#24)] }

/-! ### Ill-formed terms: one for each kind of check -/

theorem wf_accepts_spec_words : (Instr.vgath 3 0x9D8890 0x000000).wf = true ∧ (Instr.cmxChol 3 0xDDA000 0x504000).wf = true ∧
    (Instr.rstCmdWarm (.local 0x7F) 0x800000).wf = true := by decide +kernel

/-- The check of each row refuses a term: another opcode, function, second word, field or range. -/
theorem wf_rejects_1 : ∀ i ∈ ([
    .alu 0 (word (1 * 2 ^ 18)), .alux 0 (word (2 * 2 ^ 18)), .addi 0 (word (3 * 2 ^ 18)), .andi 0 (word (4 * 2 ^ 18)),
    .shi 0 (word (5 * 2 ^ 18)), .movi 0 (word (6 * 2 ^ 18)), .ldw 0 (word (7 * 2 ^ 18)), .stw 0 (word (8 * 2 ^ 18)),
    .palu 0 (word (9 * 2 ^ 18)), .paddi 0 (word (10 * 2 ^ 18)), .br 0 (word (11 * 2 ^ 18)), .j 0 (word (12 * 2 ^ 18)),
    .jr 0 (word (13 * 2 ^ 18)), .jr 0 (word (12 * 2 ^ 18 + 1 + 0 * 2 ^ 8)), .jalr 0 (word (13 * 2 ^ 18)),
    .jalr 0 (word (12 * 2 ^ 18 + 2 + 0 * 2 ^ 8)), .csrr 0 (word (14 * 2 ^ 18)),
    .csrr 0 (word (13 * 2 ^ 18 + 1 + 0 * 2 ^ 8)), .csrw 0 (word (14 * 2 ^ 18)),
    .csrw 0 (word (13 * 2 ^ 18 + 2 + 0 * 2 ^ 8)), .csrs 0 (word (14 * 2 ^ 18)),
    .csrs 0 (word (13 * 2 ^ 18 + 3 + 0 * 2 ^ 8)), .csrc 0 (word (14 * 2 ^ 18)),
    .csrc 0 (word (13 * 2 ^ 18 + 4 + 0 * 2 ^ 8)), .ecall 0 (word (14 * 2 ^ 18)),
    .ecall 0 (word (13 * 2 ^ 18 + 5 + 0 * 2 ^ 8)), .eret 0 (word (14 * 2 ^ 18)),
    .eret 0 (word (13 * 2 ^ 18 + 6 + 0 * 2 ^ 8)), .waitm 0 (word (14 * 2 ^ 18)),
    .waitm 0 (word (13 * 2 ^ 18 + 7 + 0 * 2 ^ 8))] : List Instr), i.wf = false := by decide +kernel

/-- The check of each row refuses a term: another opcode, function, second word, field or range. -/
theorem wf_rejects_2 : ∀ i ∈ ([
    .fenceW 0 (word (15 * 2 ^ 18)), .fenceW 0 (word (14 * 2 ^ 18 + 1 + 0 * 2 ^ 8)), .fenceRw 0 (word (15 * 2 ^ 18)),
    .fenceRw 0 (word (14 * 2 ^ 18 + 2 + 0 * 2 ^ 8)), .fenceI 0 (word (15 * 2 ^ 18)),
    .fenceI 0 (word (14 * 2 ^ 18 + 3 + 0 * 2 ^ 8)), .kop 0 (word (16 * 2 ^ 18)), .vadd 0 (word (17 * 2 ^ 18)),
    .vsub 0 (word (18 * 2 ^ 18)), .vmul 0 (word (19 * 2 ^ 18)), .vmulj 0 (word (20 * 2 ^ 18)), .vmac 0 (word (21 * 2 ^ 18)),
    .vmacj 0 (word (22 * 2 ^ 18)), .vpow 0 (word (23 * 2 ^ 18)), .vsel 0 (word (24 * 2 ^ 18)), .vld 0 (word (25 * 2 ^ 18)),
    .vst 0 (word (26 * 2 ^ 18)), .vshi 0 (word (27 * 2 ^ 18)), .vext 0 (word (28 * 2 ^ 18)), .vcmp 0 (word (29 * 2 ^ 18)),
    .vbc 0 (word (30 * 2 ^ 18)), .li 0 (word (33 * 2 ^ 18)) 0, .lip 0 (word (34 * 2 ^ 18)) 0, .bcc 0 (word (35 * 2 ^ 18)) 0,
    .jmp 0 (word (36 * 2 ^ 18)) 0, .ldb 0 (word (37 * 2 ^ 18)) 0, .ldb 0 (word (36 * 2 ^ 18 + 0 + 1 * 2 ^ 8)) 0,
    .stb 0 (word (37 * 2 ^ 18)) 0, .stb 0 (word (36 * 2 ^ 18 + 0 + 0 * 2 ^ 8)) 0, .vlds 0 (word (38 * 2 ^ 18)) 0] : List Instr), i.wf = false := by decide +kernel

/-- The check of each row refuses a term: another opcode, function, second word, field or range. -/
theorem wf_rejects_3 : ∀ i ∈ ([
    .vsts 0 (word (39 * 2 ^ 18)) 0, .vgath 0 (word (40 * 2 ^ 18)) 0, .vscat 0 (word (41 * 2 ^ 18)) 0,
    .vlog 0 (word (42 * 2 ^ 18)) 0, .varx 0 (word (43 * 2 ^ 18)) 0, .vcvt 0 (word (44 * 2 ^ 18)) 0,
    .vexp 0 (word (45 * 2 ^ 18)) 0, .vexp 0 (word (44 * 2 ^ 18 + 0 + 0 * 2 ^ 8)) (word (1 * 2 ^ 0)),
    .vshlv 0 (word (45 * 2 ^ 18)) 0, .vshlv 0 (word (44 * 2 ^ 18 + 0 + 0 * 2 ^ 8)) (word (0 * 2 ^ 0)),
    .vshrv 0 (word (45 * 2 ^ 18)) 0, .vshrv 0 (word (44 * 2 ^ 18 + 0 + 0 * 2 ^ 8)) (word (0 * 2 ^ 0)),
    .vperm 0 (word (46 * 2 ^ 18)) 0, .aclr 0 (word (47 * 2 ^ 18)) 0,
    .aclr 0 (word (46 * 2 ^ 18 + 0 + 0 * 2 ^ 8)) (word (1 * 2 ^ 0)), .ared 0 (word (47 * 2 ^ 18)) 0,
    .ared 0 (word (46 * 2 ^ 18 + 0 + 0 * 2 ^ 8)) (word (0 * 2 ^ 0)), .amov 0 (word (47 * 2 ^ 18)) 0,
    .amov 0 (word (46 * 2 ^ 18 + 0 + 0 * 2 ^ 8)) (word (0 * 2 ^ 0)), .vget 0 (word (48 * 2 ^ 18)) 0,
    .vget 0 (word (47 * 2 ^ 18 + 0 + 0 * 2 ^ 8)) (word (1 * 2 ^ 4)), .vput 0 (word (48 * 2 ^ 18)) 0,
    .vput 0 (word (47 * 2 ^ 18 + 0 + 0 * 2 ^ 8)) (word (0 * 2 ^ 4)), .bsend 0 (word (49 * 2 ^ 18)) 0,
    .qpop 0 (word (50 * 2 ^ 18)) 0, .qpop 0 (word (49 * 2 ^ 18 + 0 + 0 * 2 ^ 8)) (word (1 * 2 ^ 10)),
    .qtry 0 (word (50 * 2 ^ 18)) 0, .qtry 0 (word (49 * 2 ^ 18 + 0 + 0 * 2 ^ 8)) (word (0 * 2 ^ 10)),
    .qpush 0 (word (50 * 2 ^ 18)) 0, .qpush 0 (word (49 * 2 ^ 18 + 0 + 0 * 2 ^ 8)) (word (0 * 2 ^ 10))] : List Instr), i.wf = false := by decide +kernel

/-- The check of each row refuses a term: another opcode, function, second word, field or range. -/
theorem wf_rejects_4 : ∀ i ∈ ([
    .cmxacq 0 (word (53 * 2 ^ 18)) 0, .cmxacq 0 (word (52 * 2 ^ 18 + 0 + 0 * 2 ^ 8)) (word (1 * 2 ^ 0)),
    .cmxacqt 0 (word (53 * 2 ^ 18)) 0, .cmxacqt 0 (word (52 * 2 ^ 18 + 0 + 0 * 2 ^ 8)) (word (0 * 2 ^ 0)),
    .cmxrel 0 (word (53 * 2 ^ 18)) 0, .cmxrel 0 (word (52 * 2 ^ 18 + 0 + 0 * 2 ^ 8)) (word (0 * 2 ^ 0)),
    .cmxsave 0 (word (53 * 2 ^ 18)) 0, .cmxsave 0 (word (52 * 2 ^ 18 + 0 + 0 * 2 ^ 8)) (word (0 * 2 ^ 0)),
    .cmxrestore 0 (word (53 * 2 ^ 18)) 0, .cmxrestore 0 (word (52 * 2 ^ 18 + 0 + 0 * 2 ^ 8)) (word (0 * 2 ^ 0)),
    .cmxsync 0 (word (53 * 2 ^ 18)) 0, .cmxsync 0 (word (52 * 2 ^ 18 + 0 + 0 * 2 ^ 8)) (word (0 * 2 ^ 0)),
    .cmxlerr 0 (word (53 * 2 ^ 18)) 0, .cmxlerr 0 (word (52 * 2 ^ 18 + 0 + 0 * 2 ^ 8)) (word (0 * 2 ^ 0)),
    .cmxput 0 (word (54 * 2 ^ 18)) 0, .cmxget 0 (word (55 * 2 ^ 18)) 0, .cmxShape 0 (word (56 * 2 ^ 18)) 0,
    .cmxShape 0 (word (55 * 2 ^ 18 + 0 + 0 * 2 ^ 8)) (word (1 * 2 ^ 20)), .cmxCopy 0 (word (56 * 2 ^ 18)) 0,
    .cmxCopy 0 (word (55 * 2 ^ 18 + 0 + 0 * 2 ^ 8)) (word (0 * 2 ^ 20)), .cmxAdd 0 (word (56 * 2 ^ 18)) 0,
    .cmxAdd 0 (word (55 * 2 ^ 18 + 0 + 0 * 2 ^ 8)) (word (0 * 2 ^ 20)), .cmxSub 0 (word (56 * 2 ^ 18)) 0,
    .cmxSub 0 (word (55 * 2 ^ 18 + 0 + 0 * 2 ^ 8)) (word (0 * 2 ^ 20)), .cmxMul 0 (word (56 * 2 ^ 18)) 0,
    .cmxMul 0 (word (55 * 2 ^ 18 + 0 + 0 * 2 ^ 8)) (word (0 * 2 ^ 20)), .cmxChol 0 (word (56 * 2 ^ 18)) 0,
    .cmxChol 0 (word (55 * 2 ^ 18 + 0 + 0 * 2 ^ 8)) (word (0 * 2 ^ 20)), .cmxTrsl 0 (word (56 * 2 ^ 18)) 0,
    .cmxTrsl 0 (word (55 * 2 ^ 18 + 0 + 0 * 2 ^ 8)) (word (0 * 2 ^ 20))] : List Instr), i.wf = false := by decide +kernel

/-- The check of each row refuses a term: another opcode, function, second word, field or range. -/
theorem wf_rejects_5 : ∀ i ∈ ([
    .cmxInv 0 (word (56 * 2 ^ 18)) 0, .cmxInv 0 (word (55 * 2 ^ 18 + 0 + 0 * 2 ^ 8)) (word (0 * 2 ^ 20)),
    .cmxQr 0 (word (56 * 2 ^ 18)) 0, .cmxQr 0 (word (55 * 2 ^ 18 + 0 + 0 * 2 ^ 8)) (word (0 * 2 ^ 20)),
    .rckRunWrite 0 0xFFFFFF, .rckRst 0 0, .rckSoftSet 0 0, .cmxRst 0 0, .cmxFrel 0 0, .listEnable 0 0,
    .listDisable 0 0xFFFFFF, .counterClear 0 2, .fhZeroFill 0 0 0 0,
    .hostItemBead (mkBead 0 0 0 0 0 0 0 0 []) ⟨512, 0, 0, 0, false, [], none, none, 0⟩, .carrierStatusBead 512 0, .reencodeCmd 0, .remapCmd 0,
    .flipArm 0, .flushCmd 0, .dmaStart (.local 0) 0 0 0xFFFFFF, .dmaStartLoad (.local 0) 0 0 0, .dmaStop (.local 0) 0 0 0,
    .stcFullLoad 0xFFFFFF, .stcSliceLoad 0, .stcDrainack (.local 0) 0, .stcFence (.local 0) 0, .tlyArm 0,
    .frameReceived 0 [256] false 0 0 0, .gclSubmit 0 0] : List Instr), i.wf = false := by decide +kernel

/-- The check of each row refuses a term: another opcode, function, second word, field or range. -/
theorem wf_rejects_6 : ∀ i ∈ ([
    .fdbRead 0xFFFFFF, .fdbWrite 0, .fdbDelete 0, .fdbFlush 0, .fdbAgeOut 4096 0, .laneRetrain 0 0, .laneRst 0 0,
    .quadRefReturn 0 0, .eyeGo 0 0, .spareGo 0 0, .pwrGrpcmd 0, .padRelease 0, .supSwback 0, .supSwtest 0,
    .secBootok (.local 0) 0, .cmdWriteSlot (.local 0) 0xFFFFFF, .cmdRevoke (.local 0) 0xFFFFFF,
    .cmdAdvance (.local 0) 0xFFFFFF, .cmdLifecycle (.local 0) 0xFFFFFF, .cmdDebug (.local 0) 0xFFFFFF,
    .cmdPolicy (.local 0) 0xFFFFFF, .cmdScrap (.local 0) 0xFFFFFF, .secAttest (.local 0) 0, .secFetch (.local 0) 0 [],
    .sakInstall (.local 0) 0, .rstCmdWarm (.local 0) 0xFFFFFF, .rstCmdCold (.local 0) 0, .rstCmdUnit (.local 0) 0,
    .awdtKick 0, .regWrite (.local 0) 0x10000000 0 0] : List Instr), i.wf = false := by decide +kernel

/-! ### Scalar instructions: results from R219 and R220 -/

/-- The state of core `n` after an answer. -/
def coreOf (n : Nat) (o : Host.Outcome State Fault Refusal) : Core := (after o).core n

theorem test_add : let k := coreOf 3 (execAlu 3 (iw 0 4 1 2 0) (st dev3)); k.gr 4 = 6 ∧ k.pc = 6 := by decide +kernel
theorem test_sub_wraps : (coreOf 3 (execAlu 3 (iw 0 4 0 1 1) (st dev3))).gr 4 = 0xFFFFF9 := by decide +kernel
theorem test_g0_reads_zero : (coreOf 3 (execAlu 3 (iw 0 0 1 2 0) (st dev3))).gr 0 = 0 := by decide +kernel
theorem test_adds_saturates : (coreOf 3 (execAlux 3 (iw 1 4 3 3 0) (st dev3))).gr 4 = 0x7FFFFF := by decide +kernel
theorem test_mulhs : (coreOf 3 (execAlux 3 (iw 1 4 2 1 3) (st dev3))).gr 4 = 0xFFFFFF := by decide +kernel
theorem test_addi_negative : (coreOf 3 (execAddi 3 (word (2 * 2 ^ 18 + 4 * 2 ^ 13 + 1 * 2 ^ 8 + 0xFE)) (st dev3))).gr 4 = 5 := by
  decide +kernel
theorem test_movi_negative : (coreOf 3 (execMovi 3 (word (5 * 2 ^ 18 + 4 * 2 ^ 13 + 0x1FFF)) (st dev3))).gr 4 = 0xFFFFFF := by
  decide +kernel
theorem test_shi_arithmetic :
    (coreOf 3 (execShi 3 (word (4 * 2 ^ 18 + 4 * 2 ^ 13 + 2 * 2 ^ 8 + 2 * 2 ^ 6 + 4)) (st dev3))).gr 4 = 0xFFFFFF := by decide +kernel
theorem test_li : let k := coreOf 3 (execLi 3 (iw 32 4 0 0 0) 0x123456 (st dev3)); k.gr 4 = 0x123456 ∧ k.pc = 7 := by decide +kernel
theorem test_branch_back :
    (coreOf 3 (execBr 3 (word (10 * 2 ^ 18 + 2 * 2 ^ 13 + 2 * 2 ^ 10 + 0x3FC)) (st dev3))).pc = 1 := by decide +kernel
theorem test_jump_links : let k := coreOf 3 (execJ 3 (word (11 * 2 ^ 18 + 2 ^ 17 + 10)) (st dev3)); k.pc = 15 ∧ k.gr 31 = 6 := by
  decide +kernel
theorem test_reserved_function_is_illegal :
    (coreOf 3 (execEcall 3 (iw 13 1 0 0 4) (st dev3))).cs 0x103 = 0 ∧ (coreOf 3 (execEcall 3 (iw 13 1 0 0 4) (st dev3))).inh = true := by
  decide +kernel
theorem test_ecall : let k := coreOf 3 (execEcall 3 (iw 13 0 0 0 4) (st (running devBoot 3 { core3 with csr := [(0x101, 0x40)] })))
    k.pc = 0x40 ∧ k.cs 0x102 = 5 ∧ k.cs 0x103 = 4 ∧ k.inh = true := by decide +kernel
theorem test_ldw_waits_on_bus :
    (coreOf 3 (execLdw 3 (iw 6 4 0 0 0) (st (running devBoot 3 { core3 with p := [(0, 0x10000000#32)] })))).st ≠ .stopped := by
  decide +kernel

/-! ### Witnesses: cores -/

/-- Some device is what core `n` runs on after the fetch of `len` words. -/
def Takes (d : Dev) (n len : Nat) : Prop := ∃ e, d.takes n len e

theorem takes3_1 : Takes dev3 3 1 := ⟨_, by decide +kernel, by decide +kernel, rfl⟩
theorem takes3_2 : Takes dev3 3 2 := ⟨_, by decide +kernel, by decide +kernel, rfl⟩
theorem takesV_1 : Takes vec3 3 1 := ⟨_, by decide +kernel, by decide +kernel, rfl⟩
theorem takesV_2 : Takes vec3 3 2 := ⟨_, by decide +kernel, by decide +kernel, rfl⟩

theorem witness_ScalarInstructions : Takes dev3 3 1 ∧ Takes dev3 3 2 ∧ (Instr.alu 3 (iw 0 4 1 2 7)).wf = true ∧
    (Instr.alux 3 (iw 1 4 1 0 7)).wf = true ∧ (Instr.addi 3 (iw 2 4 1 2 3)).wf = true ∧ (Instr.andi 3 (iw 3 4 1 2 3)).wf = true ∧
    (let w := iw 4 4 1 2 7; (Instr.shi 3 w).wf = true ∧ ib w 5 5 = 0 ∧ ib w 4 0 = 23) ∧
    (let w := iw 4 4 1 3 0; (Instr.shi 3 w).wf = true ∧ ib w 5 5 = 0 ∧ ib w 4 0 = 24) ∧
    (Instr.movi 3 (iw 5 4 31 31 7)).wf = true ∧ (Instr.li 3 (iw 32 4 0 0 0) 0xFFFFFF).wf = true ∧
    (let w := iw 8 15 15 31 6; (Instr.palu 3 w).wf = true ∧ paluIll w = false) ∧
    (let w := iw 9 15 15 31 7; (Instr.paddi 3 w).wf = true ∧ iD w < 16 ∧ iA w < 16) ∧
    (let w := iw 15 7 7 7 0; (Instr.kop 3 w).wf = true ∧ kopIll w = false) ∧
    (let w := iw 33 15 0 31 7; (Instr.lip 3 w 0xFFFFFF).wf = true ∧ iD w < 16 ∧ iA w = 0) :=
  ⟨takes3_1, takes3_2, by decide +kernel⟩

theorem witness_BranchComplete : Takes dev3 3 1 ∧ Takes dev3 3 2 ∧
    (let w := word (10 * 2 ^ 18 + 7 * 2 ^ 13 + 7 * 2 ^ 10 + 0x200); (Instr.br 3 w).wf = true ∧ (6 ≤ ib w 12 10 → iD w < 8)) ∧
    (Instr.j 3 (word (11 * 2 ^ 18 + 2 ^ 18 - 1))).wf = true ∧ (Instr.jr 3 (iw 12 0 1 0 0)).wf = true ∧
    (Instr.jalr 3 (iw 12 31 1 0 1)).wf = true ∧
    (let w := word (34 * 2 ^ 18 + 5 * 2 ^ 5); (Instr.bcc 3 w 0xFFFF).wf = true ∧ ib w 7 5 < 6 ∧ ib (0xFFFF : Word) 23 16 = 0) ∧
    (Instr.jmp 3 (word (35 * 2 ^ 18 + 2 ^ 17)) 0xFFFF).wf = true :=
  ⟨takes3_1, takes3_2, by decide +kernel⟩

theorem witness_ControlStatusRegisters : Takes dev3 3 1 ∧
    (∀ f ∈ [0, 1, 2, 3], dev3.csrIll 3 (word (13 * 2 ^ 18 + 2 ^ 13 + 0x100 * 8 + f)) = false) ∧
    (Instr.csrr 3 (word (13 * 2 ^ 18 + 2 ^ 13 + 8 * 8))).wf = true ∧ (Instr.csrw 3 (word (13 * 2 ^ 18 + 0x100 * 8 + 1))).wf = true ∧
    (Instr.csrs 3 (word (13 * 2 ^ 18 + 0x107 * 8 + 2))).wf = true ∧ (Instr.csrc 3 (word (13 * 2 ^ 18 + 0x107 * 8 + 3))).wf = true ∧
    (core3.machine = true ∧ ({ core3 with machine := false } : Core).machine = false ∧ csrMask 0x107 = 0) ∧ (15 : Nat) < 16 :=
  ⟨takes3_1, by decide +kernel⟩

theorem witness_Exceptions : Takes dev3 3 1 ∧ (let w := iw 13 0 0 0 4; iD w = 0 ∧ iCsr w = 0 ∧ (Instr.ecall 3 w).wf = true) ∧
    (dev3.core 3).inh = false ∧ (let w := iw 13 0 0 0 5; iD w = 0 ∧ iCsr w = 0 ∧ (Instr.eret 3 w).wf = true) ∧
    (dev3.core 3).machine = true ∧
    (let d := running devBoot 3 { core3 with csr := [(0x100, 0x80000)] }; (d.core 3).inh = true ∧ (d.core 3).pc < 2 ^ 16) :=
  ⟨takes3_1, by decide +kernel⟩

/-- Core 8, core 0 of rod 1, with an interrupt pending and enabled. -/
def irq8 : Dev := running devBoot 8 { core3 with csr := [(0x100, 0x800000), (0x106, 0x10), (0x107, 0x10)] }

theorem witness_WaitsAndInterrupts : Takes dev3 3 1 ∧ (let w := iw 13 0 0 0 6; iD w = 0 ∧ iCsr w = 0 ∧ (Instr.waitm 3 w).wf = true) ∧
    (dev3.core 3).machine = true ∧ (dev3.core 3).stores = [] ∧ bits ((dev3.core 3).cs 0x109).toNat 23 22 = 0 ∧
    (let d := running devBoot 8 { core3 with csr := [(0x109, 0x800000)] }
     Takes d 8 1 ∧ bits ((d.core 8).cs 0x109).toNat 23 22 = 2 ∧ 8 % 8 = 0) ∧
    (let w := iw 14 0 0 0 0; iD w = 0 ∧ iA w = 0 ∧ iB w = 0 ∧ (Instr.fenceW 3 w).wf = true) ∧
    (let w := iw 14 0 0 0 1; iD w = 0 ∧ iA w = 0 ∧ iB w = 0 ∧ (Instr.fenceRw 3 w).wf = true) ∧
    (let w := iw 14 0 0 0 2; iD w = 0 ∧ iA w = 0 ∧ iB w = 0 ∧ (Instr.fenceI 3 w).wf = true) ∧
    (irq8.core 8).st = .run ∧ (irq8.core 8).hold = none ∧ (irq8.core 8).mie = true ∧ (irq8.core 8).inh = false ∧
    irq8.irq 8 = some 4 :=
  ⟨takes3_1, by decide +kernel, by decide +kernel, by decide +kernel, by decide +kernel,
   ⟨⟨_, by decide +kernel, by decide +kernel, rfl⟩, by decide +kernel, rfl⟩, by decide +kernel⟩

theorem witness_VectorInstructions : Takes vec3 3 1 ∧ Takes vec3 3 2 ∧ vec3.vecOk 3 true ∧
    (∀ i ∈ [Instr.vadd 3 (iw 16 1 2 3 0), .vsub 3 (iw 17 1 2 3 1), .vmul 3 (iw 18 1 2 3 7), .vmulj 3 (iw 19 1 2 3 0),
      .vmac 3 (iw 20 2 2 3 0), .vmacj 3 (iw 21 2 2 3 0), .vpow 3 (iw 22 3 2 0 0), .vsel 3 (iw 23 1 2 3 1),
      .vshi 3 (iw 26 1 2 3 0), .vext 3 (word (27 * 2 ^ 18)), .vcmp 3 (iw 28 1 2 3 0), .vbc 3 (iw 29 1 2 3 0),
      .vlog 3 (iw 41 1 2 0 0) 0, .varx 3 (iw 42 1 2 3 0) 9, .vcvt 3 (iw 43 1 2 0 0) 0, .vexp 3 (iw 44 1 2 3 0) 0,
      .vshlv 3 (iw 44 1 2 3 0) 1, .vshrv 3 (iw 44 1 2 3 0) 2, .vperm 3 (iw 45 1 2 3 0) 0, .aclr 3 (iw 46 3 0 0 0) 0,
      .ared 3 (iw 46 2 2 0 0) 1, .amov 3 (iw 46 3 3 0 0) 2, .vget 3 (iw 47 1 2 0 0) 15, .vput 3 (iw 47 1 2 0 0) 31], i.wf = true) ∧
    accIll (vec3.core 3).et 2 true = false ∧ accIll (vec3.core 3).et 0 true = false ∧ (vec3.core 3).et = 1 ∧ ib (9 : Word) 3 0 < 10 :=
  ⟨takesV_1, takesV_2, ⟨by decide, by decide +kernel, fun _ => by decide +kernel⟩, by decide +kernel⟩

theorem witness_VectorArithmetic : (vec3.core 3).et < 3 ∧ 0 < (vec3.core 3).cnt ∧ (vec3.core 3).long = false ∧
    (let k : Core := { core3 with csr := [(2, 0x800000)] }; k.cb 2 23 = true) ∧
    (let k : Core := { core3 with csr := [(2, 0x400000)] }; k.cb 2 22 = true) := by decide +kernel

theorem witness_RoundingModes : (0 : Nat) < 1 ∧ rnd 0 3 1 = 2 ∧ rnd 1 3 1 = 2 ∧ rnd 1 5 1 = 2 ∧ rnd 2 (-3) 1 = -2 ∧ rnd 3 (-3) 1 = -1 := by
  decide +kernel

theorem witness_VstartIllegal : let d := running devBoot 3 { core3 with csr := [(0, 0x400000#24), (1, 15#24)] }
    (d.core 3).vstart ≠ 0 ∧ Takes d 3 1 ∧ Takes d 3 2 :=
  ⟨by decide +kernel, ⟨_, by decide +kernel, by decide +kernel, rfl⟩, ⟨_, by decide +kernel, by decide +kernel, rfl⟩⟩

/-! ### Memory, beads and queues of cores -/

/-- A core with p1 at the last word of local memory, p2 at reckoning memory, p3 in local memory. -/
def coreM : Core := { core3 with p := [(1, 0xFFFF#32), (2, 0x10000000#32), (3, 0x100#32)], g := [(1, 7#24), (4, 4#24)] }

/-- Core 3 with these pointers, and with complex elements for the vector loads. -/
def mem3 : Dev := running devBoot 3 { coreM with csr := [(0, 0x400000#24)] }

/-- The Abacist with these pointers. -/
def mem112 : Dev := running devBoot 112 coreM

/-- The word of a load or store without update through pointer `p` (R217). -/
def mw (op d p : Nat) : Word := word (op * 2 ^ 18 + d * 2 ^ 13 + p * 2 ^ 9)

theorem test_stw_then_ldw : let d := after (execStw 3 (mw 7 1 3) (st mem3))
    (coreOf 3 (execLdw 3 (mw 6 5 3) (st d))).gr 5 = 7 := by decide +kernel
theorem test_stb_one_lane : let d := after (execStb 3 (word (36 * 2 ^ 18 + 1 * 2 ^ 13 + 3 * 2 ^ 9 + 2 ^ 8)) 1 (st mem3))
    wordGet d.lm (lmAddr 3 0x100) = 0x000700 := by decide +kernel
theorem test_ldw_without_region_raises_access : let k := coreOf 3 (execLdw 3 (mw 6 5 2) (st mem3))
    k.cs 0x103 = 2 + 1 ∨ k.inh = true := by decide +kernel
theorem test_vld_loads_eight : let d := mem3.lmWrite 3 0x107 0x123456 7
    (coreOf 3 (execVld 3 (mw 24 6 3) (st d))).vr 6 7 = 0x123456 := by decide +kernel

theorem takesM_1 : Takes mem3 3 1 := ⟨_, by decide +kernel, by decide +kernel, rfl⟩
theorem takesM_2 : Takes mem3 3 2 := ⟨_, by decide +kernel, by decide +kernel, rfl⟩

theorem witness_LoadsAndStores : Takes mem3 3 1 ∧ Takes mem3 3 2 ∧ Takes mem112 112 1 ∧
    (let a := ((mem3.core 3).mAddr (mw 6 5 1)).1
     ownWord 3 a = some 0xFFFF ∧ SMap.get mem3.lmErr 0 (lmAddr 3 0xFFFF) = 0 ∧ mem3.grants 3 a false = true ∧
       mem3.grants 3 a true = true ∧ (Instr.ldw 3 (mw 6 5 1)).wf = true ∧ (Instr.stw 3 (mw 7 5 1)).wf = true) ∧
    (let pos := 3 * ((mem3.core 3).pr (iP (mw 36 5 1))).toNat + (2 : Word).toNat
     ownWord 3 (pos / 3 % 2 ^ 32) = some 0xFFFF ∧ mem3.grants 3 (pos / 3 % 2 ^ 32) true = true ∧
       (Instr.ldb 3 (mw 36 5 1) 2).wf = true ∧ (Instr.stb 3 (mw 36 5 1 ||| 256) 2).wf = true) ∧
    (let a := ((mem112.core 112).mAddr (mw 6 5 2)).1
     ownWord 112 a = none ∧ mem112.grants 112 a false = true ∧ mem112.grants 112 a true = true ∧
       (mem112.core 112).stores.length < 16) :=
  ⟨takesM_1, takesM_2, ⟨_, by decide +kernel, by decide +kernel, rfl⟩, by decide +kernel⟩

theorem witness_VectorMemory : Takes mem3 3 1 ∧ Takes mem3 3 2 ∧
    (let k := mem3.core 3
     k.et ≠ 3 ∧ k.ahead = [] ∧ mem3.lmErr = [] ∧ k.stores.length ≤ 16 ∧ 0 < k.cnt ∧
     (Instr.vld 3 (mw 24 6 3)).wf = true ∧ (Instr.vst 3 (mw 25 6 3)).wf = true ∧ (Instr.vlds 3 (mw 37 6 3) 0).wf = true ∧
     (Instr.vsts 3 (mw 38 6 3) 0).wf = true ∧ (Instr.vgath 3 (mw 39 6 3) 0).wf = true ∧ (Instr.vscat 3 (mw 40 6 3) 0).wf = true ∧
     (∀ j ∈ List.range k.cnt,
       let a := ((k.mAddr (mw 24 6 3)).1 + j * elemWords k.et) % 2 ^ 32
       (ownWord 3 a).isSome = true ∧ mem3.grants 3 a true = true ∧ mem3.grants 3 a false = true ∧ a + elemWords k.et ≤ 2 ^ 32) ∧
     (∀ j ∈ List.range k.cnt,
       let a := ((k.pr 3 + (0 : Word).setWidth 32).toNat + j * (k.gr (iS (mw 37 6 3))).toNat) % 2 ^ 32
       (ownWord 3 a).isSome = true ∧ a + elemWords k.et ≤ 2 ^ 32) ∧
     (∀ j ∈ List.range k.cnt,
       let a := ((((k.pr 3).toNat : Int) + (k.vr (iS (mw 39 6 3)) j).toInt * 2 ^ (ib (0 : Word) 1 0)) % 2 ^ 32).toNat
       (ownWord 3 a).isSome = true ∧ a + elemWords k.et ≤ 2 ^ 32)) :=
  ⟨takesM_1, takesM_2, by decide +kernel⟩

/-- Queue 5 in service, of 4 words capacity, that core 3 produces and consumes. -/
def queue5 : Dev :=
  let d := (mem3.fset (Reg.QUE_CFG 5) Reg.QUE_CFG_EN_f true).fput (Reg.QUE_CAP 5) Reg.QUE_CAP_CAP_f 4
  let d := (d.fset (Reg.QUE_PROD 5) Reg.QUE_PROD_VALID_f true).fput (Reg.QUE_PROD 5) Reg.QUE_PROD_UNIT_f 3
  (d.fset (Reg.QUE_CONS 5) Reg.QUE_CONS_VALID_f true).fput (Reg.QUE_CONS 5) Reg.QUE_CONS_UNIT_f 3

/-- The same with the word 0x2A in it. -/
def queue5one : Dev := (queue5.qPush 5 0x2A).2

theorem test_qpop_takes_pushed_word : (coreOf 3 (execQpop 3 (mw 49 6 0) 5 (st queue5one))).gr 6 = 0x2A := by decide +kernel
theorem test_qtry_of_empty_clears_mask : let k := coreOf 3 (execQtry 3 (mw 49 6 0 ||| word (2 * 2 ^ 10)) (word (5 + 1024)) (st queue5))
    k.kr 2 = 0 ∧ k.pc = 7 := by decide +kernel

theorem witness_BeadAndQueueInstructions : Takes queue5 3 2 ∧ Takes queue5one 3 2 ∧
    (let w := mw 48 0 3 ||| word (4 * 2 ^ 4)
     (Instr.bsend 3 w 0).wf = true ∧ ((queue5.core 3).gr (iS w)).toNat = 4 ∧
       ownWord 3 ((queue5.core 3).pr (iP w)).toNat = some 0x100 ∧ queue5.lmErr = []) ∧
    (Instr.qpop 3 (mw 49 6 0) 5).wf = true ∧ (Instr.qtry 3 (mw 49 6 0) (word (5 + 1024))).wf = true ∧
    (Instr.qpush 3 (mw 49 6 0) (word (5 + 2048))).wf = true ∧
    queue5one.consumes 3 (iQueue 5) = true ∧ (queue5one.qPop (iQueue 5)).isSome = true ∧ queue5.qPop (iQueue 5) = none ∧
    queue5.produces 3 (iQueue 5) = true ∧ (queue5.qPush (iQueue 5) ((queue5.core 3).gr 6)).1 = true :=
  ⟨⟨_, by decide +kernel, by decide +kernel, rfl⟩, ⟨_, by decide +kernel, by decide +kernel, rfl⟩, by decide +kernel⟩

/-! ### The matrix coprocessor -/

/-- The CMX of rod 0 in service; core 3 runs. -/
def cmxFree : Dev := ((running devBoot 3 { coreM with p := [(3, 0xEFE0#32)] }).setDom 112 .on).fset (Reg.CMX_CTL 0) Reg.CMX_CTL_EN_f true

/-- The same with the lock held by core 3. -/
def cmxMine : Dev := cmxFree.setCmx 0 { cmxDef with owner := some 3 }

/-- The same with a good state image at the end of core 3's local memory. -/
def cmxImaged : Dev :=
  ((cmxMine.lmWrite 3 0xEFE0 0x584D43 7).lmWrite 3 0xEFE1 0x010000 7).lmWrite 3 0xEFE2 (0x584D43 ^^^ 0x010000) 7

theorem test_cmx_unavailable : let k := coreOf 3 (execCmxsync 3 (iw 52 0 0 0 0) 5 (st dev3))
    k.cs 0x103 = 5 ∧ k.cs 0x104 = 0x400000 := by decide +kernel
theorem test_cmxacqt_of_free_lock : let d := after (execCmxacqt 3 (iw 52 4 0 0 0) 1 (st cmxFree))
    (d.core 3).gr 4 = 1 ∧ (d.cmxOf 0).owner = some 3 := by decide +kernel

theorem takesC : Takes cmxFree 3 2 ∧ Takes cmxMine 3 2 ∧ Takes cmxImaged 3 2 :=
  ⟨⟨_, by decide +kernel, by decide +kernel, rfl⟩, ⟨_, by decide +kernel, by decide +kernel, rfl⟩, ⟨_, by decide +kernel, by decide +kernel, rfl⟩⟩

theorem witness_CmxInstructions : (Takes cmxFree 3 2 ∧ Takes cmxMine 3 2 ∧ Takes cmxImaged 3 2) ∧
    cmxCtlIll (mw 52 4 0) 6 = false ∧ cmxFree.cmxAvail 0 = true ∧ (cmxFree.cmxOf 0).owner = none ∧
    (∀ i ∈ [Instr.cmxacq 3 (mw 52 4 0) 0, .cmxacqt 3 (mw 52 4 0) 1, .cmxrel 3 (mw 52 4 0) 2, .cmxsave 3 (mw 52 4 0) 3,
      .cmxrestore 3 (mw 52 4 0) 4, .cmxsync 3 (mw 52 4 0) 5, .cmxlerr 3 (mw 52 4 0) 6], i.wf = true) ∧
    (let d := cmxFree.setCmx 0 { cmxDef with owner := some 2 }; (d.cmxOf 0).owner = some 2 ∧ 2 ≠ 3 % 8) ∧
    cmxMine.cmxOwns 3 = true ∧ cmxMine.cmxDrained 3 = true ∧ (cmxMine.core 3).ahead = [] ∧ cmxMine.lmErr = [] :=
  ⟨takesC, by decide +kernel⟩

theorem witness_CmxInstructions_image : ((cmxImaged.core 3).pr 3).toNat + 4128 = 0x10000 ∧
    imageOk ((List.range 4128).map fun i => wordGet cmxImaged.lm (lmAddr 3 (0xEFE0 + i))) = true := by decide +kernel

theorem witness_CmxOperations : Takes cmxMine 3 2 ∧ (cmxMine.core 3).vstart = 0 ∧ (cmxMine.cmxOf 0).room = true ∧
    (cmxMine.cmxOf 0).q = [] ∧ (Instr.cmxput 3 (word (53 * 2 ^ 18)) 0).wf = true ∧ (Instr.cmxget 3 (word (54 * 2 ^ 18)) 0).wf = true ∧
    cmxMine.cmxReject 0 3 (.put 0 0 false false 15 0) = none ∧ cmxMine.cmxReject 0 3 (.get 0 0 true true 15 0) = none ∧
    cmxMine.cmxReject 0 3 (.shape 7 16 16) = none ∧
    (∀ f ∈ [1, 2, 3, 4, 5, 6, 7, 8], cmxMine.cmxReject 0 3 (.alu f 0 1 2 0 0 false false false) = none) ∧
    (∀ i ∈ [Instr.cmxShape 3 (iw 55 0 0 0 0) 0, .cmxCopy 3 (iw 55 0 0 0 0) 0x100000, .cmxAdd 3 (iw 55 0 0 0 0) 0x200000,
      .cmxSub 3 (iw 55 0 0 0 0) 0x300000, .cmxMul 3 (iw 55 0 0 0 0) 0x400000, .cmxChol 3 (iw 55 0 0 0 0) 0x500000,
      .cmxTrsl 3 (iw 55 0 0 0 0) 0x600000, .cmxInv 3 (iw 55 0 0 0 0) 0x700000, .cmxQr 3 (iw 55 0 0 0 0) 0x800000], i.wf = true) ∧
    (let e : CmxEntry := { tag := 0, core := 3, pc := 5, op := .shape 0 2 2, data := none, squashed := false }
     let d := cmxMine.setCmx 0 { cmxDef with q := [e] }
     (d.cmxOf 0).q = [e] ∧ ∀ i ∈ List.range 8, (d.core i).hold = none) :=
  ⟨takesC.2.1, by decide +kernel⟩

theorem witness_CmxMulResult : (cmxDef.shape 0).1 ≤ 16 ∧ (cmxDef.shape 1).2 ≤ 16 := by decide +kernel

/-! ### Events of cores -/

/-- Core 3 held for a load of its own memory through the bus, and with one store outstanding. -/
def loading3 : Dev := running devBoot 3 { coreM with hold := some (.loadW 5 0x20030100 none) }
def storing3 : Dev := running devBoot 3 { coreM with stores := [{ addr := 0x20030100, data := 9, lanes := 7 }] }

theorem test_load_response : let k := coreOf 3 (execLoadResponse 3 (st (loading3.lmWrite 3 0x100 0x55 7)))
    k.gr 5 = 0x55 ∧ k.hold = none := by decide +kernel
theorem test_store_response : let d := after (execStoreResponse 3 0 (st storing3))
    wordGet d.lm (lmAddr 3 0x100) = 9 ∧ (d.core 3).stores = [] := by decide +kernel

/-- A sealed DATA bead for unit 3 with two payload words. -/
def bead3 : Bead := mkBead (head0 2 0x20 false false false) 0 3 0 0 5 0 0 [1, 2]

/-- Core 3 bound by the image, with queue 5 as its inbox; rod 1 resting with core 8 waiting for its rod. -/
def bound3 : Dev :=
  let d := ((queue5.fput (Reg.QUE_CAP 5) Reg.QUE_CAP_CAP_f 64).onCore 3 fun k => { k with bound := true, inbox := 5 })
  d.onPwr fun p => { p with named := [3] }
def resting : Dev := (((running devBoot 8 core3).setCore 8 { core3 with st := .wait, wantRod := true }).setDom 113 .on).setCore 9 { core3 with st := .wait }

theorem witness_CoreEvents : (loading3.core 3).hold = some (.loadW 5 0x20030100 none) ∧ loading3.memReady 0x20030100 = true ∧
    (loading3.core 3).storing 0x20030100 1 = false ∧ (loading3.busRead (coreReq 3) 0x20030100).1 = some 0 ∧
    (let q := (loading3.busRead (coreReq 3) 0x20030100).2; (q.core 3).ahead = [] ∧ q.fbit (Reg.RCK_CTL 3) Reg.RCK_CTL_RUN_f = true) ∧
    (storing3.core 3).stores[0]? = some { addr := 0x20030100, data := 9, lanes := 7 } ∧ storing3.memReady 0x20030100 = true ∧
    ((storing3.onCore 3 fun x => { x with stores := x.stores.eraseIdx 0 }).busWrite (coreReq 3) 0x20030100 9 7).1 = true ∧
    (let d := queue5one.onCore 3 fun k => { k with hold := some (.qpop 4 5) }
     (d.core 3).hold = some (.qpop 4 5) ∧ (d.qPop 5).isSome = true) ∧
    (let d := queue5.onCore 3 fun k => { k with hold := some (.qpush 1 5) }
     (d.core 3).hold = some (.qpush 1 5) ∧ (d.qPush 5 ((d.core 3).gr 1)).1 = true) ∧
    (let d := irq8.onCore 8 fun k => { k with st := .wait }
     (d.core 8).st = .wait ∧ (d.irq 8).isSome = true ∧ (d.core 8).hold = none) := by decide +kernel

theorem witness_CoreEvents_inbox : unitCore bead3.dunit = some 3 ∧ bead3.ok = true ∧ bound3.unitAway bead3.dunit = false ∧
    bead3.op ≠ 1 ∧ bead3.op ≠ 2 ∧ ((bound3.take bead3).core 3).bound = true ∧ (bound3.take bead3).qOn 5 = true ∧
    ((bound3.take bead3).qPushWhole 5 ([bead3.h0, bead3.h1, bead3.h2, bead3.h3] ++ bead3.payload)).1 = true := by decide +kernel

theorem witness_CmxAndRodEvents :
    (let d := (cmxFree.setCmx 0 { cmxDef with waiters := [3] }).onCore 3 fun k => { k with hold := some .cmxAcq }
     (d.cmxOf 0).owner = none ∧ (d.cmxOf 0).waiters = [3] ∧ (d.core (0 * 8 + 3)).hold = some .cmxAcq ∧
       (d.core (0 * 8 + 3)).ahead = [] ∧ d.fbit (Reg.RCK_CTL 3) Reg.RCK_CTL_RUN_f = true) ∧
    resting.rodRests 1 = true ∧ (resting.core 9).st = .wait := by decide +kernel

theorem witness_CoreRegisterWrites :
    (let w := fw Reg.RCK_CTL_RUN_f 1; (Instr.rckRunWrite 3 w).wf = true ∧ getF w Reg.RCK_CTL_RUN_f = 1 ∧ (devBoot.core 3).st = .stopped) ∧
    ((Instr.rckRunWrite 3 0).wf = true ∧ getF 0 Reg.RCK_CTL_RUN_f = 0 ∧ (dev3.core 3).st = .run ∧ (dev3.core 3).hold = none ∧
      (dev3.core 3).stores = []) ∧
    ((Instr.rckRst 3 (fw Reg.RCK_CTL_RST_f 1)).wf = true ∧ dev3.pwr.mode = 0 ∧ dev3.stc.wbusy = false ∧ dev3.dom 3 = .on ∧
      dev3.fenced 3 = false) ∧
    (Instr.rckSoftSet 3 (fw Reg.RCK_SOFT_SET_f 1)).wf = true ∧ (Instr.cmxRst 0 (fw Reg.CMX_CTL_RST_f 1)).wf = true ∧
    cmxFree.dom (112 + 0) = .on ∧ (cmxFree.cmxOf 0).owner = none ∧ cmxFree.fenced (0xDC + 0) = false ∧
    (let w := fw Reg.CMX_CTL_FREL_f 1; (Instr.cmxFrel 0 w).wf = true ∧ getF w Reg.CMX_CTL_RST_f = 0) ∧
    (∀ i ∈ List.range 8, (cmxMine.core (0 * 8 + i)).hold = none) := by decide +kernel

theorem witness_RegisterFrame : ∃ t, exec (.alu 3 (iw 0 4 1 2 0)) (st dev3) = .next t := ⟨_, rfl⟩
/-! ### Launch lists, deadline queues, jobs, the slack servo -/

/-- Shared time 1000 s, valid. -/
def timed (d : Dev) : Dev := { d.fset Reg.TIM_CTL Reg.TIM_CTL_VALID_f true with time := 1000 * secUnit, elapsed := 1000 * secUnit }

/-- Words from an address of core 3's local memory on. -/
def withLm (d : Dev) (a : Nat) (ws : List Word) : Dev := (ws.foldl (fun (x : Dev × Nat) w => (x.1.lmWrite 3 x.2 w 7, x.2 + 1)) (d, a)).1

/-- List 2 with its image at word 0x200 of core 3's local memory: one entry, base 1000 s, period 1 s, of a DATA bead for unit 3. -/
def list2 : Dev :=
  (withLm (timed dev3) 0x200 ([1, 1000, 0, 0, 1, 0, 0, 0] ++ [word (4 * 2 ^ 15), 0, 0, 0, bead3.h0, bead3.h1, word (3 * 4), 0])).setList 2
    { listEmpty with placed := some 0x20030200 }

def gctlOn (d : Dev) : Dev := d.fset Reg.LNC_GCTL Reg.LNC_GCTL_EN_f true

/-- The same running, with its entry reached. -/
def list2due : Dev := (((gctlOn list2).onLnc fun c => { c with held := false }).listEnable 2)

/-- A fed list with one item of four and four words in queue 5. -/
def fedItem : List Word := [word (2 ^ 22 + 4 * 2 ^ 15), 1000, 0, 0, bead3.h0, bead3.h1, word (3 * 4), 0]
def list7fed : Dev :=
  let d := (gctlOn (timed queue5)).onLnc fun c => { c with held := false }
  let d := (d.fput (Reg.QUE_CAP 5) Reg.QUE_CAP_CAP_f 64).fput (Reg.QUE_ITEM 5) Reg.QUE_ITEM_ILEN_f 8
  let d := (((d.setList 7 { listEmpty with placed := some 0x20030200 }).fset (Reg.LNC_CTL 7) Reg.LNC_CTL_EN_f true).fset (Reg.LNC_CTL 7)
    Reg.LNC_CTL_MODE_f true).fput (Reg.LNC_CTL 7) Reg.LNC_CTL_FEEDQ_f 5
  (d.qPushWhole 5 fedItem).2

theorem test_list_header_period : (list2due.list 2).period = (1, 0) ∧ (list2due.list 2).base = (1000, 0) ∧ list2due.listOn 2 = true := by
  decide +kernel
theorem test_launch_inject_sends_one_bead : (after (execLaunchInject (st list2due))).net.length = list2due.net.length + 1 := by decide +kernel

theorem witness_LaunchLists :
    (getF 0 Reg.LNC_GCTL_EN_f = 0 ∧ (Instr.listDisable 2 0).wf = true ∧ (Instr.listEnable 2 (fw Reg.LNC_CTL_EN_f 1)).wf = true) ∧
    (let d := (list2.storeRw (Reg.LNC_CTL 2) 0).fset (Reg.LNC_CTL 2) Reg.LNC_CTL_EN_f (list2.listOn 2)
     d.listOn 2 = false ∧ d.lnc.held = true ∧ (d.list 2).placed = some 0x20030200 ∧ d.listFed 2 = false ∧
       (let r := d.memReadN 0x20030200 8
        r.2.1 = true ∧ bits (r.1.getD 0 0).toNat 11 0 ≠ 0 ∧ 10000 ≤ nsOfPair (headerPeriod r.1))) ∧
    (let d := (list2.storeRw (Reg.LNC_CTL 2) (fw Reg.LNC_CTL_MODE_f 1)).fset (Reg.LNC_CTL 2) Reg.LNC_CTL_EN_f (list2.listOn 2)
     d.listOn 2 = false ∧ d.lnc.held = true ∧ (d.list 2).placed = some 0x20030200 ∧ d.listFed 2 = true) ∧
    ((gctlOn list2).lnc.held = true ∧ (gctlOn list2).lncCond = false) ∧
    (list2due.lnc.held = false ∧ list2due.lncCond = false ∧ list2due.dueList = some 2 ∧
      ((list2due.list 2).cur.map (·.inject)) = some true ∧ list2due.lnc.begun = []) ∧
    (list7fed.listOn 7 = true ∧ list7fed.listFed 7 = true ∧ list7fed.lnc.held = false ∧ (list7fed.list 7).cur = none ∧
      list7fed.qOn (list7fed.feedQ 7) = true ∧ (list7fed.queue (list7fed.feedQ 7)).lens = [8] ∧
      (let ws := (list7fed.queue (list7fed.feedQ 7)).words.take 8
       entryBad true (ws.getD 0 0) (ws.drop 4) (some 8) = false)) := by decide +kernel

theorem witness_Counters : (Instr.counterClear Reg.LNC_SLIP_LO 1).wf = true ∧ devBoot.tly.copying = false ∧
    (let d := { devBoot with tly := { devBoot.tly with copying := true } }; d.tly.copying = true) := by decide +kernel

/-- A job of unit `u` of DLQ 0 with this payload, from a unit of this device. -/
def jobWith (sunit : Nat) (ws : List Word) : Job :=
  { dlq := 0, key := 0x100, arrived := 0, seq := 0, cfg := 0
    bead := [head0 2 0x10 false false false, word (0x100 * 4), word (devBoot.devnum * 2 ^ 14 + sunit * 4), word (ws.length * 2 ^ 19)] ++ ws }

/-- DLQ 0 in service on queue 5 with spectral engine 0 bound to it. -/
def dlq0 : Dev :=
  let d := (((queue5.fput (Reg.QUE_CAP 5) Reg.QUE_CAP_CAP_f 64).fput (Reg.QUE_CFG 5) Reg.QUE_CFG_CLASS_f 2).fput (Reg.QUE_CFG 5)
    Reg.QUE_CFG_IMODE_f 2).fput (Reg.QUE_CFG 5) Reg.QUE_CFG_BOFS_f 2
  let d := ((d.fset (Reg.DLQ_CFG 0) Reg.DLQ_CFG_EN_f true).fput (Reg.DLQ_CFG 0) Reg.DLQ_CFG_QUEUE_f 5).setDom 174 .on
  d.fset (Reg.SPC_CTL 0) Reg.SPC_CTL_EN_f true

/-- A job bead for DLQ 0. -/
def jobBead0 : Bead := mkBead (head0 2 0x10 false false false) 0 0x100 0 0 5 0 0 [1, 2]

/-- DLQ 0 with that job waiting. -/
def dlq0one : Dev := after (execJobArrival jobBead0 (st dlq0))

theorem test_job_item_words : ((dlq0one.queue 5).items.map fun i => i.words.length) = [8] := by decide +kernel
theorem test_job_taken_by_engine_0 : ((after (execJobTake 0 (st dlq0one))).jobsOf 0x80).length = 1 := by decide +kernel

/-- A job of TURBO decoding of 40 values, whose buffer header lies in reckoning memory. -/
def trbPay : List Word := [word (2 ^ 19 + 40), 0, 0, 0x10, 0x031000, 0x20, 0, 0, 0, 0, 0]
def trbDev : Dev :=
  let d := { dev3 with rm := { dev3.rm with initDone := true, winData := wordSet (wordSet dev3.rm.winData 0 0xB51000 7) 1 40 7 } }
  (d.setWin 0 0 { winFree with page := some 0, dirty := true }).setJobs 0xA8 [jobWith 5 trbPay]

/-- A job that encodes 16 bits into two symbols bits of QPSK. -/
def encPay : List Word := [word (2 * 2 ^ 19 + 2 ^ 15 + 16), 2, 0, 0, word (100 * 4096), 0x030000, 0x20, 0x031000, 0x20, 0]
def encDev : Dev := dev3.setJobs 0xB4 [jobWith 5 encPay]

/-- A job of one forward transform of 12 samples, of which one bin is kept. -/
def spcPay : List Word := [12, 0, 1, 0x030000, 0x20, 12, 0, 12, 0x031000, 0x20, 4]
def spcDev : Dev := dev3.setJobs 0x80 [jobWith 5 spcPay]

/-- A random access detection job of kind 3, of one antenna with four words of input. -/
def radPay : List Word := [word (3 * 2 ^ 21), 0, 0, 0, 0, word (2 ^ 7), 0x030000, 0x20, 4, 0]

/-- A job that decodes one bit from 14 soft values. -/
def trlPay : List Word := [1, 0x030000, 0x20, 0x031000, 0x20]
def trlDev : Dev := dev3.setJobs 0x98 [jobWith 5 trlPay]

theorem witness_AcceleratorWork :
    (jobBead0.ok = true ∧ jobBead0.op = 0x10 ∧ jobBead0.rsp = false ∧ jobBead0.dunit = 0x100 ∧ dlq0.unitAway 0x100 = false ∧
      (let d := dlq0.take jobBead0
       let item := d.jobKey 0 jobBead0 :: word d.us :: jobBead0.h0 :: jobBead0.h1 :: jobBead0.h2 :: jobBead0.h3 :: jobBead0.payload
       d.dlqOn 0 = true ∧ d.keyPast (d.jobKey 0 jobBead0) = false ∧ item.length ≤ (d.qcfg (d.dlqQ 0)).cap ∧
         (d.queue (d.dlqQ 0)).usedGran + granules item.length ≤ (d.qcfg (d.dlqQ 0)).cap / 8)) ∧
    (dlq0one.dlqOn 0 = true ∧
      (let d := dlq0one.headExpire 0
       d.freeUnit 0 = some 0x80 ∧ ((d.queue (d.dlqQ 0)).nextItem (d.qcfg (d.dlqQ 0)) d.us).isSome = true)) ∧
    (let i : LItem := { key := 10144256, seq := 0, words := [5, 0, 0, 0, 0, 0], full := true }
     let d := { (timed dlq0).setQueue 5 { qEmpty with items := [i] } with time := 1000 * secUnit + 1000000 * nsUnit }
     (d.queue (d.dlqQ 0)).items = [i] ∧ i.full = true ∧ d.keyPast i.key = true) ∧
    (jobWith 5 []).dlq < 64 := by decide +kernel

theorem witness_AcceleratorWork_spc : (spcDev.jobsOf 0x80)[0]? = some (jobWith 5 spcPay) ∧
    (let p := (jobWith 5 spcPay).bead.drop 4
     (spcDesc p).valid = true ∧ 11 ≤ p.length ∧
       ((List.range (spcDesc p).count).foldl (fun (a : SpcRun × Dev) i => a.2.spcTransform (spcDesc p) a.1 i)
         ({ sats := 0, exp := 0, err := none }, spcDev)).1.err = none) := by decide +kernel

theorem witness_AcceleratorWork_trb : ((trbDev.jobsOf 0xA8).head? = some (jobWith 5 trbPay)) ∧
    (let p := (jobWith 5 trbPay).bead.drop 4
     let x := trbDesc p
     x.valid p.length = true ∧ x.outen = false ∧ inRecMem x.sb (8 + (kwOf x.k + 1) / 2) = true ∧ (trbDev.wordsRead x.sb 2).1 = some [0xB51000, 40] ∧
       (((trbDev.wordsRead x.sb 2).2).wordsRead (x.sb + 8) ((kwOf x.k + 1) / 2)).1.isSome = true ∧ x.k = 40 ∧ x.f = 0) := by
  decide +kernel

theorem witness_AcceleratorWork_rest : radValid ((jobWith 5 radPay).bead.drop 4) = true ∧
    ((dev3.setJobs 0xCC [jobWith 5 radPay]).jobsOf 0xCC).head? = some (jobWith 5 radPay) ∧
    (let d := dev3.setJobs 0xCC [jobWith 5 radPay]
     (d.radRead (descAddr radPay 6) 4 0 0 (bits (radPay.getD 0 0).toNat 20 15 + 1) (unitPort 0xCC)).1.isSome = true) ∧
    (encDev.jobsOf 0xB4).head? = some (jobWith 5 encPay) ∧
    (let p := (jobWith 5 encPay).bead.drop 4
     let x := encDesc p
     x.valid p.length = true ∧ x.exit = 2 ∧ (encDev.bitsRead x.inBase x.inBits).1 = some (List.replicate 16 0) ∧
       ((encDev.bitsRead x.inBase x.inBits).2.memWriteN x.outBase (x.output (List.replicate 16 0)).2).1 = true) := by decide +kernel

/-- The trellis decoder's writes of one bit succeed whatever the bit. -/
theorem witness_AcceleratorWork_trl : (trlDev.jobsOf 0x98).head? = some (jobWith 5 trlPay) ∧
    (let w0 := (trlPay.getD 0 0).toNat
     let nsoft := (bits w0 12 0 + if bits w0 23 22 = 1 then 0 else 6) * if bits w0 21 21 = 1 then 3 else 2
     let r := trlDev.wordsRead (descAddr trlPay 1) (softWords (bits w0 20 20 == 1) nsoft) (unitPort 0x98)
     (jobWith 5 trlPay).bead.drop 4 = trlPay ∧ 5 ≤ trlPay.length ∧ bits w0 23 22 = 0 ∧ bits w0 12 0 = 1 ∧ r.1.isSome = true ∧
       overlaps (descAddr trlPay 1) (softWords (bits w0 20 20 == 1) nsoft) (descAddr trlPay 3) (bitWords (bits w0 12 0)) = false) := by
  decide +kernel

theorem witness_AcceleratorWork_trl_writes (bs : List Nat) (h : bs.length ≤ 1) :
    (trlDev.bitsWrite (descAddr trlPay 3) bs (unitPort 0x98)).1 = true := by
  have hw : ∀ w l, (trlDev.busWrite (.local 0x98) (descAddr trlPay 3 + 0) w l).1 = true := by
    intro w l
    have hp : placeOf (descAddr trlPay 3 + 0) = .lmem 3 0x1000 := by decide +kernel
    have hs : trlDev.lmServed 3 = true := by decide +kernel
    have he : SMap.get trlDev.lmErr 0 (lmAddr 3 0x1000) = 0 := by decide +kernel
    simp only [Dev.busWrite, hp, Dev.memWrite, hs, if_true, Dev.lmStore, he]
  match bs, h with
  | [], _ => rfl
  | [x], _ =>
    have h1 : bitWords [x].length = 1 := by rw [List.length_singleton]; decide
    simp only [Dev.bitsWrite, h1, List.range_one, List.foldl_cons, List.foldl_nil, unitPort, hw, Bool.and_true]

/-- A set-point transaction on the main port. -/
def avsMain : Dev := devBoot.onPwr fun p => { p with avs := some { code := 120, back := false, active := true, since := 0 }, avsNext := [], back := { p.back with en := false } }

theorem test_servo_limits_refused : let t := after (execPwrServoCtlWrite
      (putF (fw Reg.PWR_SERVO_CTL_VMIN_f 100) Reg.PWR_SERVO_CTL_VMAX_f 160) (st devBoot))
    t.fget Reg.PWR_SERVO_CTL Reg.PWR_SERVO_CTL_ERR_f = 1 := by decide +kernel

theorem witness_ServoCommands :
    (let w := putF (fw Reg.PWR_SERVO_CTL_VMIN_f 110) Reg.PWR_SERVO_CTL_VMAX_f 170
     110 ≤ getF w Reg.PWR_SERVO_CTL_VMIN_f ∧ getF w Reg.PWR_SERVO_CTL_VMIN_f ≤ getF w Reg.PWR_SERVO_CTL_VMAX_f ∧
       getF w Reg.PWR_SERVO_CTL_VMAX_f ≤ 170) ∧
    ¬ (110 ≤ getF 0 Reg.PWR_SERVO_CTL_VMIN_f) ∧
    (devBoot.pwr.avs = none ∧ devBoot.fget Reg.PWR_SERVO_CTL Reg.PWR_SERVO_CTL_VMIN_f ≤
      devBoot.fget Reg.PWR_SERVO_CTL Reg.PWR_SERVO_CTL_VMAX_f) ∧
    (avsMain.pwr.avs = some { code := 120, back := false, active := true, since := 0 } ∧ avsMain.pwr.avsNext = [] ∧
      (avsMain.sup true).en = false) ∧
    (let d := avsMain.onPwr fun p => { p with back := { p.back with en := true } }
     d.pwr.avs = some { code := 120, back := false, active := true, since := 0 } ∧ (d.sup true).en = true) ∧
    (let d := (timed devBoot).fset Reg.PWR_SERVO_CTL Reg.PWR_SERVO_CTL_EN_f false
     d.pwr.winEnd ≤ d.time ∧ d.pwr.mode ≤ 1 ∧ d.pwr.resend = false ∧
      getF (d.rget Reg.PWR_SERVO_CTL) Reg.PWR_SERVO_CTL_EN_f = 0) ∧
    (let d := timed devBoot
     d.pwr.winEnd ≤ d.time ∧ d.pwr.mode ≤ 1 ∧ d.pwr.resend = false ∧ getF (d.rget Reg.PWR_SERVO_CTL) Reg.PWR_SERVO_CTL_EN_f = 1 ∧
      getF (d.rget Reg.PWR_SERVO_CTL) Reg.PWR_SERVO_CTL_HOLD_f = 0 ∧ d.unacked = false ∧ d.pwr.avs = none ∧
      getF (d.rget Reg.PWR_SERVO_CTL) Reg.PWR_SERVO_CTL_VMIN_f ≤ getF (d.rget Reg.PWR_SERVO_CTL) Reg.PWR_SERVO_CTL_VMAX_f) := by
  decide +kernel
/-! ### The digital front end and its fronthaul -/

/-- A receive stream 0 of DFE unit 0, in service: source `src`, kind `kind`, flow 9, ring of one millisecond in local memory. -/
def rxDev (src kind : Nat) : Dev :=
  let d := ((timed dev3).setDom 195 .on).fset (Reg.DFE_CTL 0) Reg.DFE_CTL_EN_f true
  let d := ((d.fset (Reg.DFE_RXCFG 0 0) Reg.DFE_RXCFG_EN_f true).fput (Reg.DFE_RXCFG 0 0) Reg.DFE_RXCFG_SRC_f src).fput (Reg.DFE_RXCFG 0 0)
    Reg.DFE_RXCFG_KIND_f kind
  (d.fput (Reg.DFE_RXLEN 0 0) Reg.DFE_RXLEN_FLOWID_f 9).fput (Reg.DFE_RXLEN 0 0) Reg.DFE_RXLEN_LEN_f 1

/-- A transmit stream 0 of DFE unit 0 of an SBA carrier, to the fronthaul when `sink` is 1. -/
def txDev (sink : Nat) : Dev :=
  let d := ((timed dev3).setDom 195 .on).fset (Reg.DFE_CTL 0) Reg.DFE_CTL_EN_f true
  let d := ((d.fset (Reg.DFE_TXCFG 0 0) Reg.DFE_TXCFG_EN_f true).fput (Reg.DFE_TXCFG 0 0) Reg.DFE_TXCFG_SINK_f sink).fput (Reg.DFE_TXCFG 0 0)
    Reg.DFE_TXCFG_KIND_f 4
  ((d.fput (Reg.DFE_TXLEN 0 0) Reg.DFE_TXLEN_LEN_f 1).rset (Reg.DFE_TXBASE_LO 0 0) 0x030000).rset (Reg.DFE_TXBASE_HI 0 0) 0x20

/-- Its first segment's tag in memory. -/
def txTagged : Dev := withLm (txDev 0) 0 [word ((txDev 0).txOrigin 0 0 / 1000 % 2 ^ 24)]

def rx0 : Dev := rxDev 0 2

theorem test_nf_full : (rxDev 0 4).rxOn 0 0 = true ∧ (rxDev 0 4).rxf 0 0 Reg.DFE_RXCFG_KIND_f = 4 := by decide +kernel

theorem witness_FrontEndEvents :
    (let d := devBoot.fset (Reg.DFE_JCFG 0) Reg.DFE_JCFG_EN_f true
     d.fbit (Reg.DFE_JCFG 0) Reg.DFE_JCFG_EN_f = true ∧ SMap.get d.dfe.jsys none 0 = none ∧
       (∀ m ∈ [(([] : List Nat), 0)], crc12 m.1 = m.2) ∧ crc12 [1] ≠ 0 ∧
       (let e := d.fset (Reg.DFE_JCFG 0) Reg.DFE_JCFG_DIR_f true; e.jup 0 = false ∧ e.linkRx 0 = false) ∧
       (let e := { d with dfe := { d.dfe with jsys := [(0, some (5, true))] } }; SMap.get e.dfe.jsys none 0 = some (5, true))) ∧
    (rx0.rxOn 0 0 = true ∧ rx0.rxLoops 0 0 = true ∧ SMap.get rx0.dfe.gain none 0 = none ∧ SMap.get rx0.dfe.zeros [] 0 = [] ∧
      getF (rx0.rget (Reg.DFE_RXAGC 0 0)) Reg.DFE_RXAGC_MODE_f = 0 ∧
      (let d := { rx0 with dfe := { rx0.dfe with jup := [(0, true)] } }; d.jup (d.rxf 0 0 Reg.DFE_RXCFG_CHAN_f / 8) = true)) ∧
    ((txDev 0).txOn 0 0 = true ∧ (txDev 0).txReadAt 0 0 0 ≤ (txDev 0).nowNs ∧ (txDev 0).timeValid = true ∧
      (let d := (txDev 0).fset Reg.TIM_CTL Reg.TIM_CTL_VALID_f false
       d.txOn 0 0 = true ∧ d.txReadAt 0 0 0 ≤ d.nowNs ∧ d.timeValid = false)) ∧
    ((rxDev 1 4).rxOn 0 0 = true ∧ (rxDev 1 4).rxf 0 0 Reg.DFE_RXCFG_SRC_f = 1 ∧
      (rxDev 1 4).rxTime 0 0 (0 + 1 - 1) + (10000 * (rxDev 1 4).fget Reg.DFE_FHCFG Reg.DFE_FHCFG_FHWIN_f : Nat) ≤ (rxDev 1 4).nowNs) ∧
    ((txDev 1).txOn 0 0 = true ∧ (txDev 1).fget (Reg.DFE_TXCFG 0 0) Reg.DFE_TXCFG_SINK_f = 1 ∧
      ((txDev 1).flowMates 0 0).head? = some (0, 0) ∧
      (let d := (((txDev 1).fset (Reg.DFE_TXCFG 0 1) Reg.DFE_TXCFG_EN_f true).fput (Reg.DFE_TXCFG 0 1) Reg.DFE_TXCFG_SINK_f 1).fput
         (Reg.DFE_TXCFG 0 1) Reg.DFE_TXCFG_KIND_f 4
       d.txOn 0 1 = true ∧ (d.flowMates 0 1).head? ≠ some (0, 1))) := by decide +kernel

theorem witness_FrontEndEvents_segment :
    (let d := txTagged
     let base := d.getAddr (Reg.DFE_TXBASE_LO 0 0) + 0 % d.fget (Reg.DFE_TXLEN 0 0) Reg.DFE_TXLEN_LEN_f * (1 + d.txWords 0 0)
     let us := (d.txOrigin 0 0 / 1000 + 0 * 1000) % 2 ^ 24
     (d.memRead base).1 = some (word us) ∧ ((d.memRead base).2.memReadN (base + 1) (d.txWords 0 0)).2.1 = true) := by decide +kernel

/-- An SBA receive stream fed by the fronthaul with its ring in core 3's local memory. -/
def nfDev : Dev := ((rxDev 1 4).rset (Reg.DFE_RXBASE_LO 0 0) 0x030000).rset (Reg.DFE_RXBASE_HI 0 0) 0x20

theorem witness_GainAndNoise : (-48 : Int) ≤ 0 ∧ (0 : Int) ≤ 192 ∧
    (nfDev.rxOn 0 0 = true ∧ nfDev.rxf 0 0 Reg.DFE_RXCFG_KIND_f = 4 ∧ nfDev.rxf 0 0 Reg.DFE_RXCFG_SRC_f = 1 ∧
       (nfDev.nfOf (0 * 256 + 0)).block ≤ 5 ∧ nfDev.fbit (Reg.DFE_RXNF 0 0) Reg.DFE_RXNF_STALE_f = false ∧
       (let r := (nfDev.reachNs ((5 + 1) * 1000000)).blockRead 0 0 5
        r.1.isSome = true ∧ r.2.instOn 0 0 ((5 + 1) * 1000000) = false ∧
        (nfDev.nfOf (0 * 256 + 0)).idleFrom + ms (max 1 (nfDev.fget Reg.DFE_NFCFG Reg.DFE_NFCFG_IDLE_MIN_f)) ≤
          r.2.elapsed - (r.2.time - (5 + 1) * 1000000 * nsUnit))) := by decide +kernel

/-- An eCPRI frame of message type `ty` for flow 9, period 5, of 328 octets, received at 1000 s. -/
def fhFrame (ty : Nat) : FhFrame :=
  { octets := [0x10, ty, 1, 0x44, 0, 9, 0, 5] ++ List.replicate 320 0, time := 1000 * secUnit, tv := true, sa := 0xAA, port := 3 }

/-- A delay measurement request and a started measurement. -/
def delayBead (kind : Nat) : Bead := mkBead (head0 2 0x20 false false false) 0 0xD4 0 0 5 0 0 [word (kind * 2 ^ 22 + 3 * 2 ^ 17), 0xAA, 0]
def measOf (kind : Nat) : DelayMeas := { unit := 0, bead := delayBead kind, tag := 0, since := 0, peer := none }
def measDev (kind : Nat) : Dev := { rxDev 1 4 with dfe := { (rxDev 1 4).dfe with meas := [measOf kind] } }

theorem test_fh_no_stream_counts : (after (execEcpriMessageRx (fhFrame 0) (st devBoot))).get48 (Reg.BRG_ECPRIDROP_LO 16) = 1 := by
  decide +kernel

theorem witness_Fronthaul_none : ecpriOk (fhFrame 0) = true ∧ ((devBoot.fhTake (fhFrame 0)).flowStreams 1 9 = []) ∧
    (devBoot.fhTake (fhFrame 2)).flowStreams 2 9 = [] ∧ (devBoot.fhTake (fhFrame 2)).flowStreams 3 9 = [] ∧
    (fhFrame 0).octets.getD 1 0 = 0 ∧ be (slice (fhFrame 0).octets 4 2) = 9 ∧ 328 ≤ (fhFrame 0).octets.length ∧
    (fhFrame 5).octets.getD 1 0 = 5 ∧ ecpriOk (fhFrame 5) = true ∧
    ({ fhFrame 5 with octets := [0x10, 5, 0, 4, 7, 0, 0, 0] } : FhFrame).octets.getD 5 0 = 0 ∧ (fhFrame 5).port < 16 := by decide +kernel

theorem witness_Fronthaul_one : ((rxDev 1 4).fhTake (fhFrame 0)).flowStreams 1 9 = [(0, 0)] ∧
    ((rxDev 2 2).fhTake (fhFrame 0)).flowStreams 2 9 = [(0, 0)] ∧ ((rxDev 3 2).fhTake (fhFrame 0)).flowStreams 3 9 = [(0, 0)] := by
  decide +kernel

/-- Long after the time of the nearest subframe a message is outside the window. -/
theorem witness_Fronthaul_late : (0 : Nat) < 8 ∧ (0 : Nat) < 256 ∧
    (let m := uplaneOf 1 (fhFrame 0).octets
     let d := rxDev 2 2
     d.inWindow (d.rxTime 0 0 ((nearestSub (d.rxOrigin 0 0) 0 m * 14 + m.sym) * resPerSymbol (d.rxf 0 0 Reg.DFE_RXCFG_KIND_f)))
       1000000000000 = false) := by decide +kernel

theorem witness_Fronthaul_delay :
    (let b := delayBead 1
     0xD4 ≤ b.dunit ∧ b.dunit ≤ 0xDB ∧ b.ok = true ∧ (rxDev 1 4).unitAway b.dunit = false ∧ b.op = 0x20 ∧
       bits (b.pay 0) 23 22 ≤ 1 ∧ bits (b.pay 0) 21 17 ≤ 15) ∧
    (let f : FhFrame := { fhFrame 5 with octets := [0x10, 5, 0, 4, bits ((delayBead 1).pay 0) 7 0, 0, 0, 0, 0, 0, 0, 0] }
     ecpriOk f = true ∧ f.octets.getD 1 0 = 5 ∧ (measDev 1).dfe.meas = [measOf 1] ∧ (measOf 1).peer = none ∧
       bits ((measOf 1).bead.pay 0) 7 0 = f.octets.getD 4 0 ∧
       (measOf 1).bead.pay 1 + (measOf 1).bead.pay 2 * 2 ^ 24 = f.sa ∧ bits ((measOf 1).bead.pay 0) 23 22 = 1 ∧ f.octets.getD 5 0 = 0 ∧
       ((measDev 1).fhTake f).measReport (measOf 1) = none) ∧
    (let f : FhFrame := { fhFrame 5 with octets := [0x10, 5, 0, 4, bits ((delayBead 0).pay 0) 7 0, 2, 0, 0, 0, 0, 0, 0] }
     let r := mkBead (head0 2 0x28 false true false) 0 0xD4 0 0 0x820 0 0 [0, 1000, 0, 0]
     let d := { measDev 0 with net := [r] }
     ecpriOk f = true ∧ f.octets.getD 1 0 = 5 ∧ d.dfe.meas = [measOf 0] ∧ bits ((measOf 0).bead.pay 0) 7 0 = f.octets.getD 4 0 ∧
       (measOf 0).bead.pay 1 + (measOf 0).bead.pay 2 * 2 ^ 24 = f.sa ∧ bits ((measOf 0).bead.pay 0) 23 22 = 0 ∧
       f.octets.getD 5 0 = 2 ∧ (d.fhTake f).measReport (measOf 0) = some r) ∧
    (measDev 1).dfe.meas.find? (fun m => m.tag == 0) = some (measOf 1) := by decide +kernel
/-! ### Burst reception -/

/-- Carrier slot 2 of detector 0 is searched: one antenna on stream 0 of DFE 0 with a valid noise floor. -/
def bdt : Dev :=
  let d := ((timed dev3).setDom 189 .on).fset (Reg.BDT_CTL 0) Reg.BDT_CTL_EN_f true
  let d := (d.fset (Reg.BDT_CCFG 0 2) Reg.BDT_CCFG_EN_f true).fset (Reg.DFE_RXNF 0 0) Reg.DFE_RXNF_VALID_f true
  (d.fput (Reg.BDT_CCFG 0 2) Reg.BDT_CCFG_HR_f 0).onPwr fun p => { p with named := [3] }

/-- An instance of that carrier in a stage, with the header of a burst of one payload byte where `h` says so, and these symbols. -/
def instOf (st : InstStage) (h : Bool) (syms : List (List (Option (Int × Int))) := []) : Inst :=
  { det := 0, slot := 2, cross := 900000000000, tau := 900000000000, freq := 0, freqU := 0, lam := 1, ppre := 0, ninst := -40, gain := 0
    noise := [1], noiseDb := [-40], amps := [], order := 0, stage := st, cand := 0, syncErr := 0, header := if h then some 0x0100 else none
    strong := [], counted := 0, sic := none, pilots := [], drift := 0, loops := { at_ := 0, phase := 0, step := 0, timing := 0 }
    syms := syms, marks := [], erased := 0, shipped := 0, anchor := none, anchorInst := 0, contribs := [], accept := false, partner := none }

/-- The carrier with that instance as number 5. -/
def withInst (x : Inst) : Dev := bdt.setInst 5 (some x)

/-- The carrier with a sync word and a noise floor. -/
def bdtSync (lo hi : Word) : Dev := (bdt.rset (Reg.BDT_USYNC_LO 0 2) lo).rset (Reg.BDT_USYNC_LO 0 2 + 1) hi

/-- The sample from which the crossing of `withFloor` measures phase, at full scale. -/
def loud : List (List (Int × Int)) := [[(8388607, 0)]]
def withFloor : Dev := bdt.setNf 0 { nfReset with est := some 1 }

/-- A signal of one sample at the time from which phase counts gives every frequency hypothesis the same statistic (R138). -/
theorem statistic_one (T k0 tau : Nat) (z : Int × Int) (noise : List Nat) (fi fj : Int) (h : tau - 64 * T = k0 * 2500) :
    statistic T k0 [[z]] noise fi tau = statistic T k0 [[z]] noise fj tau := by
  have hm : ∀ f g : Int, ∀ t, matched T k0 [z] f (tau - 64 * T) t = matched T k0 [z] g (tau - 64 * T) t := by
    intro f g t; simp [matched, h]
  have hn : ∀ f g : Int, ∀ t, matched T k0 [] f (tau - 64 * T) t = matched T k0 [] g (tau - 64 * T) t := by intro f g t; rfl
  have hc : ∀ i q, correlate T k0 (([[z]] : List (List (Int × Int))).getD i []) fi tau q =
      correlate T k0 (([[z]] : List (List (Int × Int))).getD i []) fj tau q := by
    intro i q
    rcases i with _ | i
    · simp only [correlate, List.getD_cons_zero]
      congr 1; funext a k; rw [hm (gridFreq T fi) (gridFreq T fj)]
    · simp only [correlate, List.getD_cons_succ, List.getD_nil]
      congr 1
  simp only [statistic, hc]

theorem test_sync_check_second_candidate : let x := instOf .search false
    let d := (bdtSync 0xFFFFFF 0xFF).setInst 5 (some { x with cand := 2 })
    ((after (execSyncCheck 5 400000000 [[]] (st d))).inst 5).map (fun x => x.cand) = none := by decide +kernel
theorem test_burst_length : burstLen 0x0100 1 = 274 := by decide +kernel

/-- The symbols of one antenna for bits of a data section, at full amplitude. -/
def symsOf (bs : List Nat) : List (List (Option (Int × Int))) :=
  bs.zipIdx.map fun e =>
    let a : Int := if e.1 = 0 then 2047 else -2047
    [some (if e.2 % 2 = 0 then (a, 0) else (0, a))]

/-- An instance that has received one copy of a header, and the soft values of its data symbols. -/
def headed (h : Nat) : Inst := instOf .track false (symsOf (withPilots (codedHeader h)))
def headedSoft (h : Nat) : List Int := softSyms (headed h).syms.length (headed h).own

/-- Soft values far from 0 reach the ends of S12 whatever the scale. -/
theorem clamp_big (v : Int) (u : Nat) : (2 ^ 72 ≤ v → clampI (-2047) 2047 (roundDiv (v * (u + 1)) (2 ^ 60)) = 2047) ∧
    (v ≤ -(2 ^ 72) → clampI (-2047) 2047 (roundDiv (v * (u + 1)) (2 ^ 60)) = -2047) := by
  have key : ∀ m : Int, (2 ^ 72 ≤ m → clampI (-2047) 2047 (roundDiv m (2 ^ 60)) = 2047) ∧
      (m ≤ -(2 ^ 72) → clampI (-2047) 2047 (roundDiv m (2 ^ 60)) = -2047) := by
    intro m
    simp only [roundDiv, clampI]
    constructor <;> intro h <;> split <;> (try split) <;> (try split) <;> omega
  have hu := Int.natCast_nonneg u
  refine ⟨fun h => (key _).1 (by nlinarith), fun h => (key _).2 (by nlinarith)⟩
theorem sumCopies_big (n : Nat) (c : List Int) (h : ∀ i < n, 2 ^ 72 ≤ c.getD ((interPerm n).idxOf i) 0 ∨ c.getD ((interPerm n).idxOf i) 0 ≤ -(2 ^ 72)) :
    sumCopies n [c] = (List.range n).map fun i => if 0 < c.getD ((interPerm n).idxOf i) 0 then 2047 else -2047 := by
  simp only [sumCopies, List.foldl_cons, List.foldl_nil, zero_add]
  apply List.map_congr_left
  intro i hi
  rcases h i (List.mem_range.mp hi) with g | g
  · rw [(clamp_big _ _).1 g, if_pos (by omega)]
  · rw [(clamp_big _ _).2 g, if_neg (by omega)]

theorem headed_far (h : Fin 2) : ∀ i < 90, 2 ^ 72 ≤ (headedSoft (256 * h)).getD ((interPerm 90).idxOf i) 0 ∨
    (headedSoft (256 * h)).getD ((interPerm 90).idxOf i) 0 ≤ -(2 ^ 72) := by
  revert h; decide +kernel

/-- The header 0x0100 decodes; the header 0, whose LEN no burst has, decodes and is refused. -/
theorem headed_decodes :
    (let v := ofBits (whiten ((vitTerm true (sumCopies 90 [headedSoft 256]) 24 fun j => Config.free ((withInst (headed 256)).fresh + j)).take 24))
     crc8 (v / 256) = v % 256 ∧ headerOk (v / 256) = true) ∧
    (let v := ofBits (whiten ((vitTerm true (sumCopies 90 [headedSoft 0]) 24 fun j => Config.free ((withInst (headed 0)).fresh + j)).take 24))
     ¬ (crc8 (v / 256) = v % 256 ∧ headerOk (v / 256) = true)) := by
  rw [sumCopies_big 90 (headedSoft 256) (headed_far 1), sumCopies_big 90 (headedSoft 0) (headed_far 0)]
  decide +kernel

theorem witness_BurstIntake_header :
    (let x := headed 256
     (withInst x).inst 5 = some x ∧ x.stage = .track ∧ x.header = none ∧ 90 * (withInst x).slotHr x.det x.slot ≤ (headedSoft 256).length ∧
       ((List.range ((withInst x).slotHr x.det x.slot)).map fun c => ((headedSoft 256).drop (90 * c)).take 90) = [headedSoft 256]) ∧
    (let x := headed 0
     (withInst x).inst 5 = some x ∧ 90 * (withInst x).slotHr x.det x.slot ≤ (headedSoft 0).length) := by decide +kernel

theorem witness_BurstIntake_crossing : withFloor.searches 0 2 = true ∧ withFloor.hypothesis 0 2 900000000000 0 = true ∧
    SMap.get withFloor.brx.reached 0 0 ≤ 900000000000 ∧ withFloor.syncsDone 0 900000000000 true = true ∧
    fxGain (withFloor.fget (Reg.BDT_CPOOL 0 2) Reg.BDT_CPOOL_THR_f) ≤ withFloor.lambda 0 2 900000000000 359997952 0 loud ∧
    withFloor.slotInsts 0 2 = [] ∧ (List.range 128).find? (fun k => (withFloor.inst (0 * 128 + k)).isNone) = some 0 ∧
    ∀ f : Int, withFloor.lambda 0 2 900000000000 359997952 f loud ≤ withFloor.lambda 0 2 900000000000 359997952 0 loud := by
  refine ⟨by decide +kernel, by decide +kernel, by decide +kernel, by decide +kernel, by decide +kernel, by decide +kernel,
    by decide +kernel, fun f => ?_⟩
  have hn : (withFloor.slotNoise 0 2).contains 0 = false := by decide +kernel
  have ht : 900000000000 - 64 * withFloor.slotT 0 2 = 359997952 * 2500 := by decide +kernel
  simp only [Dev.lambda, hn]
  exact le_of_eq (statistic_one _ _ _ _ _ _ _ ht)

theorem witness_BurstIntake :
    (let x := instOf .search false
     let d := bdtSync 0 0
     let e := bdtSync 0xFFFFFF 0xFF
     let tol := min 6 (d.fget (Reg.BDT_CCFG x.det x.slot) Reg.BDT_CCFG_TOL_f)
     (withInst x).inst 5 = some x ∧ x.stage = .search ∧ d.syncDue x ≤ (400000000 + (([[]] : List (List (Int × Int))).headD []).length) * 2500 ∧
       (withInst x).syncsDone x.det ((withInst x).syncDue x) false = true ∧ d.syncErrors x 400000000 [[]] ≤ tol ∧
       tol < e.syncErrors x 400000000 [[]] ∧ x.cand ≠ 3 ∧
       e.syncDue x ≤ (360001024 + (([[]] : List (List (Int × Int))).headD []).length) * 2500 ∧
       (360001024 + (([[]] : List (List (Int × Int))).headD []).length) * 2500 < e.syncDue x + 16 * e.slotT x.det x.slot) ∧
    (let x := instOf .track false
     (withInst x).inst 5 = some x ∧ x.stage = .track ∧ x.header = none ∧ x.pilots.length + 1 < (withInst x).lossN ∧ x.anchor = none ∧
       (withInst x).sectLen x = none) ∧
    (let x := instOf .track true (List.replicate 178 [])
     (withInst x).inst 5 = some x ∧ x.stage = .track ∧ (withInst x).sectLen x = some x.syms.length ∧ x.accept = false ∧
       x.anchor ≠ some (withInst x).devnum ∧ x.counted = 0) := by decide +kernel

/-- A completion with OUTCOME 0 for detector 0. -/
def doneBead : Bead := mkBead (head0 2 0x10 false true false) 0 0xBC 0 0 0x98 0 0 [0]

/-- An instance whose decode of all copies is out, and in its buffer the decoded bits of the payload byte 0x42. -/
def bits42 : List Nat := whiten (payloadBits [0x42])
def withAb (d : Dev) (m : List Host.Cell) : Dev := { d with ab := m }
def decoded : Dev := withAb (withInst (instOf .all true))
  (wordSet (wordSet (withInst (instOf .all true)).ab (instBuf 5 + 3200) (packWord (bits42.take 24)) allLanes) (instBuf 5 + 3200 + 1)
    (packWord (bits42.drop 24)) allLanes)

theorem withAb_take (d : Dev) (m : List Host.Cell) (b : Bead) : ((withAb d m).take b).ab = m := rfl

theorem bufThere_inst (i j : Nat) (h : i < 2048) (g : j < instBufLen) : bufThere (instBuf i + j) = true := by
  simp only [bufThere, Bool.or_eq_true, List.any_eq_true, List.mem_range, Bool.and_eq_true, decide_eq_true_eq]
  exact Or.inr ⟨i, h, by omega, by omega⟩

/-- Two words of an instance's buffer read as they were written. -/
theorem buf_bits (d : Dev) (m : List Host.Cell) (w0 w1 : Word) (he : ∀ o, SMap.get d.abErr 0 o = 0)
    (hd : d.ab = wordSet (wordSet m (instBuf 5 + 3200) w0 allLanes) (instBuf 5 + 3200 + 1) w1 allLanes) :
    (d.bitsRead (instOut 5) 32).1 = some ((([w0, w1] : List Word).flatMap unpackWord).take 32) := by
  have h5 : instBuf 5 < 0x1000000 - instBufLen := Nat.mod_lt _ (by decide)
  have hl : instBufLen = 3300 := rfl
  have p (o : Nat) (g : o < instBuf 5 + 3300) : placeOf (0x40000000 + o) = .abuf o := by
    simp only [placeOf]
    rw [if_neg (by omega), if_neg (by omega), if_neg (by omega), if_neg (by omega), if_pos (by omega)]
    exact congrArg Place.abuf (by omega)
  have r (j : Nat) (g : j < 3300) : d.memRead (0x40000000 + (instBuf 5 + j)) = (some (wordGet d.ab (instBuf 5 + j)), d) := by
    simp only [Dev.memRead, p (instBuf 5 + j) (by omega), bufThere_inst 5 j (by decide) (by omega), if_true, Dev.abRead, he]
  have a0 : wordGet d.ab (instBuf 5 + 3200) = w0 := by
    rw [hd, wordGet_wordSet_other _ (by omega), wordGet_wordSet_same]
  have a1 : wordGet d.ab (instBuf 5 + 3201) = w1 := by rw [hd]; exact wordGet_wordSet_same _ _ _
  have w : bitWords 32 = 2 := by decide
  have x0 : instOut 5 = 0x40000000 + (instBuf 5 + 3200) := Nat.add_assoc _ _ _
  have x1 : instOut 5 + 1 = 0x40000000 + (instBuf 5 + 3201) := by rw [x0, Nat.add_assoc]
  simp only [Dev.bitsRead, Dev.wordsRead, w, Dev.memReadN, memPort, x1]
  simp only [x0, r 3200 (by omega), r 3201 (by omega), a0, a1]

theorem decoded_bits : ((decoded.take doneBead).bitsRead (instOut 5) (8 * hLen 0x0100 + 24)).1 = some bits42 := by
  have h := buf_bits (decoded.take doneBead) (withInst (instOf .all true)).ab (packWord (bits42.take 24)) (packWord (bits42.drop 24))
    (fun _ => by rw [show (decoded.take doneBead).abErr = [] by decide +kernel]; rfl) (withAb_take _ _ _)
  have hw : (([packWord (bits42.take 24), packWord (bits42.drop 24)] : List Word).flatMap unpackWord).take 32 = bits42 := by decide +kernel
  rw [hw] at h
  exact h

theorem witness_BurstOutcomes :
    (let x := instOf .all true
     (withInst x).inst 5 = some x ∧ doneBead.ok = true ∧ (withInst x).unitAway doneBead.dunit = false ∧ doneBead.op = 0x10 ∧
       doneBead.rsp = true ∧ bits (doneBead.pay 0) 23 22 = 0 ∧ x.stage = .all ∧
       (let n := 8 * hLen (x.header.getD 0)
        let v := whiten (bits42 ++ List.replicate (n + 24 - bits42.length) 0)
        crc24b (v.take n) = ofBits ((v.drop n).take 24))) ∧
    (let x := { instOf .wait true with strong := [(6, 1)], counted := 1 }
     let d := (withInst x).setClaim 1 { start := 0, stop := none, outcome := some 4, rebuild := none }
     let e := (withInst x).setClaim 1 { start := 0, stop := none, outcome := some 2, rebuild := none }
     d.inst 5 = some x ∧ x.stage = .wait ∧ d.waitsBefore 5 x = false ∧ e.waitsBefore 5 x = false ∧
       (∀ p ∈ x.strong.take x.counted, d.claimOutcome p.2 = some 4 ∧ 2 < 4) ∧
       ∀ p ∈ x.strong.take x.counted, e.claimOutcome p.2 = some 2 ∧ 2 ≤ 2) ∧
    (let x := instOf .track true
     let d := withInst x
     reported 6 (d.fbit (Reg.BDT_CJNT x.det x.slot) Reg.BDT_CJNT_RPTALL_f) = false ∧
       reported 4 (d.fbit (Reg.BDT_CJNT x.det x.slot) Reg.BDT_CJNT_RPTALL_f) = true) := by decide +kernel

/-- A bead of joint reception for detector 0's instance 5, from device 7. -/
def jointBead (op : Nat) : Bead := mkBead (head0 2 op false false false) 0 0xBC 0 7 0xBC 0 0 [word (5 * 4096 + 5), 0, 0, 0, 0, 0]

/-- An acknowledgment of report 9, and the device with it alone. -/
def ack9 (burst : Option (Nat × List Nat)) (launch : Nat) : Ack :=
  { rseq := 9, det := 0, slot := 2, launch := launch, freq := 0, crc := 1, rep := 0, auto := true, burst := burst }
def ackDev (a : Ack) : Dev := { bdt with brx := { bdt.brx with acks := [a] } }

theorem witness_JointAndAcknowledged :
    ((jointBead 0x40).ok = true ∧ bdt.unitAway (jointBead 0x40).dunit = false ∧ (jointBead 0x40).op = 0x40) ∧
    (let x := instOf .track false
     let d := (withInst x).fset (Reg.BDT_CJNT 0 2) Reg.BDT_CJNT_JEN_f true
     d.inst 5 = some x ∧ x.synced = true ∧ x.anchor = none ∧ d.fbit (Reg.BDT_CJNT x.det x.slot) Reg.BDT_CJNT_JEN_f = true) ∧
    (let x := { instOf .track false with anchor := some bdt.devnum }
     let b := jointBead 0x41
     b.ok = true ∧ (withInst x).unitAway b.dunit = false ∧ b.op = 0x41 ∧ (withInst x).inst (bits (b.pay 0) 23 12) = some x ∧
       x.anchor = some (withInst x).devnum ∧ x.contribs = [] ∧ bits (b.pay 2) 17 0 = 0) ∧
    (let x := { instOf .track false with anchor := some 7 }
     let b := jointBead 0x42
     b.ok = true ∧ b.op = 0x42 ∧ (withInst x).inst (b.pay 0 % 2 ^ 12) = some x ∧ x.anchor = some b.sdev) ∧
    (let x := instOf .joint true
     (withInst x).inst 5 = some x ∧ x.stage = .joint ∧ x.counted = 0) ∧
    (let a := ack9 none 1000001000000
     (ackDev a).brx.acks = [a] ∧ a.rseq = 9 ∧ a.burst = none ∧ (ackDev a).nowNs ≤ a.launch - 1000000) ∧
    (let a := ack9 none 1000000000000
     (ackDev a).brx.acks = [a] ∧ a.burst = none ∧ a.launch - 1000000 ≤ (ackDev a).nowNs) ∧
    (let a := ack9 (some (0x0300, [0, 0, 1])) 1000000000000
     (ackDev a).brx.acks = [a] ∧ a.burst = some (0x0300, [0, 0, 1]) ∧ a.launch ≤ (ackDev a).nowNs ∧ (ackDev a).timeValid = true ∧
       ((ackDev a).fset Reg.TIM_CTL Reg.TIM_CTL_VALID_f false).timeValid = false) := by decide +kernel

theorem test_ack_launch : ((after (execAckLaunch 9 (st (ackDev (ack9 (some (0x0300, [0, 0, 1])) 1000000000000))))).out.length) = 1 := by
  decide +kernel

/-- Carrier 4 of rod 0, an item of it, and its bead. -/
def carrier4 : Carrier := { num := 4, kind := 0, rod := 0, lead := 8, rxa := 1, txa := 1, hostep := 2, ports := 1 }
def carrierDev (st : List (Nat × Nat × Nat × Nat)) : Dev := { bdt with carriers := [carrier4], brx := { bdt.brx with status := st } }
def itemOf (item : Nat) (uses : List Use) : HostItem :=
  { carrier := 4, item := item, rnti := 0x11, sub := 1, modeB := false, uses := uses, params := none, coex := none, frame := 0 }
def hostBead (tag : Nat) : Bead := mkBead (head0 2 0x20 true false false) 0 3 0 0 0x840 0 tag [0]

theorem test_late_item_answered : (after (execHostItemBead (hostBead 0x1FFF) (itemOf 1 []) (st (carrierDev [])))).brx.status =
    [(4, 1, 3 * 2 ^ 20 + 2 ^ 16 + 0x11, (hostBead 0x1FFF).h3.toNat)] := by decide +kernel

theorem witness_CarrierCommands : unitCore (hostBead 0).dunit = some 3 ∧
    (carrierDev []).carriers.find? (fun x => x.num == (itemOf 1 []).carrier) = some carrier4 ∧ 3 / 8 = carrier4.rod ∧
    bead3.dlv = false ∧ (hostBead 0).ok = true ∧ (hostBead 0).dlv = true ∧ (carrierDev []).unitAway (hostBead 0).dunit = false ∧
    (carrierDev []).keyPast ((carrierDev []).hostKey (hostBead 0x1FFF)) = true ∧
    (carrierDev []).keyPast ((carrierDev []).hostKey (hostBead 0x1000)) = false ∧
    (itemOf 1 []).reason 0 = 0 ∧ (itemOf 5 []).reason 0 = 0 ∧ (itemOf 1 [.tdd]).reason 0 ≠ 0 ∧ (itemOf 1 []).item ≠ 5 ∧
    (carrierDev [(4, 1, 2, 3)]).brx.status = [(4, 1, 2, 3)] := by decide +kernel
/-! ### Reckoning memory -/

/-- Page 0 in window 0 of bank 0, dirty, its word 5 holding 9. -/
def page0 : Dev :=
  let d := { devBoot with rm := { devBoot.rm with initDone := true, winData := wordSet devBoot.rm.winData 5 9 7 } }
  d.setWin 0 0 { winFree with page := some 0, dirty := true }

/-- Reckoning memory initialised, no page in a window. -/
def rmInit : Dev := { devBoot with rm := { devBoot.rm with initDone := true } }

/-- A read or write of word 5. -/
def acc5 (w : Bool) : MemAccess := { req := .local 3, tag := 1, word := 5, write := w, data := 0x123456, lanes := 2 }

/-- The same with word 0 to 15 retained. -/
def page0ret : Dev :=
  ((page0.fset (Reg.STC_RET 0) Reg.STC_RET_VALID_f true).rset (Reg.STC_RETBASE_HI 0) 0x10).rset (Reg.STC_RETLEN 0) 16

theorem test_read_word_from_window : (after (execMemRequest (acc5 false) (st page0))).out = [.memResp (.local 3) 1 true 9] := by
  decide +kernel
theorem test_write_one_lane : wordGet (after (execMemRequest (acc5 true) (st page0))).rm.winData 5 = 0x003409 := by decide +kernel

theorem test_one_error_is_corrected :
    ({ rmInit with rm := { rmInit.rm with phys := [(0, { tcode := 2, poison := false, page := 0, ver := 0, flips := [40] })] } } : Dev).decode 0 =
      .corrected 1 [] := by decide +kernel

/-- Page 0 waiting for its bank's decoder. -/
def page0wait : Dev := rmInit.setWaiting 0 [acc5 false]

theorem witness_ReckoningMemory_access : (acc5 true).word / 512 < pages ∧ (acc5 true).word / 512 % 32 = ((0 : Fin 32) : Nat) ∧
    page0.rm.initDone = true ∧ page0.winOf 0 = some 0 ∧ (page0.win 0 0).poison = false ∧ SMap.get page0.rm.winErr 0 5 = 0 ∧
    page0.retained (0x10000000 + 5) = false ∧ page0ret.retained (0x10000000 + 5) = true ∧ page0ret.winOf 0 = some 0 ∧
    rmInit.memHit (acc5 false) = false ∧ page0wait.memWaiting 0 = [acc5 false] ∧ page0wait.winOf 0 = none ∧
    (page0wait.win 0 3).page = none ∧ Memory.wf page0wait.rm.store = true ∧ page0wait.decode 0 = .clean [] ∧
    ((page0wait.phys (page0wait.place 0)).after []).poison = false ∧
    SMap.get page0wait.rm.winErr 0 (acc5 false).word = 0 ∧ Memory.wf page0wait.rm.winData = true ∧
    (let d := { page0wait with rm := { page0wait.rm with phys := [(0, { tcode := 1, poison := false, page := 0, ver := 0, flips := [] })] } }
     d.decode 0 = .uncorrectable) := by decide +kernel

theorem witness_ReckoningMemory_pages :
    (let d := rmInit.fset Reg.PGC_SCRUB_CTL Reg.PGC_SCRUB_CTL_EN_f true
     d.fbit Reg.PGC_SCRUB_CTL Reg.PGC_SCRUB_CTL_EN_f = true ∧ d.rm.initDone = true ∧ d.pwr.mode ≤ 1) ∧
    (let w := putF (fw Reg.PGC_RECMD_GO_f 1) Reg.PGC_RECMD_TNEW_f 4
     getF w Reg.PGC_RECMD_GO_f = 1 ∧ rmInit.rm.reenc = none ∧ getF w Reg.PGC_RECMD_TNEW_f ≤ 4 ∧ getF w Reg.PGC_RECMD_REGION_f ≤ 383) ∧
    (let d := { rmInit with rm := { rmInit.rm with reenc := some 0 } }
     d.rm.reenc = some 0 ∧ d.rm.initDone = true ∧ d.fget (Reg.PGC_REG 0) Reg.PGC_REG_CURSOR_f = 0 ∧ d.winOf 0 = none ∧ d.decode 0 = .clean [] ∧
       d.fbit Reg.PGC_FLIP_MASK Reg.PGC_FLIP_MASK_ARM_f = false ∧ Memory.wf d.rm.store = true) ∧
    (let w := fw Reg.PGC_REMAP_GO_f 1
     getF w Reg.PGC_REMAP_GO_f = 1 ∧ getF w Reg.PGC_REMAP_PAGE_f < pages ∧ (rmInit.freeSpares 0).head? = some 0 ∧
       rmInit.spareOf 0 0 = none ∧ rmInit.winOf 0 = none ∧ rmInit.decode 0 = .clean []) ∧
    (let w := fw Reg.MEM_FLUSH_GO_f 1
     getF w Reg.MEM_FLUSH_GO_f = 1 ∧ getF w Reg.MEM_FLUSH_ALL_f = 0 ∧ getF w Reg.MEM_FLUSH_DROP_f = 0 ∧ page0.rm.flushBusy = false ∧
       page0.winOf 0 = some 0 ∧ (page0.win 0 0).dirty = true ∧ (page0.win 0 0).poison = false ∧ page0.rm.winErr = [] ∧ Memory.wf page0.rm.winData = true) := by
  decide +kernel
/-! ### DMA, queues, the structure loader -/

/-- Channel 2 of engine 0, owned by core 3, with a descriptor of six bytes from its word 0 to its word 0x100. -/
def dmaDev : Dev :=
  let d := (dev3.setDom 205 .on).fset (Reg.DMA_ECTL 0) Reg.DMA_ECTL_EN_f true
  let d := (d.fset (Reg.DMA_OWN 0 2) Reg.DMA_OWN_VALID_f true).fput (Reg.DMA_OWN 0 2) Reg.DMA_OWN_UNIT_f 3
  let d := ((d.rset (Reg.DMA_SLEN 0 2) 6).rset (Reg.DMA_SLINES 0 2) 1).rset (Reg.DMA_DLEN 0 2) 6
  let d := ((d.rset (Reg.DMA_DLINES 0 2) 1).rset (Reg.DMA_DST_LO 0 2) 0x100).rset (Reg.DMA_LEN 0 2) 6
  (withLm d 0 [0x030201, 0x060504]).rset (Reg.DMA_NEXT_LO 0 2) 0x200

/-- The same running, with a beat read, with its bytes arrived, and with its write beat issued. -/
def dmaRun : Dev := after (execDmaStart (.local 3) 0 2 (fw Reg.DMA_CTL_START_f 1) (st dmaDev))
def dmaRead : Dev := after (execDmaBeatIssue 0 false (st dmaRun))
def dmaGot : Dev := after (execDmaReadResponse 0 2 0 none (st dmaRead))
def dmaWrite : Dev := after (execDmaBeatIssue 0 true (st dmaGot))
def dmaDone : Dev := after (execDmaWriteResponse 0 2 0 none (st dmaWrite))

theorem test_dma_copies : wordGet dmaDone.lm (lmAddr 3 0x100) = 0x030201 ∧ wordGet dmaDone.lm (lmAddr 3 0x101) = 0x060504 := by decide +kernel
theorem test_dma_done_state : dmaWrite.dmaState 0 2 = 3 ∧ dmaDone.dmaState 0 2 = 4 := by decide +kernel

/-- The channel loading an image that lies at its word 0x200. -/
def dmaLoad : Dev := (withLm dmaDev 0x200 [0xD50000]).setDmaState 0 2 1
def dmaLoaded : Dev := dmaLoad.setDma 0 2 { dmaIdle with img := 3 }

/-- The channel waiting for another device's answer to a read. -/
def dmaFar : Dev := dmaRun.setDma 0 2 { dmaIdle with beads := [{ tag := 512, sent := 0, rd := some (0, 6), beats := [] }] }

theorem witness_DmaChannels :
    (dmaDev.dmaMay 0 2 (.local 3) = true ∧ dmaDev.dmaStartable 0 2 = true ∧
      (let w := fw Reg.DMA_CTL_START_f 1; getF w Reg.DMA_CTL_START_f = 1 ∧ getF w Reg.DMA_CTL_LOAD_f = 0) ∧
      (let w := putF (fw Reg.DMA_CTL_START_f 1) Reg.DMA_CTL_LOAD_f 1; getF w Reg.DMA_CTL_START_f = 1 ∧ getF w Reg.DMA_CTL_LOAD_f = 1) ∧
      (let w := fw Reg.DMA_CTL_STOP_f 1; getF w Reg.DMA_CTL_STOP_f = 1 ∧ getF w Reg.DMA_CTL_START_f = 0)) ∧
    dmaLoad.dmaState 0 2 = 1 ∧
    (dmaRun.dmaState 0 2 = 2 ∧ (dmaRun.dmaCh 0 2).endAs = none ∧ (dmaRun.dmaCh 0 2).quiet = true) ∧
    (dmaRead.dmaState 0 2 = 2 ∧ (dmaRead.dmaCh 0 2).endAs = none ∧ (dmaRead.dmaCh 0 2).quiet = false) ∧
    dmaWrite.dmaState 0 2 = 3 ∧
    (dmaLoad.dmaPick 0 false = some 2 ∧ dmaLoad.dmaState 0 2 = 1 ∧ dmaLoaded.dmaState 0 2 = 1 ∧
      dmaLoaded.dmaImgBeats 0 2 ≤ (dmaLoaded.dmaCh 0 2).img) ∧
    (dmaLoaded.dmaReady 0 2 (dmaLoaded.dmaNext 0 2) = true ∧ dmaLoaded.dmaOwner 0 2 = some (.local 3) ∧
      dmaLoaded.spanGranted (.local 3) (dmaLoaded.dmaNext 0 2) (dmaLoaded.dmaNext 0 2 + 15) false = true ∧
      (let r := dmaLoaded.dmaWords 0 2 (dmaLoaded.dmaNext 0 2) 16
       r.2.1 = true ∧ bits (r.1.getD 0 0).toNat 23 16 = 0xD5 ∧ r.2.2.stc.forced = false)) ∧
    (dmaRun.dmaPick 0 false = some 2 ∧ (dmaRun.dmaSrc 0 2).dev = none) ∧ (dmaGot.dmaPick 0 true = some 2 ∧ (dmaGot.dmaDst 0 2).dev = none) ∧
    ((dmaRead.dmaCh 0 2).reads.find? (fun q => q.1 == 0) = some (0, 6) ∧ dmaRead.dmaReady 0 2 ((dmaRead.dmaSrc 0 2).byteAt 0 / 3) = true ∧
      (let r := (dmaRead.onDma 0 2 fun x => { x with reads := x.reads.erase (0, 6) }).dmaWords 0 2 0 2
       r.2.1 = true ∧ r.2.2.dmaState 0 2 = 2 ∧ (r.2.2.dmaCh 0 2).endAs = none)) ∧
    ((dmaFar.dmaCh 0 2).beads = [{ tag := 512, sent := 0, rd := some (0, 6), beats := [] }] ∧ (dmaFar.dmaCh 0 2).reads = [] ∧
      (dmaFar.dmaCh 0 2).writes = [] ∧ (dmaFar.dmaCh 0 2).bad = none ∧ (dmaFar.dmaCh 0 2).endAs = none ∧ dmaFar.dmaState 0 2 = 2 ∧
      dmaFar.stc.forced = false) ∧
    (dmaDev.dmaOwner 0 2 ≠ some (.local 4) ∧ Req.local 4 ≠ .local 0x7F ∧ Req.local 4 ≠ .local 0x7E) := by decide +kernel

/-- Channel 2 with two write beats outstanding, so that it still runs when one is confirmed. -/
def dmaTwo : Dev := dmaRun.setDma 0 2 { dmaIdle with
  writes := [{ idx := 0, j := 0, pos := 0x300, data := [1, 2, 3] }, { idx := 1, j := 3, pos := 0x303, data := [4, 5, 6] }] }

theorem witness_DmaChannels_write : (dmaTwo.dmaCh 0 2).writes.find? (fun b => b.idx == 0) = some { idx := 0, j := 0, pos := 0x300, data := [1, 2, 3] } ∧
    dmaTwo.dmaReady 0 2 (0x300 / 3) = true ∧
    (let r := (dmaTwo.onDma 0 2 fun x => { x with writes := x.writes.erase { idx := 0, j := 0, pos := 0x300, data := [1, 2, 3] } }).dmaWriteAll
       0 2 (laneWords 0x300 [1, 2, 3])
     r.1 = true ∧ r.2.dmaState 0 2 = 2 ∧ (r.2.dmaCh 0 2).endAs = none ∧ r.2.stc.forced = false) := by decide +kernel

/-- A DATA bead for queue 5 from core 3. -/
def queueBead : Bead := mkBead (head0 2 0x20 false false false) 0 0x405 0 devBoot.devnum 3 0 0 [7, 8]

theorem test_queue_bead : (after (execQueueBeadRx queueBead (st queue5))).queue 5 = { (after (execQueueBeadRx queueBead (st queue5))).queue 5 with
    words := [7, 8] } := by decide +kernel

theorem witness_QueueCommands : 0x400 ≤ queueBead.dunit ∧ queueBead.dunit < 0x800 ∧ queueBead.ok = true ∧
    queue5.unitAway queueBead.dunit = false ∧ queueBead.op = 0x20 ∧ (queue5.take queueBead).qOn 5 = true ∧
    (queue5.take queueBead).qProducer 5 queueBead = true ∧ ((queue5.take queueBead).qPushWhole 5 queueBead.payload).1 = true ∧
    (devBoot.take queueBead).qOn 5 = false ∧
    (let q := { qEmpty with rdIn := 1, cur := 1 }; q.midRead = true ∧ q.partway = true ∧ q.discard = false) ∧
    (queue5.qcfg 5).cls ≠ 2 ∧ (queue5.qcfg 5).ww = 0 ∧ qEmpty.units = [] ∧ qEmpty.discard = false ∧ qEmpty.sink = false ∧
    qEmpty.words.length < (queue5.qcfg 5).cap ∧ (queue5.qcfg 5).cap ≤ [1, 2, 3, 4].length := by decide +kernel

/-- The header of a FULL image with no record body, at word 0 of core 3's local memory, and the loader in a state. -/
def imgHead : List Word := [0x47484D, 0x010000, 1, word (16 + manifestLen), 16, 0x9624A1]
def stcDev (state : Nat) (op : StcOp) : Dev :=
  let d := ((withLm dev3 0 imgHead).fput Reg.STC_STAT Reg.STC_STAT_STATE_f state).rset Reg.STC_IMG_LO 0x030000
  { d.rset Reg.STC_IMG_HI 0x20 with stc := { d.stc with op := op, forced := false } }

theorem witness_LoaderAndFence :
    (let w := fw Reg.STC_CMD_GO_f 1
     getF w Reg.STC_CMD_GO_f = 1 ∧ getF w Reg.STC_CMD_OP_f = 0 ∧ (stcDev 0 .none).stc.wbusy = false ∧ (stcDev 0 .none).stcIs 0 = true ∧
       (stcDev 5 .none).stcIs 5 = true) ∧
    (let w := putF (fw Reg.STC_CMD_GO_f 1) Reg.STC_CMD_OP_f 1
     getF w Reg.STC_CMD_GO_f = 1 ∧ getF w Reg.STC_CMD_OP_f = 1 ∧ (stcDev 4 .none).stcIs 4 = true) ∧
    (let d := stcDev 2 .slice
     d.stcIs 2 = true ∧ d.stc.forced = false ∧ getF (fw Reg.STC_DRAINACK_ACK_f 1) Reg.STC_DRAINACK_ACK_f = 1 ∧
       d.fget Reg.STC_SLICE Reg.STC_SLICE_OLD_f * 8 + 3 = 3 ∧ d.fbit Reg.STC_SLICE Reg.STC_SLICE_FORCE_f = false ∧ d.stc.fenceWait = [] ∧
       ∀ i, i < 8 → Req.local 8 ≠ .local (d.fget Reg.STC_SLICE Reg.STC_SLICE_OLD_f * 8 + i)) ∧
    (let w := putF (fw Reg.STC_FENCE_GO_f 1) Reg.STC_FENCE_UNIT_f 3
     (Req.local 0x7F).trusted = true ∧ getF w Reg.STC_FENCE_GO_f = 1 ∧ unitFences (getF w Reg.STC_FENCE_UNIT_f) = true ∧
       dev3.fenced 3 = false ∧ dev3.stc.fenceWait.contains 3 = false ∧ unitFences 0x220 = false ∧ (Req.local 3).trusted = false) := by
  decide +kernel

theorem witness_LoaderAndFence_apply :
    (let d := stcDev 3 .full
     d.stcIs 3 = true ∧ d.stc.wbusy = false ∧ (d.memReadN d.imgBase 16).2.1 = true ∧ imgLen (d.memReadN d.imgBase 16).1 = 16 + manifestLen ∧
       d.imgBase = 0x20030000 ∧ d.stc.op = .full ∧ (stcDev 3 .slice).stc.op = .slice) := by decide +kernel

theorem witness_LoaderAndFence_verify :
    (let d := stcDev 1 .full
     let r := d.memReadN d.imgBase (imgLen imgHead)
     d.stcIs 1 = true ∧ d.stc.wbusy = false ∧ d.sec.waiting = [] ∧ d.stc.op = .full ∧ d.stc.fenceWait = [] ∧
       headerBad (d.memReadN d.imgBase 16).1 false = none ∧ r.2.1 = true ∧ needsInit (imgBody r.1) = false ∧
       (r.2.2.imageBad r.1 d.imgBase false).isSome = true) := by decide +kernel
/-! ### Time, Tally, events -/

/-- The time base set up for SET: reference present, 500 s and 0 ns held. -/
def timDev : Dev := { (timed devBoot).rset Reg.TIM_SET_SL 500 with tim := { devBoot.tim with refOk := true, ppsFrom := 0 } }

theorem test_tim_cmd_set : secOf (after (execTimCmdSet (.local 0x7F) (st timDev))).time = 500 := by decide +kernel
theorem test_tim_step : let d := timDev.rset Reg.TIM_OFS_LO 0xFFFFFF
    let e := (d.rset Reg.TIM_OFS_HI 0xFFFFFF)
    (after (execTimCmdStep (.local 0x7F) (st e))).time = timDev.time - nsUnit := by decide +kernel

theorem witness_TimeCommands : timDev.timMay (.local 0x7F) = true ∧ timDev.timSet = some (500 * secUnit) ∧
    (timDev.rset Reg.TIM_SET_NSH 0xFFFFFF).timSet = none ∧
    (let w : Word := word (2 ^ 40 / 2 ^ 24); 3 * nsUnit ≤ 4 * (w.toNat * 2 ^ 24) ∧ 2 * (w.toNat * 2 ^ 24) ≤ 3 * nsUnit) ∧
    (devBoot.tim.incHeld.getD (devBoot.rget Reg.TIM_INC_LO)).toNat + (0 : Word).toNat * 2 ^ 24 < nsUnit / 2 ∧
    (let w := fw Reg.TIM_REFCFG_MULT_f 40; 6 ≤ getF w Reg.TIM_REFCFG_MULT_f ∧ getF w Reg.TIM_REFCFG_MULT_f ≤ 100) ∧
    getF 0 Reg.TIM_REFCFG_MULT_f < 6 ∧ timDev.tim.refOk = true ∧ timDev.timeValid = true ∧
    (timDev.fset Reg.TIM_CTL Reg.TIM_CTL_TSET_f true).fbit Reg.TIM_CTL Reg.TIM_CTL_TSET_f = true ∧
    (let w := fw Reg.TIM_CTL_VALID_f 1; getF w Reg.TIM_CTL_VALID_f = 1) := by decide +kernel

theorem witness_TimePrivilege : Req.local 3 ≠ .local 0x7F ∧ Req.local 3 ≠ .local 0x7E ∧
    ¬ (devBoot.fget Reg.TIM_WRUNIT Reg.TIM_WRUNIT_VALID_f = 1) ∧
    (let d := (devBoot.fset Reg.TIM_WRUNIT Reg.TIM_WRUNIT_VALID_f true).fput Reg.TIM_WRUNIT Reg.TIM_WRUNIT_UNIT_f 3
     d.fget Reg.TIM_WRUNIT Reg.TIM_WRUNIT_VALID_f = 1 ∧ d.fget Reg.TIM_WRUNIT Reg.TIM_WRUNIT_UNIT_f = 3) := by decide +kernel

/-- PPS_IN in service for rising edges, none yet. -/
def ppsDev : Dev := timDev.fset Reg.TIM_PPSI_CFG Reg.TIM_PPSI_CFG_EN_f true

/-- Compare unit 0 in service with its target at 0 s. -/
def cmpDev : Dev := timDev.fset (Reg.TIM_CMP_CTL 0) Reg.TIM_CMP_CTL_EN_f true

theorem test_pps_in_counts : (after (execPpsInEdge true 1000 0 (st ppsDev))).rget Reg.TIM_PPSI_CNT = 1 := by decide +kernel

theorem witness_TimeEvents :
    (let d := { timDev with tim := { timDev.tim with rem := 5 } }; d.tim.rem ≠ 0 ∧ d.incTake.edge.2 = 0) ∧
    (let f := 25000000 * devBoot.fget Reg.TIM_REFCFG Reg.TIM_REFCFG_MULT_f
     devBoot.tim.refOk = false ∧ 800000000 ≤ f ∧ f ≤ 1000000000 ∧ 1 * devBoot.fget Reg.TIM_REFCFG Reg.TIM_REFCFG_MULT_f < 800000000) ∧
    (ppsDev.fget Reg.TIM_PPSI_CFG Reg.TIM_PPSI_CFG_EN_f = 1 ∧ ppsDev.fget Reg.TIM_PPSI_CFG Reg.TIM_PPSI_CFG_EDGE_f = 0 ∧
      ppsDev.tim.ppsLast = none ∧ ppsDev.tim.armed = none ∧ ppsDev.tim.ppsMissed = false ∧
      ppsDev.fbit Reg.TIM_PPSI_CFG Reg.TIM_PPSI_CFG_EN_f = true ∧ ppsDev.dom 207 = .on) ∧
    (let d := { ppsDev with tim := { ppsDev.tim with armed := some 7, ppsLast := some 0 } }
     d.tim.armed = some 7 ∧ d.tim.ppsLast = some 0 ∧ 0 + ms 500 ≤ d.elapsed) ∧
    (let d := timDev.fset Reg.TIM_PPSO_CFG Reg.TIM_PPSO_CFG_EN_f true
     d.fget Reg.TIM_PPSO_CFG Reg.TIM_PPSO_CFG_EN_f = 1 ∧ d.timeValid = true ∧ d.ppsoNow ≠ d.tim.ppsoSec) ∧
    (cmpDev.cmpDue 0 = true ∧ cmpDev.cmpBit 0 Reg.TIM_CMP_CTL_WAKE_f = false ∧ cmpDev.cmpBit 0 Reg.TIM_CMP_CTL_PER_f = false ∧
      cmpDev.cmpBit 0 Reg.TIM_CMP_CTL_NOTE_f = false) ∧
    (let d := ((cmpDev.fset (Reg.TIM_CMP_CTL 0) Reg.TIM_CMP_CTL_PER_f true).fset (Reg.TIM_CMP_CTL 0) Reg.TIM_CMP_CTL_NOTE_f true)
     d.cmpDue 0 = true ∧ d.cmpBit 0 Reg.TIM_CMP_CTL_WAKE_f = false ∧ d.cmpBit 0 Reg.TIM_CMP_CTL_PER_f = true ∧
       d.cmpBit 0 Reg.TIM_CMP_CTL_NOTE_f = true) := by decide +kernel

/-- A Tally that copies, and one armed whose target is due. -/
def tlyCopying : Dev := { timDev with tly := { timDev.tly with copying := true } }
def tlyArmed : Dev := { timDev with tly := { timDev.tly with armed := true } }

/-- An event waiting, and with it a ring of eight records in core 3's local memory. -/
def evDev : Dev := { timed dev3 with evq := [(0x801, 4)] }
def evRing : Dev :=
  (((evDev.rset Reg.EVT_RBASE_LO 0x030000).rset Reg.EVT_RBASE_HI 0x20).fput Reg.EVT_RLEN Reg.EVT_RLEN_LEN_f 8).fset Reg.EVT_CTL
    Reg.EVT_CTL_EN_f true

theorem witness_TallyAndEvents : timDev.tly.copying = false ∧ getF 0 Reg.TLY_AT_NSH_ARM_f = 0 ∧
    getF (fw Reg.TLY_AT_NSH_ARM_f 1) Reg.TLY_AT_NSH_ARM_f = 1 ∧ tlyCopying.tly.copying = true ∧ tlyArmed.tlyDue = true ∧
    tlyCopying.tly.rearm = false ∧ tlyCopying.tly.deferred = [] ∧
    (evDev.dom 207 = .on ∧ evDev.tail = [] ∧ evDev.evq = [(0x801, 4)] ∧ rateLimited 0x801 = false ∧ evDev.arb.lost = 0 ∧
      evDev.ringRoom = false ∧ bits (evDev.fget Reg.EVT_FWD Reg.EVT_FWD_CLASSES_f) (0x801 / 256) (0x801 / 256) = 0) ∧
    (evRing.ringRoom = true ∧ evRing.ringAt = 0x20030000 ∧
      (let r := evRing.memWriteN evRing.ringAt [0, 0, 0, 0]
       r.1 = true ∧ r.2.fbit Reg.EVT_CTL Reg.EVT_CTL_NOTIFY_f = false)) ∧
    (let d := { timed dev3 with evSeen := [(0x201, 4, (timed dev3).elapsed)] }; d.suppressed 0x201 4 = true) ∧
    timDev.arb.lostNow = false := by decide +kernel
/-! ### The Ethernet bridge -/

/-- Port 2 in service in VLAN 1 with the default VID 1, its link up, a frame buffer of 16 cells in core 3's local memory. -/
def brgDev : Dev :=
  let d := ((timed dev3).setDom 203 .on).fset Reg.BRG_GCTL Reg.BRG_GCTL_EN_f true
  let d := ((d.fset (Reg.BRG_PCFG 2) Reg.BRG_PCFG_EN_f true).rset Reg.BRG_BUFBASE_LO 0x030000).rset Reg.BRG_BUFBASE_HI 0x20
  let d := ((d.rset Reg.BRG_BUFCELLS 16).rset (Reg.BRG_VLAN_MEMBER 1) 0x30004).fput (Reg.BRG_PVID 2) Reg.BRG_PVID_PVID_f 1
  d.onPort 2 fun x => { x with link := true }

/-- The same with a frame of 60 octets of zeros stored and queued in class 6 of port 2. -/
def brgFrame : Dev := brgDev.storeFrame (frameNew 1 0 0 16 0 true) (List.replicate 60 0) 6 [2]

/-- The same in the middle of that frame. -/
def brgSending : Dev := after (execEgressSelect 2 (st brgFrame))

theorem test_frame_goes_out : (after (execFrameTxEnd 2 0 (st brgSending))).get48 (Reg.BRG_TXFRM_LO 2) = 1 := by decide +kernel
theorem test_short_frame_counts_error : (after (execFrameReceived 2 [1, 2] true 0 0 0 (st brgDev))).get48 (Reg.BRG_RXERR_LO 2) = 1 := by
  decide +kernel

theorem witness_BridgePortsForward : 16 ∈ brgDev.destPorts 2 1 0xFFFFFFFFFFFF ∧
    (let d := brgDev.fset Reg.BRG_GCTL Reg.BRG_GCTL_RSVMGMT_f true; 17 ∈ d.destPorts 2 1 0x0180C2000000) ∧
    brgDev.portUp 2 = true ∧ (brgDev.bport 2).link = true ∧ (brgDev.bport 3).link = false ∧
    (let l : List Nat := List.replicate 60 0
     l.length = 60 ∧ frameType (untag l) ≠ 0x8808 ∧ brgDev.fbit (Reg.BRG_MSEC 2) Reg.BRG_MSEC_EN_f = false) := by decide +kernel

/-- A class without TIMED and GUARD loses no head frame. -/
theorem prune_fixed (d : Dev) (p t n : Nat) (h : d.tcBit p t Reg.BRG_TCCFG_TIMED_f = false) (g : d.tcBit p t Reg.BRG_TCCFG_GUARD_f = false) :
    d.prune p t n = d := by
  have hl : ∀ k, d.ltDrop p t k false = d := by
    intro k
    cases k with
    | zero => rfl
    | succ k => cases hf : (d.fq p t).head?.bind d.frameOf <;> simp [Dev.ltDrop, h, hf]
  have hg : d.guardDrop p t = d := by cases hf : (d.fq p t).head?.bind d.frameOf <;> simp [Dev.guardDrop, g, hf]
  cases n with
  | zero => rfl
  | succ n => simp only [Dev.prune, hl, hg, lt_irrefl, if_false]

/-- Neither does a port whose classes are all such. -/
theorem prunes_fixed (d : Dev) (p : Nat) (l : List Nat)
    (h : ∀ t ∈ l, d.tcBit p t Reg.BRG_TCCFG_TIMED_f = false ∧ d.tcBit p t Reg.BRG_TCCFG_GUARD_f = false) :
    l.foldl (fun d t => d.prune p t (d.fq p t).length) d = d := by
  induction l with
  | nil => rfl
  | cons t l ih =>
    have ht := h t (by simp)
    rw [List.foldl_cons, prune_fixed d p t _ ht.1 ht.2]
    exact ih fun x hx => h x (by simp [hx])

/-- Port 2 as its egress selection finds it, with an empty queue and with the frame. -/
def egEmpty : Dev := (((brgDev.pass (brgDev.bport 2).freeAt).shaperRefill 2).gclChange 2).gateUpdate 2
def egFrame : Dev := (((brgFrame.pass (brgFrame.bport 2).freeAt).shaperRefill 2).gclChange 2).gateUpdate 2

theorem witness_BridgePortsForward_empty : (brgDev.bport 2).tx = none ∧
    (List.range 8).foldl (fun d t => d.prune 2 t (d.fq 2 t).length) egEmpty = egEmpty ∧ (egEmpty.nextClass 2).1 = none :=
  ⟨by decide +kernel, prunes_fixed _ _ _ (by decide +kernel), by decide +kernel⟩

theorem witness_BridgePortsForward_frame : brgFrame.portUp 2 = true ∧ (brgFrame.bport 2).tx = none ∧
    (List.range 8).foldl (fun d t => d.prune 2 t (d.fq 2 t).length) egFrame = egFrame ∧ (egFrame.nextClass 2).1 = some 6 ∧
    (let d1 := (egFrame.nextClass 2).2; ((d1.fq 2 6).head?.bind d1.frameOf).isSome = true ∧ (d1.startFrame 2 6).1 = true) :=
  ⟨by decide +kernel, by decide +kernel, prunes_fixed _ _ _ (by decide +kernel), by decide +kernel, by decide +kernel⟩

theorem witness_BridgePortsForward_class :
    (let d := (brgFrame.fset (Reg.BRG_TCCFG 2 6) Reg.BRG_TCCFG_SP_f true)
     d.tcBit 2 6 Reg.BRG_TCCFG_SP_f = true ∧ d.eligible 2 6 = true ∧ ¬ (d.eligible 2 7 = true)) ∧
    ((brgSending.bport 2).tx.map fun x => (x.frame.onestep, ptpEvent x.octets)) = some (none, none) ∧
    ((brgSending.bport 2).tx.map fun x => (brgSending.delayStampAt x.frame x.octets, x.frame.rep.isNone)) = some (none, true) ∧
    (∀ k, k < 8 → brgSending.tcBit 2 k Reg.BRG_TCCFG_TIMED_f = false) ∧ brgSending.dfe.meas = [] := by
  decide +kernel

/-- A TXFRAME bead for port 2: the frame as it stands, 60 octets; and one without a frame. -/
def txBead : Bead := mkBead (head0 2 0x28 false false false) 0 0x820 0 0 3 0 0
  ([word (2 ^ 21 + 2 * 2 ^ 15), 0, 0, 0, 60] ++ List.replicate 20 0)
def txBad : Bead := mkBead (head0 2 0x28 false false false) 0 0x820 0 0 3 0 0 [0]

/-- A bead for host endpoint 1. -/
def toHost : Bead := mkBead (head0 2 0x20 false false false) 0 0x841 0 0 3 0 0 [1]
def hostOn : Dev := brgDev.fset (Reg.BRG_HOST 1) Reg.BRG_HOST_VALID_f true

theorem witness_BridgePortsForward_beads :
    (∀ b ∈ [txBead, txBad], b.dunit = 0x820 ∧ b.ok = true ∧ brgDev.unitAway b.dunit = false ∧ b.op = 0x28 ∧ b.rsp = false) ∧
    (brgDev.take txBad).txBad txBad = true ∧ (brgDev.take txBead).txBad txBead = false ∧ bits (txBead.pay 0) 21 21 = 1 ∧
    bits (txBead.pay 0) 19 15 < 16 ∧ toHost.dunit = 0x840 + 1 ∧ toHost.ok = true ∧
    (brgDev.take toHost).fbit (Reg.BRG_HOST 1) Reg.BRG_HOST_VALID_f = false ∧
    (let d := hostOn.take toHost
     d.fbit (Reg.BRG_HOST 1) Reg.BRG_HOST_VALID_f = true ∧
       ((d.gathered 1).1.flatMap Bead.words).length + toHost.len + 5 ≤ d.beadMaxW ∧
       d.fget Reg.BRG_BEADCFG Reg.BRG_BEADCFG_HOLD_f ≠ 0) ∧
    ((after (execBeadToHost toHost (st hostOn))).gathered 1).1 ≠ [] := by decide +kernel

/-- A gate list of one entry of 1 ms with a cycle of 1 ms, submitted. -/
def gclDev : Dev :=
  let d := (brgDev.rset (Reg.BRG_GCLCYC_LO 2) 1000000).rset (Reg.BRG_GCLE_INTERVAL 2 1 0) 1000000
  (d.rset (Reg.BRG_GCLE_INTERVAL 2 0 0) 1000000).rset (Reg.BRG_GCLE_GATES 2 1 0) 0x0F
def gclPend : Dev := gclDev.onPort 2 fun x => { x with ct := some (1001, 0) }
def gclDue : Dev := gclDev.onPort 2 fun x => { x with ct := some (1000, 0) }

/-- The database with an entry for address 0x42 in VLAN 1. -/
def fdbDev : Dev := (brgDev.rset Reg.BRG_FDBMAC_LO 0x42).onBrg fun b => { b with
  fdb := [{ vid := 1, mac := 0x42, mask := 4, static := false, fresh := 0 }] }

theorem witness_BridgeTables :
    (let w := putF (fw Reg.BRG_GCLCTL_PEND_f 1) Reg.BRG_GCLCTL_LEN_f 1
     gclDev.fbit (Reg.BRG_GCLCTL 2) Reg.BRG_GCLCTL_PEND_f = false ∧ getF w Reg.BRG_GCLCTL_PEND_f = 1 ∧
       brgDev.gclBad 2 0 = true ∧ gclDev.gclBad 2 (getF w Reg.BRG_GCLCTL_LEN_f) = false ∧
       (gclDev.rget (Reg.BRG_GCLBASE_NSL 2)).toNat + bits (gclDev.rget (Reg.BRG_GCLBASE_NSH 2)).toNat 5 0 * 2 ^ 24 < 1000000000) ∧
    getF 0 Reg.BRG_GCLCTL_PEND_f = 0 ∧
    ((gclPend.bport 2).ct = some (1001, 0) ∧ due69 1001 0 gclPend.time = false) ∧
    ((gclDue.bport 2).ct = some (1000, 0) ∧ due69 1000 0 gclDue.time = true) ∧
    (let d := brgDev.fset (Reg.BRG_SHPRATE 2 3) Reg.BRG_SHPRATE_EN_f true
     d.fbit (Reg.BRG_SHPRATE 2 3) Reg.BRG_SHPRATE_EN_f = true ∧ 0 < d.now100 / max 1 (d.bport 2).refill - (d.bport 2).refIdx ∧
       d.fbit (Reg.BRG_SHPRATE 2 4) Reg.BRG_SHPRATE_EN_f = false) ∧
    (∀ op ∈ [0, 1, 2, 3], let w := putF (putF (fw Reg.BRG_FDBCMD_GO_f 1) Reg.BRG_FDBCMD_OP_f op) Reg.BRG_FDBCMD_VID_f 1
      getF w Reg.BRG_FDBCMD_GO_f = 1 ∧ getF w Reg.BRG_FDBCMD_OP_f = op ∧ getF w Reg.BRG_FDBCMD_VID_f = 1) ∧
    fdbDev.macAt Reg.BRG_FDBMAC_LO = 0x42 ∧ (fdbDev.fdbFind 1 0x42).isSome = true ∧ (fdbDev.fdbFind 2 0x42) = none ∧
    fdbDev.ownEntry 2 0x42 = none ∧ ((fdbDev.fdbFind 1 0x42).map (·.static)) = some false ∧
    (fdbDev.fput Reg.BRG_GCTL Reg.BRG_GCTL_AGE_f 300).fget Reg.BRG_GCTL Reg.BRG_GCTL_AGE_f ≠ 0 ∧
    (fdbDev.brg.fdb.filter fun x => !(x.vid == 1 && x.mac == 0x42) && fdbBucket x.vid x.mac == fdbBucket 1 0x42).length < 4 := by
  decide +kernel

theorem test_gcl_change : (after (execGclChange 2 (st gclDue))).gclOper 2 = 1 - gclDue.gclOper 2 := by decide +kernel
/-! ### Serial lanes -/

/-- Fabric port 2 in service on lane 4 of quad 1, whose lane is in service and locked. -/
def lanDev : Dev :=
  let d := ((timed dev3).setDom 159 .on).fset Reg.FAB_GCTL Reg.FAB_GCTL_EN_f true
  let d := ((d.fset (Reg.FAB_PCFG 2) Reg.FAB_PCFG_EN_f true).fput (Reg.FAB_PCFG 2) Reg.FAB_PCFG_QUAD_f 1).fput (Reg.FAB_PCFG 2)
    Reg.FAB_PCFG_LANES_f 0
  let d := (d.fset (Reg.LAN_QCFG 1) Reg.LAN_QCFG_EN_f true).fput (Reg.LAN_QCFG 1) Reg.LAN_QCFG_USE_f 3
  let d := (d.fset (Reg.LAN_LCFG 1 0) Reg.LAN_LCFG_EN_f true).fset (Reg.LAN_QPLLA 1) Reg.LAN_QPLLA_EN_f true
  d.fset (Reg.LAN_LCTL 1 0) Reg.LAN_LCTL_EIDLE_f false

/-- The same with its lane in a state. -/
def lanWith (x : Lane) : Dev := lanDev.onLane 4 fun _ => x

/-- The same with a spare: lane 3 of the quad replaces lane 0. -/
def lanSpare : Dev :=
  let d := (lanDev.fset (Reg.LAN_SPARE 1) Reg.LAN_SPARE_VALID_f true).fput (Reg.LAN_SPARE 1) Reg.LAN_SPARE_SLANE_f 3
  (d.fset (Reg.LAN_LCFG 1 3) Reg.LAN_LCFG_EN_f true).fset (Reg.LAN_SPARE 1) Reg.LAN_SPARE_AUTO_f true

/-- A marker body of zeros with its check bits wrong, and one that names lane index 0 of 1. -/
def badBody : List Bool := List.replicate 2048 false
def okBody : List Bool :=
  let h := List.replicate 2024 false
  h ++ (List.range 24).map fun i => (h.foldl (fun c b => crcBit c (bit b)) 0xFFFFFF).testBit (23 - i)

theorem test_stuff_after_12 : stuff false 0 (List.replicate 13 true) = List.replicate 12 true ++ [false, true] := by decide
theorem test_scrambler_seed : scrSeed 1 = 0x3FFFFFFFFFFFFFE ∧ scrBit (scrSeed 0) = false := by decide
theorem test_align : ((after (execLaneAlign 4 (st (lanWith { laneReset with good := 4 })))).lane 4).aligned = true ∧
    ((after (execLaneAlign 4 (st (lanWith { laneReset with good := 3 })))).lane 4).aligned = false := by decide +kernel

/-- Lanes 4 and 5 as one port of two lanes, both aligned. -/
def lanTwo : Dev :=
  let d := (lanDev.fput (Reg.FAB_PCFG 2) Reg.FAB_PCFG_LANES_f 1).fset (Reg.LAN_LCFG 1 1) Reg.LAN_LCFG_EN_f true
  ((d.fset (Reg.LAN_LCTL 1 1) Reg.LAN_LCTL_EIDLE_f false).onLane 4 fun _ => { laneReset with aligned := true }).onLane 5 fun _ =>
    { laneReset with aligned := true }

theorem witness_LaneCodeRoundTrip : (List.replicate 2048 false).length = slotBits := by decide +kernel

theorem witness_SerialLanes_commands :
    (let w := fw Reg.LAN_LCTL_RETRAIN_f 1; getF w Reg.LAN_LCTL_RETRAIN_f = 1 ∧ getF w Reg.LAN_LCTL_RST_f = 0) ∧
    (let w := fw Reg.LAN_LCTL_RST_f 1; getF w Reg.LAN_LCTL_RST_f = 1 ∧ getF w Reg.LAN_LCTL_RETRAIN_f = 0 ∧ lanDev.stc.wbusy = false ∧
      lanDev.pwr.mode = 0) ∧
    (let d := lanWith { laneReset with train := true }; (d.lane 4).train = true ∧ (d.quad (4 / 4)).swap = none) ∧
    (let d := lanWith { laneReset with good := 4 }
     d.laneUse 4 = 3 ∧ d.laneIdle 4 = false ∧ (d.lane 4).train = false ∧ (d.lane 4).aligned = false ∧ 4 ≤ (d.lane 4).good) ∧
    (let d := lanWith { laneReset with fast := true, burst := 2 }; (d.lane 4).fast = true ∧ 2 ≤ (d.lane 4).burst) ∧
    (let d := lanWith { laneReset with aligned := true, bad := 4 }
     d.laneUse 4 = 3 ∧ (d.lane 4).aligned = true ∧ 4 ≤ (d.lane 4).bad ∧ d.fportOf 4 = some 2) ∧
    (lanTwo.fportEn 2 = true ∧ lanTwo.allAligned 2 = true ∧ (lanTwo.fport 2).desk = false ∧ (lanTwo.fport 2).mkWait = false ∧
      (∀ k ∈ lanTwo.fportLanes 2, (lanTwo.lane k).failed = false) ∧ [0, 1041].length = lanTwo.fportLanesN 2 ∧
      spreadOf [0, 1041] ≤ 1041 ∧ 1041 < spreadOf [0, 1042]) := by decide +kernel

/-- Marker slots: a good one, and one whose check bits are wrong. -/
def okMarker : List Bool := markerComma ++ encodeSlot 0 okBody
def wrongMarker : List Bool := markerComma ++ encodeSlot 0 badBody

set_option maxRecDepth 100000 in
theorem witness_SerialLanes_marker :
    (let d := lanWith { laneReset with aligned := true }
     (d.lane 4).aligned = true ∧ d.laneIdle 4 = false ∧ d.fportOf 4 = some 2 ∧ (d.fport 2).mkWait = false ∧
       d.laneBits 4 okMarker = okMarker ∧ d.laneBits 4 wrongMarker = wrongMarker ∧ d.slotBad 2 4 7 markerComma [] = true ∧
       d.slotBad 2 4 7 markerComma okMarker = false ∧ d.slotBad 2 4 7 markerComma wrongMarker = false ∧
       (d.fportLanes 2).findIdx (· == 4) = 0 ∧ decodeSlot 0 (okMarker.drop 34) = some okBody ∧
       decodeSlot 0 (wrongMarker.drop 34) = some badBody ∧ markerOk badBody = false ∧ markerOk okBody = true ∧
       bodyField okBody 24 25 = 0 ∧ bodyField okBody 26 27 + 1 = d.fportLanesN 2) := by decide +kernel

theorem witness_SerialLanes_events :
    (lanDev.laneServed 4 = true ∧ lanDev.laneIdle 4 = false) ∧
    (let d := lanWith { laneReset with adapt := true }
     d.laneUse 4 = 3 ∧ d.laneIdle 4 = false ∧ (d.lane 4).adapt = true ∧ (d.lane 4).aligned = false ∧ (d.lane 4).train = false) ∧
    ((lanWith { laneReset with exitFrom := some 7 }).lane 4).exitFrom = some 7 ∧
    (let w := fw Reg.LAN_EYE_GO_f 1
     getF w Reg.LAN_EYE_GO_f = 1 ∧ lanDev.eyeFree 1 = true ∧ (lanDev.lane (1 * 4 + getF w Reg.LAN_EYE_LANE_f)).train = false ∧
       (lanDev.lane 4).cdr = false ∧ ((lanWith { laneReset with cdr := true }).lane 4).cdr = true ∧
       (lanWith { laneReset with cdr := true }).laneIdle 4 = false) ∧
    (let d := lanDev.onQuad 1 fun x => { x with eye := some (4, 0) }
     (d.quad 1).eye.isSome = true ∧ (d.quad 1).eyeHeld = false) ∧
    (let d := (lanWith { laneReset with cdr := true }).onQuad 1 fun x => { x with eyeEnd := some 7, eyeHeld := true }
     (d.quad 1).eyeEnd = some 7 ∧ (d.quad 1).eyeHeld = true ∧ (d.quad 1).eye = none ∧ (d.lane 4).train = false ∧
       d.laneIdle 4 = false ∧ (d.lane 4).cdr = true) := by decide +kernel

theorem witness_SerialLanes_spare :
    (let w := putF (putF (lanSpare.rget (Reg.LAN_SPARE 1)) Reg.LAN_SPARE_GO_f 1) Reg.LAN_SPARE_FAILED_f 0
     let d := lanSpare.storeRw (Reg.LAN_SPARE 1) w
     getF w Reg.LAN_SPARE_GO_f = 1 ∧ d.fportOf (1 * 4 + getF w Reg.LAN_SPARE_FAILED_f) = some 2 ∧ d.spareOk 1 = true ∧ d.fportLanesN 2 ≠ 4) ∧
    (let d := lanSpare.onLane 4 fun x => { x with lostAt := some 7 }
     (d.lane 4).lostAt = some 7 ∧ (d.lane 4).aligned = false ∧ d.fbit (Reg.LAN_SPARE (4 / 4)) Reg.LAN_SPARE_AUTO_f = true ∧
       d.fportOf 4 = some 2 ∧ d.spareOk (4 / 4) = true ∧ d.fportLanesN 2 ≠ 4) := by decide +kernel
/-! ### The pool fabric and the unit servers -/

/-- The lane aligned; the port DOWN, then UP. -/
def fabDevDown : Dev := lanWith { laneReset with aligned := true, cdr := true }
def fabUp : Dev := fabDevDown.onFport 2 fun x => { x with up := true, desk := true }

/-- The slots of an IDLE cell, of an empty DATA cell with CSEQ 0 and of a cell with a bad check word, with their commas. -/
def slotOf (ws : List Word) : List Bool := comma ++ encodeSlot 0 (cellBits ws)
def idleSlot : List Bool := slotOf (cellWords (word (2 ^ 22)) [])
def dataSlot : List Bool := slotOf (cellWords 0 [])
def badSlot : List Bool := slotOf (List.replicate 84 0 ++ [1])

set_option maxRecDepth 100000 in
theorem witness_FabricPorts_slots :
    (decodeSlot 0 (idleSlot.drop 34)).map (fun d => (cellOk (bitsWords 85 d), bits ((bitsWords 85 d).getD 0 0).toNat 23 22)) =
      some (true, 1) ∧
    (decodeSlot 0 (dataSlot.drop 34)).map (fun d => (cellOk (bitsWords 85 d), bits ((bitsWords 85 d).getD 0 0).toNat 23 22)) =
      some (true, 0) ∧
    (decodeSlot 0 (badSlot.drop 34)).map (fun d => cellOk (bitsWords 85 d)) = some false ∧
    decodeSlot 0 (comma.drop 34) = none ∧ slotViolation (comma.drop 34) = false ∧
    (∀ sl ∈ [idleSlot, dataSlot, badSlot], fabUp.laneBits 4 sl = sl ∧ sl.take 34 = comma ∧ slotViolation (sl.drop 34) = false) ∧
    fabUp.commaFits 2 4 7 = true ∧ (fabUp.lane 4).next = none ∧ ([] : List Bool).take 34 ≠ comma := by decide +kernel

/-- A HELLO bead of a partner with a serial, versions and lanes; a TSYNC bead. -/
def helloBead (serial lanes vers : Nat) (sees : Nat) : Bead := mkBead (head0 2 0x30 false false false) 0 0x310 3 0 0x310 0 0
  [word serial, 0, 0, 0, word (vers * 2 ^ 16 + vers * 2 ^ 8 + lanes * 4 + sees * 2), word fabUp.serial, word (fabUp.serial / 2 ^ 24),
   word (fabUp.serial / 2 ^ 48), 0]
def linkWith (d : Dev) (b : Bead) : Dev := d.onFport 2 fun x => { x with linkIn := [(b, 0, true)], desk := true }
def tsyncBead : Bead := mkBead (head0 2 0x31 false false false) 0 0x310 3 0 0x310 0 0 [0, 0, 0, 0, 0, 0, 0, 0, 1, 0, 0, 0, 0]

theorem witness_FabricPorts :
    (fabUp.fportOf 4 = some 2 ∧ (fabUp.lane 4).aligned = true ∧ fabUp.laneIdle 4 = false ∧ (fabUp.lane 4).train = false ∧ (fabUp.lane 4).burst = 0 ∧
      (fabUp.fportLanes 2).findIdx (· == 4) = 0 ∧ (fabUp.fport 2).round = [] ∧ (fabUp.fport 2).unacked = [] ∧
      (fabUp.fport 2).up = true ∧ (fabUp.fport 2).rx = 0 ∧ (fabUp.fport 2).stream = none ∧ fabUp.allAligned 2 = true) ∧
    (let d := fabUp.onFport 2 fun x => { x with unacked := [(0, 0, [])] }
     (d.fport 2).unacked ≠ [] ∧ (d.fport 2).runs + 1 < max 1 (d.fget Reg.FAB_LCFG Reg.FAB_LCFG_REPLAYMAX_f)) ∧
    (let d := (lanWith { laneReset with lostAt := some 7 }).onFport 2 fun x => { x with up := true }
     (d.fport 2).up = true ∧ 4 ∈ d.fportLanes 2 ∧ (d.lane 4).aligned = false ∧ (d.lane 4).lostAt = some 7) ∧
    ((lanWith { laneReset with aligned := false }).fportOf 4 = some 2 ∧ (lanWith { laneReset with aligned := false }).laneIdle 4 = false) ∧
    (fabUp.fportEn 2 = true ∧ (fabUp.fport 2).failed = false) := by decide +kernel

theorem witness_FabricPorts_hello :
    (let b := helloBead fabUp.serial 0 0 0
     let d := linkWith fabDevDown b
     ((d.fport 2).linkIn.find? (fun e => e.1 == b && b.op == 0x30)).isSome = true ∧ d.fportEn 2 = true ∧ (d.fport 2).failed = false ∧
       (d.fport 2).up = false ∧ serialAt b 0 = d.serial) ∧
    (let b := helloBead 5 3 0 0
     let d := linkWith fabDevDown b
     serialAt b 0 ≠ d.serial ∧ b.pay 8 = 0 ∧ (d.quad (d.firstLane 2 / 4)).swap = none ∧
       bits (b.pay 4) 3 2 ≠ d.fget (Reg.FAB_PCFG 2) Reg.FAB_PCFG_LANES_f) ∧
    (let b := helloBead 5 0 0 0
     let d := linkWith fabDevDown b
     bits (b.pay 4) 3 2 = d.fget (Reg.FAB_PCFG 2) Reg.FAB_PCFG_LANES_f ∧ bits (b.pay 4) 23 16 &&& d.bvOffer = 0) ∧
    (let b := helloBead 5 0 3 1
     let d := linkWith fabDevDown b
     bits (b.pay 4) 23 16 &&& d.bvOffer ≠ 0 ∧ bits (b.pay 4) 15 8 &&& d.lvOffer ≠ 0 ∧ bits (b.pay 4) 1 1 = 1 ∧
       serialAt b 5 = d.serial ∧ d.allAligned 2 = true ∧ (d.fport 2).desk = true) ∧
    (let d := fabUp.fset (Reg.FAB_PCFG 2) Reg.FAB_PCFG_TSEN_f true
     (d.fport 2).up = true ∧ d.allAligned 2 = true ∧ d.fbit (Reg.FAB_PCFG 2) Reg.FAB_PCFG_TSEN_f = true ∧ (d.fport 2).round = [] ∧
       (d.fportLanes 2)[0]? = some 4 ∧ d.fbit (Reg.LAN_LCFG (4 / 4) (4 % 4)) Reg.LAN_LCFG_TXPOL_f = false) ∧
    (let d := linkWith fabUp tsyncBead
     ((d.fport 2).linkIn.find? (fun e => e.1 == tsyncBead && tsyncBead.op == 0x31)).isSome = true) := by decide +kernel

/-- The device with number 7, as founder. -/
def numbered7 : Dev :=
  ((fabUp.fset Reg.FAB_GCTL Reg.FAB_GCTL_DEVVALID_f true).fput Reg.FAB_GCTL Reg.FAB_GCTL_DEVNUM_f 7).fset Reg.FAB_GCTL
    Reg.FAB_GCTL_FOUNDER_f true

/-- A flooded bead of an operation, with the prefix of an origin. -/
def floodBead (op : Nat) (rest : List Word) : Bead :=
  mkBead (head0 2 op false false false ||| word (2 ^ 8)) 0 0x310 3 7 0x310 0 0 ([5, 0, 0, 1] ++ rest)
def flooded (d : Dev) (b : Bead) : Dev := { d with fab := { d.fab with flooded := [b] } }

/-- A NUMBER bead of the founder that gives this device number 9. -/
def numberBead : Bead := mkBead (head0 2 0x39 false false false ||| word (2 ^ 8)) 0 0x310 3 7 0x310 0 0
  [word numbered7.fser, word (numbered7.fser / 2 ^ 24), word (numbered7.fser / 2 ^ 48), 1,
   word numbered7.serial, word (numbered7.serial / 2 ^ 24), word (numbered7.serial / 2 ^ 48), word (2 ^ 23 + 9)]

/-- A route of device 8 by port 2, and a bead for device 8, one for this device, and one with no hops left. -/
def routed8 : Dev := numbered7.rset (Reg.FAB_RT 8) (word (1 + 2 * 2 ^ 8))
def beadTo (dev unit hops : Nat) : Bead := mkBead (head0 2 0x20 false false false ||| word hops) dev unit 0 7 5 0 0 []

theorem witness_FabricNetwork :
    numbered7.fbit Reg.FAB_GCTL Reg.FAB_GCTL_EN_f = true ∧ numbered7.isFounder = true ∧
    (let b := floodBead 0x38 [0, 0]; b.op = 0x38 ∧ (flooded numbered7 b).fab.flooded.contains b = true) ∧
    (let b := numberBead
     let d := flooded numbered7 b
     b.op = 0x39 ∧ d.fab.flooded.contains b = true ∧ serialAt b 0 = d.fser ∧
       ((List.range ((b.payload.length - 4) / 4)).map fun i => (serialAt b (4 + 4 * i), b.pay (7 + 4 * i))).find?
         (fun r => r.1 == d.serial) = some (d.serial, 2 ^ 23 + 9) ∧ bits (2 ^ 23 + 9) 23 23 = 1 ∧ bits (2 ^ 23 + 9) 9 0 = 9) ∧
    (routed8.usedPorts (routed8.rget (Reg.FAB_RT 8)) = [2] ∧ routed8.usedPorts 0 = [] ∧ routed8.fab.held = []) ∧
    (let d := { numbered7 with fab := { numbered7.fab with held := [(8, 7, [])] } }
     d.fab.held.find? (fun h => h.1 == 8) = some (8, 7, [])) := by decide +kernel

theorem witness_FabricNetwork_route :
    (∀ b ∈ [beadTo 7 3 0, beadTo 7 0xFFF 0, beadTo 8 3 0, beadTo 8 3 15],
      let d := routed8.send b; d.net.contains b = true ∧ d.numbered = true ∧ b.bcast = false) ∧
    (beadTo 7 3 0).ddev = routed8.devnum ∧ unitListed (beadTo 7 3 0).dunit = true ∧ unitTakes (beadTo 7 3 0).dunit (beadTo 7 3 0).op = true ∧
    unitListed (beadTo 7 0xFFF 0).dunit = false ∧ (beadTo 8 3 0).ddev ≠ routed8.devnum ∧ (beadTo 8 3 0).hops < 15 ∧
    routed8.slotFor (beadTo 8 3 0) (routed8.tier (routed8.rget (Reg.FAB_RT 8))) = some 2 ∧ (beadTo 8 3 15).hops = 15 ∧
    (beadTo 8 3 15).request = false := by decide +kernel

/-- A POOL bead of this device's island for this device. -/
def poolBead (n : Nat) : Bead := mkBead (head0 2 0x3A false false false ||| word (2 ^ 8)) 0 0x310 3 7 0x7F 0 0
  [word numbered7.serial, word (numbered7.serial / 2 ^ 24), word (numbered7.serial / 2 ^ 48), 1, word (n * 2 ^ 20 + 2 ^ 19), 0, 0, 0]

theorem witness_FabricNetwork_flood :
    (let b := floodBead 0x38 []
     let d := { numbered7 with fab := { numbered7.fab with bcastIn := [(2, b)] } }
     d.fab.bcastIn.contains (2, b) = true ∧ d.floodNew b = true ∧
       { d with fab := { d.fab with floods := [(5, 0, 1)] } }.floodNew b = false) ∧
    (∀ n ∈ [0, 1], let b := floodBead 0x3A [word (n * 2 ^ 20), 0, 0, 0]
      b.op = 0x3A ∧ (flooded numbered7 b).fab.flooded.contains b = true ∧ bits (b.pay 4) 23 20 = n ∧
        (numbered7.poolMay b = false)) ∧
    (∀ n ∈ [0, 1], let b := poolBead n
      b.op = 0x3A ∧ numbered7.poolMay b = true ∧ numbered7.poolHere b = true ∧ bits (b.pay 4) 23 20 = n) := by decide +kernel

/-- A request bead from a core of this device to a server. -/
def serverBead (unit op : Nat) (pay : List Word) : Bead :=
  mkBead (head0 2 op false false false) dev3.devnum unit 0 dev3.devnum 3 0 0 pay

theorem test_write_without_wack_is_silent : (after (execRegwr (serverBead 0x230 2 [word Reg.LNC_GCTL, 1]) (st dev3))).net = [] := by
  decide +kernel
theorem test_memrd_answers : (after (execMemrd (serverBead 0x231 8 [0x030100, 0x20, 1]) (st (mem3.lmWrite 3 0x100 0x55 7)))).net.map (·.payload) = [[0x55]] := by
  decide +kernel

theorem witness_UnitServers : (bead3.ver = 2 ∧ [0#24].length ≤ 64) ∧
    (∀ b ∈ [serverBead 0x230 1 [word Reg.LNC_GCTL, 1], serverBead 0x230 2 [word Reg.LNC_GCTL, 1], serverBead 0x231 8 [0x030100, 0x20, 1],
        serverBead 0x231 9 [0x030100, word (2 ^ 21 + 2 ^ 18 + 0x20), 1, 9]],
      b.ok = true ∧ dev3.unitAway b.dunit = false ∧ b.rsp = false) ∧
    (let b := serverBead 0x230 1 []; b.len < 2) ∧ (serverBead 0x230 2 [0]).payload.drop 1 = [] ∧
    (let b := serverBead 0x230 1 [word Reg.LNC_GCTL, 1]
     let d := dev3.take b
     2 ≤ b.len ∧ bits (b.pay 1) 5 0 ≠ 0 ∧ d.regServed b (b.pay 0) 1 false = true ∧ (d.regReadN (d.reqOf b) (b.pay 0) 1).2.1 = true) ∧
    (let b := serverBead 0x230 2 [word Reg.LNC_GCTL, 1]
     let d := dev3.take b
     d.regServed b (b.pay 0) 1 true = true ∧ (d.regWriteN (d.reqOf b) (b.pay 0) [1]).2.1 = true) ∧
    (let b := serverBead 0x231 8 [0x030100, 0x20, 1]
     let d := dev3.take b
     dev3.reqReady (dev3.reqOf b) b.memAddr = true ∧ 3 ≤ b.len ∧ b.pay 2 ≤ 64 ∧ d.memServed b b.memAddr (b.pay 2) false = true ∧
       (d.reqReadN (d.reqOf b) b.memAddr (b.pay 2)).2.1 = true) ∧
    (let b := serverBead 0x231 9 [0x030100, word (7 * 2 ^ 21 + 7 * 2 ^ 18 + 0x20), 1, 9]
     4 ≤ b.len ∧ b.pay 2 ≤ 61 ∧ b.len = 3 + b.pay 2 ∧ (dev3.take b).memServed b b.memAddr (b.pay 2) true = true) ∧
    (let b := serverBead 0x231 9 [0x030100, word (7 * 2 ^ 21 + 7 * 2 ^ 18 + 0x21), 1, 9]
     (dev3.take b).memServed b b.memAddr (b.pay 2) true = false) := by decide +kernel
/-! ### Power, modes, supplies -/

/-- The Abacist waiting with WAITM for mode 2. -/
def waitm : Dev := (((timed devBoot).setCore 112 { coreDef with st := .wait, hold := some .waitMode }).fput Reg.PWR_MODE Reg.PWR_MODE_MODE_f 2)

/-- A device whose mode entry is in progress, one with a busy domain. -/
def entering : Dev := { timed devBoot with pwr := { devBoot.pwr with entry := some 2 } }
def enteringBusy : Dev := { dev3 with pwr := { dev3.pwr with entry := some 2 } }

theorem test_mode_commit : (after (execModeCommit false (st entering))).pwr.mode = 2 ∧ (after (execModeCommit false (st entering))).pwr.held = true := by
  decide +kernel

theorem witness_ModesAndGroups :
    ((waitm.core 112).hold = some .waitMode ∧ waitm.pwr.entry = none ∧ waitm.fget Reg.PWR_MODE Reg.PWR_MODE_MODE_f = 2 ∧ 2 ≠ waitm.pwr.mode ∧
      waitm.pwr.wakeReq = false ∧ (waitm.onPwr fun p => { p with wakeReq := true }).pwr.wakeReq = true) ∧
    (entering.pwr.entry = some 2 ∧ entering.firstBusy (entering.leaving 2) = none) ∧
    (enteringBusy.pwr.entry = some 2 ∧ (enteringBusy.firstBusy (enteringBusy.leaving 2)).isSome = true ∧ enteringBusy.dom 207 = .on) ∧
    getF (fw Reg.PWR_PAD_RELEASE_GO_f 1) Reg.PWR_PAD_RELEASE_GO_f = 1 := by decide +kernel

/-- Group 1 holds domain 3, whose core runs or not. -/
def grpIdle : Dev := (devBoot.setDom 3 .on).onPwr fun p => { p with grpOf := [(3, some 1)] }
def grpRuns : Dev := dev3.onPwr fun p => { p with grpOf := [(3, some 1)] }
def grpWord (st : Nat) : Word := putF (putF (fw Reg.PWR_GRPCMD_GO_f 1) Reg.PWR_GRPCMD_GROUP_f 1) Reg.PWR_GRPCMD_STATE_f st

theorem witness_ModesAndGroups_groups :
    (∀ st ∈ [0, 1, 2], getF (grpWord st) Reg.PWR_GRPCMD_GROUP_f = 1 ∧ getF (grpWord st) Reg.PWR_GRPCMD_STATE_f = st ∧
      getF (grpWord st) Reg.PWR_GRPCMD_GO_f = 1) ∧
    grpIdle.pwr.grpBusy = none ∧ grpIdle.groupDoms 1 = [3] ∧ (grpIdle.groupDoms 1).any grpRefuses = false ∧
    (let d := devBoot.onPwr fun p => { p with grpOf := [(210, some 1)] }; (d.groupDoms 1).any grpRefuses = true) ∧
    (let d := grpIdle.onPwr fun p => { p with grpBusy := some (1, 2) }
     d.pwr.grpBusy = some (1, 2) ∧ d.firstBusy (d.groupDoms 1) = none) ∧
    (let d := grpRuns.onPwr fun p => { p with grpBusy := some (1, 2) }
     d.pwr.grpBusy = some (1, 2) ∧ (d.firstBusy (d.groupDoms 1)).isSome = true) := by decide +kernel

/-- A device in a chip mode, and with a wake at a stage. -/
def inMode (m : Nat) : Dev := (timed devBoot).onPwr fun p => { p with mode := m }
def wakeAt (x : WakeStage) : Dev := (timed devBoot).onPwr fun p => { p with
  mode := 2, retryWait := 4, wake := some { source := .retain, stage := x, t0 := 0, since := 0, tried := 0 } }

theorem test_wake_from_off : ((after (execWakeNRequest (st ((inMode 3).fset Reg.PWR_WAKECFG Reg.PWR_WAKECFG_WAKEN_f true)))).pwr.wake.map
    (·.source)) = some .off := by decide +kernel

theorem witness_WakeSequence :
    (let d := (inMode 2).fset Reg.PWR_WAKECFG Reg.PWR_WAKECFG_WAKEN_f true
     d.fget Reg.PWR_WAKECFG Reg.PWR_WAKECFG_WAKEN_f = 1 ∧ d.pwr.wake = none ∧ d.pwr.mode = 2) ∧
    ((inMode 2).fset Reg.PWR_WAKECFG Reg.PWR_WAKECFG_WAKEN_f false).fget Reg.PWR_WAKECFG Reg.PWR_WAKECFG_WAKEN_f = 0 ∧
    (∀ x ∈ [WakeStage.pgMain, .pgBack, .retry, .settle, .ready, .checked],
      (wakeAt x).pwr.wake = some { source := .retain, stage := x, t0 := 0, since := 0, tried := 0 } ∧ (wakeAt x).pwr.retryWait ≠ 0 ∧
        (wakeAt x).pwr.avs = none ∧ (wakeAt x).tim.refOk = false ∧ (wakeAt x).dom 207 = .on) ∧
    (let d := { wakeAt .ready with tim := { (wakeAt .ready).tim with refOk := true } }; d.tim.refOk = true) ∧
    (inMode 1).pwr.mode ≤ 1 ∧ (inMode 1).pwr.wake = none := by decide +kernel

/-- The main set active and both good since long, so that the backup is switchable; and with the backup active. -/
def supBoth : Dev := (timed devBoot).onPwr fun p => { p with
  main := { en := true, pg := true, low := false, avs := true, ready := true, since := 0 }
  back := { en := true, pg := true, low := false, avs := true, ready := true, since := 0 } }
def supAlone : Dev := supBoth.onPwr fun p => { p with back := { p.back with pg := false } }
def onBackup : Dev := after (execRailLow false true (st supBoth))

theorem test_rail_low_switches : onBackup.selBack = true ∧ onBackup.get48 Reg.SUP_SWCNT_LO = 1 := by decide +kernel

theorem witness_SupplySwitching :
    (supBoth.selBack = false ∧ supBoth.goodHeld true = true ∧ supAlone.selBack = false ∧ supAlone.goodHeld true = false) ∧
    (let d := onBackup.onPwr fun p => { p with main := supBoth.pwr.main }
     d.selBack = true ∧ d.goodHeld false = true) ∧ (onBackup.selBack = true ∧ onBackup.goodHeld false = false) ∧
    (let w := putF (supBoth.rget Reg.SUP_CTL) Reg.SUP_CTL_SWBACK_f 1
     getF w Reg.SUP_CTL_SWBACK_f = 1 ∧ getF w Reg.SUP_CTL_SWTEST_f = 0 ∧
       getF w Reg.SUP_CTL_MAINEN_f = supBoth.fget Reg.SUP_CTL Reg.SUP_CTL_MAINEN_f ∧
       getF w Reg.SUP_CTL_BACKEN_f = supBoth.fget Reg.SUP_CTL Reg.SUP_CTL_BACKEN_f) ∧
    (let w := putF (supBoth.rget Reg.SUP_CTL) Reg.SUP_CTL_SWTEST_f 1
     getF w Reg.SUP_CTL_SWTEST_f = 1 ∧ getF w Reg.SUP_CTL_SWBACK_f = 0 ∧
       getF w Reg.SUP_CTL_MAINEN_f = supBoth.fget Reg.SUP_CTL Reg.SUP_CTL_MAINEN_f ∧
       getF w Reg.SUP_CTL_BACKEN_f = supBoth.fget Reg.SUP_CTL Reg.SUP_CTL_BACKEN_f) ∧
    (let d := supBoth.fset Reg.SUP_CTL Reg.SUP_CTL_BACKEN_f false
     let w := putF (d.rget Reg.SUP_CTL) Reg.SUP_CTL_BACKEN_f 1
     d.fget Reg.SUP_CTL Reg.SUP_CTL_MAINEN_f = 1 ∧ d.fget Reg.SUP_CTL Reg.SUP_CTL_BACKEN_f = 0 ∧ getF w Reg.SUP_CTL_BACKEN_f = 1 ∧
       getF w Reg.SUP_CTL_MAINEN_f = 1 ∧ getF w Reg.SUP_CTL_SWBACK_f = 0 ∧ getF w Reg.SUP_CTL_SWTEST_f = 0 ∧ d.selBack = false) ∧
    (let d := supBoth.fset Reg.SUP_CTL Reg.SUP_CTL_BACKEN_f true
     let w := putF (d.rget Reg.SUP_CTL) Reg.SUP_CTL_BACKEN_f 0
     d.fget Reg.SUP_CTL Reg.SUP_CTL_BACKEN_f = 1 ∧ getF w Reg.SUP_CTL_BACKEN_f = 0 ∧ getF w Reg.SUP_CTL_MAINEN_f = 1) ∧
    (let w := putF (supBoth.rget Reg.SUP_CTL) Reg.SUP_CTL_MAINEN_f 0
     getF w Reg.SUP_CTL_MAINEN_f = 0 ∧ supBoth.fget Reg.SUP_CTL Reg.SUP_CTL_MAINEN_f = 1 ∧
       getF w Reg.SUP_CTL_BACKEN_f = supBoth.fget Reg.SUP_CTL Reg.SUP_CTL_BACKEN_f) ∧
    (supBoth.sup supBoth.selBack).en = true ∧ supBoth.pwr.mode ≤ 1 ∧ (supBoth.sup (!supBoth.selBack)).en = true ∧ supBoth.dom 207 = .on := by
  decide +kernel
/-! ### The security island, resets, registers -/

/-- The reset device with its power-up over, and its island in a stage. -/
def secAt (stage : Nat) : Dev := (timed devBoot).onSec fun x => { x with stage := stage }
/-- The island at candidate `i` of the order A, B, host, peer. -/
def bootAt (i : Nat) : Dev := (secAt 1).onSec fun x => { x with idx := i }
/-- The Abacist as requester, and a DATA bead to the island. -/
def aba : Req := .local 0x7F
def secBead (unit hops : Nat) (pay : List Word) : Bead :=
  mkBead (head0 2 0x20 false false false ||| word hops) devBoot.devnum 0x7E 0 devBoot.devnum unit 0 0 pay

theorem test_selftest_fails : (after (execSecSelftestEnd (some 2) (st (secAt 0)))).sec.stage = 4 := by decide +kernel
theorem test_boot_order : [(bootAt 0).candidate, (bootAt 1).candidate, (bootAt 2).candidate, (bootAt 3).candidate] =
    [some 0, some 1, some 2, some 3] := by decide +kernel

theorem witness_BootChain :
    ((secAt 0).sec.stage = 0 ∧ (secAt 0).lc = 0 ∧ (secAt 0).supplyOk = true ∧ (secAt 0).otpWritten 280 = false) ∧
    (let d := { bootAt 0 with rm := { devBoot.rm with initDone := true } }; d.rm.initDone = true ∧ d.candidate = some 0 ∧ flashImage [] 0 = none) ∧
    ((bootAt 2).bootNet = true ∧ (bootAt 2).candidate = some 2) ∧
    (∀ h ∈ [0, 3], let b := secBead 3 h [0]
      b.dunit = 0x7E ∧ b.ok = true ∧ b.op = 0x20 ∧ b.rsp = false ∧ (bootAt 2).unitAway 0x7E = false ∧ (bootAt 3).unitAway 0x7E = false ∧
        (bootAt 3).candidate = some 3 ∧ b.hops = h) ∧
    (let d := (secAt 1).onSec fun x => { x with atEnd := true }; d.sec.stage = 1 ∧ d.sec.atEnd = true) ∧
    (aba.trusted = true ∧ getF (fw Reg.SEC_BOOTOK_OK_f 1) Reg.SEC_BOOTOK_OK_f = 1 ∧ (secAt 2).sec.stage = 2) ∧
    (let d := (secAt 2).fput Reg.SEC_BOOTREC Reg.SEC_BOOTREC_COUNT_f 2
     d.policy 2 3 = 3 ∧ d.fget Reg.SEC_BOOTREC Reg.SEC_BOOTREC_COUNT_f + 1 = 3 ∧
       (secAt 2).fget Reg.SEC_BOOTREC Reg.SEC_BOOTREC_COUNT_f + 1 = 1) := by decide +kernel

/-- Scrapped, zeroised, and with an image measured and the loader ACTIVE. -/
def zeroed : Dev := (secAt 3).fset Reg.SEC_STAT Reg.SEC_STAT_ZERO_f true
def measure0 : Measure := { d := [], svn := 0, arb := 0, id := 0, rod := 0 }
def measured : Dev := ((secAt 3).onSec fun x => { x with fw := some measure0, img := some measure0, cdi := [[], [], []] }).fput Reg.STC_STAT
  Reg.STC_STAT_STATE_f 4

/-- A flash that holds a structure image A of 16 words at byte 0x40, and a device whose command buffer lies in core 3's local memory. -/
def flashA : List (Nat × List Nat) :=
  [(0, [0x44, 0x4C, 0x46] ++ List.replicate 15 0 ++ [0x40, 0, 0, 0, 0, 0]), (0x40, List.replicate 9 0 ++ [16] ++ List.replicate 38 0)]
def fetchDev : Dev := (dev3.rset Reg.SEC_CMDBUF_LO 0x030000).rset Reg.SEC_CMDBUF_HI 0x20

theorem test_fetch_writes_what_flash_holds :
    wordGet (after (execSecFetch aba (putF (fw Reg.SEC_CMD_GO_f 1) Reg.SEC_CMD_OP_f 2) flashA (st fetchDev))).lm (lmAddr 3 3) = 16 := by
  decide +kernel

theorem witness_SignedAndIslandCommands_fetch :
    fetchDev.verifying = false ∧ fetchDev.sec.cand ≠ 1 ∧ (flashImage flashA 2).map List.length = some 16 ∧
    (let d := fetchDev.fput Reg.SEC_CMD Reg.SEC_CMD_OP_f 2
     (({ d with fresh := d.fresh + 1 } : Dev).memWriteN d.cmdBuf ((flashImage flashA 2).getD [])).1 = true) := by decide +kernel

/-- A requester that is not trusted gets a bus error; the witnesses of the commands that the other operations of SEC_CMD need. -/
theorem witness_SignedAndIslandCommands :
    (Req.local 3).trusted = false ∧ aba.trusted = true ∧
    (∀ op ∈ [1, 2, 3], let w := putF (fw Reg.SEC_CMD_GO_f 1) Reg.SEC_CMD_OP_f op
      getF w Reg.SEC_CMD_GO_f = 1 ∧ getF w Reg.SEC_CMD_OP_f = op) ∧
    (zeroed.verifying = false ∧ zeroed.noKey = true) ∧
    (measured.verifying = false ∧ measured.noKey = false ∧ measured.fget Reg.STC_STAT Reg.STC_STAT_STATE_f = 4 ∧
      measured.sec.fw = some measure0 ∧ measured.sec.img = some measure0) := by decide +kernel

/-- A session of host endpoint 0x310, keyed or open. -/
def sess (n : Nat) (dk : Option (List Nat)) (rx : Option Nat) : Session :=
  { num := n, host := 0x310, dk := dk, ek := [], h2d := [], d2h := [], rx := rx, tx := 0 }
def withSess (x : Session) : Dev := measured.onSec fun k => { k with sessions := [x] }
def islandBead (pay : List Word) : Bead := secBead 0x310 0 pay

theorem witness_SessionsAndTamper :
    (let b := islandBead []
     b.dunit = 0x7E ∧ b.ok = true ∧ b.op = 0x20 ∧ b.rsp = false ∧ measured.unitAway 0x7E = false ∧ measured.verifying = false ∧
       zeroed.unitAway 0x7E = false ∧ zeroed.verifying = false ∧ zeroed.noKey = true ∧ measured.noKey = false ∧
       3 ≤ measured.sec.cdi.length ∧ measured.session 0 = none) ∧
    (let d := withSess (sess 0 none none)
     d.session 1 = none ∧ (∀ k, k < 1 → d.session k ≠ none) ∧ d.noKey = false ∧ 3 ≤ d.sec.cdi.length) ∧
    (let d := withSess (sess 2 none (some 5))
     d.session 2 = some (sess 2 none (some 5)) ∧ (sess 2 none (some 5)).host = (islandBead []).sunit ∧
       (sess 2 none (some 5)).host ≠ (secBead 0x311 0 []).sunit ∧ bits ((islandBead [0x800000, 5, 0]).pay 0) 23 22 = 2 ∧
       (islandBead [0x800000, 5, 0]).pay 1 + (islandBead [0x800000, 5, 0]).pay 2 * 2 ^ 24 ≤ 5) ∧
    (∀ k ∈ List.range 7, ∀ resp ∈ List.range 4,
      let d := ((secAt 3).rset Reg.SEC_TAMPCFG (word (resp * 4 ^ k))).onSec fun x => { x with fails := List.replicate 16 (secAt 3).elapsed }
      d.tamperDue k = true ∧ bits (d.rget Reg.SEC_TAMPCFG).toNat (2 * k + 1) (2 * k) = resp ∧ d.dom 207 = .on ∧ d.supplyOk = true) ∧
    (secAt 3).tamperDue 6 = false ∧
    (∀ r, r < 4 → SMap.get (secAt 3).sec.otp none r = none ∧ (secAt 3).otpBad r = false) := by decide +kernel

theorem test_tamper_zeroises :
    let d := after (execTamperDetect 0 (st ((withSess (sess 0 none none)).rset Reg.SEC_TAMPCFG 1)))
    d.sec.sessions = [] ∧ d.noKey = true ∧ d.sec.otp = [] := by decide +kernel

/-- The chip in hold with RESET_N low; RST_CMD words of each class. -/
def inHold : Dev := (timed devBoot).onPwr fun p => { p with wake := some { source := .power 1, stage := .hold, t0 := 0, since := 0, tried := 0 } }
def rstWord (cls unit : Nat) : Word := putF (putF (fw Reg.RST_CMD_GO_f 1) Reg.RST_CMD_CLASS_f cls) Reg.RST_CMD_UNIT_f unit
def busy : Dev := { secAt 3 with stc := { devBoot.stc with wbusy := true } }

theorem test_cold_reset_code : (after (execRstCmdCold aba (rstWord 1 0) (st (secAt 3)))).fget Reg.RST_CAUSE Reg.RST_CAUSE_CODE_f = 3 := by
  decide +kernel

theorem witness_ResetCommands :
    (inHold.pwr.wake = some { source := .power 1, stage := .hold, t0 := 0, since := 0, tried := 0 }) ∧
    ((Req.local 3).trusted = false ∧ aba.trusted = true) ∧
    (∀ c ∈ [0, 1, 2], getF (rstWord c 3) Reg.RST_CMD_GO_f = 1 ∧ getF (rstWord c 3) Reg.RST_CMD_CLASS_f = c ∧
      getF (rstWord c 3) Reg.RST_CMD_UNIT_f = 3) ∧
    (dev3.pwr.mode = 0 ∧ dev3.stc.wbusy = false ∧ dev3.dom 3 = .on ∧ dev3.fenced 3 = false ∧ (secAt 3).pwr.wake = none) ∧
    ((inMode 2).pwr.mode ≠ 0 ∧ busy.stc.wbusy = true ∧ busy.stc.op ≠ .warm) ∧
    (∀ k, k < 15 → busy.fget (Reg.STC_RET k) Reg.STC_RET_VALID_f = 0) ∧
    ((busy.fset (Reg.STC_RET 0) Reg.STC_RET_VALID_f true).fget (Reg.STC_RET 0) Reg.STC_RET_VALID_f = 1) ∧
    (let d := (secAt 3).fset Reg.RST_AWDT Reg.RST_AWDT_EN_f true
     d.fget Reg.RST_AWDT Reg.RST_AWDT_EN_f = 1 ∧ d.pwr.mode = 0) ∧
    (∀ e ∈ [0, 1], let w := putF (putF (fw Reg.RST_AWDT_KICK_f 1) Reg.RST_AWDT_EN_f 1) Reg.RST_AWDT_EXP_f e
      getF w Reg.RST_AWDT_KICK_f = 1 ∧ getF w Reg.RST_AWDT_EN_f = 1 ∧ getF w Reg.RST_AWDT_EXP_f = e) := by decide +kernel

/-- A register of a window whose registers have no effect of their own, and the ill-formed and shadow offsets. -/
theorem witness_RegisterWrites :
    (∀ o ∈ [0x20000, 0x80100, 0xD0000, 0xF0000, 0x100000, 0x130000, 0x140000, 0x150000],
      shadowed o = false ∧ implemented o = true ∧ (secAt 3).mayWrite aba o = true ∧ o / 0x10000 ∈ [2, 8, 13, 15, 16, 19, 20, 21] ∧
        ((regSpec o).map fun x => x.fields.all fun f => f.acc != .cnt) = some true) ∧
    (∀ o ∈ [Reg.CMX_STAT 0, Reg.CMX_LERR 0],
      shadowed o = false ∧ implemented o = true ∧ (secAt 3).mayWrite aba o = true ∧
        ((regSpec o).map fun x => (x.fields.all fun f => f.acc != .cnt) && x.fields.any fun f => f.acc == .w1c) = some true) ∧
    Reg.CMX_STAT 0 / 0x10000 = 3 ∧ Reg.CMX_STAT 0 % 16 ∈ [1, 2] ∧
    (implemented 0xFFFFF0 = false ∧ shadowed 0xFFFFF0 = false) ∧ shadowed 0x08020000 = true := by decide +kernel

theorem witness_InvariantsOfSteps :
    (let s : State := ⟨[.hostwaitExpire], (bootAt 2).otpWrite 5 9⟩
     SMap.get s.dev.sec.otp none 5 = some 9 ∧ s.dev.time < timeMod ∧ ∃ t, step s = .next t) := by
  refine ⟨by decide +kernel, by decide +kernel, _, rfl⟩

end Sys2Proof.Tests
end

/-! ### Branches and jumps of the Reckoner (R219, R220, R222)

A row that a core takes and that is legal acts on the fetched device; what is left to each row is its words' legality and the terms in
which its condition or target is written. -/

namespace Sys2Proof.Machine

/-- Bits [15:0] of a word are its value modulo 2^16: the address that a jump through a register takes (R219). -/
theorem bits_toNat_15_0 (x : Word) : bits x.toNat 15 0 = x.toNat % 2 ^ 16 := by
  simp [bits]

/-- A row whose words are its own (`ok`) and legal (`ill = false`), on a core that takes it: the core changes by `f`, which may be
written as `g`, on the device after the fetch, and nothing else happens. -/
theorem State.act_rckRow_issue {s : State} {d : Dev} {n len : Nat} {ok ill : Bool} {f g : Core → Core} (h : s.dev.takes n len d)
    (hl : len = 1 ∨ len = 2) (hok : ok = true) (hi : ill = false) (w e : Word) (hf : ∀ k, f k = g k) :
    s.act (fun t => t.rckRow n w e ok fun t => t.issue n len w ill fun t => t.onCore n f) =
      .next { s with dev := d.onCore n g } := by
  obtain rfl : f = g := funext hf
  rw [State.act_eq, hok, Dev.rckRow_takes h, Dev.issue_legal h hl w ill hi]

/-- A word is 0 as a signed number exactly when its bits are 0: the conditions of codes 0 and 1 of BR (R219). -/
theorem toInt_beq_zero (x : Word) : (x.toInt == 0) = (x == 0) := by
  have h : x.toInt = 0 ↔ x = 0 := BitVec.toInt_inj (y := 0)
  rw [Bool.eq_iff_iff, beq_iff_eq, beq_iff_eq, h]

/-- The condition codes of BR, over the register or the predicate that field [17:13] names (R219). -/
theorem brTaken_eq (k : Core) (w : Word) :
    brTaken k w = match ib w 12 10 with
      | 0 => k.gr (iD w) == 0
      | 1 => k.gr (iD w) != 0
      | 2 => decide ((k.gr (iD w)).toInt < 0)
      | 3 => decide ((k.gr (iD w)).toInt ≥ 0)
      | 4 => decide ((k.gr (iD w)).toInt > 0)
      | 5 => decide ((k.gr (iD w)).toInt ≤ 0)
      | 6 => k.kr (iD w) != 0
      | _ => k.kr (iD w) == 0 := by
  unfold brTaken
  generalize ib w 12 10 = code
  match code with
  | 0 => exact toInt_beq_zero _
  | 1 => exact congrArg not (toInt_beq_zero _)
  | 2 | 3 | 4 | 5 | 6 | _ + 7 => rfl

/-- BR is legal unless its code tests a predicate whose number is above 7 (R217, R219). -/
theorem br_legal {w : Word} (h : 6 ≤ ib w 12 10 → iD w < 8) :
    (decide (ib w 12 10 ≥ 6) && decide (iD w ≥ 8)) = false := by
  simpa using h

/-- BCC is legal with a comparison code below 6 and bits [23:16] of EXT 0 (R218, R220). -/
theorem bcc_legal {w e : Word} (hc : ib w 7 5 < 6) (he : ib e 23 16 = 0) :
    (decide (ib w 7 5 ≥ 6) || ib e 23 16 != 0) = false := by
  simp [hc, he]

/-- Settles O6, row by row with `State.act_rckRow_issue`: J, BCC and JMP are stated in the model's own terms, BR needs its condition
codes and JR and JALR their target rewritten. -/
theorem branchComplete : Obligations.BranchComplete := by
  unfold Obligations.BranchComplete
  intro c w e s d
  refine ⟨fun h => ⟨fun hw hk => ?br, fun hw => ?j, fun hw => ?jr, fun hw => ?jalr⟩,
    fun h => ⟨fun hw hc he => ?bcc, fun hw => ?jmp⟩⟩
  case br =>
    exact State.act_rckRow_issue h (.inl rfl) hw (br_legal hk) w 0 fun k =>
      congrArg (fun taken : Bool => if taken then k.goto (k.pc + sx 10 (ib w 9 0)) else k.done 1) (brTaken_eq k w)
  case j => exact State.act_rckRow_issue h (.inl rfl) hw rfl w 0 fun _ => rfl
  case jr =>
    exact State.act_rckRow_issue h (.inl rfl) hw rfl w 0 fun k => congrArg (fun target : Nat => k.goto target) (bits_toNat_15_0 _)
  case jalr =>
    exact State.act_rckRow_issue h (.inl rfl) hw rfl w 0 fun k =>
      congrArg (fun target : Nat => (k.gw (iD w) (word ((k.pc + 1) % 2 ^ 16))).goto target) (bits_toNat_15_0 _)
  case bcc => exact State.act_rckRow_issue h (.inr rfl) hw (bcc_legal hc he) w e fun _ => rfl
  case jmp => exact State.act_rckRow_issue h (.inr rfl) hw rfl w e fun _ => rfl

end Sys2Proof.Machine

/-! ### The guarded time registers (R375)

A write of a guarded time register, as a command of the time base or as a general register write, is one guarded operation: the three
requesters of R375 pass, any other gets a bus error. What the register write adds is the register's place in the map. -/

namespace Sys2Proof.Machine

/-- The offsets of the registers that R375 lists. -/
def guardedTimeRegs : List Nat :=
  [Reg.TIM_CTL, Reg.TIM_REFCFG, Reg.TIM_INC_LO, Reg.TIM_INC_HI, Reg.TIM_SET_SL, Reg.TIM_SET_SH, Reg.TIM_SET_NSL, Reg.TIM_SET_NSH,
    Reg.TIM_CMD, Reg.TIM_OFS_LO, Reg.TIM_OFS_HI, Reg.TIM_SLEW]

theorem timGuarded_iff_mem {a : Nat} : timGuarded a = true ↔ a ∈ guardedTimeRegs := by
  simp [timGuarded, guardedTimeRegs, or_assoc]

/-! #### Who may write -/

theorem getF_lt_two {f : Fld} (hf : f.hi = f.lo) (w : Word) : getF w f < 2 := by
  have hw : f.hi + 1 - f.lo = 1 := by omega
  rw [getF, bits, hw]
  exact Nat.mod_lt _ (by decide)

/-- A field of one bit is set exactly when it reads 1. -/
theorem Dev.fbit_iff_fget_eq_one {f : Fld} (hf : f.hi = f.lo) (s : Dev) (a : Nat) : s.fbit a f = true ↔ s.fget a f = 1 := by
  have hlt : s.fget a f < 2 := getF_lt_two hf (s.rget a)
  rw [Dev.fbit, bne_iff_ne]
  omega

theorem Req.trusted_iff {r : Req} : r.trusted = true ↔ r = .local 0x7F ∨ r = .local 0x7E := by
  simp [Req.trusted]

/-- The three requesters of R375. -/
theorem Dev.timMay_iff {s : Dev} {r : Req} : s.timMay r = true ↔ r = .local 0x7F ∨ r = .local 0x7E ∨
    s.fget Reg.TIM_WRUNIT Reg.TIM_WRUNIT_VALID_f = 1 ∧ r = .local (s.fget Reg.TIM_WRUNIT Reg.TIM_WRUNIT_UNIT_f) := by
  rw [Dev.timMay, Bool.or_eq_true, Bool.and_eq_true, Req.trusted_iff, Dev.fbit_iff_fget_eq_one rfl, beq_iff_eq, or_assoc]

/-! #### Where a guarded register lies -/

theorem timGuarded_window {a : Nat} (h : timGuarded a = true) : a / 0x10000 = 10 :=
  (by decide : ∀ a ∈ guardedTimeRegs, a / 0x10000 = 10) a (timGuarded_iff_mem.mp h)

theorem timGuarded_regSpec {a : Nat} (h : timGuarded a = true) : (regSpec a).isNone = false :=
  (by decide : ∀ a ∈ guardedTimeRegs, (regSpec a).isNone = false) a (timGuarded_iff_mem.mp h)

theorem implemented_of_tim_window {a : Nat} (h : a / 0x10000 = 10) : implemented a = true := by
  rw [implemented, h]
  decide

theorem shadowed_of_tim_window {a : Nat} (h : a / 0x10000 = 10) : shadowed a = false := by
  have hlt : ¬ shadowBase ≤ a := by
    rw [shadowBase]
    omega
  simp [shadowed, hlt]

/-- No channel's owner has a say over the TIM window (R300). -/
theorem Dev.mayAccess_of_tim_window {a : Nat} (h : a / 0x10000 = 10) (s : Dev) (r : Req) : s.mayAccess r a = true := by
  simp [Dev.mayAccess, dmaChannelAt, h]

/-! #### What a write does -/

/-- For a guarded register R375 alone decides: the rules of the other windows do not reach it. -/
theorem Dev.mayWrite_of_timGuarded {a : Nat} (h : timGuarded a = true) (s : Dev) (r : Req) : s.mayWrite r a = s.timMay r := by
  have hw : a / 0x10000 = 10 := timGuarded_window h
  have hrst : a ≠ Reg.RST_CMD := by
    rintro rfl
    exact absurd hw (by decide)
  have hfence : a ≠ Reg.STC_FENCE := by
    rintro rfl
    exact absurd hw (by decide)
  simp [Dev.mayWrite, s.mayAccess_of_tim_window hw, h, hw, hrst, hfence]

theorem Dev.guarded_of_timMay {s : Dev} {r : Req} {a : Nat} (h : timGuarded a = true) (hmay : s.timMay r = true) (k : Dev → Dev) :
    s.guarded r a k = k s := by
  rw [Dev.guarded, Dev.mayWrite_of_timGuarded h, if_pos hmay]

theorem Dev.guarded_of_not_timMay {s : Dev} {r : Req} {a : Nat} (h : timGuarded a = true) (hmay : ¬ s.timMay r = true)
    (k : Dev → Dev) : s.guarded r a k = s.emit (.busError r (0x30000000 + a)) := by
  rw [Dev.guarded, Dev.mayWrite_of_timGuarded h, if_neg hmay]

theorem Dev.regPut_of_tim_window {a : Nat} (h : a / 0x10000 = 10) (s : Dev) (r : Req) (w : Word) :
    s.regPut r a w = s.regTimWrite a w := by
  simp only [Dev.regPut, h]

/-- A whole-word write of a guarded register is the guarded operation of its row. -/
theorem Dev.regWriteRow_of_timGuarded {a : Nat} (h : timGuarded a = true) (s : Dev) (r : Req) (w : Word) :
    s.regWriteRow r a w allLanes = s.guarded r a fun d => d.regTimWrite a w := by
  have hw : a / 0x10000 = 10 := timGuarded_window h
  have hspec := timGuarded_regSpec h
  by_cases hmay : s.mayWrite r a = true <;>
    simp [Dev.regWriteRow, Dev.regWrite, Dev.guarded, implemented_of_tim_window hw, shadowed_of_tim_window hw, hspec,
      Dev.regPut_of_tim_window hw, hmay]

/-! #### What the commands do -/

/-- A refused guarded operation, as the outcome of a command. -/
theorem State.act_guarded_of_not_timMay {s : State} {r : Req} {a : Nat} (h : timGuarded a = true) (hmay : ¬ s.dev.timMay r = true)
    (k : Dev → Dev) :
    s.act (fun d => d.guarded r a k) = .next { s with dev := s.dev.emit (.busError r (0x30000000 + a)) } := by
  rw [State.act_eq, Dev.guarded_of_not_timMay h hmay]

theorem exec_timCmdSet (r : Req) (s : State) :
    exec (.timCmdSet r) s = s.act fun d => d.guarded r Reg.TIM_CMD fun d => d.cmdSet := rfl

theorem exec_timCmdSetpps (r : Req) (s : State) :
    exec (.timCmdSetpps r) s = s.act fun d => d.guarded r Reg.TIM_CMD fun d => d.cmdSetpps := rfl

theorem exec_timCmdStep (r : Req) (s : State) :
    exec (.timCmdStep r) s = s.act fun d => d.guarded r Reg.TIM_CMD fun d => d.cmdStep := rfl

theorem exec_timCmdSlew (r : Req) (s : State) :
    exec (.timCmdSlew r) s = s.act fun d => d.guarded r Reg.TIM_CMD fun d => d.cmdSlew := rfl

theorem exec_timCmdCancel (r : Req) (s : State) :
    exec (.timCmdCancel r) s = s.act fun d => d.guarded r Reg.TIM_CMD fun d => d.cmdCancel := rfl

theorem exec_timIncCommit (r : Req) (w : Word) (s : State) :
    exec (.timIncCommit r w) s = s.act fun d => d.guarded r Reg.TIM_INC_HI fun d => d.incCommit w := rfl

theorem exec_timMultChange (r : Req) (w : Word) (s : State) :
    exec (.timMultChange r w) s = s.act fun d => d.guarded r Reg.TIM_REFCFG fun d => d.refcfgWrite w := rfl

theorem exec_timValidWrite (r : Req) (w : Word) (s : State) :
    exec (.timValidWrite r w) s = s.act fun d => d.guarded r Reg.TIM_CTL fun d => d.timCtlWrite w := rfl

theorem exec_regWrite (r : Req) (o : Nat) (w : Word) (lanes : Fin 8) (s : State) :
    exec (.regWrite r o w lanes) s = s.act fun d => d.regWriteRow r o w lanes := rfl

theorem exec_regWrite_of_timGuarded {a : Nat} (h : timGuarded a = true) (r : Req) (w : Word) (s : State) :
    exec (.regWrite r a w 7) s = s.act fun d => d.guarded r a fun d => d.regTimWrite a w := by
  rw [exec_regWrite, State.act_eq, State.act_eq]
  congr 2
  exact s.dev.regWriteRow_of_timGuarded h r w

/-- Settles O40: every command of the time base is a guarded operation as it stands, and a register write is one by
`exec_regWrite_of_timGuarded`; `Dev.timMay_iff` says whom the guard lets pass. -/
theorem timePrivilege : Obligations.TimePrivilege := by
  unfold Obligations.TimePrivilege
  intro r w s named may
  have hmay : may ↔ s.dev.timMay r = true := Dev.timMay_iff.symm
  rw [hmay]
  have refused {a : Nat} (ha : timGuarded a = true) (hno : ¬ s.dev.timMay r = true) (k : Dev → Dev) :=
    State.act_guarded_of_not_timMay ha hno k
  refine ⟨fun hno => ⟨?commands, ?incCommit, ?multChange, ?validWrite⟩, fun a ha => ?registers⟩
  case commands =>
    have hguarded : timGuarded Reg.TIM_CMD = true := rfl
    have hcmd := refused hguarded hno
    simp only [List.forall_mem_cons, List.not_mem_nil, false_implies, implies_true, and_true]
    rw [exec_timCmdSet, exec_timCmdSetpps, exec_timCmdStep, exec_timCmdSlew, exec_timCmdCancel]
    exact ⟨hcmd _, hcmd _, hcmd _, hcmd _, hcmd _⟩
  case incCommit => exact (exec_timIncCommit r w s).trans (refused rfl hno _)
  case multChange => exact (exec_timMultChange r w s).trans (refused rfl hno _)
  case validWrite => exact (exec_timValidWrite r w s).trans (refused rfl hno _)
  case registers =>
    have hguarded : timGuarded a = true := timGuarded_iff_mem.mpr ha
    rw [exec_regWrite_of_timGuarded hguarded]
    exact ⟨fun hno => refused hguarded hno _, fun hyes => by rw [State.act_eq, Dev.guarded_of_timMay hguarded hyes]⟩

end Sys2Proof.Machine
